-- ==== Sys2Proof/Word.lean ====
section
/-! DEFINITION. The word types of the SH3264 model (00 R5, R6): bytes, the 512-bit command packet, the 192-bit microword. -/
namespace Sys2Proof

/-- One byte (00 R6). -/
abbrev Byte := BitVec 8
/-- A 64-byte command packet (12 Table 12.1), bit 0 = bit 0 of the lowest-addressed byte. -/
abbrev Packet := BitVec 512
/-- A stream-engine microword (15 Table 15.1). -/
abbrev Microword := BitVec 192
/-- The 5,140-bit message of one mast-link frame, still scrambled (03 R81, R82). -/
abbrev FrameBits := BitVec 5140
/-- The 2,720 PAM4 levels of one codeword on a lane, two bits each, the level sent first lowest (03 R79). -/
abbrev LineBits := BitVec 5440

end Sys2Proof
end

