-- ==== Sys2Proof/Syntax.lean ====
section
/-! DEFINITION. The commands of the block: one constructor of `Instr` per row of spec/opcode_table.json, with the
operands the spec gives the event. `t` is the rig time (ns, 00 R18) of the event; `T` a tick of the 640 MHz mast clock. -/
namespace Sys2Proof

/-- The two PCIe endpoints (13 R349). -/
inductive Endpoint where
  | ha | hb
  deriving DecidableEq, Repr

/-- A PCIe function: `fn` 0 is the physical function, `fn` v + 1 is virtual function v (13 Table 13.5). -/
structure Fn where
  ep : Endpoint
  fn : Nat
  deriving DecidableEq, Repr

/-- The four access paths to the object dictionary (00 R15, 17.1). -/
inductive Path where
  | fieldNet
  | function (f : Fn)
  | peer (a : Nat)
  deriving DecidableEq, Repr

/-- One codeword as an inbound mast-link lane received it (03 R79): its PAM4 levels. -/
structure RxFrame where
  line : LineBits
  deriving DecidableEq, Repr

/-- An idle frame's codeword, and what its receiver found of a TXEQ setting while equalising: register value and eye margin
(03 Table 3.12, step 5). -/
structure IdleFrame where
  codeword : RxFrame
  eye : Option (Nat × Nat) := none
  deriving DecidableEq, Repr

/-- A pulse of SYNC_IN: the rig times at which it rises and falls (06 R165, R166). -/
structure Pulse where
  rise : Nat
  fall : Nat
  deriving DecidableEq, Repr

/-- A Gorcy packet as parsed from a link: 64-byte header, payload padded to a multiple of 8, and the trailer's CRC-32C
(14 R378). -/
structure GPacket where
  header : BitVec 512
  payload : List Byte
  crc : BitVec 32
  deriving DecidableEq, Repr

/-- How a completion for one of the rig's reads of host memory ends (13 R364). -/
inductive CplStatus where
  | success | ur | ca | poisoned
  deriving DecidableEq, Repr

/-- PCIe configuration requests with an effect of their own (13 R350, R352, R359, R364, R368). -/
inductive ConfigReq where
  /-- a read of the doubleword at an offset -/
  | read (off : Nat)
  | writeNumVFs (v : Nat)
  | setVFEnable
  | writeDeviceControl2 (v : Nat)
  /-- Device Control (13 R349, R365) -/
  | writeDeviceControl (v : BitVec 16)
  /-- an AER register by its offset from 0x104: status, mask and severity of uncorrectable errors, status and mask of correctable ones -/
  | writeAer (which : Nat) (v : BitVec 32)
  | writeCommand (memorySpace busMaster : Bool)
  | toD0
  /-- a BAR half; `bar` 16 and 18 are VF BAR0 and VF BAR2 of the SR-IOV capability (13 Table 13.2) -/
  | writeBar (bar : Nat) (upper : Bool) (v : BitVec 32)
  | readBar (bar : Nat) (upper : Bool)
  | writeLinkControl (aspmL1 : Bool)
  | writeTagEnables (tag10 tag14 : Bool)
  /-- the enables of L0p, of the L1 PM substates and of LTR (13 R360, R361) -/
  | writeLinkPower (l0p l11 l12 ltr : Bool)
  deriving DecidableEq, Repr

/-- What a shroud sends a yard (04 R114): a target of a block. -/
inductive YardCmd where
  /-- the target r of a block (05 R142, 04 R116) -/
  | target (block : Nat) (v : Int)
  /-- the feed-forward input of a block (04 R116) -/
  | feedForward (block : Nat) (v : Int)
  /-- the d-axis current target (06 R159) is block 11's target -/
  | writeGate (on : Bool)
  /-- a new sled target X in microsteps (07 R178) -/
  | sledTarget (x : Int)
  deriving DecidableEq, Repr

/-- An access to a line at the locator cache (16 R446, R449). -/
inductive CacheKind where
  | demandRead | streamRead | write
  deriving DecidableEq, Repr

/-- AL states of the EtherCAT SubDevice (17 R465). -/
inductive AlState where
  | init | preOp | bootstrap | safeOp | op
  deriving DecidableEq, Repr

/-- The SubDevice registers the MainDevice wrote, as an AL request finds them (17 R465): start, length and enable of SM0-SM3, and the
SYNC0 cycle when DC is selected. -/
structure AlConfig where
  sm : List (Nat × Nat × Nat)
  dc : Option Nat
  deriving DecidableEq, Repr

/-- Which calibration family a candidate belongs to (05 Table 5.7, 08 Table 8.3). -/
inductive CalKind where
  | loop | channel
  deriving DecidableEq, Repr

/-- A self-check failure's kind (18 R481). -/
inductive SelfCheckKind where
  | lockstep | checkBit | selfTest | deadline
  deriving DecidableEq, Repr

/-- A shroud (18.2). -/
inductive Shroud where
  | a | b
  deriving DecidableEq, Repr

/-- The kind of SDO information request (17 Table 17.5). -/
inductive SdoInfo where
  | objectList
  | objectDescription (index : Nat)
  | entryDescription (index sub : Nat)
  /-- a request whose opcode SDO information does not have -/
  | unknown
  deriving DecidableEq, Repr

/-- Files FoE names (17 Table 17.9). -/
inductive FoeFile where
  | slot (s : Fin 2)
  | engine
  | bank
  | other
  deriving DecidableEq, Repr

/-- A granule of LPDDR6: 256 data bits, byte k at bits 8 k + 7 to 8 k, and 32 check bits (16 R426, R428). As the operand of a read it
holds the bits that the read gives wrongly. -/
structure Granule where
  data : BitVec 256
  check : BitVec 32
  deriving DecidableEq, Repr

/-- Check-bit errors that a microword meets: none; in its control-store word, corrected from the shadow copy or not (15 R420); in the
engine's registers or scratch (15 R415); what the reads of the shared window's granule give wrongly to an LDW (16 R434). -/
inductive WordCheck where
  | clean | corrected | shadowBad | registers
  | window (flips : List Granule)
  deriving DecidableEq, Repr

/-- The commands of the block, one constructor per row of spec/opcode_table.json, in the table's order. -/
inductive Instr where
  /-- READ (12 R327) -/
  | read (t q : Nat) (p : Packet)
  /-- WRITE (12 R330) -/
  | write (t q : Nat) (p : Packet)
  /-- FLUSH (12 R337) -/
  | flush (t q : Nat) (p : Packet)
  /-- ABORT (12 R335) -/
  | abort (t q : Nat) (p : Packet)
  /-- JOB (15 R410) -/
  | job (t q : Nat) (p : Packet)
  /-- DICT_READ (17 R461) -/
  | dictRead (t q : Nat) (p : Packet)
  /-- DICT_WRITE (17 R458) -/
  | dictWrite (t q : Nat) (p : Packet)
  /-- MOUNT (09 R255) -/
  | mount (t q : Nat) (p : Packet)
  /-- UNMOUNT (12 R340) -/
  | unmount (t q : Nat) (p : Packet)
  /-- FURL (06 R173) -/
  | furl (t q : Nat) (p : Packet)
  /-- CREATE_SQ (12 R320) -/
  | createSq (t q : Nat) (p : Packet)
  /-- DELETE_SQ (12 R336) -/
  | deleteSq (t q : Nat) (p : Packet)
  /-- CREATE_EQ (12 R320) -/
  | createEq (t q : Nat) (p : Packet)
  /-- DELETE_EQ (12 R326) -/
  | deleteEq (t q : Nat) (p : Packet)
  /-- UNKNOWN_OPCODE (12 R326) -/
  | unknownOpcode (t q : Nat) (p : Packet)
  /-- READ_HELD_RELEASE (01 R34) -/
  | readHeldRelease (t cid : Nat)
  /-- SQ_TAIL_DOORBELL (12 R320) -/
  | sqTailDoorbell (t : Nat) (f : Fn) (q v width : Nat)
  /-- EQ_HEAD_DOORBELL (12 R344) -/
  | eqHeadDoorbell (t : Nat) (f : Fn) (q v width : Nat)
  /-- EQ_MODERATION_EXPIRY (12 R346) -/
  | eqModerationExpiry (t e : Nat)
  /-- MSIX_VECTOR_UNMASK (12 R346) -/
  | msixVectorUnmask (t : Nat) (f : Fn) (vec : Nat)
  /-- STAGING_GRANT (12 R330) -/
  | stagingGrant (t cid : Nat)
  /-- GRANT_TIMEOUT (12 R332) -/
  | grantTimeout (t cid : Nat)
  /-- APERTURE_WRITE (13 R365) -/
  | apertureWrite (t : Nat) (f : Fn) (off : Nat) (data : List Byte) (rid : Nat) (poisoned : Bool)
  /-- APERTURE_READ (13 R365) -/
  | apertureRead (t : Nat) (f : Fn) (off len rid : Nat) (flips : List Granule)
  /-- WINDOW_COMMIT (13 R365) -/
  | windowCommit (t : Nat) (f : Fn) (v : Nat)
  /-- ADMIN_PAIR_ENABLE (13 R536) -/
  | adminPairEnable (t : Nat) (f : Fn)
  /-- ADMIN_PAIR_DISABLE (13 R536) -/
  | adminPairDisable (t : Nat) (f : Fn)
  /-- REGISTER_WRITE (13 R353) -/
  | registerWrite (t : Nat) (f : Fn) (off width v : Nat)
  /-- MAILBOX_READ_SEGMENT (13 R355) -/
  | mailboxReadSegment (t : Nat) (f : Fn)
  /-- MAILBOX_STAGE_SEGMENT (13 R355) -/
  | mailboxStageSegment (t : Nat) (f : Fn)
  /-- MAILBOX_APPLY (13 R355) -/
  | mailboxApply (t : Nat) (f : Fn)
  /-- PERST_ASSERT (13 R367) -/
  | perstAssert (t : Nat) (ep : Endpoint)
  /-- PERST_RELEASE (19 R514) -/
  | perstRelease (t : Nat) (ep : Endpoint)
  /-- FLR (13 R367) -/
  | flr (t : Nat) (f : Fn)
  /-- VF_ENABLE_CLEAR (13 R367) -/
  | vfEnableClear (t : Nat) (ep : Endpoint)
  /-- D3HOT_ENTRY (13 R359) -/
  | d3hotEntry (t : Nat) (f : Fn)
  /-- LINK_DOWN_HOLD (13 R368) -/
  | linkDownHold (t : Nat) (ep : Endpoint) (unacked : Nat)
  /-- HOLD_RESUME (13 R368) -/
  | holdResume (t : Nat) (ep : Endpoint)
  /-- HOLD_TIMEOUT (13 R368) -/
  | holdTimeout (t : Nat) (ep : Endpoint)
  /-- DMA_READ_COMPLETION (13 R364) -/
  | dmaReadCompletion (t : Nat) (ep : Endpoint) (tag : Nat) (status : CplStatus) (data : List Byte)
  /-- COMPLETION_TIMEOUT (13 R364) -/
  | completionTimeout (t : Nat) (ep : Endpoint) (tag : Nat)
  /-- L1_ENTRY (13 R360) -/
  | l1Entry (t : Nat) (ep : Endpoint)
  /-- L0P_WIDTH_CHANGE (13 R361) -/
  | l0pWidthChange (t : Nat) (ep : Endpoint) (util backlog : Nat)
  /-- ENDPOINT_RETIRE_CLEAR (13 R369) -/
  | endpointRetireClear (t : Nat) (path : Path) (mask : Nat)
  /-- SAMPLE_FRAME (03 R86) -/
  | sampleFrame (t m lane : Nat) (frame : RxFrame)
  /-- SAMPLE_TELEMETRY_FRAME (03 R87) -/
  | sampleTelemetryFrame (t m lane : Nat) (frame : RxFrame)
  /-- IDENTITY_FRAME (03 R102) -/
  | identityFrame (t m lane : Nat) (frame : RxFrame) (tick : Nat)
  /-- INBOUND_IDLE_FRAME (03 R100); `eye`: the receiver has judged a TXEQ setting's eye margin: (setting, margin) -/
  | inboundIdleFrame (t m lane : Nat) (frame : IdleFrame)
  /-- COMMAND_FRAME_SEND (03 R90) -/
  | commandFrameSend (t m tick : Nat)
  /-- OUTBOUND_IDLE_FRAME_SEND (03 R91) -/
  | outboundIdleFrameSend (t m tick : Nat)
  /-- TELEMETRY_TAKE (03 R99) -/
  | telemetryTake (t m tick : Nat)
  /-- MAST_LINK_SIGNAL_DETECT (03 R100) -/
  | mastLinkSignalDetect (t m : Nat)
  /-- TRAINING_EQUALISATION_END (03 R100) -/
  | trainingEqualisationEnd (t m : Nat)
  /-- TRAINING_TIMEOUT (03 R103) -/
  | trainingTimeout (t m : Nat)
  /-- TRAINING_RETRY (03 R103) -/
  | trainingRetry (t m : Nat)
  /-- LANE_DOWN (03 R105) -/
  | laneDown (t m lane : Nat)
  /-- LANE_REACQUIRED (03 R105) -/
  | laneReacquired (t m lane : Nat)
  /-- LANE_REACQUIRE_TIMEOUT (03 R105) -/
  | laneReacquireTimeout (t m lane : Nat)
  /-- LMAP_CLEAR (03 R105) -/
  | lmapClear (t m : Nat)
  /-- MAST_LINK_LOST_TIMEOUT (03 R107) -/
  | mastLinkLostTimeout (t m : Nat)
  /-- MAST_ABSENT_TIMEOUT (03 R107) -/
  | mastAbsentTimeout (t m : Nat)
  /-- LANE_RETIRE_CLEAR (03 R108) -/
  | laneRetireClear (t : Nat) (path : Path) (m : Nat) (outbound : Bool) (mask : Nat)
  /-- LOOP_EVALUATION (04 R111) -/
  | loopEvaluation (t m tick : Nat)
  /-- CHOPPER_ON_TIMEOUT (06 R171) -/
  | chopperOnTimeout (t m : Nat)
  /-- YARD_COMMAND (04 R114) -/
  | yardCommand (t m gen : Nat) (cmd : YardCmd)
  /-- SERVO_COMMIT (04 R127) -/
  | servoCommit (t : Nat) (path : Path) (m mask : Nat)
  /-- SERVO_FLAG_CLEAR (04 R130) -/
  | servoFlagClear (t : Nat) (path : Path) (m : Nat) (limit : Bool) (mask : Nat)
  /-- TRACE_ARM (04 R132) -/
  | traceArm (t : Nat) (path : Path) (m : Nat)
  /-- TRACE_STOP (04 R132) -/
  | traceStop (t : Nat) (path : Path) (m : Nat)
  /-- TRACE_FIRE (04 R132) -/
  | traceFire (t : Nat) (path : Path) (m : Nat)
  /-- CLOCK_TRACK_RUN (05 R148) -/
  | clockTrackRun (t m tick : Nat)
  /-- ADDRESS_UNIT (09 R230) -/
  | addressUnit (t m chi : Nat)
  /-- ACQUISITION (05 R141) -/
  | acquisition (t m step : Nat)
  /-- ACQUISITION_TIMEOUT (05 R141) -/
  | acquisitionTimeout (t m : Nat)
  /-- ACQUISITION_RESTART (05 R141) -/
  | acquisitionRestart (t m : Nat)
  /-- TRACK_JUMP (05 R144) -/
  | trackJump (t m : Nat) (delta : Int)
  /-- TRACK_JUMP_TIMEOUT (05 R144) -/
  | trackJumpTimeout (t m : Nat)
  /-- SEEK (05 R145) -/
  | seek (t m target : Nat)
  /-- LAYER_JUMP (05 R146) -/
  | layerJump (t m layer : Nat)
  /-- LAYER_JUMP_TIMEOUT (05 R147) -/
  | layerJumpTimeout (t m : Nat)
  /-- GUIDE_FOCUS_CALIBRATION (05 R153) -/
  | guideFocusCalibration (t : Nat) (path : Path) (m : Nat)
  /-- BRACE_CALIBRATION (05 R153) -/
  | braceCalibration (t : Nat) (path : Path) (m : Nat)
  /-- HALYARD_CALIBRATION (05 R153) -/
  | halyardCalibration (t : Nat) (path : Path) (m : Nat)
  /-- V1_CLOCK_OFFSET_CALIBRATION (05 R153) -/
  | v1ClockOffsetCalibration (t : Nat) (path : Path) (m : Nat)
  /-- CALIBRATION_CANDIDATE_DONE (05 R153) -/
  | calibrationCandidateDone (t m : Nat) (kind : CalKind)
  /-- SPINDLE_START (06 R168) -/
  | spindleStart (t m : Nat)
  /-- START_CLASSIFY (06 R168) -/
  | startClassify (t m : Nat)
  /-- ALIGN_END (06 R168) -/
  | alignEnd (t m : Nat)
  /-- START_TIMEOUT (06 R168) -/
  | startTimeout (t m : Nat)
  /-- START_RETRY (06 R168) -/
  | startRetry (t m : Nat)
  /-- SYNC_IN_EDGE (06 R165); `fall` is the rig time at which the input falls again -/
  | syncInEdge (pulse : Pulse)
  /-- SYNC_IN_STUCK (06 R166) -/
  | syncInStuck (t : Nat)
  /-- SYNC_IN_LOST (06 R166) -/
  | syncInLost (t : Nat)
  /-- SYNC_REARM (06 R166) -/
  | syncRearm (t : Nat) (path : Path) (v : Nat) (high : Bool)
  /-- CHOPPER_FAIL_CLEAR (06 R171) -/
  | chopperFailClear (t : Nat) (path : Path) (m : Nat)
  /-- FURL_N_ASSERT (06 R174) -/
  | furlNAssert (t : Nat)
  /-- FURL_N_RELEASE (06 R174) -/
  | furlNRelease (t : Nat)
  /-- SLED_PLANNING (07 R179) -/
  | sledPlanning (t m tick : Nat)
  /-- SLED_PERIOD_BOUNDARY (07 R183) -/
  | sledPeriodBoundary (t m tick : Nat)
  /-- SLED_STEP (07 R183) -/
  | sledStep (t m tick : Nat)
  /-- HOMING (07 R188) -/
  | homing (t m : Nat)
  /-- HOMING_SEEK_START (07 R188) -/
  | homingSeekStart (t m : Nat)
  /-- SLED_RETIRE_CLEAR (07 R192) -/
  | sledRetireClear (t : Nat) (path : Path) (m : Nat)
  /-- COARSE_ALIGNMENT_CALIBRATION (08 R221) -/
  | coarseAlignmentCalibration (t : Nat) (path : Path) (m : Nat)
  /-- FINE_ALIGNMENT_CALIBRATION (08 R221) -/
  | fineAlignmentCalibration (t : Nat) (path : Path) (m : Nat)
  /-- ASYMMETRY_TRIM_CALIBRATION (08 R221) -/
  | asymmetryTrimCalibration (t : Nat) (path : Path) (m : Nat)
  /-- EQUALISER_PRESET_CALIBRATION (08 R221) -/
  | equaliserPresetCalibration (t : Nat) (path : Path) (m : Nat)
  /-- MAST_REVOLUTION_SCHEDULE (10 R258) -/
  | mastRevolutionSchedule (t m : Nat)
  /-- CODEWORD_READY (10 R257) -/
  | codewordReady (t m sail : Nat)
  /-- CODEWORD_DISPATCH (10 R257) -/
  | codewordDispatch (t d : Nat)
  /-- DECODE_DONE (10 R264) -/
  | decodeDone (t d : Nat)
  /-- DECODER_MEMORY_ERROR (10 R281) -/
  | decoderMemoryError (t d : Nat)
  /-- DECODER_SELF_TEST (10 R282) -/
  | decoderSelfTest (t d : Nat) (ok : Bool)
  /-- DECODER_RETIRE_CLEAR (10 R282) -/
  | decoderRetireClear (t : Nat) (path : Path) (hi : Bool) (mask : Nat)
  /-- PEER_FETCH_TIMEOUT (10 R275) -/
  | peerFetchTimeout (t sid : Nat)
  /-- PASS_BOUNDARY (11 R301) -/
  | passBoundary (t m : Nat)
  /-- SLICE_EXPIRY (11 R301) -/
  | sliceExpiry (t m : Nat)
  /-- BURN_REVOLUTION (11 R300) -/
  | burnRevolution (t m : Nat)
  /-- VERIFY_REVOLUTION (11 R302) -/
  | verifyRevolution (t m tick : Nat)
  /-- RELOCATION_PASS (11 R304) -/
  | relocationPass (t m : Nat)
  /-- RECORD_DELAY_EXPIRY (11 R307) -/
  | recordDelayExpiry (t m : Nat)
  /-- RECORD_BURN (11 R307) -/
  | recordBurn (t m : Nat)
  /-- DURABLE_LIMIT_EXPIRY (11 R312) -/
  | durableLimitExpiry (t serial : Nat)
  /-- MOUNT_LOG_READ (11 R310) -/
  | mountLogRead (t m : Nat) (slots spares : List Int)
  /-- HELLO (14 R388) -/
  | hello (t port : Nat) (pkt : GPacket)
  /-- LCTL (14 R380) -/
  | lctl (t port : Nat) (pkt : GPacket)
  /-- GORCY_CMD (14 R395) -/
  | gorcyCmd (t port : Nat) (pkt : GPacket)
  /-- GORCY_EVENT (14 R395) -/
  | gorcyEvent (t port : Nat) (pkt : GPacket)
  /-- EQ_HEAD (14 R395) -/
  | eqHead (t port : Nat) (pkt : GPacket)
  /-- WRITE_DATA (14 R396) -/
  | writeData (t port : Nat) (pkt : GPacket)
  /-- FENCE (14 R397) -/
  | fence (t port : Nat) (pkt : GPacket)
  /-- FENCE_ACK (14 R397) -/
  | fenceAck (t port : Nat) (pkt : GPacket)
  /-- FENCE_TIMEOUT (14 R397) -/
  | fenceTimeout (t cid : Nat)
  /-- FETCH_REQ (14 R400) -/
  | fetchReq (t port : Nat) (pkt : GPacket)
  /-- FETCH_REP (10 R275) -/
  | fetchRep (t port : Nat) (pkt : GPacket)
  /-- PACKET_FORWARD (14 R375) -/
  | packetForward (t port : Nat) (pkt : GPacket)
  /-- REPLAY_TIMEOUT (14 R381) -/
  | replayTimeout (t port : Nat)
  /-- ACK_TIMER (14 R380) -/
  | ackTimer (t port : Nat)
  /-- HELLO_TIMER (14 R384) -/
  | helloTimer (t : Nat)
  /-- PORT_SIGNAL_DETECT (14 R383) -/
  | portSignalDetect (t port : Nat)
  /-- PORT_TRAINING_TIMEOUT (14 R383) -/
  | portTrainingTimeout (t port : Nat)
  /-- GORCY_LANE_DOWN (14 R373) -/
  | gorcyLaneDown (t port lane : Nat)
  /-- GORCY_LANE_REACQUIRE_TIMEOUT (14 R373) -/
  | gorcyLaneReacquireTimeout (t port lane : Nat)
  /-- GORCY_LANE_RETIRE_CLEAR (14 R373) -/
  | gorcyLaneRetireClear (t : Nat) (path : Path) (port mask : Nat)
  /-- TIME_PARENT_TIMEOUT (14 R391) -/
  | timeParentTimeout (t : Nat)
  /-- LEASE_AGE_EXPIRY (14 R393) -/
  | leaseAgeExpiry (t disc : Nat)
  /-- PEER_IDLE_RELEASE (14 R395) -/
  | peerIdleRelease (t a : Nat)
  /-- COPY_START (14 R399) -/
  | copyStart (t : Nat) (path : Path) (slot : Nat)
  /-- COPY_ABORT (14 R399) -/
  | copyAbort (t : Nat) (path : Path) (slot : Nat)
  /-- COPY_TIMEOUT (14 R399) -/
  | copyTimeout (t slot : Nat)
  /-- JOB_SEGMENT_START (15 R411) -/
  | jobSegmentStart (t e : Nat)
  /-- NOP (15 R407) -/
  | wNop (t e : Nat) (chk : WordCheck)
  /-- ADD (15 R407) -/
  | wAdd (t e : Nat) (chk : WordCheck)
  /-- ADDC (15 R407) -/
  | wAddc (t e : Nat) (chk : WordCheck)
  /-- SUB (15 R407) -/
  | wSub (t e : Nat) (chk : WordCheck)
  /-- SUBB (15 R407) -/
  | wSubb (t e : Nat) (chk : WordCheck)
  /-- AND (15 R407) -/
  | wAnd (t e : Nat) (chk : WordCheck)
  /-- OR (15 R407) -/
  | wOr (t e : Nat) (chk : WordCheck)
  /-- XOR (15 R407) -/
  | wXor (t e : Nat) (chk : WordCheck)
  /-- ANDN (15 R407) -/
  | wAndn (t e : Nat) (chk : WordCheck)
  /-- SHL (15 R407) -/
  | wShl (t e : Nat) (chk : WordCheck)
  /-- SHR (15 R407) -/
  | wShr (t e : Nat) (chk : WordCheck)
  /-- SAR (15 R407) -/
  | wSar (t e : Nat) (chk : WordCheck)
  /-- ROL (15 R407) -/
  | wRol (t e : Nat) (chk : WordCheck)
  /-- MUL (15 R407) -/
  | wMul (t e : Nat) (chk : WordCheck)
  /-- MULH (15 R407) -/
  | wMulh (t e : Nat) (chk : WordCheck)
  /-- SADD (15 R407) -/
  | wSadd (t e : Nat) (chk : WordCheck)
  /-- MIN (15 R407) -/
  | wMin (t e : Nat) (chk : WordCheck)
  /-- MAX (15 R407) -/
  | wMax (t e : Nat) (chk : WordCheck)
  /-- SEL (15 R407) -/
  | wSel (t e : Nat) (chk : WordCheck)
  /-- MOV (15 R407) -/
  | wMov (t e : Nat) (chk : WordCheck)
  /-- BFX (15 R407) -/
  | wBfx (t e : Nat) (chk : WordCheck)
  /-- BFI (15 R407) -/
  | wBfi (t e : Nat) (chk : WordCheck)
  /-- POPC (15 R407) -/
  | wPopc (t e : Nat) (chk : WordCheck)
  /-- CLZ (15 R407) -/
  | wClz (t e : Nat) (chk : WordCheck)
  /-- CTZ (15 R407) -/
  | wCtz (t e : Nat) (chk : WordCheck)
  /-- BSWAP (15 R407) -/
  | wBswap (t e : Nat) (chk : WordCheck)
  /-- MATCH8 (15 R407) -/
  | wMatch8 (t e : Nat) (chk : WordCheck)
  /-- RANGE8 (15 R407) -/
  | wRange8 (t e : Nat) (chk : WordCheck)
  /-- CMP (15 R407) -/
  | wCmp (t e : Nat) (chk : WordCheck)
  /-- IN (15 R412) -/
  | wIn (t e : Nat) (chk : WordCheck)
  /-- OUT (15 R412) -/
  | wOut (t e : Nat) (chk : WordCheck)
  /-- LDS (15 R408) -/
  | wLds (t e : Nat) (chk : WordCheck)
  /-- STS (15 R408) -/
  | wSts (t e : Nat) (chk : WordCheck)
  /-- LDW (15 R408) -/
  | wLdw (t e : Nat) (chk : WordCheck)
  /-- STW (15 R408) -/
  | wStw (t e : Nat) (chk : WordCheck)
  /-- CVF (15 R423) -/
  | wCvf (t e : Nat) (chk : WordCheck)
  /-- GETS (15 R407) -/
  | wGets (t e : Nat) (chk : WordCheck)
  /-- PUTS (15 R407) -/
  | wPuts (t e : Nat) (chk : WordCheck)
  /-- IMAGE_LOAD (15 R419) -/
  | imageLoad (t : Nat) (path : Path) (v : Nat)
  /-- ENGINE_ASSIGN (15 R421) -/
  | engineAssign (t : Nat) (path : Path) (e v : Nat)
  /-- ENGINE_WINDOW_RESIZE (15 R417) -/
  | engineWindowResize (t : Nat) (path : Path) (e v : Nat)
  /-- ENGINE_RETIRE_CLEAR (18 R491) -/
  | engineRetireClear (t : Nat) (path : Path) (mask : Nat)
  /-- CHECK_VALUE_FEED (15 R424) -/
  | checkValueFeed (t : Nat) (path : Path) (h : Nat) (data : List Byte)
  /-- CHECK_VALUE_RESTART (15 R424) -/
  | checkValueRestart (t : Nat) (path : Path) (h v : Nat)
  /-- CHECK_VALUE_OWNER_CHANGE (15 R424) -/
  | checkValueOwnerChange (t : Nat) (path : Path) (h v : Nat)
  /-- SCRUB_READ (16 R431) -/
  | scrubRead (t c : Nat) (flips : List Granule)
  /-- SHARE_COPY_DONE (16 R438) -/
  | shareCopyDone (t c k : Nat)
  /-- CHANNEL_RETIRE_CLEAR (16 R436) -/
  | channelRetireClear (t : Nat) (path : Path) (mask : Nat)
  /-- CHANNEL_FILL_DONE (16 R436) -/
  | channelFillDone (t c : Nat)
  /-- REMAP_CLEAR (16 R435) -/
  | remapClear (t : Nat) (path : Path) (c v : Nat) (flips : List (Nat × Granule))
  /-- CACHE_ACCESS (16 R449) -/
  | cacheAccess (t : Nat) (kind : CacheKind) (st ln : Nat) (lineErr : Bool) (flips : List Granule)
  /-- CACHE_FILL_RETURN (16 R450) -/
  | cacheFillReturn (t st ln : Nat) (ok : Bool)
  /-- CACHE_AGEING (16 R446) -/
  | cacheAgeing (t : Nat)
  /-- CACHE_INVALIDATE_LINE (16 R453) -/
  | cacheInvalidateLine (t : Nat) (path : Path)
  /-- CACHE_INVALIDATE_STRUCTURE (16 R454) -/
  | cacheInvalidateStructure (t : Nat) (path : Path)
  /-- CACHE_INVALIDATE_ALL (16 R454) -/
  | cacheInvalidateAll (t : Nat) (path : Path)
  /-- WAYS_ENABLED_WRITE (16 R445) -/
  | waysEnabledWrite (t : Nat) (path : Path) (v : Nat)
  /-- WAY_RETIRE_CLEAR (16 R451) -/
  | wayRetireClear (t : Nat) (path : Path) (mask : Nat)
  /-- SDO_UPLOAD (17 R466) -/
  | sdoUpload (t index sub : Nat) (ca : Bool)
  /-- SDO_DOWNLOAD (17 R466) -/
  | sdoDownload (t index sub : Nat) (ca : Bool) (data : List Byte)
  /-- SDO_INFORMATION (17 R464) -/
  | sdoInformation (t : Nat) (req : SdoInfo)
  /-- FOE_WRITE (17 R469) -/
  | foeWrite (t : Nat) (file : FoeFile) (pw : Nat) (data : List Byte) (ok : Bool)
  /-- FOE_READ (17 R469) -/
  | foeRead (t : Nat) (file : FoeFile) (pw : Nat)
  /-- AL_STATE_REQUEST (17 R465) -/
  | alStateRequest (t : Nat) (req : AlState) (cfg : AlConfig)
  /-- SYNC0_EVENT (17 R468) -/
  | sync0Event (t dc diff : Nat)
  /-- TXPDO_UPDATE (17 R467) -/
  | txpdoUpdate (t : Nat)
  /-- NV_SAVE_COMMAND (17 R474) -/
  | nvSaveCommand (t : Nat) (path : Path) (v : Nat)
  /-- SAVE_DELAY_EXPIRY (17 R474) -/
  | saveDelayExpiry (t : Nat)
  /-- SAVE_DONE (17 R472) -/
  | saveDone (t : Nat) (ok : Bool)
  /-- SAVE_RETRY (17 R472) -/
  | saveRetry (t : Nat)
  /-- LOAD_DEFAULTS (17 R476) -/
  | loadDefaults (t : Nat) (path : Path) (v : Nat)
  /-- COUNTER_CLEAR (00 R29) -/
  | counterClear (t : Nat) (path : Path) (index sub : Nat)
  /-- GROUP_CLEAR (18 R496) -/
  | groupClear (t : Nat) (path : Path) (v : Nat)
  /-- SELF_CHECK_FAILURE (18 R481) -/
  | selfCheckFailure (t : Nat) (x : Shroud) (kind : SelfCheckKind)
  /-- HEARTBEAT_TIMEOUT (18 R483) -/
  | heartbeatTimeout (t : Nat)
  /-- STATE_STEP (18 R482) -/
  | stateStep (t : Nat) (x : Shroud) (gen : Nat) (key : Nat) (v : Int)
  /-- SHROUD_SELF_TEST_DONE (18 R486) -/
  | shroudSelfTestDone (t : Nat) (x : Shroud) (ok : Bool)
  /-- AUTOMATIC_RETURN (18 R487) -/
  | automaticReturn (t : Nat)
  /-- PASS_TOKEN (18 R487) -/
  | passToken (t : Nat) (path : Path) (v : Nat)
  /-- NO_HOLDER_FURL (18 R488) -/
  | noHolderFurl (t : Nat)
  /-- MAST_RETIRE_CLEAR (18 R500) -/
  | mastRetireClear (t : Nat) (path : Path) (mask : Nat)
  /-- SHROUD_RETIRE_CLEAR (18 R500) -/
  | shroudRetireClear (t : Nat) (path : Path) (mask : Nat)
  /-- SAIL_RETIRE_CLEAR (18 R491) -/
  | sailRetireClear (t : Nat) (path : Path) (m mask : Nat)
  /-- SERVO_SAIL_RETIRE_CLEAR (18 R491) -/
  | servoSailRetireClear (t : Nat) (path : Path) (m mask : Nat)
  /-- IMAGE_UPDATE (18 R498) -/
  | imageUpdate (t : Nat) (path : Path) (v : Nat)
  /-- UPDATE_SHROUD_LOADED (18 R498) -/
  | updateShroudLoaded (t : Nat) (x : Shroud) (ok : Bool)
  /-- OBSERVATION_END (18 R498) -/
  | observationEnd (t : Nat)
  /-- RST_N_ASSERT (19 R507) -/
  | rstNAssert (t : Nat)
  /-- RST_N_RELEASE (19 R512) -/
  | rstNRelease (t : Nat)
  /-- STARTUP_FILL_DONE (19 R512) -/
  | startupFillDone (t : Nat) (chans : List Nat)
  /-- RIG_READY (19 R512) -/
  | rigReady (t : Nat)
  /-- PLL_LOSS (19 R503) -/
  | pllLoss (t : Nat)
  /-- TEST_N_ASSERT (20 R526) -/
  | testNAssert (t : Nat)
  /-- THERMAL_SAMPLE (20 R525) -/
  | thermalSample (t : Nat) (readings : List Int)
  /-- BYPASS (20 R527) -/
  | bypass (t : Nat) (bits : List Bool)
  /-- IDCODE (20 R527) -/
  | idcode (t : Nat) (bits : List Bool)
  /-- SAMPLE_PRELOAD (20 R527) -/
  | samplePreload (t : Nat) (bits : List Bool)
  /-- EXTEST (20 R527) -/
  | extest (t : Nat) (bits : List Bool)
  /-- CONFIGURATION_REQUEST (13 R350) -/
  | configurationRequest (t : Nat) (f : Fn) (req : ConfigReq)
  /-- DL_UP (19 R514) -/
  | dlUp (t : Nat) (ep : Endpoint) (rate width : Nat) (flit : Bool)
  /-- CORRUPTED_PACKET (14 R380) -/
  | corruptedPacket (t port : Nat)
  /-- TYPE_DISCARD (14 R379) -/
  | typeDiscard (t port : Nat) (pkt : GPacket)
  /-- GORCY_LANE_REACQUIRED (14 R373) -/
  | gorcyLaneReacquired (t port lane : Nat)
  /-- LOSS_OF_TRAINING (16 R436) -/
  | lossOfTraining (t c : Nat)
  /-- ENDPOINT_BUFFER_ERROR (18 R489) -/
  | endpointBufferError (t : Nat) (ep : Endpoint) (fns : List Nat)
  /-- IMAGE_LOAD_COMPLETE (15 R419) -/
  | imageLoadComplete (t : Nat)
  /-- PLL_LOCK_REGAINED (19 R503) -/
  | pllLockRegained (t : Nat)
  /-- TEST_N_RELEASE (20 R526) -/
  | testNRelease (t : Nat)
  /-- FIELD_NETWORK_LINK_CHANGE (17 R464) -/
  | fieldNetworkLinkChange (t port : Nat) (up : Bool)
  /-- SYNC0_STOP (17 R468) -/
  | sync0Stop (t : Nat)
  /-- MAILBOX_REPEAT (17 R464) -/
  | mailboxRepeat (t : Nat)
  deriving DecidableEq, Repr

end Sys2Proof
end

