-- ==== Sys2Proof/Decode.lean ====
section
/-! DEFINITION. Words of the command table. The table gives its rows no bits: no word spells a command. -/
namespace Sys2Proof

/-- The command that a word spells: none, since no row of the command table has bits (notes/assumptions/3.md). -/
def decodeTableWord (_nbits _w : Nat) : Option Instr := none

end Sys2Proof
end

