-- ==== Sys2Proof/Config.lean ====
section
/-! DEFINITION. What one device fixes, and the values the spec leaves open. Every constant is opaque: no proof can see it. -/
namespace Sys2Proof

/-- A value the spec leaves undefined: the `n`th one taken in a run (notes/assumptions/1.md). -/
opaque Config.freeValue : Nat → BitVec 64

/-- The device serial number, 2000:05, less 1: one of all values but the two that no device has (17 R540). -/
opaque Config.serialIndex : Fin (18446744073709551613 + 1)

/-- The device serial number, 2000:05: never 0 and never all ones (17 R540). -/
def Config.deviceSerial : BitVec 64 := BitVec.ofNat 64 (Config.serialIndex.val + 1)

/-- Software version string of a vendor image (17 Table 17.3), by the image's bytes. -/
opaque Config.softwareVersion : List Byte → List Byte

/-- Capacity of the fitted NV device, 2700:06, in MiB (17 R470). -/
opaque Config.nvCapacity : Nat

/-- The vendor key built into the rig (15 R418). -/
opaque Config.vendorKey : List Byte

/-- Image ID of the vendor library that the rig starts with, 2542:04 (15 Table 15.9). -/
opaque Config.vendorImageId : BitVec 64

/-- The read power the rig sends as RDP (03 Table 3.6); no object and no rule gives its value. -/
opaque Config.readPower : Nat

/-- Radius (pm) of the active servo sail's spot at sled position 0 of mast m (05 R149): the mechanism fixes it. -/
opaque Config.sledOrigin : Nat → Int

/-- How far the halyard ramp of Table 5.4, step 8, goes on mast m: the table gives its start, direction and duration. -/
opaque Config.halyardSweepEnd : Nat → BitVec 16

end Sys2Proof
end

