-- ==== Sys2Proof/Machine/Arith.lean ====
section
/-! DEFINITION. Number formats and arithmetic (chapter 2): the named operations, the sine table, byte order, CRCs. -/
namespace Sys2Proof.Machine

/-- Round half to even, dropping `k` fraction bits (02 R55). -/
def rne (x : Int) (k : Nat) : Int :=
  if k = 0 then x else
  let q := x.fdiv (2 ^ k)
  let r := x.fmod (2 ^ k)
  let half : Int := 2 ^ (k - 1)
  if r > half ∨ (r = half ∧ q % 2 = 1) then q + 1 else q

/-- Saturate to a signed `w`-bit range (02 R55). -/
def sat (x : Int) (w : Nat) : Int :=
  if x > 2 ^ (w - 1) - 1 then 2 ^ (w - 1) - 1 else if x < -(2 ^ (w - 1)) then -(2 ^ (w - 1)) else x

/-- Symmetric saturate to [-m, m] (02 R55). -/
def symsat (x m : Int) : Int := if x > m then m else if x < -m then -m else x

/-- The low `w` bits, as an unsigned value (02 R55). -/
def wrapU (x : Int) (w : Nat) : Int := x.fmod (2 ^ w)

/-- `x` reduced modulo 2^w and read as a signed value. -/
def wrapS (x : Int) (w : Nat) : Int :=
  let u := wrapU x w
  if u ≥ 2 ^ (w - 1) then u - 2 ^ w else u

/-- The arithmetic shift ">>" (00 R10): truncation toward minus infinity. -/
def asr (x : Int) (k : Nat) : Int := x.fdiv (2 ^ k)

/-- Floor quotient and remainder by a positive divisor (02 R55, R75). -/
def divf (n d : Int) : Int × Int := (n.fdiv d, n.fmod d)

/-- Clamp to [lo, hi]. -/
def clampI (x lo hi : Int) : Int := if x < lo then lo else if x > hi then hi else x

/-- The signed difference of two UQ0.16 angles (02 R64). -/
def angleDiff (a b : Int) : Int := wrapS (a - b) 16

/-- A saturation that remembers whether it acted (02 R60). -/
def satF (x : Int) (w : Nat) (f : Bool) : Int × Bool := (sat x w, f || decide (sat x w ≠ x))

/-- One addition into a Q9.31 accumulator (02 R60): the sum saturated to 40 bits. -/
def accAdd (acc x : Int) (f : Bool) : Int × Bool := satF (acc + x) 40 f

/-- A Q1.15 by Q1.15 product aligned to the accumulator (02 R58, R59). -/
def prod (a b : Int) : Int := a * b * 2

/-- A Q1.15 operand aligned to the accumulator (02 R59). -/
def align15 (a : Int) : Int := a * 65536

/-- The coefficient post-shift (02 R61): shift left by `e` and saturate to 40 bits. -/
def postShift (acc : Int) (e : Nat) (f : Bool) : Int × Bool := satF (acc * 2 ^ e) 40 f

/-- Write-back to Q1.15 (02 R62). -/
def wb15 (acc : Int) (f : Bool) : Int × Bool := satF (rne acc 16) 16 f

/-- Write-back to a Q1.31 long state (02 R62). -/
def wb31 (acc : Int) (f : Bool) : Int × Bool := satF acc 32 f

/-- Part of the first quarter of the sine table (02 R66). -/
def sineQuarter0 : List Nat := [0, 50, 101, 151, 201, 251, 302, 352, 402, 452, 503, 553, 603, 653, 704, 754, 804, 854, 905, 955, 1005, 1055, 1106, 1156, 1206, 1256, 1307, 1357, 1407, 1457, 1507, 1558, 1608, 1658, 1708, 1758, 1809, 1859, 1909, 1959, 2009, 2060, 2110, 2160, 2210, 2260, 2310, 2360, 2411, 2461, 2511, 2561, 2611, 2661, 2711, 2761, 2811, 2861, 2912, 2962, 3012, 3062, 3112, 3162]

/-- Part of the first quarter of the sine table (02 R66). -/
def sineQuarter1 : List Nat := [3212, 3262, 3312, 3362, 3412, 3462, 3512, 3562, 3612, 3662, 3712, 3762, 3812, 3861, 3911, 3961, 4011, 4061, 4111, 4161, 4211, 4260, 4310, 4360, 4410, 4460, 4510, 4559, 4609, 4659, 4709, 4758, 4808, 4858, 4907, 4957, 5007, 5057, 5106, 5156, 5205, 5255, 5305, 5354, 5404, 5453, 5503, 5553, 5602, 5652, 5701, 5751, 5800, 5850, 5899, 5948, 5998, 6047, 6097, 6146, 6195, 6245, 6294, 6343]

/-- Part of the first quarter of the sine table (02 R66). -/
def sineQuarter2 : List Nat := [6393, 6442, 6491, 6541, 6590, 6639, 6688, 6737, 6787, 6836, 6885, 6934, 6983, 7032, 7081, 7130, 7180, 7229, 7278, 7327, 7376, 7425, 7473, 7522, 7571, 7620, 7669, 7718, 7767, 7816, 7864, 7913, 7962, 8011, 8059, 8108, 8157, 8206, 8254, 8303, 8351, 8400, 8449, 8497, 8546, 8594, 8643, 8691, 8740, 8788, 8836, 8885, 8933, 8982, 9030, 9078, 9127, 9175, 9223, 9271, 9319, 9368, 9416, 9464]

/-- Part of the first quarter of the sine table (02 R66). -/
def sineQuarter3 : List Nat := [9512, 9560, 9608, 9656, 9704, 9752, 9800, 9848, 9896, 9944, 9992, 10040, 10088, 10135, 10183, 10231, 10279, 10326, 10374, 10422, 10469, 10517, 10565, 10612, 10660, 10707, 10755, 10802, 10850, 10897, 10945, 10992, 11039, 11087, 11134, 11181, 11228, 11276, 11323, 11370, 11417, 11464, 11511, 11558, 11605, 11652, 11699, 11746, 11793, 11840, 11887, 11934, 11980, 12027, 12074, 12121, 12167, 12214, 12261, 12307, 12354, 12400, 12447, 12493]

/-- Part of the first quarter of the sine table (02 R66). -/
def sineQuarter4 : List Nat := [12540, 12586, 12633, 12679, 12725, 12772, 12818, 12864, 12910, 12957, 13003, 13049, 13095, 13141, 13187, 13233, 13279, 13325, 13371, 13417, 13463, 13508, 13554, 13600, 13646, 13691, 13737, 13783, 13828, 13874, 13919, 13965, 14010, 14056, 14101, 14146, 14192, 14237, 14282, 14327, 14373, 14418, 14463, 14508, 14553, 14598, 14643, 14688, 14733, 14778, 14823, 14867, 14912, 14957, 15002, 15046, 15091, 15136, 15180, 15225, 15269, 15314, 15358, 15402]

/-- Part of the first quarter of the sine table (02 R66). -/
def sineQuarter5 : List Nat := [15447, 15491, 15535, 15580, 15624, 15668, 15712, 15756, 15800, 15844, 15888, 15932, 15976, 16020, 16064, 16108, 16151, 16195, 16239, 16282, 16326, 16369, 16413, 16456, 16500, 16543, 16587, 16630, 16673, 16717, 16760, 16803, 16846, 16889, 16932, 16975, 17018, 17061, 17104, 17147, 17190, 17233, 17275, 17318, 17361, 17403, 17446, 17488, 17531, 17573, 17616, 17658, 17700, 17743, 17785, 17827, 17869, 17911, 17953, 17995, 18037, 18079, 18121, 18163]

/-- Part of the first quarter of the sine table (02 R66). -/
def sineQuarter6 : List Nat := [18205, 18247, 18288, 18330, 18372, 18413, 18455, 18496, 18538, 18579, 18621, 18662, 18703, 18745, 18786, 18827, 18868, 18909, 18950, 18991, 19032, 19073, 19114, 19155, 19195, 19236, 19277, 19317, 19358, 19399, 19439, 19479, 19520, 19560, 19601, 19641, 19681, 19721, 19761, 19801, 19841, 19881, 19921, 19961, 20001, 20041, 20081, 20120, 20160, 20200, 20239, 20279, 20318, 20357, 20397, 20436, 20475, 20515, 20554, 20593, 20632, 20671, 20710, 20749]

/-- Part of the first quarter of the sine table (02 R66). -/
def sineQuarter7 : List Nat := [20788, 20827, 20865, 20904, 20943, 20981, 21020, 21059, 21097, 21136, 21174, 21212, 21251, 21289, 21327, 21365, 21403, 21441, 21479, 21517, 21555, 21593, 21631, 21668, 21706, 21744, 21781, 21819, 21856, 21894, 21931, 21968, 22006, 22043, 22080, 22117, 22154, 22191, 22228, 22265, 22302, 22339, 22375, 22412, 22449, 22485, 22522, 22558, 22595, 22631, 22668, 22704, 22740, 22776, 22812, 22848, 22884, 22920, 22956, 22992, 23028, 23064, 23099, 23135]

/-- Part of the first quarter of the sine table (02 R66). -/
def sineQuarter8 : List Nat := [23170, 23206, 23241, 23277, 23312, 23348, 23383, 23418, 23453, 23488, 23523, 23558, 23593, 23628, 23663, 23697, 23732, 23767, 23801, 23836, 23870, 23905, 23939, 23973, 24008, 24042, 24076, 24110, 24144, 24178, 24212, 24246, 24279, 24313, 24347, 24380, 24414, 24448, 24481, 24514, 24548, 24581, 24614, 24647, 24680, 24713, 24746, 24779, 24812, 24845, 24878, 24910, 24943, 24976, 25008, 25041, 25073, 25105, 25138, 25170, 25202, 25234, 25266, 25298]

/-- Part of the first quarter of the sine table (02 R66). -/
def sineQuarter9 : List Nat := [25330, 25362, 25394, 25425, 25457, 25489, 25520, 25552, 25583, 25615, 25646, 25677, 25708, 25739, 25771, 25802, 25833, 25863, 25894, 25925, 25956, 25986, 26017, 26048, 26078, 26108, 26139, 26169, 26199, 26229, 26259, 26290, 26320, 26349, 26379, 26409, 26439, 26468, 26498, 26528, 26557, 26586, 26616, 26645, 26674, 26704, 26733, 26762, 26791, 26820, 26848, 26877, 26906, 26935, 26963, 26992, 27020, 27049, 27077, 27105, 27133, 27162, 27190, 27218]

/-- Part of the first quarter of the sine table (02 R66). -/
def sineQuarter10 : List Nat := [27246, 27273, 27301, 27329, 27357, 27384, 27412, 27440, 27467, 27494, 27522, 27549, 27576, 27603, 27630, 27657, 27684, 27711, 27738, 27765, 27791, 27818, 27844, 27871, 27897, 27924, 27950, 27976, 28002, 28028, 28054, 28080, 28106, 28132, 28158, 28183, 28209, 28234, 28260, 28285, 28311, 28336, 28361, 28386, 28411, 28436, 28461, 28486, 28511, 28536, 28560, 28585, 28610, 28634, 28658, 28683, 28707, 28731, 28755, 28779, 28803, 28827, 28851, 28875]

/-- Part of the first quarter of the sine table (02 R66). -/
def sineQuarter11 : List Nat := [28899, 28922, 28946, 28970, 28993, 29016, 29040, 29063, 29086, 29109, 29132, 29155, 29178, 29201, 29224, 29247, 29269, 29292, 29314, 29337, 29359, 29381, 29404, 29426, 29448, 29470, 29492, 29514, 29535, 29557, 29579, 29600, 29622, 29643, 29665, 29686, 29707, 29729, 29750, 29771, 29792, 29813, 29833, 29854, 29875, 29895, 29916, 29936, 29957, 29977, 29997, 30018, 30038, 30058, 30078, 30098, 30118, 30137, 30157, 30177, 30196, 30216, 30235, 30254]

/-- Part of the first quarter of the sine table (02 R66). -/
def sineQuarter12 : List Nat := [30274, 30293, 30312, 30331, 30350, 30369, 30388, 30407, 30425, 30444, 30462, 30481, 30499, 30518, 30536, 30554, 30572, 30590, 30608, 30626, 30644, 30662, 30680, 30697, 30715, 30732, 30750, 30767, 30784, 30801, 30819, 30836, 30853, 30869, 30886, 30903, 30920, 30936, 30953, 30969, 30986, 31002, 31018, 31034, 31050, 31067, 31082, 31098, 31114, 31130, 31146, 31161, 31177, 31192, 31207, 31223, 31238, 31253, 31268, 31283, 31298, 31313, 31328, 31342]

/-- Part of the first quarter of the sine table (02 R66). -/
def sineQuarter13 : List Nat := [31357, 31372, 31386, 31400, 31415, 31429, 31443, 31457, 31471, 31485, 31499, 31513, 31527, 31540, 31554, 31568, 31581, 31594, 31608, 31621, 31634, 31647, 31660, 31673, 31686, 31699, 31711, 31724, 31737, 31749, 31761, 31774, 31786, 31798, 31810, 31822, 31834, 31846, 31858, 31870, 31881, 31893, 31904, 31916, 31927, 31938, 31950, 31961, 31972, 31983, 31994, 32005, 32015, 32026, 32037, 32047, 32058, 32068, 32078, 32088, 32099, 32109, 32119, 32129]

/-- Part of the first quarter of the sine table (02 R66). -/
def sineQuarter14 : List Nat := [32138, 32148, 32158, 32167, 32177, 32186, 32196, 32205, 32214, 32224, 32233, 32242, 32251, 32259, 32268, 32277, 32286, 32294, 32303, 32311, 32319, 32328, 32336, 32344, 32352, 32360, 32368, 32376, 32383, 32391, 32398, 32406, 32413, 32421, 32428, 32435, 32442, 32449, 32456, 32463, 32470, 32477, 32483, 32490, 32496, 32503, 32509, 32515, 32522, 32528, 32534, 32540, 32546, 32551, 32557, 32563, 32568, 32574, 32579, 32585, 32590, 32595, 32600, 32605]

/-- Part of the first quarter of the sine table (02 R66). -/
def sineQuarter15 : List Nat := [32610, 32615, 32620, 32625, 32629, 32634, 32638, 32643, 32647, 32651, 32656, 32660, 32664, 32668, 32672, 32675, 32679, 32683, 32686, 32690, 32693, 32697, 32700, 32703, 32706, 32709, 32712, 32715, 32718, 32721, 32723, 32726, 32729, 32731, 32733, 32736, 32738, 32740, 32742, 32744, 32746, 32748, 32749, 32751, 32753, 32754, 32756, 32757, 32758, 32759, 32760, 32761, 32762, 32763, 32764, 32765, 32766, 32766, 32767, 32767, 32767, 32768, 32768, 32768]

/-- Part of the first quarter of the sine table (02 R66). -/
def sineQuarter16 : List Nat := [32768]

/-- Entries 0 to 1,024 of the sine table: round(32,768 * sin(2 pi k / 4,096)), before saturation (02 R66). -/
def sineQuarter : List Nat := sineQuarter0 ++ sineQuarter1 ++ sineQuarter2 ++ sineQuarter3 ++ sineQuarter4 ++ sineQuarter5 ++ sineQuarter6 ++ sineQuarter7 ++ sineQuarter8 ++ sineQuarter9 ++ sineQuarter10 ++ sineQuarter11 ++ sineQuarter12 ++ sineQuarter13 ++ sineQuarter14 ++ sineQuarter15 ++ sineQuarter16

/-- The sine of a UQ0.16 angle (02 R66). -/
def sine (a : Int) : Int :=
  let k := ((wrapU a 16) / 16).toNat
  let q : Nat → Int := fun i => (sineQuarter.getD i 0 : Nat)
  let v := if k ≤ 1024 then q k else if k ≤ 2048 then q (2048 - k) else if k ≤ 3072 then -(q (k - 2048)) else -(q (4096 - k))
  sat v 16

/-- The cosine of a UQ0.16 angle (02 R66). -/
def cosine (a : Int) : Int := sine (wrapU (a + 0x4000) 16)

/-- Bits hi to lo of a natural number (00 R5). -/
def fld (v hi lo : Nat) : Nat := (v / 2 ^ lo) % 2 ^ (hi + 1 - lo)

/-- Little-endian bytes of `v`, `n` of them (00 R6). -/
def leBytes : Nat → Nat → List Byte
  | 0, _ => []
  | n + 1, v => BitVec.ofNat 8 v :: leBytes n (v / 256)

/-- The value of little-endian bytes (00 R6). -/
def leNat : List Byte → Nat
  | [] => 0
  | b :: bs => b.toNat + 256 * leNat bs

/-- A value as a signed number of `w` bits. -/
def toSigned (v w : Nat) : Int := if v % 2 ^ w ≥ 2 ^ (w - 1) then (v % 2 ^ w : Nat) - 2 ^ w else (v % 2 ^ w : Nat)

/-- A signed or unsigned value as `w` bits. -/
def toBits (x : Int) (w : Nat) : Nat := (wrapU x w).toNat

/-- Exchange of bits i and w - 1 - i (15 R423). -/
def reflectBits (v w : Nat) : Nat :=
  (List.range w).foldl (fun acc i => if v.testBit i then acc + 2 ^ (w - 1 - i) else acc) 0

/-- One bit of a check-value unit's feed (15 R423). -/
def cvBit (w poly cvv : Nat) (b : Bool) : Nat :=
  let fb := (cvv.testBit (w - 1)) ^^ b
  let s := (cvv * 2) % 2 ^ w
  if fb then s ^^^ (poly % 2 ^ w) else s

/-- One byte of a check-value unit's feed (15 R423). -/
def cvByte (w poly : Nat) (refin : Bool) (cvv byte : Nat) : Nat :=
  (List.range 8).foldl (fun c i => cvBit w poly c (byte.testBit (if refin then i else 7 - i))) cvv

/-- A run of bytes. -/
def cvFeed (w poly : Nat) (refin : Bool) (cvv : Nat) (bs : List Byte) : Nat :=
  bs.foldl (fun c b => cvByte w poly refin c b.toNat) cvv

/-- A check-value unit's result (15 R423). -/
def cvResult (w : Nat) (refout : Bool) (xorout cvv : Nat) : Nat :=
  ((if refout then reflectBits cvv w else cvv) ^^^ xorout) % 2 ^ w

/-- The CRC-32C of 14 R378. -/
def crc32c (bs : List Byte) : Nat :=
  cvResult 32 true 0xFFFFFFFF (cvFeed 32 0x1EDC6F41 true 0xFFFFFFFF bs)

/-- Ones of a number below 2^n. -/
def popCount (v n : Nat) : Nat := ((List.range n).filter (fun i => v.testBit i)).length

/-- Bits of `v`, bit 0 first, `n` of them. -/
def bitsOf (v n : Nat) : List Bool := (List.range n).map (fun i => v.testBit i)

/-- The number of a list of bits, bit 0 first. -/
def natOfBits : List Bool → Nat
  | [] => 0
  | b :: bs => (if b then 1 else 0) + 2 * natOfBits bs

end Sys2Proof.Machine
end

