-- ==== Sys2Proof/Machine/Catalogue.lean ====
section
/-! DEFINITION. The object dictionary's catalogue (17.1): one row per sub-index range of the object tables of chapters 3 to 20,
with its type, access code, access paths, default and Range. Mast objects are rows of space `.mast` (00 R12), media
description tables `.media` (09 R254), per-mast counters `.count` (18 R495). -/
namespace Sys2Proof.Machine

/-- Which index space a row belongs to: a rig index, M+ii (00 R12), T+ii (09 R254) or B+oo (18 R495). -/
inductive ObjSpace where
  | rig | mast | media | count
  deriving DecidableEq, Repr

/-- Types of Table 17.1; strings and DOMAINs carry their greatest length. -/
inductive ObjType where
  | bool | u8 | u16 | u32 | u64 | i8 | i16 | i32 | i64
  | str (maxLen : Nat) | dom (maxLen : Nat)
  deriving DecidableEq, Repr

/-- Access codes (17 R457). -/
inductive Access where
  | ro | wo | rw | rws | rwi
  deriving DecidableEq, Repr

/-- Which paths reach the objects of a table: `std` field network and physical function all access, peer read, virtual
function none; `allRead` every path reads (17 R463); `engine`, `keys`, `unitOwner`, `unit` are those of 15 R425. -/
inductive PathGroup where
  | std | allRead | engine | keys | unitOwner | unit
  deriving DecidableEq, Repr

/-- One row: sub-indices `sLo` to `sHi` of indices `iLo` to `iHi`; `ranges` empty means the whole type; `mask` other than 0
gives the bits that are not reserved. -/
structure ObjRow where
  space : ObjSpace
  iLo : Nat
  iHi : Nat
  sLo : Nat
  sHi : Nat
  ty : ObjType
  acc : Access
  grp : PathGroup
  dflt : Int
  ranges : List (Int × Int)
  mask : Nat
  deriving DecidableEq, Repr

/-- Rows of the object tables of chapter 3, part 1. -/
def objRows03a : List ObjRow := [
  ⟨.mast, 0x0008, 0x0008, 0x01, 0x01, .u8, .ro, .std, 0, [], 0⟩,
  ⟨.mast, 0x0008, 0x0008, 0x02, 0x02, .u8, .ro, .std, 0, [], 0⟩,
  ⟨.mast, 0x0008, 0x0008, 0x03, 0x03, .u8, .ro, .std, 0, [], 0⟩,
  ⟨.mast, 0x0008, 0x0008, 0x04, 0x04, .u8, .rw, .std, 0, [], 0x7f⟩,
  ⟨.mast, 0x0008, 0x0008, 0x05, 0x05, .u8, .rw, .std, 0, [], 0x3⟩,
  ⟨.mast, 0x0008, 0x0008, 0x06, 0x06, .u8, .ro, .std, 0, [], 0⟩,
  ⟨.mast, 0x0008, 0x0008, 0x07, 0x07, .u16, .ro, .std, 0, [], 0⟩,
  ⟨.mast, 0x0009, 0x0009, 0x01, 0x0A, .u16, .ro, .std, 0, [], 0⟩,
  ⟨.mast, 0x000A, 0x000A, 0x01, 0x01, .u8, .rws, .std, 4, [(1, 255)], 0⟩,
  ⟨.mast, 0x000A, 0x000A, 0x02, 0x02, .u32, .rws, .std, 10000, [(1, 3600000)], 0⟩,
  ⟨.mast, 0x000A, 0x000A, 0x03, 0x03, .u16, .rws, .std, 200, [(100, 1000)], 0⟩]

/-- Rows of the object tables of chapter 4, part 1. -/
def objRows04a : List ObjRow := [
  ⟨.mast, 0x0020, 0x0020, 0x01, 0x01, .u8, .ro, .std, 0, [], 0⟩,
  ⟨.mast, 0x0020, 0x0020, 0x02, 0x02, .u16, .wo, .std, 0, [], 0x1fff⟩,
  ⟨.mast, 0x0020, 0x0020, 0x03, 0x03, .u16, .ro, .std, 0, [], 0⟩,
  ⟨.mast, 0x0020, 0x0020, 0x04, 0x04, .u16, .rw, .std, 0, [], 0x1fff⟩,
  ⟨.mast, 0x0020, 0x0020, 0x05, 0x05, .u16, .rw, .std, 0, [], 0x1fff⟩,
  ⟨.mast, 0x0020, 0x0020, 0x06, 0x06, .u8, .ro, .std, 0, [], 0⟩,
  ⟨.mast, 0x0021, 0x0021, 0x01, 0x01, .u8, .ro, .std, 1, [], 0⟩,
  ⟨.mast, 0x0023, 0x0023, 0x01, 0x01, .u8, .ro, .std, 1, [], 0⟩,
  ⟨.mast, 0x0025, 0x0025, 0x01, 0x01, .u8, .ro, .std, 1, [], 0⟩,
  ⟨.mast, 0x0026, 0x0026, 0x01, 0x01, .u8, .ro, .std, 1, [], 0⟩,
  ⟨.mast, 0x0028, 0x0028, 0x01, 0x01, .u8, .ro, .std, 1, [], 0⟩,
  ⟨.mast, 0x0029, 0x0029, 0x01, 0x01, .u8, .ro, .std, 1, [], 0⟩,
  ⟨.mast, 0x002B, 0x002B, 0x01, 0x01, .u8, .ro, .std, 1, [], 0⟩,
  ⟨.mast, 0x002C, 0x002C, 0x01, 0x01, .u8, .ro, .std, 1, [], 0⟩,
  ⟨.mast, 0x002D, 0x002D, 0x01, 0x01, .u8, .ro, .std, 1, [], 0⟩,
  ⟨.mast, 0x0021, 0x0021, 0x02, 0x02, .u8, .rws, .std, 4, [], 0xf⟩,
  ⟨.mast, 0x0023, 0x0023, 0x02, 0x02, .u8, .rws, .std, 4, [], 0xf⟩,
  ⟨.mast, 0x0025, 0x0025, 0x02, 0x02, .u8, .rws, .std, 4, [], 0xf⟩,
  ⟨.mast, 0x0026, 0x0026, 0x02, 0x02, .u8, .rws, .std, 4, [], 0xf⟩,
  ⟨.mast, 0x0028, 0x0028, 0x02, 0x02, .u8, .rws, .std, 4, [], 0xf⟩,
  ⟨.mast, 0x0029, 0x0029, 0x02, 0x02, .u8, .rws, .std, 4, [], 0xf⟩,
  ⟨.mast, 0x002B, 0x002B, 0x02, 0x02, .u8, .rws, .std, 4, [], 0xf⟩,
  ⟨.mast, 0x002C, 0x002C, 0x02, 0x02, .u8, .rws, .std, 4, [], 0xf⟩,
  ⟨.mast, 0x002D, 0x002D, 0x02, 0x02, .u8, .rws, .std, 4, [], 0xf⟩,
  ⟨.mast, 0x0021, 0x0021, 0x03, 0x03, .i16, .rws, .std, 0, [], 0⟩,
  ⟨.mast, 0x0023, 0x0023, 0x03, 0x03, .i16, .rws, .std, 0, [], 0⟩,
  ⟨.mast, 0x0025, 0x0025, 0x03, 0x03, .i16, .rws, .std, 0, [], 0⟩,
  ⟨.mast, 0x0026, 0x0026, 0x03, 0x03, .i16, .rws, .std, 0, [], 0⟩,
  ⟨.mast, 0x0028, 0x0028, 0x03, 0x03, .i16, .rws, .std, 0, [], 0⟩,
  ⟨.mast, 0x0029, 0x0029, 0x03, 0x03, .i16, .rws, .std, 0, [], 0⟩,
  ⟨.mast, 0x002B, 0x002B, 0x03, 0x03, .i16, .rws, .std, 0, [], 0⟩,
  ⟨.mast, 0x002C, 0x002C, 0x03, 0x03, .i16, .rws, .std, 0, [], 0⟩,
  ⟨.mast, 0x002D, 0x002D, 0x03, 0x03, .i16, .rws, .std, 0, [], 0⟩,
  ⟨.mast, 0x0021, 0x0021, 0x04, 0x04, .u8, .rws, .std, 0, [(0, 8)], 0⟩,
  ⟨.mast, 0x0023, 0x0023, 0x04, 0x04, .u8, .rws, .std, 0, [(0, 8)], 0⟩,
  ⟨.mast, 0x0025, 0x0025, 0x04, 0x04, .u8, .rws, .std, 0, [(0, 8)], 0⟩,
  ⟨.mast, 0x0026, 0x0026, 0x04, 0x04, .u8, .rws, .std, 0, [(0, 8)], 0⟩,
  ⟨.mast, 0x0028, 0x0028, 0x04, 0x04, .u8, .rws, .std, 0, [(0, 8)], 0⟩,
  ⟨.mast, 0x0029, 0x0029, 0x04, 0x04, .u8, .rws, .std, 0, [(0, 8)], 0⟩,
  ⟨.mast, 0x002B, 0x002B, 0x04, 0x04, .u8, .rws, .std, 0, [(0, 8)], 0⟩,
  ⟨.mast, 0x002C, 0x002C, 0x04, 0x04, .u8, .rws, .std, 0, [(0, 8)], 0⟩,
  ⟨.mast, 0x002D, 0x002D, 0x04, 0x04, .u8, .rws, .std, 0, [(0, 8)], 0⟩,
  ⟨.mast, 0x0021, 0x0021, 0x05, 0x05, .i16, .rws, .std, 0, [], 0⟩,
  ⟨.mast, 0x0023, 0x0023, 0x05, 0x05, .i16, .rws, .std, 0, [], 0⟩,
  ⟨.mast, 0x0025, 0x0025, 0x05, 0x05, .i16, .rws, .std, 0, [], 0⟩,
  ⟨.mast, 0x0026, 0x0026, 0x05, 0x05, .i16, .rws, .std, 0, [], 0⟩,
  ⟨.mast, 0x0028, 0x0028, 0x05, 0x05, .i16, .rws, .std, 0, [], 0⟩,
  ⟨.mast, 0x0029, 0x0029, 0x05, 0x05, .i16, .rws, .std, 0, [], 0⟩,
  ⟨.mast, 0x002B, 0x002B, 0x05, 0x05, .i16, .rws, .std, 0, [], 0⟩,
  ⟨.mast, 0x002C, 0x002C, 0x05, 0x05, .i16, .rws, .std, 0, [], 0⟩,
  ⟨.mast, 0x002D, 0x002D, 0x05, 0x05, .i16, .rws, .std, 0, [], 0⟩,
  ⟨.mast, 0x0021, 0x0021, 0x06, 0x06, .u8, .rws, .std, 0, [(0, 8)], 0⟩,
  ⟨.mast, 0x0023, 0x0023, 0x06, 0x06, .u8, .rws, .std, 0, [(0, 8)], 0⟩,
  ⟨.mast, 0x0025, 0x0025, 0x06, 0x06, .u8, .rws, .std, 0, [(0, 8)], 0⟩,
  ⟨.mast, 0x0026, 0x0026, 0x06, 0x06, .u8, .rws, .std, 0, [(0, 8)], 0⟩,
  ⟨.mast, 0x0028, 0x0028, 0x06, 0x06, .u8, .rws, .std, 0, [(0, 8)], 0⟩,
  ⟨.mast, 0x0029, 0x0029, 0x06, 0x06, .u8, .rws, .std, 0, [(0, 8)], 0⟩,
  ⟨.mast, 0x002B, 0x002B, 0x06, 0x06, .u8, .rws, .std, 0, [(0, 8)], 0⟩,
  ⟨.mast, 0x002C, 0x002C, 0x06, 0x06, .u8, .rws, .std, 0, [(0, 8)], 0⟩,
  ⟨.mast, 0x002D, 0x002D, 0x06, 0x06, .u8, .rws, .std, 0, [(0, 8)], 0⟩]

/-- Rows of the object tables of chapter 4, part 2. -/
def objRows04b : List ObjRow := [
  ⟨.mast, 0x0021, 0x0021, 0x07, 0x07, .i16, .rws, .std, 0, [], 0⟩,
  ⟨.mast, 0x0023, 0x0023, 0x07, 0x07, .i16, .rws, .std, 0, [], 0⟩,
  ⟨.mast, 0x0025, 0x0025, 0x07, 0x07, .i16, .rws, .std, 0, [], 0⟩,
  ⟨.mast, 0x0026, 0x0026, 0x07, 0x07, .i16, .rws, .std, 0, [], 0⟩,
  ⟨.mast, 0x0028, 0x0028, 0x07, 0x07, .i16, .rws, .std, 0, [], 0⟩,
  ⟨.mast, 0x0029, 0x0029, 0x07, 0x07, .i16, .rws, .std, 0, [], 0⟩,
  ⟨.mast, 0x002B, 0x002B, 0x07, 0x07, .i16, .rws, .std, 0, [], 0⟩,
  ⟨.mast, 0x002C, 0x002C, 0x07, 0x07, .i16, .rws, .std, 0, [], 0⟩,
  ⟨.mast, 0x002D, 0x002D, 0x07, 0x07, .i16, .rws, .std, 0, [], 0⟩,
  ⟨.mast, 0x0021, 0x0021, 0x08, 0x08, .u8, .rws, .std, 0, [(0, 8)], 0⟩,
  ⟨.mast, 0x0023, 0x0023, 0x08, 0x08, .u8, .rws, .std, 0, [(0, 8)], 0⟩,
  ⟨.mast, 0x0025, 0x0025, 0x08, 0x08, .u8, .rws, .std, 0, [(0, 8)], 0⟩,
  ⟨.mast, 0x0026, 0x0026, 0x08, 0x08, .u8, .rws, .std, 0, [(0, 8)], 0⟩,
  ⟨.mast, 0x0028, 0x0028, 0x08, 0x08, .u8, .rws, .std, 0, [(0, 8)], 0⟩,
  ⟨.mast, 0x0029, 0x0029, 0x08, 0x08, .u8, .rws, .std, 0, [(0, 8)], 0⟩,
  ⟨.mast, 0x002B, 0x002B, 0x08, 0x08, .u8, .rws, .std, 0, [(0, 8)], 0⟩,
  ⟨.mast, 0x002C, 0x002C, 0x08, 0x08, .u8, .rws, .std, 0, [(0, 8)], 0⟩,
  ⟨.mast, 0x002D, 0x002D, 0x08, 0x08, .u8, .rws, .std, 0, [(0, 8)], 0⟩,
  ⟨.mast, 0x0021, 0x0021, 0x09, 0x09, .i16, .rws, .std, 32767, [(0, 32767)], 0⟩,
  ⟨.mast, 0x0023, 0x0023, 0x09, 0x09, .i16, .rws, .std, 32767, [(0, 32767)], 0⟩,
  ⟨.mast, 0x0025, 0x0025, 0x09, 0x09, .i16, .rws, .std, 32767, [(0, 32767)], 0⟩,
  ⟨.mast, 0x0026, 0x0026, 0x09, 0x09, .i16, .rws, .std, 32767, [(0, 32767)], 0⟩,
  ⟨.mast, 0x0028, 0x0028, 0x09, 0x09, .i16, .rws, .std, 32767, [(0, 32767)], 0⟩,
  ⟨.mast, 0x0029, 0x0029, 0x09, 0x09, .i16, .rws, .std, 32767, [(0, 32767)], 0⟩,
  ⟨.mast, 0x002B, 0x002B, 0x09, 0x09, .i16, .rws, .std, 32767, [(0, 32767)], 0⟩,
  ⟨.mast, 0x002C, 0x002C, 0x09, 0x09, .i16, .rws, .std, 32767, [(0, 32767)], 0⟩,
  ⟨.mast, 0x002D, 0x002D, 0x09, 0x09, .i16, .rws, .std, 32767, [(0, 32767)], 0⟩,
  ⟨.mast, 0x0021, 0x0021, 0x0A, 0x0A, .i16, .rws, .std, (-32767), [(-32767, 32767)], 0⟩,
  ⟨.mast, 0x0023, 0x0023, 0x0A, 0x0A, .i16, .rws, .std, (-32767), [(-32767, 32767)], 0⟩,
  ⟨.mast, 0x0025, 0x0025, 0x0A, 0x0A, .i16, .rws, .std, (-32767), [(-32767, 32767)], 0⟩,
  ⟨.mast, 0x0026, 0x0026, 0x0A, 0x0A, .i16, .rws, .std, (-32767), [(-32767, 32767)], 0⟩,
  ⟨.mast, 0x0028, 0x0028, 0x0A, 0x0A, .i16, .rws, .std, (-32767), [(-32767, 32767)], 0⟩,
  ⟨.mast, 0x0029, 0x0029, 0x0A, 0x0A, .i16, .rws, .std, (-32767), [(-32767, 32767)], 0⟩,
  ⟨.mast, 0x002B, 0x002B, 0x0A, 0x0A, .i16, .rws, .std, (-32767), [(-32767, 32767)], 0⟩,
  ⟨.mast, 0x002C, 0x002C, 0x0A, 0x0A, .i16, .rws, .std, (-32767), [(-32767, 32767)], 0⟩,
  ⟨.mast, 0x002D, 0x002D, 0x0A, 0x0A, .i16, .rws, .std, (-32767), [(-32767, 32767)], 0⟩,
  ⟨.mast, 0x0021, 0x0021, 0x0B, 0x0B, .i16, .rws, .std, 32767, [(-32767, 32767)], 0⟩,
  ⟨.mast, 0x0023, 0x0023, 0x0B, 0x0B, .i16, .rws, .std, 32767, [(-32767, 32767)], 0⟩,
  ⟨.mast, 0x0025, 0x0025, 0x0B, 0x0B, .i16, .rws, .std, 32767, [(-32767, 32767)], 0⟩,
  ⟨.mast, 0x0026, 0x0026, 0x0B, 0x0B, .i16, .rws, .std, 32767, [(-32767, 32767)], 0⟩,
  ⟨.mast, 0x0028, 0x0028, 0x0B, 0x0B, .i16, .rws, .std, 32767, [(-32767, 32767)], 0⟩,
  ⟨.mast, 0x0029, 0x0029, 0x0B, 0x0B, .i16, .rws, .std, 32767, [(-32767, 32767)], 0⟩,
  ⟨.mast, 0x002B, 0x002B, 0x0B, 0x0B, .i16, .rws, .std, 32767, [(-32767, 32767)], 0⟩,
  ⟨.mast, 0x002C, 0x002C, 0x0B, 0x0B, .i16, .rws, .std, 32767, [(-32767, 32767)], 0⟩,
  ⟨.mast, 0x002D, 0x002D, 0x0B, 0x0B, .i16, .rws, .std, 32767, [(-32767, 32767)], 0⟩,
  ⟨.mast, 0x0021, 0x0021, 0x0C, 0x0C, .i16, .rws, .std, 0, [(-32767, 32767)], 0⟩,
  ⟨.mast, 0x0023, 0x0023, 0x0C, 0x0C, .i16, .rws, .std, 0, [(-32767, 32767)], 0⟩,
  ⟨.mast, 0x0025, 0x0025, 0x0C, 0x0C, .i16, .rws, .std, 0, [(-32767, 32767)], 0⟩,
  ⟨.mast, 0x0026, 0x0026, 0x0C, 0x0C, .i16, .rws, .std, 0, [(-32767, 32767)], 0⟩,
  ⟨.mast, 0x0028, 0x0028, 0x0C, 0x0C, .i16, .rws, .std, 0, [(-32767, 32767)], 0⟩,
  ⟨.mast, 0x0029, 0x0029, 0x0C, 0x0C, .i16, .rws, .std, 0, [(-32767, 32767)], 0⟩,
  ⟨.mast, 0x002B, 0x002B, 0x0C, 0x0C, .i16, .rws, .std, 0, [(-32767, 32767)], 0⟩,
  ⟨.mast, 0x002C, 0x002C, 0x0C, 0x0C, .i16, .rws, .std, 0, [(-32767, 32767)], 0⟩,
  ⟨.mast, 0x002D, 0x002D, 0x0C, 0x0C, .i16, .rws, .std, 0, [(-32767, 32767)], 0⟩,
  ⟨.mast, 0x0022, 0x0022, 0x01, 0x01, .u8, .ro, .std, 2, [], 0⟩,
  ⟨.mast, 0x0024, 0x0024, 0x01, 0x01, .u8, .ro, .std, 2, [], 0⟩,
  ⟨.mast, 0x0022, 0x0022, 0x02, 0x02, .u8, .rws, .std, 0, [], 0⟩,
  ⟨.mast, 0x0024, 0x0024, 0x02, 0x02, .u8, .rws, .std, 0, [], 0⟩,
  ⟨.mast, 0x0022, 0x0022, 0x03, 0x03, .u8, .rws, .std, 0, [], 0x2⟩,
  ⟨.mast, 0x0024, 0x0024, 0x03, 0x03, .u8, .rws, .std, 0, [], 0x2⟩,
  ⟨.mast, 0x0022, 0x0022, 0x10, 0x10, .i16, .rws, .std, 0, [], 0⟩,
  ⟨.mast, 0x0022, 0x0022, 0x18, 0x18, .i16, .rws, .std, 0, [], 0⟩]

/-- Rows of the object tables of chapter 4, part 3. -/
def objRows04c : List ObjRow := [
  ⟨.mast, 0x0022, 0x0022, 0x20, 0x20, .i16, .rws, .std, 0, [], 0⟩,
  ⟨.mast, 0x0022, 0x0022, 0x28, 0x28, .i16, .rws, .std, 0, [], 0⟩,
  ⟨.mast, 0x0022, 0x0022, 0x30, 0x30, .i16, .rws, .std, 0, [], 0⟩,
  ⟨.mast, 0x0022, 0x0022, 0x38, 0x38, .i16, .rws, .std, 0, [], 0⟩,
  ⟨.mast, 0x0022, 0x0022, 0x40, 0x40, .i16, .rws, .std, 0, [], 0⟩,
  ⟨.mast, 0x0022, 0x0022, 0x48, 0x48, .i16, .rws, .std, 0, [], 0⟩,
  ⟨.mast, 0x0024, 0x0024, 0x10, 0x10, .i16, .rws, .std, 0, [], 0⟩,
  ⟨.mast, 0x0024, 0x0024, 0x18, 0x18, .i16, .rws, .std, 0, [], 0⟩,
  ⟨.mast, 0x0024, 0x0024, 0x20, 0x20, .i16, .rws, .std, 0, [], 0⟩,
  ⟨.mast, 0x0024, 0x0024, 0x28, 0x28, .i16, .rws, .std, 0, [], 0⟩,
  ⟨.mast, 0x0024, 0x0024, 0x30, 0x30, .i16, .rws, .std, 0, [], 0⟩,
  ⟨.mast, 0x0024, 0x0024, 0x38, 0x38, .i16, .rws, .std, 0, [], 0⟩,
  ⟨.mast, 0x0024, 0x0024, 0x40, 0x40, .i16, .rws, .std, 0, [], 0⟩,
  ⟨.mast, 0x0024, 0x0024, 0x48, 0x48, .i16, .rws, .std, 0, [], 0⟩,
  ⟨.mast, 0x0022, 0x0022, 0x11, 0x11, .i16, .rws, .std, 0, [], 0⟩,
  ⟨.mast, 0x0022, 0x0022, 0x19, 0x19, .i16, .rws, .std, 0, [], 0⟩,
  ⟨.mast, 0x0022, 0x0022, 0x21, 0x21, .i16, .rws, .std, 0, [], 0⟩,
  ⟨.mast, 0x0022, 0x0022, 0x29, 0x29, .i16, .rws, .std, 0, [], 0⟩,
  ⟨.mast, 0x0022, 0x0022, 0x31, 0x31, .i16, .rws, .std, 0, [], 0⟩,
  ⟨.mast, 0x0022, 0x0022, 0x39, 0x39, .i16, .rws, .std, 0, [], 0⟩,
  ⟨.mast, 0x0022, 0x0022, 0x41, 0x41, .i16, .rws, .std, 0, [], 0⟩,
  ⟨.mast, 0x0022, 0x0022, 0x49, 0x49, .i16, .rws, .std, 0, [], 0⟩,
  ⟨.mast, 0x0024, 0x0024, 0x11, 0x11, .i16, .rws, .std, 0, [], 0⟩,
  ⟨.mast, 0x0024, 0x0024, 0x19, 0x19, .i16, .rws, .std, 0, [], 0⟩,
  ⟨.mast, 0x0024, 0x0024, 0x21, 0x21, .i16, .rws, .std, 0, [], 0⟩,
  ⟨.mast, 0x0024, 0x0024, 0x29, 0x29, .i16, .rws, .std, 0, [], 0⟩,
  ⟨.mast, 0x0024, 0x0024, 0x31, 0x31, .i16, .rws, .std, 0, [], 0⟩,
  ⟨.mast, 0x0024, 0x0024, 0x39, 0x39, .i16, .rws, .std, 0, [], 0⟩,
  ⟨.mast, 0x0024, 0x0024, 0x41, 0x41, .i16, .rws, .std, 0, [], 0⟩,
  ⟨.mast, 0x0024, 0x0024, 0x49, 0x49, .i16, .rws, .std, 0, [], 0⟩,
  ⟨.mast, 0x0022, 0x0022, 0x12, 0x12, .i16, .rws, .std, 0, [], 0⟩,
  ⟨.mast, 0x0022, 0x0022, 0x1A, 0x1A, .i16, .rws, .std, 0, [], 0⟩,
  ⟨.mast, 0x0022, 0x0022, 0x22, 0x22, .i16, .rws, .std, 0, [], 0⟩,
  ⟨.mast, 0x0022, 0x0022, 0x2A, 0x2A, .i16, .rws, .std, 0, [], 0⟩,
  ⟨.mast, 0x0022, 0x0022, 0x32, 0x32, .i16, .rws, .std, 0, [], 0⟩,
  ⟨.mast, 0x0022, 0x0022, 0x3A, 0x3A, .i16, .rws, .std, 0, [], 0⟩,
  ⟨.mast, 0x0022, 0x0022, 0x42, 0x42, .i16, .rws, .std, 0, [], 0⟩,
  ⟨.mast, 0x0022, 0x0022, 0x4A, 0x4A, .i16, .rws, .std, 0, [], 0⟩,
  ⟨.mast, 0x0024, 0x0024, 0x12, 0x12, .i16, .rws, .std, 0, [], 0⟩,
  ⟨.mast, 0x0024, 0x0024, 0x1A, 0x1A, .i16, .rws, .std, 0, [], 0⟩,
  ⟨.mast, 0x0024, 0x0024, 0x22, 0x22, .i16, .rws, .std, 0, [], 0⟩,
  ⟨.mast, 0x0024, 0x0024, 0x2A, 0x2A, .i16, .rws, .std, 0, [], 0⟩,
  ⟨.mast, 0x0024, 0x0024, 0x32, 0x32, .i16, .rws, .std, 0, [], 0⟩,
  ⟨.mast, 0x0024, 0x0024, 0x3A, 0x3A, .i16, .rws, .std, 0, [], 0⟩,
  ⟨.mast, 0x0024, 0x0024, 0x42, 0x42, .i16, .rws, .std, 0, [], 0⟩,
  ⟨.mast, 0x0024, 0x0024, 0x4A, 0x4A, .i16, .rws, .std, 0, [], 0⟩,
  ⟨.mast, 0x0022, 0x0022, 0x13, 0x13, .i16, .rws, .std, 0, [], 0⟩,
  ⟨.mast, 0x0022, 0x0022, 0x1B, 0x1B, .i16, .rws, .std, 0, [], 0⟩,
  ⟨.mast, 0x0022, 0x0022, 0x23, 0x23, .i16, .rws, .std, 0, [], 0⟩,
  ⟨.mast, 0x0022, 0x0022, 0x2B, 0x2B, .i16, .rws, .std, 0, [], 0⟩,
  ⟨.mast, 0x0022, 0x0022, 0x33, 0x33, .i16, .rws, .std, 0, [], 0⟩,
  ⟨.mast, 0x0022, 0x0022, 0x3B, 0x3B, .i16, .rws, .std, 0, [], 0⟩,
  ⟨.mast, 0x0022, 0x0022, 0x43, 0x43, .i16, .rws, .std, 0, [], 0⟩,
  ⟨.mast, 0x0022, 0x0022, 0x4B, 0x4B, .i16, .rws, .std, 0, [], 0⟩,
  ⟨.mast, 0x0024, 0x0024, 0x13, 0x13, .i16, .rws, .std, 0, [], 0⟩,
  ⟨.mast, 0x0024, 0x0024, 0x1B, 0x1B, .i16, .rws, .std, 0, [], 0⟩,
  ⟨.mast, 0x0024, 0x0024, 0x23, 0x23, .i16, .rws, .std, 0, [], 0⟩,
  ⟨.mast, 0x0024, 0x0024, 0x2B, 0x2B, .i16, .rws, .std, 0, [], 0⟩,
  ⟨.mast, 0x0024, 0x0024, 0x33, 0x33, .i16, .rws, .std, 0, [], 0⟩,
  ⟨.mast, 0x0024, 0x0024, 0x3B, 0x3B, .i16, .rws, .std, 0, [], 0⟩]

/-- Rows of the object tables of chapter 4, part 4. -/
def objRows04d : List ObjRow := [
  ⟨.mast, 0x0024, 0x0024, 0x43, 0x43, .i16, .rws, .std, 0, [], 0⟩,
  ⟨.mast, 0x0024, 0x0024, 0x4B, 0x4B, .i16, .rws, .std, 0, [], 0⟩,
  ⟨.mast, 0x0022, 0x0022, 0x14, 0x14, .i16, .rws, .std, 0, [], 0⟩,
  ⟨.mast, 0x0022, 0x0022, 0x1C, 0x1C, .i16, .rws, .std, 0, [], 0⟩,
  ⟨.mast, 0x0022, 0x0022, 0x24, 0x24, .i16, .rws, .std, 0, [], 0⟩,
  ⟨.mast, 0x0022, 0x0022, 0x2C, 0x2C, .i16, .rws, .std, 0, [], 0⟩,
  ⟨.mast, 0x0022, 0x0022, 0x34, 0x34, .i16, .rws, .std, 0, [], 0⟩,
  ⟨.mast, 0x0022, 0x0022, 0x3C, 0x3C, .i16, .rws, .std, 0, [], 0⟩,
  ⟨.mast, 0x0022, 0x0022, 0x44, 0x44, .i16, .rws, .std, 0, [], 0⟩,
  ⟨.mast, 0x0022, 0x0022, 0x4C, 0x4C, .i16, .rws, .std, 0, [], 0⟩,
  ⟨.mast, 0x0024, 0x0024, 0x14, 0x14, .i16, .rws, .std, 0, [], 0⟩,
  ⟨.mast, 0x0024, 0x0024, 0x1C, 0x1C, .i16, .rws, .std, 0, [], 0⟩,
  ⟨.mast, 0x0024, 0x0024, 0x24, 0x24, .i16, .rws, .std, 0, [], 0⟩,
  ⟨.mast, 0x0024, 0x0024, 0x2C, 0x2C, .i16, .rws, .std, 0, [], 0⟩,
  ⟨.mast, 0x0024, 0x0024, 0x34, 0x34, .i16, .rws, .std, 0, [], 0⟩,
  ⟨.mast, 0x0024, 0x0024, 0x3C, 0x3C, .i16, .rws, .std, 0, [], 0⟩,
  ⟨.mast, 0x0024, 0x0024, 0x44, 0x44, .i16, .rws, .std, 0, [], 0⟩,
  ⟨.mast, 0x0024, 0x0024, 0x4C, 0x4C, .i16, .rws, .std, 0, [], 0⟩,
  ⟨.mast, 0x0022, 0x0022, 0x15, 0x15, .u8, .rws, .std, 0, [(0, 8)], 0⟩,
  ⟨.mast, 0x0022, 0x0022, 0x1D, 0x1D, .u8, .rws, .std, 0, [(0, 8)], 0⟩,
  ⟨.mast, 0x0022, 0x0022, 0x25, 0x25, .u8, .rws, .std, 0, [(0, 8)], 0⟩,
  ⟨.mast, 0x0022, 0x0022, 0x2D, 0x2D, .u8, .rws, .std, 0, [(0, 8)], 0⟩,
  ⟨.mast, 0x0022, 0x0022, 0x35, 0x35, .u8, .rws, .std, 0, [(0, 8)], 0⟩,
  ⟨.mast, 0x0022, 0x0022, 0x3D, 0x3D, .u8, .rws, .std, 0, [(0, 8)], 0⟩,
  ⟨.mast, 0x0022, 0x0022, 0x45, 0x45, .u8, .rws, .std, 0, [(0, 8)], 0⟩,
  ⟨.mast, 0x0022, 0x0022, 0x4D, 0x4D, .u8, .rws, .std, 0, [(0, 8)], 0⟩,
  ⟨.mast, 0x0024, 0x0024, 0x15, 0x15, .u8, .rws, .std, 0, [(0, 8)], 0⟩,
  ⟨.mast, 0x0024, 0x0024, 0x1D, 0x1D, .u8, .rws, .std, 0, [(0, 8)], 0⟩,
  ⟨.mast, 0x0024, 0x0024, 0x25, 0x25, .u8, .rws, .std, 0, [(0, 8)], 0⟩,
  ⟨.mast, 0x0024, 0x0024, 0x2D, 0x2D, .u8, .rws, .std, 0, [(0, 8)], 0⟩,
  ⟨.mast, 0x0024, 0x0024, 0x35, 0x35, .u8, .rws, .std, 0, [(0, 8)], 0⟩,
  ⟨.mast, 0x0024, 0x0024, 0x3D, 0x3D, .u8, .rws, .std, 0, [(0, 8)], 0⟩,
  ⟨.mast, 0x0024, 0x0024, 0x45, 0x45, .u8, .rws, .std, 0, [(0, 8)], 0⟩,
  ⟨.mast, 0x0024, 0x0024, 0x4D, 0x4D, .u8, .rws, .std, 0, [(0, 8)], 0⟩,
  ⟨.mast, 0x002A, 0x002A, 0x01, 0x01, .u8, .ro, .std, 4, [], 0⟩,
  ⟨.mast, 0x002A, 0x002A, 0x02, 0x02, .u8, .rws, .std, 1, [], 0x17⟩,
  ⟨.mast, 0x002A, 0x002A, 0x03, 0x03, .i16, .rws, .std, 32767, [(-32767, 32767)], 0⟩,
  ⟨.mast, 0x002E, 0x002E, 0x01, 0x01, .u8, .ro, .std, 0, [], 0⟩,
  ⟨.mast, 0x002E, 0x002E, 0x02, 0x02, .u8, .wo, .std, 0, [(1, 3)], 0⟩,
  ⟨.mast, 0x002E, 0x002E, 0x03, 0x03, .u8, .rwi, .std, 1, [(1, 13)], 0⟩,
  ⟨.mast, 0x002E, 0x002E, 0x04, 0x04, .u16, .rwi, .std, 1, [(1, 256)], 0⟩,
  ⟨.mast, 0x002E, 0x002E, 0x05, 0x08, .u16, .rwi, .std, 0, [], 0⟩,
  ⟨.mast, 0x002E, 0x002E, 0x09, 0x09, .u16, .rwi, .std, 4096, [(0, 8191)], 0⟩,
  ⟨.mast, 0x002E, 0x002E, 0x0A, 0x0A, .u8, .rwi, .std, 0, [(0, 4)], 0⟩,
  ⟨.mast, 0x002E, 0x002E, 0x0B, 0x0B, .i16, .rwi, .std, 0, [], 0⟩,
  ⟨.mast, 0x002E, 0x002E, 0x0C, 0x0C, .u16, .rwi, .std, 0, [], 0x3f⟩,
  ⟨.mast, 0x002F, 0x002F, 0x01, 0x01, (.dom 65568), .ro, .std, 0, [], 0⟩]

/-- Rows of the object tables of chapter 5, part 1. -/
def objRows05a : List ObjRow := [
  ⟨.mast, 0x0030, 0x0030, 0x01, 0x01, .u8, .ro, .std, 0, [], 0⟩,
  ⟨.mast, 0x0030, 0x0030, 0x02, 0x02, .u8, .ro, .std, 0, [], 0⟩,
  ⟨.mast, 0x0030, 0x0030, 0x03, 0x03, .u32, .ro, .std, 0, [], 0⟩,
  ⟨.mast, 0x0030, 0x0030, 0x04, 0x04, .u8, .ro, .std, 0, [], 0⟩,
  ⟨.mast, 0x0030, 0x0030, 0x05, 0x05, .u8, .rwi, .std, 0, [(0, 2)], 0⟩,
  ⟨.mast, 0x0030, 0x0030, 0x06, 0x06, .i16, .rwi, .std, 0, [], 0⟩,
  ⟨.mast, 0x0030, 0x0030, 0x07, 0x07, .i16, .rwi, .std, 0, [], 0⟩,
  ⟨.mast, 0x0030, 0x0030, 0x08, 0x08, .u8, .ro, .std, 0, [], 0⟩,
  ⟨.mast, 0x0030, 0x0030, 0x09, 0x09, .i16, .rwi, .std, 0, [], 0⟩,
  ⟨.mast, 0x0030, 0x0030, 0x0A, 0x0A, .i16, .ro, .std, 0, [], 0⟩,
  ⟨.mast, 0x0031, 0x0031, 0x01, 0x01, .i16, .rws, .std, 8192, [(1, 32767)], 0⟩,
  ⟨.mast, 0x0031, 0x0031, 0x02, 0x02, .i16, .rws, .std, 4096, [(1, 32767)], 0⟩,
  ⟨.mast, 0x0031, 0x0031, 0x03, 0x03, .i16, .rws, .std, 1024, [(1, 32767)], 0⟩,
  ⟨.mast, 0x0031, 0x0031, 0x87, 0x87, .i16, .rws, .std, 8192, [(1, 32767)], 0⟩,
  ⟨.mast, 0x0031, 0x0031, 0x04, 0x04, .i16, .rws, .std, 2048, [(1, 32767)], 0⟩,
  ⟨.mast, 0x0031, 0x0031, 0x89, 0x89, .i16, .rws, .std, 8192, [(1, 32767)], 0⟩,
  ⟨.mast, 0x0031, 0x0031, 0x05, 0x05, .i16, .rws, .std, 4096, [(1, 32767)], 0⟩,
  ⟨.mast, 0x0031, 0x0031, 0x06, 0x06, .i16, .rws, .std, 256, [(1, 32767)], 0⟩,
  ⟨.mast, 0x0031, 0x0031, 0x8D, 0x8D, .i16, .rws, .std, 2048, [(1, 32767)], 0⟩,
  ⟨.mast, 0x0031, 0x0031, 0x07, 0x07, .i16, .rws, .std, 1024, [(1, 32767)], 0⟩,
  ⟨.mast, 0x0031, 0x0031, 0x8F, 0x8F, .i16, .rws, .std, 8192, [(1, 32767)], 0⟩,
  ⟨.mast, 0x0031, 0x0031, 0x08, 0x08, .i16, .rws, .std, 4096, [(1, 32767)], 0⟩,
  ⟨.mast, 0x0031, 0x0031, 0x09, 0x09, .i16, .rws, .std, 64, [(1, 32767)], 0⟩,
  ⟨.mast, 0x0031, 0x0031, 0x93, 0x93, .i16, .rws, .std, 1024, [(1, 32767)], 0⟩,
  ⟨.mast, 0x0031, 0x0031, 0x0A, 0x0A, .i16, .rws, .std, 16384, [(1, 32767)], 0⟩,
  ⟨.mast, 0x0031, 0x0031, 0x0B, 0x0B, .u16, .rws, .std, 16, [(2, 1024)], 0⟩,
  ⟨.mast, 0x0031, 0x0031, 0x0C, 0x0C, .i16, .rws, .std, 6554, [(1, 32767)], 0⟩,
  ⟨.mast, 0x0031, 0x0031, 0x99, 0x99, .i16, .rws, .std, 9830, [(1, 32767)], 0⟩,
  ⟨.mast, 0x0031, 0x0031, 0x0D, 0x0D, .u16, .rws, .std, 60, [(10, 1000)], 0⟩,
  ⟨.mast, 0x0031, 0x0031, 0x9B, 0x9B, .u16, .rws, .std, 40, [(10, 1000)], 0⟩,
  ⟨.mast, 0x0031, 0x0031, 0x0E, 0x0E, .u16, .rws, .std, 5243, [(0, 16384)], 0⟩,
  ⟨.mast, 0x0031, 0x0031, 0x0F, 0x0F, .i16, .rws, .std, 1024, [(0, 16384)], 0⟩,
  ⟨.mast, 0x0033, 0x0033, 0x01, 0x10, .i16, .rwi, .std, 0, [], 0⟩,
  ⟨.mast, 0x0033, 0x0033, 0x11, 0x20, .i16, .rwi, .std, 0, [], 0⟩,
  ⟨.mast, 0x0033, 0x0033, 0x21, 0x30, .i16, .rwi, .std, 0, [], 0⟩,
  ⟨.mast, 0x0034, 0x0034, 0x01, 0x01, .u8, .rws, .std, 22, [(0, 24)], 0⟩,
  ⟨.mast, 0x0034, 0x0034, 0x02, 0x02, .i16, .rwi, .std, 0, [], 0⟩,
  ⟨.mast, 0x0034, 0x0034, 0x03, 0x03, .u16, .rws, .std, 2048, [(1, 65535)], 0⟩,
  ⟨.mast, 0x0034, 0x0034, 0x04, 0x04, .u64, .ro, .std, 0, [], 0⟩,
  ⟨.mast, 0x0034, 0x0034, 0x05, 0x05, .u32, .ro, .std, 0, [], 0⟩,
  ⟨.mast, 0x0035, 0x0035, 0x01, 0x01, .u8, .wo, .std, 0, [(1, 4)], 0⟩,
  ⟨.mast, 0x0035, 0x0035, 0x02, 0x02, .u8, .ro, .std, 0, [], 0⟩,
  ⟨.mast, 0x0035, 0x0035, 0x03, 0x03, .u8, .rw, .std, 0, [(0, 15)], 0⟩,
  ⟨.mast, 0x0035, 0x0035, 0x04, 0x04, .i16, .rws, .std, 128, [(1, 2048)], 0⟩,
  ⟨.mast, 0x0035, 0x0035, 0x05, 0x05, .i16, .rws, .std, 64, [(1, 2048)], 0⟩,
  ⟨.mast, 0x0035, 0x0035, 0x06, 0x06, .i16, .rws, .std, 256, [(1, 2048)], 0⟩,
  ⟨.mast, 0x0035, 0x0035, 0x8D, 0x8D, .i16, .rws, .std, 128, [(1, 2048)], 0⟩]

/-- Rows of the object tables of chapter 6, part 1. -/
def objRows06a : List ObjRow := [
  ⟨.mast, 0x0027, 0x0027, 0x01, 0x01, .u8, .ro, .std, 3, [], 0⟩,
  ⟨.mast, 0x0027, 0x0027, 0x02, 0x02, .i16, .rwi, .std, 0, [], 0⟩,
  ⟨.mast, 0x0027, 0x0027, 0x85, 0x85, .u8, .rwi, .std, 0, [(0, 8)], 0⟩,
  ⟨.mast, 0x0027, 0x0027, 0x03, 0x03, .i16, .rwi, .std, 0, [], 0⟩,
  ⟨.mast, 0x0027, 0x0027, 0x87, 0x87, .u8, .rwi, .std, 0, [(0, 8)], 0⟩,
  ⟨.mast, 0x0027, 0x0027, 0x04, 0x04, .i16, .rwi, .std, 0, [], 0⟩,
  ⟨.mast, 0x0027, 0x0027, 0x89, 0x89, .u8, .rwi, .std, 0, [(0, 8)], 0⟩,
  ⟨.mast, 0x0027, 0x0027, 0x05, 0x05, .i16, .rwi, .std, 0, [], 0⟩,
  ⟨.mast, 0x0027, 0x0027, 0x8B, 0x8B, .u8, .rwi, .std, 0, [(0, 8)], 0⟩,
  ⟨.mast, 0x0027, 0x0027, 0x06, 0x06, .i16, .rwi, .std, 0, [], 0⟩,
  ⟨.mast, 0x0027, 0x0027, 0x8D, 0x8D, .u8, .rwi, .std, 0, [(0, 8)], 0⟩,
  ⟨.mast, 0x0027, 0x0027, 0x07, 0x07, .i16, .rwi, .std, 0, [], 0⟩,
  ⟨.mast, 0x0027, 0x0027, 0x8F, 0x8F, .u8, .rwi, .std, 0, [(0, 8)], 0⟩,
  ⟨.mast, 0x0027, 0x0027, 0x08, 0x08, .i16, .rws, .std, 328, [(1, 32767)], 0⟩,
  ⟨.mast, 0x0027, 0x0027, 0x09, 0x09, .u8, .rwi, .std, 5, [(0, 8)], 0⟩,
  ⟨.mast, 0x0027, 0x0027, 0x0A, 0x0A, .u16, .ro, .std, 0, [], 0⟩,
  ⟨.mast, 0x0027, 0x0027, 0x0B, 0x0B, .i32, .ro, .std, 0, [], 0⟩,
  ⟨.mast, 0x0038, 0x0038, 0x01, 0x01, .u8, .ro, .std, 0, [], 0⟩,
  ⟨.mast, 0x0038, 0x0038, 0x02, 0x02, .i16, .ro, .std, 0, [], 0⟩,
  ⟨.mast, 0x0038, 0x0038, 0x03, 0x03, .u16, .ro, .std, 0, [], 0⟩,
  ⟨.mast, 0x0038, 0x0038, 0x04, 0x04, .u32, .ro, .std, 0, [], 0⟩,
  ⟨.mast, 0x0038, 0x0038, 0x05, 0x05, .u8, .rwi, .std, 4, [(1, 16)], 0⟩,
  ⟨.mast, 0x0038, 0x0038, 0x06, 0x06, .u16, .rwi, .std, 16000, [], 0⟩,
  ⟨.mast, 0x0038, 0x0038, 0x07, 0x07, .u8, .rwi, .std, 0, [(0, 1)], 0⟩,
  ⟨.mast, 0x0038, 0x0038, 0x08, 0x08, .bool, .rw, .std, 0, [(0, 0)], 0⟩,
  ⟨.mast, 0x0038, 0x0038, 0x09, 0x09, .u16, .rws, .std, 30, [(1, 1000)], 0⟩,
  ⟨.mast, 0x0038, 0x0038, 0x0A, 0x0A, .u16, .rws, .std, 2, [(1, 100)], 0⟩,
  ⟨.mast, 0x0038, 0x0038, 0x0B, 0x0B, .i16, .rws, .std, 0, [], 0⟩,
  ⟨.mast, 0x0038, 0x0038, 0x0C, 0x0C, .i16, .rws, .std, 6554, [(0, 32767)], 0⟩,
  ⟨.mast, 0x0038, 0x0038, 0x99, 0x99, .i16, .rws, .std, 6554, [(0, 32767)], 0⟩,
  ⟨.mast, 0x0038, 0x0038, 0x0D, 0x0D, .u16, .rws, .std, 200, [(10, 2000)], 0⟩,
  ⟨.mast, 0x0038, 0x0038, 0x0E, 0x0E, .u16, .rws, .std, 300, [(10, 10000)], 0⟩,
  ⟨.mast, 0x0038, 0x0038, 0x0F, 0x0F, .u16, .rws, .std, 600, [(100, 3000)], 0⟩,
  ⟨.mast, 0x0039, 0x0039, 0x01, 0x01, .i16, .rws, .std, 23347, [(1, 32767)], 0⟩,
  ⟨.mast, 0x0039, 0x0039, 0x02, 0x02, .i16, .rws, .std, 22118, [(1, 32767)], 0⟩,
  ⟨.mast, 0x0039, 0x0039, 0x03, 0x03, .i16, .rws, .std, 21299, [(1, 32767)], 0⟩,
  ⟨.mast, 0x0039, 0x0039, 0x04, 0x04, .u16, .rws, .std, 50790, [(1, 65535)], 0⟩,
  ⟨.mast, 0x0039, 0x0039, 0x05, 0x05, .u16, .rws, .std, 65535, [(1, 65535)], 0⟩,
  ⟨.mast, 0x0039, 0x0039, 0x06, 0x06, .i16, .rws, .std, 328, [(1, 32767)], 0⟩,
  ⟨.mast, 0x0039, 0x0039, 0x07, 0x07, .u8, .rws, .std, 8, [(2, 64)], 0⟩,
  ⟨.mast, 0x0039, 0x0039, 0x08, 0x08, .u16, .rws, .std, 20, [(1, 1000)], 0⟩,
  ⟨.mast, 0x003A, 0x003A, 0x01, 0x01, .u8, .rws, .std, 1, [(1, 8)], 0⟩,
  ⟨.mast, 0x003A, 0x003A, 0x02, 0x02, .u8, .rws, .std, 5, [(0, 100)], 0⟩,
  ⟨.mast, 0x003A, 0x003A, 0x85, 0x85, .u8, .rws, .std, 1, [(0, 100)], 0⟩,
  ⟨.mast, 0x003A, 0x003A, 0x03, 0x03, .u16, .rws, .std, 0, [(0, 15000)], 0⟩,
  ⟨.mast, 0x003A, 0x003A, 0x04, 0x04, .u32, .rws, .std, 65536, [(1, 4294967295)], 0⟩,
  ⟨.mast, 0x003A, 0x003A, 0x05, 0x05, .u8, .ro, .std, 0, [], 0⟩,
  ⟨.mast, 0x003A, 0x003A, 0x10, 0x17, .u8, .rws, .std, 0, [(0, 100)], 0⟩,
  ⟨.mast, 0x003A, 0x003A, 0x18, 0x1F, .u16, .rws, .std, 15000, [(0, 15000)], 0⟩,
  ⟨.mast, 0x003B, 0x003B, 0x01, 0x01, .u8, .rwi, .std, 1, [(1, 16)], 0⟩,
  ⟨.mast, 0x003B, 0x003B, 0x10, 0x1F, .u16, .rwi, .std, 60000, [(24000, 65535)], 0⟩,
  ⟨.mast, 0x003B, 0x003B, 0x20, 0x2F, .u16, .rwi, .std, 0, [(0, 15000)], 0⟩,
  ⟨.mast, 0x003C, 0x003C, 0x01, 0x01, .bool, .rws, .std, 0, [], 0⟩,
  ⟨.mast, 0x003C, 0x003C, 0x02, 0x02, .u16, .rws, .std, 1, [(1, 65535)], 0⟩,
  ⟨.mast, 0x003C, 0x003C, 0x85, 0x85, .u16, .rws, .std, 1, [(1, 65535)], 0⟩,
  ⟨.mast, 0x003C, 0x003C, 0x03, 0x03, .u32, .ro, .std, 0, [], 0⟩,
  ⟨.rig, 0x2130, 0x2130, 0x01, 0x01, .u8, .ro, .std, 0, [], 0⟩,
  ⟨.rig, 0x2130, 0x2130, 0x02, 0x02, .u32, .ro, .std, 0, [], 0⟩,
  ⟨.rig, 0x2130, 0x2130, 0x03, 0x03, .u16, .rws, .std, 100, [(1, 10000)], 0⟩,
  ⟨.rig, 0x2130, 0x2130, 0x04, 0x04, .u8, .wo, .std, 0, [(1, 1)], 0⟩]

/-- Rows of the object tables of chapter 6, part 2. -/
def objRows06b : List ObjRow := [
  ⟨.rig, 0x2130, 0x2130, 0x05, 0x05, .u16, .rws, .std, 1000, [(10, 60000)], 0⟩,
  ⟨.rig, 0x2131, 0x2131, 0x01, 0x01, .bool, .ro, .std, 0, [], 0⟩]

/-- Rows of the object tables of chapter 7, part 1. -/
def objRows07a : List ObjRow := [
  ⟨.mast, 0x003D, 0x003D, 0x01, 0x01, .u16, .rwi, .std, 64, [(1, 1), (2, 2), (4, 4), (8, 8), (16, 16), (32, 32), (64, 64), (128, 128), (256, 256)], 0⟩,
  ⟨.mast, 0x003D, 0x003D, 0x02, 0x02, .u32, .rwi, .std, 48000, [(256, 16777215)], 0⟩,
  ⟨.mast, 0x003D, 0x003D, 0x03, 0x03, .i8, .rwi, .std, 1, [(-1, -1), (1, 1)], 0⟩,
  ⟨.mast, 0x003D, 0x003D, 0x04, 0x04, .u32, .rws, .std, 1600000, [(1, 10000000)], 0⟩,
  ⟨.mast, 0x003D, 0x003D, 0x05, 0x05, .u32, .rws, .std, 2000, [(1, 4294967295)], 0⟩,
  ⟨.mast, 0x003D, 0x003D, 0x06, 0x06, .u32, .rws, .std, 260000, [(1, 10000000)], 0⟩,
  ⟨.mast, 0x003D, 0x003D, 0x07, 0x07, .u32, .rws, .std, 0, [(0, 10000000)], 0⟩,
  ⟨.mast, 0x003D, 0x003D, 0x08, 0x08, .i16, .rws, .std, 16384, [(0, 32767)], 0⟩,
  ⟨.mast, 0x003D, 0x003D, 0x09, 0x09, .i16, .rws, .std, 6554, [(0, 32767)], 0⟩,
  ⟨.mast, 0x003D, 0x003D, 0x0A, 0x0A, .u16, .rws, .std, 200, [(0, 60000)], 0⟩,
  ⟨.mast, 0x003D, 0x003D, 0x0B, 0x0B, .u16, .rws, .std, 40, [(1, 65535)], 0⟩,
  ⟨.mast, 0x003D, 0x003D, 0x0C, 0x0C, .u8, .rws, .std, 2, [(1, 64)], 0⟩,
  ⟨.mast, 0x003D, 0x003D, 0x0D, 0x0D, .u32, .rws, .std, 20000, [(1, 4294967295)], 0⟩,
  ⟨.mast, 0x003D, 0x003D, 0x0E, 0x0E, .u32, .rwi, .std, 200000, [(1, 2147483647)], 0⟩,
  ⟨.mast, 0x003D, 0x003D, 0x0F, 0x0F, .i32, .rwi, .std, 0, [], 0⟩,
  ⟨.mast, 0x003D, 0x003D, 0x10, 0x10, .i32, .rwi, .std, 400000, [], 0⟩,
  ⟨.mast, 0x003D, 0x003D, 0x11, 0x11, .i32, .rws, .std, 10000, [], 0⟩,
  ⟨.mast, 0x003E, 0x003E, 0x01, 0x01, .u8, .ro, .std, 0, [], 0⟩,
  ⟨.mast, 0x003E, 0x003E, 0x02, 0x02, .i64, .ro, .std, 0, [], 0⟩,
  ⟨.mast, 0x003E, 0x003E, 0x03, 0x03, .i64, .ro, .std, 0, [], 0⟩,
  ⟨.mast, 0x003E, 0x003E, 0x04, 0x04, .i32, .ro, .std, 0, [], 0⟩,
  ⟨.mast, 0x003E, 0x003E, 0x05, 0x05, .i32, .ro, .std, 0, [], 0⟩,
  ⟨.mast, 0x003E, 0x003E, 0x06, 0x06, .i32, .ro, .std, 0, [], 0⟩,
  ⟨.mast, 0x003E, 0x003E, 0x07, 0x07, .i16, .ro, .std, 0, [], 0⟩]

/-- Rows of the object tables of chapter 8, part 1. -/
def objRows08a : List ObjRow := [
  ⟨.mast, 0x0040, 0x0040, 0x01, 0x40, .u32, .rwi, .std, 0, [(0, 524287)], 0⟩,
  ⟨.mast, 0x0041, 0x0041, 0x01, 0x42, .u8, .rws, .std, 16, [(0, 63)], 0⟩,
  ⟨.mast, 0x0046, 0x0046, 0x01, 0x40, .u16, .rwi, .std, 32768, [(0, 65535)], 0⟩,
  ⟨.mast, 0x0047, 0x0047, 0x01, 0x40, .i16, .rwi, .std, 0, [(-1024, 1023)], 0⟩,
  ⟨.mast, 0x0048, 0x0048, 0x01, 0x40, .i16, .rwi, .std, 0, [], 0⟩,
  ⟨.mast, 0x0042, 0x0042, 0x01, 0x01, .u8, .rw, .std, 63, [], 0x3f⟩,
  ⟨.mast, 0x0042, 0x0042, 0x02, 0x02, .u8, .rws, .std, 20, [(10, 26)], 0⟩,
  ⟨.mast, 0x0042, 0x0042, 0x03, 0x03, .u8, .rws, .std, 20, [(10, 26)], 0⟩,
  ⟨.mast, 0x0042, 0x0042, 0x04, 0x04, .u8, .rws, .std, 22, [(10, 26)], 0⟩,
  ⟨.mast, 0x0042, 0x0042, 0x05, 0x05, .u8, .rws, .std, 18, [(10, 26)], 0⟩,
  ⟨.mast, 0x0042, 0x0042, 0x06, 0x06, .u8, .rws, .std, 0, [(0, 0), (12, 30)], 0⟩,
  ⟨.mast, 0x0042, 0x0042, 0x07, 0x07, .u8, .rws, .std, 18, [(10, 26)], 0⟩,
  ⟨.mast, 0x0042, 0x0042, 0x08, 0x08, .u8, .rws, .std, 24, [(0, 0), (12, 30)], 0⟩,
  ⟨.mast, 0x0042, 0x0042, 0x09, 0x09, .u8, .rws, .std, 2, [(0, 8)], 0⟩,
  ⟨.mast, 0x0042, 0x0042, 0x0A, 0x0A, .u8, .rws, .std, 1, [(0, 3)], 0⟩,
  ⟨.mast, 0x0042, 0x0042, 0x0B, 0x0B, .u8, .rws, .std, 4, [(0, 64)], 0⟩,
  ⟨.mast, 0x0042, 0x0042, 0x0C, 0x0C, .u32, .rws, .std, 1985500, [(1, 16777215)], 0⟩,
  ⟨.mast, 0x0043, 0x0043, 0x01, 0x01, .u8, .rwi, .std, 4, [(3, 5)], 0⟩,
  ⟨.mast, 0x0043, 0x0043, 0x02, 0x02, .i8, .rwi, .std, 24, [], 0⟩,
  ⟨.mast, 0x0043, 0x0043, 0x03, 0x03, .i8, .rwi, .std, 48, [], 0⟩,
  ⟨.mast, 0x0043, 0x0043, 0x04, 0x04, .i8, .rwi, .std, 48, [], 0⟩,
  ⟨.mast, 0x0043, 0x0043, 0x05, 0x05, .i8, .rwi, .std, 24, [], 0⟩,
  ⟨.mast, 0x0043, 0x0043, 0x06, 0x06, .i8, .rwi, .std, 0, [], 0⟩,
  ⟨.mast, 0x0043, 0x0043, 0x07, 0x07, .u16, .rwi, .std, 1024, [(1, 65535)], 0⟩,
  ⟨.mast, 0x0044, 0x0044, 0x01, 0x01, .i16, .rwi, .std, 0, [], 0⟩,
  ⟨.mast, 0x0044, 0x0044, 0x02, 0x02, .i16, .rwi, .std, 0, [], 0⟩,
  ⟨.mast, 0x0044, 0x0044, 0x03, 0x03, .i16, .rwi, .std, 0, [], 0⟩,
  ⟨.mast, 0x0044, 0x0044, 0x04, 0x04, .i16, .rwi, .std, 0, [], 0⟩,
  ⟨.mast, 0x0044, 0x0044, 0x05, 0x05, .i16, .rwi, .std, 0, [], 0⟩,
  ⟨.mast, 0x0044, 0x0044, 0x06, 0x06, .i16, .rwi, .std, 0, [], 0⟩,
  ⟨.mast, 0x0044, 0x0044, 0x07, 0x07, .i16, .rwi, .std, 0, [], 0⟩,
  ⟨.mast, 0x0044, 0x0044, 0x08, 0x08, .i16, .rwi, .std, 16384, [], 0⟩,
  ⟨.mast, 0x0044, 0x0044, 0x09, 0x09, .i16, .rwi, .std, 0, [], 0⟩,
  ⟨.mast, 0x0044, 0x0044, 0x0A, 0x0A, .i16, .rwi, .std, 0, [], 0⟩,
  ⟨.mast, 0x0044, 0x0044, 0x0B, 0x0B, .i16, .rwi, .std, 0, [], 0⟩,
  ⟨.mast, 0x0044, 0x0044, 0x0C, 0x0C, .i16, .rwi, .std, 0, [], 0⟩,
  ⟨.mast, 0x0044, 0x0044, 0x0D, 0x0D, .i16, .rwi, .std, 0, [], 0⟩,
  ⟨.mast, 0x0044, 0x0044, 0x0E, 0x0E, .i16, .rwi, .std, 0, [], 0⟩,
  ⟨.mast, 0x0044, 0x0044, 0x0F, 0x0F, .i16, .rwi, .std, 0, [], 0⟩,
  ⟨.mast, 0x0044, 0x0044, 0x11, 0x11, .i16, .rwi, .std, 0, [], 0⟩,
  ⟨.mast, 0x0044, 0x0044, 0x12, 0x12, .i16, .rwi, .std, 0, [], 0⟩,
  ⟨.mast, 0x0044, 0x0044, 0x13, 0x13, .i16, .rwi, .std, 0, [], 0⟩,
  ⟨.mast, 0x0044, 0x0044, 0x14, 0x14, .i16, .rwi, .std, 0, [], 0⟩,
  ⟨.mast, 0x0044, 0x0044, 0x15, 0x15, .i16, .rwi, .std, 0, [], 0⟩,
  ⟨.mast, 0x0044, 0x0044, 0x16, 0x16, .i16, .rwi, .std, 0, [], 0⟩,
  ⟨.mast, 0x0044, 0x0044, 0x17, 0x17, .i16, .rwi, .std, 0, [], 0⟩,
  ⟨.mast, 0x0044, 0x0044, 0x18, 0x18, .i16, .rwi, .std, 16384, [], 0⟩,
  ⟨.mast, 0x0044, 0x0044, 0x19, 0x19, .i16, .rwi, .std, 0, [], 0⟩,
  ⟨.mast, 0x0044, 0x0044, 0x1A, 0x1A, .i16, .rwi, .std, 0, [], 0⟩,
  ⟨.mast, 0x0044, 0x0044, 0x1B, 0x1B, .i16, .rwi, .std, 0, [], 0⟩,
  ⟨.mast, 0x0044, 0x0044, 0x1C, 0x1C, .i16, .rwi, .std, 0, [], 0⟩,
  ⟨.mast, 0x0044, 0x0044, 0x1D, 0x1D, .i16, .rwi, .std, 0, [], 0⟩,
  ⟨.mast, 0x0044, 0x0044, 0x1E, 0x1E, .i16, .rwi, .std, 0, [], 0⟩,
  ⟨.mast, 0x0044, 0x0044, 0x1F, 0x1F, .i16, .rwi, .std, 0, [], 0⟩,
  ⟨.mast, 0x0044, 0x0044, 0x21, 0x21, .i16, .rwi, .std, 0, [], 0⟩,
  ⟨.mast, 0x0044, 0x0044, 0x22, 0x22, .i16, .rwi, .std, 0, [], 0⟩,
  ⟨.mast, 0x0044, 0x0044, 0x23, 0x23, .i16, .rwi, .std, 0, [], 0⟩,
  ⟨.mast, 0x0044, 0x0044, 0x24, 0x24, .i16, .rwi, .std, 0, [], 0⟩,
  ⟨.mast, 0x0044, 0x0044, 0x25, 0x25, .i16, .rwi, .std, 0, [], 0⟩,
  ⟨.mast, 0x0044, 0x0044, 0x26, 0x26, .i16, .rwi, .std, 0, [], 0⟩]

/-- Rows of the object tables of chapter 8, part 2. -/
def objRows08b : List ObjRow := [
  ⟨.mast, 0x0044, 0x0044, 0x27, 0x27, .i16, .rwi, .std, 0, [], 0⟩,
  ⟨.mast, 0x0044, 0x0044, 0x28, 0x28, .i16, .rwi, .std, 16384, [], 0⟩,
  ⟨.mast, 0x0044, 0x0044, 0x29, 0x29, .i16, .rwi, .std, 0, [], 0⟩,
  ⟨.mast, 0x0044, 0x0044, 0x2A, 0x2A, .i16, .rwi, .std, 0, [], 0⟩,
  ⟨.mast, 0x0044, 0x0044, 0x2B, 0x2B, .i16, .rwi, .std, 0, [], 0⟩,
  ⟨.mast, 0x0044, 0x0044, 0x2C, 0x2C, .i16, .rwi, .std, 0, [], 0⟩,
  ⟨.mast, 0x0044, 0x0044, 0x2D, 0x2D, .i16, .rwi, .std, 0, [], 0⟩,
  ⟨.mast, 0x0044, 0x0044, 0x2E, 0x2E, .i16, .rwi, .std, 0, [], 0⟩,
  ⟨.mast, 0x0044, 0x0044, 0x2F, 0x2F, .i16, .rwi, .std, 0, [], 0⟩,
  ⟨.mast, 0x0044, 0x0044, 0x31, 0x31, .i16, .rwi, .std, 0, [], 0⟩,
  ⟨.mast, 0x0044, 0x0044, 0x32, 0x32, .i16, .rwi, .std, 0, [], 0⟩,
  ⟨.mast, 0x0044, 0x0044, 0x33, 0x33, .i16, .rwi, .std, 0, [], 0⟩,
  ⟨.mast, 0x0044, 0x0044, 0x34, 0x34, .i16, .rwi, .std, 0, [], 0⟩,
  ⟨.mast, 0x0044, 0x0044, 0x35, 0x35, .i16, .rwi, .std, 0, [], 0⟩,
  ⟨.mast, 0x0044, 0x0044, 0x36, 0x36, .i16, .rwi, .std, 0, [], 0⟩,
  ⟨.mast, 0x0044, 0x0044, 0x37, 0x37, .i16, .rwi, .std, 0, [], 0⟩,
  ⟨.mast, 0x0044, 0x0044, 0x38, 0x38, .i16, .rwi, .std, 16384, [], 0⟩,
  ⟨.mast, 0x0044, 0x0044, 0x39, 0x39, .i16, .rwi, .std, 0, [], 0⟩,
  ⟨.mast, 0x0044, 0x0044, 0x3A, 0x3A, .i16, .rwi, .std, 0, [], 0⟩,
  ⟨.mast, 0x0044, 0x0044, 0x3B, 0x3B, .i16, .rwi, .std, 0, [], 0⟩,
  ⟨.mast, 0x0044, 0x0044, 0x3C, 0x3C, .i16, .rwi, .std, 0, [], 0⟩,
  ⟨.mast, 0x0044, 0x0044, 0x3D, 0x3D, .i16, .rwi, .std, 0, [], 0⟩,
  ⟨.mast, 0x0044, 0x0044, 0x3E, 0x3E, .i16, .rwi, .std, 0, [], 0⟩,
  ⟨.mast, 0x0044, 0x0044, 0x3F, 0x3F, .i16, .rwi, .std, 0, [], 0⟩,
  ⟨.mast, 0x0049, 0x0049, 0x01, 0x05, .i16, .rwi, .std, 0, [], 0⟩,
  ⟨.mast, 0x0049, 0x0049, 0x06, 0x0A, .i16, .rwi, .std, 0, [], 0⟩,
  ⟨.mast, 0x0045, 0x0045, 0x01, 0x01, .u8, .wo, .std, 0, [(1, 4)], 0⟩,
  ⟨.mast, 0x0045, 0x0045, 0x02, 0x02, .u8, .ro, .std, 0, [], 0⟩,
  ⟨.mast, 0x0045, 0x0045, 0x03, 0x03, .u8, .rw, .std, 0, [(0, 3)], 0⟩,
  ⟨.mast, 0x0045, 0x0045, 0x04, 0x04, .i16, .rws, .std, 256, [(1, 4096)], 0⟩,
  ⟨.mast, 0x0045, 0x0045, 0x05, 0x05, .i16, .rws, .std, 128, [(1, 2048)], 0⟩,
  ⟨.mast, 0x0045, 0x0045, 0x06, 0x06, .u64, .ro, .std, 0, [], 0⟩]

/-- Rows of the object tables of chapter 9, part 1. -/
def objRows09a : List ObjRow := [
  ⟨.media, 0x0000, 0x0000, 0x01, 0x01, .bool, .ro, .std, 0, [], 0⟩,
  ⟨.media, 0x0000, 0x0000, 0x02, 0x02, .u8, .rwi, .std, 0, [(0, 15)], 0⟩,
  ⟨.media, 0x0000, 0x0000, 0x03, 0x03, .u8, .rwi, .std, 1, [(1, 16)], 0⟩,
  ⟨.media, 0x0000, 0x0000, 0x04, 0x04, .u32, .rwi, .std, 32000, [(28000, 40000)], 0⟩,
  ⟨.media, 0x0000, 0x0000, 0x05, 0x05, .u16, .rwi, .std, 1, [(1, 512)], 0⟩,
  ⟨.media, 0x0000, 0x0000, 0x06, 0x06, .i32, .rwi, .std, 4096, [(1, 2147483647)], 0⟩,
  ⟨.media, 0x0000, 0x0000, 0x07, 0x07, .u16, .rwi, .std, 512, [(1, 65535)], 0⟩,
  ⟨.media, 0x0000, 0x0000, 0x08, 0x08, .u8, .rwi, .std, 0, [(0, 15)], 0⟩,
  ⟨.media, 0x0000, 0x0000, 0x09, 0x09, .u32, .rwi, .std, 0, [(0, 142000)], 0⟩,
  ⟨.media, 0x0000, 0x0000, 0x93, 0x93, .u32, .rwi, .std, 0, [(0, 142000)], 0⟩,
  ⟨.media, 0x0000, 0x0000, 0x0A, 0x0A, .u8, .rwi, .std, 2, [(1, 8)], 0⟩,
  ⟨.media, 0x0000, 0x0000, 0x0B, 0x0B, .i16, .rwi, .std, 0, [], 0⟩,
  ⟨.media, 0x0001, 0x0001, 0x01, 0x30, .i16, .rwi, .std, 0, [], 0⟩,
  ⟨.media, 0x0002, 0x0002, 0x01, 0x01, .u8, .rwi, .std, 1, [(1, 16)], 0⟩,
  ⟨.media, 0x0002, 0x0002, 0x10, 0x1F, .u16, .rwi, .std, 60000, [(24000, 65535)], 0⟩,
  ⟨.media, 0x0002, 0x0002, 0x20, 0x2F, .u16, .rwi, .std, 0, [(0, 15000)], 0⟩,
  ⟨.media, 0x0003, 0x0003, 0x01, 0x01, (.dom 65568), .rwi, .std, 0, [], 0⟩,
  ⟨.media, 0x0004, 0x0004, 0x01, 0x01, (.dom 65568), .rwi, .std, 0, [], 0⟩,
  ⟨.mast, 0x0050, 0x0050, 0x01, 0x01, .u8, .ro, .std, 255, [], 0⟩,
  ⟨.mast, 0x0050, 0x0050, 0x02, 0x02, .u16, .ro, .std, 0, [], 0⟩,
  ⟨.mast, 0x0050, 0x0050, 0x03, 0x03, .u8, .ro, .std, 0, [], 0⟩,
  ⟨.mast, 0x0050, 0x0050, 0x04, 0x04, .u64, .ro, .std, 0, [], 0⟩]

/-- Rows of the object tables of chapter 10, part 1. -/
def objRows10a : List ObjRow := [
  ⟨.mast, 0x0052, 0x0052, 0x01, 0x01, .u8, .rws, .std, 12, [(1, 48)], 0⟩,
  ⟨.mast, 0x0052, 0x0052, 0x02, 0x02, .u8, .rws, .std, 48, [(1, 48)], 0⟩,
  ⟨.mast, 0x0052, 0x0052, 0x03, 0x03, .u16, .rws, .std, 252, [], 0xfc⟩,
  ⟨.mast, 0x0052, 0x0052, 0x04, 0x04, .u16, .rws, .std, 50, [(1, 10000)], 0⟩,
  ⟨.rig, 0x2660, 0x2660, 0x01, 0x01, .u8, .ro, .std, 128, [], 0⟩,
  ⟨.rig, 0x2660, 0x2660, 0x02, 0x02, .u64, .rw, .std, 0, [], 0⟩,
  ⟨.rig, 0x2660, 0x2660, 0x03, 0x03, .u64, .rw, .std, 0, [], 0⟩,
  ⟨.rig, 0x2660, 0x2660, 0x04, 0x04, .u16, .rws, .std, 100, [(10, 10000)], 0⟩,
  ⟨.rig, 0x2660, 0x2660, 0x05, 0x05, .u16, .ro, .std, 192, [], 0⟩]

/-- Rows of the object tables of chapter 11, part 1. -/
def objRows11a : List ObjRow := [
  ⟨.mast, 0x0054, 0x0054, 0x01, 0x01, .u8, .ro, .std, 0, [], 0⟩,
  ⟨.mast, 0x0054, 0x0054, 0x02, 0x02, .u16, .rws, .std, 400, [(1, 2000)], 0⟩,
  ⟨.mast, 0x0054, 0x0054, 0x03, 0x03, .u8, .rws, .std, 6, [(1, 48)], 0⟩,
  ⟨.mast, 0x0054, 0x0054, 0x04, 0x04, .u8, .rws, .std, 2, [(1, 4)], 0⟩,
  ⟨.mast, 0x0054, 0x0054, 0x05, 0x05, .u8, .rws, .std, 3, [(1, 8)], 0⟩,
  ⟨.mast, 0x0054, 0x0054, 0x06, 0x06, .u16, .rws, .std, 20, [(1, 10000)], 0⟩,
  ⟨.mast, 0x0054, 0x0054, 0x07, 0x07, .u16, .rws, .std, 60, [(1, 3600)], 0⟩,
  ⟨.mast, 0x0054, 0x0054, 0x08, 0x08, .u64, .ro, .std, 0, [], 0⟩,
  ⟨.mast, 0x0054, 0x0054, 0x09, 0x09, .u32, .ro, .std, 0, [], 0⟩,
  ⟨.mast, 0x0054, 0x0054, 0x0A, 0x0A, .u32, .ro, .std, 0, [], 0⟩,
  ⟨.mast, 0x0054, 0x0054, 0x0B, 0x0B, .u16, .rws, .std, 16, [(1, 1024)], 0⟩,
  ⟨.mast, 0x0054, 0x0054, 0x0C, 0x0C, .u16, .ro, .std, 0, [], 0⟩,
  ⟨.mast, 0x0054, 0x0054, 0x0D, 0x0D, .u16, .rws, .std, 40, [(1, 10000)], 0⟩,
  ⟨.mast, 0x0054, 0x0054, 0x0E, 0x0E, .u16, .rws, .std, 40, [(1, 10000)], 0⟩,
  ⟨.mast, 0x0055, 0x0055, 0x01, 0x10, .u16, .rwi, .std, 0, [], 0⟩,
  ⟨.mast, 0x0055, 0x0055, 0x11, 0x20, .u16, .rwi, .std, 0, [], 0⟩,
  ⟨.mast, 0x0055, 0x0055, 0x21, 0x30, .u64, .rwi, .std, 0, [], 0⟩]

/-- Rows of the object tables of chapter 12, part 1. -/
def objRows12a : List ObjRow := [
  ⟨.rig, 0x2280, 0x2280, 0x01, 0x01, .u16, .ro, .std, 4096, [], 0⟩,
  ⟨.rig, 0x2280, 0x2280, 0x02, 0x02, .u16, .ro, .std, 4096, [], 0⟩,
  ⟨.rig, 0x2280, 0x2280, 0x03, 0x03, .u16, .rws, .std, 1000, [(1, 60000)], 0⟩,
  ⟨.rig, 0x2280, 0x2280, 0x04, 0x04, .u16, .rws, .std, 16, [(1, 64)], 0⟩,
  ⟨.rig, 0x2280, 0x2280, 0x05, 0x05, .u16, .rws, .std, 1024, [(1, 4096)], 0⟩,
  ⟨.rig, 0x2280, 0x2280, 0x06, 0x06, .u16, .rws, .std, 256, [(0, 2048)], 0⟩,
  ⟨.rig, 0x2281, 0x2281, 0x01, 0x01, (.dom 4096), .ro, .std, 0, [], 0⟩,
  ⟨.rig, 0x2281, 0x2281, 0x02, 0x02, (.dom 8192), .ro, .std, 0, [], 0⟩]

/-- Rows of the object tables of chapter 13, part 1. -/
def objRows13a : List ObjRow := [
  ⟨.rig, 0x2200, 0x2201, 0x01, 0x01, .u8, .ro, .std, 0, [], 0⟩,
  ⟨.rig, 0x2200, 0x2201, 0x02, 0x02, .u8, .ro, .std, 0, [], 0⟩,
  ⟨.rig, 0x2200, 0x2201, 0x03, 0x03, .u8, .ro, .std, 0, [], 0⟩,
  ⟨.rig, 0x2200, 0x2201, 0x04, 0x04, .u8, .ro, .std, 0, [], 0⟩,
  ⟨.rig, 0x2200, 0x2201, 0x05, 0x05, .u8, .ro, .std, 8, [], 0⟩,
  ⟨.rig, 0x2210, 0x2211, 0x01, 0x01, .u32, .rw, .std, 4294967295, [], 0⟩,
  ⟨.rig, 0x2210, 0x2211, 0x02, 0x41, .u32, .rw, .std, 0, [], 0⟩,
  ⟨.rig, 0x2220, 0x2221, 0x01, 0x01, .u16, .rws, .std, 5000, [(1, 60000)], 0⟩,
  ⟨.rig, 0x2220, 0x2221, 0x02, 0x02, .u16, .rws, .std, 20, [(1, 65535)], 0⟩,
  ⟨.rig, 0x2220, 0x2221, 0x03, 0x03, .u16, .rws, .std, 4097, [], 0⟩,
  ⟨.rig, 0x2220, 0x2221, 0x04, 0x04, .u16, .rws, .std, 7169, [], 0⟩,
  ⟨.rig, 0x2222, 0x2223, 0x01, 0x08, .u64, .rws, .std, 0, [], 0⟩,
  ⟨.rig, 0x2222, 0x2223, 0x09, 0x10, .u64, .rws, .std, 0, [], 0⟩]

/-- Rows of the object tables of chapter 14, part 1. -/
def objRows14a : List ObjRow := [
  ⟨.rig, 0x2300, 0x2300, 0x01, 0x01, .u16, .rwi, .std, 0, [(0, 2047)], 0⟩,
  ⟨.rig, 0x2300, 0x2300, 0x02, 0x02, .u8, .rwi, .std, 1, [(1, 32)], 0⟩,
  ⟨.rig, 0x2300, 0x2300, 0x03, 0x03, .u8, .rwi, .std, 1, [(1, 64)], 0⟩,
  ⟨.rig, 0x2300, 0x2300, 0x04, 0x04, .u16, .ro, .std, 1, [], 0⟩,
  ⟨.rig, 0x2300, 0x2300, 0x05, 0x05, .u32, .rws, .std, 10000, [(100, 3600000)], 0⟩,
  ⟨.rig, 0x2300, 0x2300, 0x06, 0x06, .u16, .rws, .std, 100, [(1, 60000)], 0⟩,
  ⟨.rig, 0x2300, 0x2300, 0x07, 0x07, .u16, .rws, .std, 120, [(1, 3600)], 0⟩,
  ⟨.rig, 0x2301, 0x2301, 0x01, 0x04, .u8, .ro, .std, 0, [], 0⟩,
  ⟨.rig, 0x2301, 0x2301, 0x05, 0x08, .u8, .rw, .std, 0, [], 0x3⟩,
  ⟨.rig, 0x2301, 0x2301, 0x09, 0x09, .u8, .rws, .std, 4, [(1, 255)], 0⟩,
  ⟨.rig, 0x2301, 0x2301, 0x0A, 0x0A, .u32, .rws, .std, 10000, [(1, 3600000)], 0⟩,
  ⟨.rig, 0x2302, 0x2302, 0x01, 0x01, .u8, .rws, .std, 0, [(0, 254)], 0⟩,
  ⟨.rig, 0x2302, 0x2302, 0x02, 0x02, .bool, .rws, .std, 0, [], 0⟩,
  ⟨.rig, 0x2302, 0x2302, 0x03, 0x03, .u8, .ro, .std, 0, [], 0⟩,
  ⟨.rig, 0x2302, 0x2302, 0x04, 0x04, .u8, .ro, .std, 255, [], 0⟩,
  ⟨.rig, 0x2302, 0x2302, 0x05, 0x05, .i32, .ro, .std, 0, [], 0⟩,
  ⟨.rig, 0x2302, 0x2302, 0x06, 0x06, .i32, .ro, .std, 0, [], 0⟩,
  ⟨.rig, 0x2303, 0x2303, 0x01, 0x01, .u32, .ro, .std, 0, [], 0⟩,
  ⟨.rig, 0x2303, 0x2303, 0x02, 0x02, .u16, .rws, .std, 30, [(5, 3600)], 0⟩,
  ⟨.rig, 0x2310, 0x231F, 0x01, 0x01, .u64, .rw, .std, 0, [(1, 18446744073709551615)], 0⟩,
  ⟨.rig, 0x2310, 0x231F, 0x02, 0x02, .u8, .rw, .std, 0, [(0, 31)], 0⟩,
  ⟨.rig, 0x2310, 0x231F, 0x85, 0x85, .u8, .rw, .std, 0, [(0, 31)], 0⟩,
  ⟨.rig, 0x2310, 0x231F, 0x03, 0x03, .u16, .rw, .std, 0, [(0, 2047)], 0⟩,
  ⟨.rig, 0x2310, 0x231F, 0x04, 0x04, .u8, .rw, .std, 0, [], 0x7⟩,
  ⟨.rig, 0x2310, 0x231F, 0x05, 0x05, .u8, .wo, .std, 0, [(1, 2)], 0⟩,
  ⟨.rig, 0x2310, 0x231F, 0x06, 0x06, .u16, .ro, .std, 0, [], 0⟩,
  ⟨.rig, 0x2310, 0x231F, 0x8D, 0x8D, .u16, .ro, .std, 0, [], 0⟩,
  ⟨.mast, 0x0056, 0x0056, 0x01, 0x01, .u64, .rwi, .std, 0, [], 0⟩,
  ⟨.mast, 0x0056, 0x0056, 0x02, 0x02, .u64, .rwi, .std, 0, [], 0⟩,
  ⟨.mast, 0x0056, 0x0056, 0x03, 0x03, .u8, .ro, .std, 0, [], 0⟩,
  ⟨.mast, 0x0056, 0x0056, 0x04, 0x04, .u16, .rwi, .std, 65535, [(0, 2047), (65535, 65535)], 0⟩,
  ⟨.mast, 0x0056, 0x0056, 0x05, 0x05, .u64, .rwi, .std, 0, [], 0⟩]

/-- Rows of the object tables of chapter 15, part 1. -/
def objRows15a : List ObjRow := [
  ⟨.rig, 0x2500, 0x253F, 0x01, 0x01, .u8, .ro, .engine, 0, [], 0⟩,
  ⟨.rig, 0x2500, 0x253F, 0x02, 0x02, .u16, .rwi, .engine, 0, [], 0xc07f⟩,
  ⟨.rig, 0x2500, 0x253F, 0x03, 0x03, .u16, .rwi, .engine, 64, [(0, 1024)], 0⟩,
  ⟨.rig, 0x2500, 0x253F, 0x04, 0x04, .u64, .ro, .engine, 0, [], 0⟩,
  ⟨.rig, 0x2500, 0x253F, 0x05, 0x05, .u8, .ro, .engine, 0, [], 0⟩,
  ⟨.rig, 0x2500, 0x253F, 0x06, 0x06, .u16, .ro, .engine, 0, [], 0⟩,
  ⟨.rig, 0x2500, 0x253F, 0x07, 0x07, .u16, .rwi, .engine, 800, [], 0x37f⟩,
  ⟨.rig, 0x2500, 0x253F, 0x08, 0x08, .u64, .rwi, .engine, 517762881, [], 0⟩,
  ⟨.rig, 0x2500, 0x253F, 0x09, 0x09, .u64, .rwi, .engine, 4294967295, [], 0⟩,
  ⟨.rig, 0x2500, 0x253F, 0x0A, 0x0A, .u64, .rwi, .engine, 4294967295, [], 0⟩,
  ⟨.rig, 0x2500, 0x253F, 0x0B, 0x0B, .u64, .ro, .engine, 0, [], 0⟩,
  ⟨.rig, 0x2500, 0x253F, 0x0C, 0x0C, .u64, .ro, .engine, 0, [], 0⟩,
  ⟨.rig, 0x2540, 0x2540, 0x01, 0x04, (.dom 1952), .rws, .keys, 0, [], 0⟩,
  ⟨.rig, 0x2540, 0x2540, 0x05, 0x05, .u8, .rws, .keys, 0, [], 0xf⟩,
  ⟨.rig, 0x2541, 0x2541, 0x01, 0x01, (.dom 163117), .wo, .keys, 0, [], 0⟩,
  ⟨.rig, 0x2541, 0x2541, 0x02, 0x02, .u64, .rw, .keys, 0, [], 0⟩,
  ⟨.rig, 0x2541, 0x2541, 0x03, 0x03, .u8, .wo, .keys, 0, [(1, 1)], 0⟩,
  ⟨.rig, 0x2541, 0x2541, 0x04, 0x04, .u8, .ro, .keys, 0, [], 0⟩,
  ⟨.rig, 0x2542, 0x2542, 0x01, 0x01, .u8, .ro, .std, 64, [], 0⟩,
  ⟨.rig, 0x2542, 0x2542, 0x02, 0x02, .u64, .rw, .std, 0, [], 0⟩,
  ⟨.rig, 0x2542, 0x2542, 0x03, 0x03, .u8, .rwi, .std, 4, [(0, 16)], 0⟩,
  ⟨.rig, 0x2542, 0x2542, 0x04, 0x04, .u64, .ro, .std, 0, [], 0⟩,
  ⟨.rig, 0x2542, 0x2542, 0x05, 0x05, .u32, .ro, .std, 0, [], 0⟩,
  ⟨.rig, 0x2542, 0x2542, 0x06, 0x06, .u64, .rws, .std, 1099511627776, [(1, 9223372036854775808)], 0⟩,
  ⟨.rig, 0x2550, 0x2557, 0x01, 0x01, .u16, .rw, .unitOwner, 16384, [], 0xc07f⟩,
  ⟨.rig, 0x2550, 0x2557, 0x02, 0x02, .u16, .rw, .unit, 800, [], 0x37f⟩,
  ⟨.rig, 0x2550, 0x2557, 0x03, 0x03, .u64, .rw, .unit, 517762881, [], 0⟩,
  ⟨.rig, 0x2550, 0x2557, 0x04, 0x04, .u64, .rw, .unit, 4294967295, [], 0⟩,
  ⟨.rig, 0x2550, 0x2557, 0x05, 0x05, .u64, .rw, .unit, 4294967295, [], 0⟩,
  ⟨.rig, 0x2550, 0x2557, 0x06, 0x06, .u64, .rw, .unit, 4294967295, [], 0⟩,
  ⟨.rig, 0x2550, 0x2557, 0x07, 0x07, .u64, .ro, .unit, 0, [], 0⟩,
  ⟨.rig, 0x2550, 0x2557, 0x08, 0x08, (.dom 65568), .wo, .unit, 0, [], 0⟩,
  ⟨.rig, 0x2550, 0x2557, 0x09, 0x09, .u8, .wo, .unit, 0, [(1, 1)], 0⟩]

/-- Rows of the object tables of chapter 16, part 1. -/
def objRows16a : List ObjRow := [
  ⟨.rig, 0x2400, 0x2400, 0x01, 0x01, .u16, .ro, .std, 0, [], 0⟩,
  ⟨.rig, 0x2400, 0x2400, 0x02, 0x02, .u16, .ro, .std, 0, [], 0⟩,
  ⟨.rig, 0x2400, 0x2400, 0x03, 0x03, .u16, .rw, .std, 0, [], 0⟩,
  ⟨.rig, 0x2400, 0x2400, 0x04, 0x04, .u8, .ro, .std, 0, [], 0⟩,
  ⟨.rig, 0x2400, 0x2400, 0x05, 0x05, .u32, .ro, .std, 0, [], 0⟩,
  ⟨.rig, 0x2400, 0x2400, 0x06, 0x06, .u8, .rws, .std, 8, [(1, 255)], 0⟩,
  ⟨.rig, 0x2400, 0x2400, 0x07, 0x07, .u32, .rws, .std, 3600000, [(1, 86400000)], 0⟩,
  ⟨.rig, 0x2400, 0x2400, 0x08, 0x08, .u16, .rws, .std, 24, [(1, 720)], 0⟩,
  ⟨.rig, 0x2400, 0x2400, 0x09, 0x09, .u8, .ro, .std, 0, [], 0⟩,
  ⟨.rig, 0x2401, 0x2401, 0x01, 0x01, .u32, .rws, .std, 32768, [(1024, 131072)], 0⟩,
  ⟨.rig, 0x2401, 0x2401, 0x02, 0x02, .u32, .rws, .std, 4096, [(0, 65536)], 0⟩,
  ⟨.rig, 0x2401, 0x2401, 0x03, 0x03, .u32, .ro, .std, 0, [], 0⟩,
  ⟨.rig, 0x2401, 0x2401, 0x04, 0x04, .u32, .ro, .std, 0, [], 0⟩,
  ⟨.rig, 0x2401, 0x2401, 0x05, 0x05, .u32, .ro, .std, 0, [], 0⟩,
  ⟨.rig, 0x2410, 0x2410, 0x01, 0x01, .u8, .rws, .std, 16, [(2, 16)], 0⟩,
  ⟨.rig, 0x2410, 0x2410, 0x02, 0x02, .u16, .rw, .std, 0, [], 0⟩,
  ⟨.rig, 0x2410, 0x2410, 0x03, 0x03, .u16, .rws, .std, 1000, [(0, 0), (10, 60000)], 0⟩,
  ⟨.rig, 0x2410, 0x2410, 0x04, 0x04, .bool, .rws, .std, 1, [], 0⟩,
  ⟨.rig, 0x2410, 0x2410, 0x05, 0x05, .u8, .wo, .std, 0, [(1, 3)], 0⟩,
  ⟨.rig, 0x2410, 0x2410, 0x06, 0x06, .u8, .rw, .std, 1, [(1, 5)], 0⟩,
  ⟨.rig, 0x2410, 0x2410, 0x07, 0x07, .u32, .rw, .std, 0, [], 0⟩,
  ⟨.rig, 0x2410, 0x2410, 0x08, 0x08, .u8, .ro, .std, 0, [], 0⟩,
  ⟨.rig, 0x2410, 0x2410, 0x09, 0x09, .u8, .rws, .std, 4, [(1, 255)], 0⟩,
  ⟨.rig, 0x2410, 0x2410, 0x0A, 0x0A, .u32, .rws, .std, 3600000, [(1, 86400000)], 0⟩,
  ⟨.rig, 0x2420, 0x2420, 0x01, 0x01, .u32, .ro, .std, 0, [], 0⟩,
  ⟨.rig, 0x2420, 0x2420, 0x02, 0x02, .u32, .ro, .std, 0, [], 0⟩,
  ⟨.rig, 0x2420, 0x2420, 0x03, 0x03, .u32, .ro, .std, 0, [], 0⟩,
  ⟨.rig, 0x2420, 0x2420, 0x04, 0x04, .u8, .ro, .std, 0, [], 0⟩,
  ⟨.rig, 0x2440, 0x244F, 0x01, 0x10, .u32, .ro, .std, 4294967295, [], 0⟩,
  ⟨.rig, 0x2440, 0x244F, 0x11, 0x11, .u8, .rw, .std, 0, [(0, 0)], 0⟩]

/-- Rows of the object tables of chapter 17, part 1. -/
def objRows17a : List ObjRow := [
  ⟨.rig, 0x1000, 0x1000, 0x00, 0x00, .u32, .ro, .allRead, 0, [], 0⟩,
  ⟨.rig, 0x1008, 0x1008, 0x00, 0x00, (.str 16), .ro, .allRead, 0, [], 0⟩,
  ⟨.rig, 0x1009, 0x1009, 0x00, 0x00, (.str 16), .ro, .allRead, 0, [], 0⟩,
  ⟨.rig, 0x100A, 0x100A, 0x00, 0x00, (.str 32), .ro, .allRead, 0, [], 0⟩,
  ⟨.rig, 0x1018, 0x1018, 0x01, 0x01, .u32, .ro, .allRead, 3399, [], 0⟩,
  ⟨.rig, 0x1018, 0x1018, 0x02, 0x02, .u32, .ro, .allRead, 12900, [], 0⟩,
  ⟨.rig, 0x1018, 0x1018, 0x03, 0x03, .u32, .ro, .allRead, 65536, [], 0⟩,
  ⟨.rig, 0x1018, 0x1018, 0x04, 0x04, .u32, .ro, .allRead, 0, [], 0⟩,
  ⟨.rig, 0x2000, 0x2000, 0x01, 0x01, (.str 4), .ro, .allRead, 0, [], 0⟩,
  ⟨.rig, 0x2000, 0x2000, 0x02, 0x02, .u16, .ro, .allRead, 8029, [], 0⟩,
  ⟨.rig, 0x2000, 0x2000, 0x03, 0x03, .u16, .ro, .allRead, 8029, [], 0⟩,
  ⟨.rig, 0x2000, 0x2000, 0x04, 0x04, .u16, .ro, .allRead, 1, [], 0⟩,
  ⟨.rig, 0x2000, 0x2000, 0x05, 0x05, .u64, .ro, .allRead, 0, [], 0⟩,
  ⟨.rig, 0x2000, 0x2000, 0x06, 0x06, (.str 16), .ro, .allRead, 0, [], 0⟩,
  ⟨.rig, 0x2001, 0x2001, 0x01, 0x01, .u64, .rws, .allRead, 0, [], 0⟩,
  ⟨.rig, 0x2002, 0x2002, 0x01, 0x01, .u64, .ro, .allRead, 0, [], 0⟩,
  ⟨.rig, 0x2002, 0x2002, 0x02, 0x02, .u8, .ro, .allRead, 0, [], 0⟩,
  ⟨.rig, 0x2003, 0x2003, 0x01, 0x01, (.dom 65568), .ro, .allRead, 0, [], 0⟩,
  ⟨.rig, 0x2010, 0x2010, 0x01, 0x20, .u8, .ro, .allRead, 0, [], 0⟩,
  ⟨.rig, 0x2011, 0x2011, 0x01, 0x01, .u16, .ro, .allRead, 0, [], 0⟩,
  ⟨.rig, 0x2011, 0x2011, 0x02, 0x02, .u64, .ro, .allRead, 0, [], 0⟩,
  ⟨.rig, 0x1010, 0x1010, 0x01, 0x01, .u32, .wo, .std, 0, [(1702257011, 1702257011)], 0⟩,
  ⟨.rig, 0x1011, 0x1011, 0x01, 0x01, .u32, .wo, .std, 0, [(1684107116, 1684107116)], 0⟩,
  ⟨.rig, 0x2700, 0x2700, 0x01, 0x01, .u8, .ro, .std, 0, [], 0⟩,
  ⟨.rig, 0x2700, 0x2700, 0x02, 0x02, .u8, .ro, .std, 255, [], 0⟩,
  ⟨.rig, 0x2700, 0x2700, 0x03, 0x03, .u32, .ro, .std, 0, [], 0⟩,
  ⟨.rig, 0x2700, 0x2700, 0x04, 0x04, .u16, .rws, .std, 2000, [(100, 60000)], 0⟩,
  ⟨.rig, 0x2700, 0x2700, 0x05, 0x05, .bool, .ro, .std, 0, [], 0⟩,
  ⟨.rig, 0x2700, 0x2700, 0x06, 0x06, .u32, .ro, .std, 0, [], 0⟩,
  ⟨.rig, 0x2701, 0x2701, 0x01, 0x01, .u8, .ro, .std, 0, [], 0⟩,
  ⟨.rig, 0x2701, 0x2701, 0x02, 0x02, .u8, .ro, .std, 0, [], 0⟩,
  ⟨.rig, 0x2701, 0x2701, 0x03, 0x03, .u32, .ro, .std, 0, [], 0⟩,
  ⟨.rig, 0x2701, 0x2701, 0x04, 0x04, .u32, .ro, .std, 0, [], 0⟩,
  ⟨.rig, 0x2701, 0x2701, 0x05, 0x05, .u32, .ro, .std, 0, [], 0⟩,
  ⟨.rig, 0x2701, 0x2701, 0x06, 0x06, .u32, .ro, .std, 0, [], 0⟩,
  ⟨.rig, 0x2120, 0x2120, 0x01, 0x01, .u8, .ro, .std, 0, [], 0⟩,
  ⟨.rig, 0x2120, 0x2120, 0x02, 0x02, .u32, .ro, .std, 0, [], 0⟩,
  ⟨.rig, 0x2120, 0x2120, 0x03, 0x03, .i32, .ro, .std, 0, [], 0⟩,
  ⟨.rig, 0x2121, 0x2121, 0x01, 0x01, .u8, .ro, .std, 0, [], 0⟩,
  ⟨.rig, 0x2121, 0x2121, 0x02, 0x02, .u8, .ro, .std, 0, [], 0⟩,
  ⟨.rig, 0x2121, 0x2121, 0x03, 0x03, .u8, .ro, .std, 1, [], 0⟩,
  ⟨.rig, 0x1C00, 0x1C00, 0x01, 0x01, .u8, .ro, .std, 1, [], 0⟩,
  ⟨.rig, 0x1C00, 0x1C00, 0x02, 0x02, .u8, .ro, .std, 2, [], 0⟩,
  ⟨.rig, 0x1C00, 0x1C00, 0x03, 0x03, .u8, .ro, .std, 3, [], 0⟩,
  ⟨.rig, 0x1C00, 0x1C00, 0x04, 0x04, .u8, .ro, .std, 4, [], 0⟩,
  ⟨.rig, 0x1C13, 0x1C13, 0x01, 0x01, .u16, .ro, .std, 6656, [], 0⟩,
  ⟨.rig, 0x1A00, 0x1A00, 0x01, 0x01, .u32, .ro, .std, 537985296, [], 0⟩,
  ⟨.rig, 0x1A00, 0x1A00, 0x02, 0x02, .u32, .ro, .std, 537985600, [], 0⟩,
  ⟨.rig, 0x1A00, 0x1A00, 0x03, 0x03, .u32, .ro, .std, 536936768, [], 0⟩,
  ⟨.rig, 0x1A00, 0x1A00, 0x04, 0x04, .u32, .ro, .std, 537919752, [], 0⟩,
  ⟨.rig, 0x1A00, 0x1A00, 0x05, 0x05, .u32, .ro, .std, 537920008, [], 0⟩,
  ⟨.rig, 0x1A00, 0x1A00, 0x06, 0x06, .u32, .ro, .std, 537920264, [], 0⟩,
  ⟨.rig, 0x1A00, 0x1A00, 0x07, 0x07, .u32, .ro, .std, 537920520, [], 0⟩,
  ⟨.rig, 0x1A00, 0x1A00, 0x08, 0x08, .u32, .ro, .std, 537920776, [], 0⟩,
  ⟨.rig, 0x1A00, 0x1A00, 0x09, 0x09, .u32, .ro, .std, 537921032, [], 0⟩,
  ⟨.rig, 0x1A00, 0x1A00, 0x0A, 0x0A, .u32, .ro, .std, 537921288, [], 0⟩,
  ⟨.rig, 0x1A00, 0x1A00, 0x0B, 0x0B, .u32, .ro, .std, 537921544, [], 0⟩,
  ⟨.rig, 0x1A00, 0x1A00, 0x0C, 0x0C, .u32, .ro, .std, 537921800, [], 0⟩,
  ⟨.rig, 0x1A00, 0x1A00, 0x0D, 0x0D, .u32, .ro, .std, 537922056, [], 0⟩,
  ⟨.rig, 0x1A00, 0x1A00, 0x0E, 0x0E, .u32, .ro, .std, 537922312, [], 0⟩]

/-- Rows of the object tables of chapter 17, part 2. -/
def objRows17b : List ObjRow := [
  ⟨.rig, 0x1A00, 0x1A00, 0x0F, 0x0F, .u32, .ro, .std, 537922568, [], 0⟩,
  ⟨.rig, 0x1A00, 0x1A00, 0x10, 0x10, .u32, .ro, .std, 537922824, [], 0⟩,
  ⟨.rig, 0x1A00, 0x1A00, 0x11, 0x11, .u32, .ro, .std, 537923080, [], 0⟩,
  ⟨.rig, 0x1A00, 0x1A00, 0x12, 0x12, .u32, .ro, .std, 537923336, [], 0⟩,
  ⟨.rig, 0x1A00, 0x1A00, 0x13, 0x13, .u32, .ro, .std, 537923592, [], 0⟩,
  ⟨.rig, 0x1A00, 0x1A00, 0x14, 0x14, .u32, .ro, .std, 537923848, [], 0⟩,
  ⟨.rig, 0x1A00, 0x1A00, 0x15, 0x15, .u32, .ro, .std, 537924104, [], 0⟩,
  ⟨.rig, 0x1A00, 0x1A00, 0x16, 0x16, .u32, .ro, .std, 537924360, [], 0⟩,
  ⟨.rig, 0x1A00, 0x1A00, 0x17, 0x17, .u32, .ro, .std, 537924616, [], 0⟩,
  ⟨.rig, 0x1A00, 0x1A00, 0x18, 0x18, .u32, .ro, .std, 537924872, [], 0⟩,
  ⟨.rig, 0x1A00, 0x1A00, 0x19, 0x19, .u32, .ro, .std, 537925128, [], 0⟩,
  ⟨.rig, 0x1A00, 0x1A00, 0x1A, 0x1A, .u32, .ro, .std, 537925384, [], 0⟩,
  ⟨.rig, 0x1A00, 0x1A00, 0x1B, 0x1B, .u32, .ro, .std, 537925640, [], 0⟩,
  ⟨.rig, 0x1A00, 0x1A00, 0x1C, 0x1C, .u32, .ro, .std, 537925896, [], 0⟩,
  ⟨.rig, 0x1A00, 0x1A00, 0x1D, 0x1D, .u32, .ro, .std, 537926152, [], 0⟩,
  ⟨.rig, 0x1A00, 0x1A00, 0x1E, 0x1E, .u32, .ro, .std, 537926408, [], 0⟩,
  ⟨.rig, 0x1A00, 0x1A00, 0x1F, 0x1F, .u32, .ro, .std, 537926664, [], 0⟩,
  ⟨.rig, 0x1A00, 0x1A00, 0x20, 0x20, .u32, .ro, .std, 537926920, [], 0⟩,
  ⟨.rig, 0x1A00, 0x1A00, 0x21, 0x21, .u32, .ro, .std, 537927176, [], 0⟩,
  ⟨.rig, 0x1A00, 0x1A00, 0x22, 0x22, .u32, .ro, .std, 537927432, [], 0⟩,
  ⟨.rig, 0x1A00, 0x1A00, 0x23, 0x23, .u32, .ro, .std, 537927688, [], 0⟩,
  ⟨.rig, 0x1A00, 0x1A00, 0x24, 0x24, .u32, .ro, .std, 603980304, [], 0⟩,
  ⟨.rig, 0x1A00, 0x1A00, 0x25, 0x25, .u32, .ro, .std, 643825928, [], 0⟩,
  ⟨.rig, 0x1A00, 0x1A00, 0x26, 0x26, .u32, .ro, .std, 625082632, [], 0⟩,
  ⟨.rig, 0x1A00, 0x1A00, 0x27, 0x27, .u32, .ro, .std, 570425608, [], 0⟩,
  ⟨.rig, 0x1A00, 0x1A00, 0x28, 0x28, .u32, .ro, .std, 570491144, [], 0⟩]

/-- Rows of the object tables of chapter 18, part 1. -/
def objRows18a : List ObjRow := [
  ⟨.count, 0x0000, 0x0000, 0x01, 0x07, .u64, .rw, .std, 0, [], 0⟩,
  ⟨.count, 0x0001, 0x0001, 0x01, 0x09, .u32, .rw, .std, 0, [], 0⟩,
  ⟨.count, 0x0002, 0x0002, 0x01, 0x09, .u32, .rw, .std, 0, [], 0⟩,
  ⟨.count, 0x0003, 0x0003, 0x01, 0x06, .u32, .rw, .std, 0, [], 0⟩,
  ⟨.count, 0x0004, 0x0004, 0x01, 0x03, .u32, .rw, .std, 0, [], 0⟩,
  ⟨.count, 0x0005, 0x0005, 0x01, 0x0C, .u32, .rw, .std, 0, [], 0⟩,
  ⟨.count, 0x0006, 0x0006, 0x01, 0x03, .u32, .rw, .std, 0, [], 0⟩,
  ⟨.count, 0x0007, 0x0007, 0x01, 0x04, .u32, .rw, .std, 0, [], 0⟩,
  ⟨.count, 0x0008, 0x0008, 0x01, 0x40, .u32, .rw, .std, 0, [], 0⟩,
  ⟨.count, 0x0009, 0x0009, 0x01, 0x40, .u32, .rw, .std, 0, [], 0⟩,
  ⟨.count, 0x000A, 0x000A, 0x01, 0x40, .u64, .rw, .std, 0, [], 0⟩,
  ⟨.count, 0x000B, 0x000B, 0x01, 0x02, .u64, .rw, .std, 0, [], 0⟩,
  ⟨.count, 0x000C, 0x000C, 0x01, 0x0B, .u32, .rw, .std, 0, [], 0⟩,
  ⟨.count, 0x000D, 0x000D, 0x01, 0x08, .u32, .rw, .std, 0, [], 0⟩,
  ⟨.count, 0x000E, 0x000E, 0x01, 0x08, .u32, .rw, .std, 0, [], 0⟩,
  ⟨.count, 0x000F, 0x000F, 0x01, 0x06, .u32, .rw, .std, 0, [], 0⟩,
  ⟨.count, 0x0010, 0x0010, 0x01, 0x42, .u32, .rw, .std, 0, [], 0⟩,
  ⟨.count, 0x0011, 0x0011, 0x01, 0x03, .u32, .rw, .std, 0, [], 0⟩,
  ⟨.rig, 0x5400, 0x541F, 0x01, 0x80, .u32, .rw, .std, 0, [], 0⟩,
  ⟨.rig, 0x5420, 0x5420, 0x01, 0x09, .u32, .rw, .std, 0, [], 0⟩,
  ⟨.rig, 0x5421, 0x5422, 0x01, 0x08, .u32, .rw, .std, 0, [], 0⟩,
  ⟨.rig, 0x5423, 0x5423, 0x01, 0x80, .u32, .rw, .std, 0, [], 0⟩,
  ⟨.rig, 0x5424, 0x5424, 0x01, 0x40, .u32, .rw, .std, 0, [], 0⟩,
  ⟨.rig, 0x5425, 0x5425, 0x01, 0x0A, .u32, .rw, .std, 0, [], 0⟩,
  ⟨.rig, 0x5426, 0x5426, 0x01, 0x08, .u32, .rw, .std, 0, [], 0⟩,
  ⟨.rig, 0x5427, 0x5427, 0x01, 0x01, .u64, .rw, .std, 0, [], 0⟩,
  ⟨.rig, 0x5428, 0x5428, 0x01, 0x1A, .u32, .rw, .std, 0, [], 0⟩,
  ⟨.rig, 0x5429, 0x5429, 0x01, 0x10, .u32, .rw, .std, 0, [], 0⟩,
  ⟨.rig, 0x542A, 0x542A, 0x01, 0x10, .u32, .rw, .std, 0, [], 0⟩,
  ⟨.rig, 0x542B, 0x542B, 0x01, 0x10, .u32, .rw, .std, 0, [], 0⟩,
  ⟨.rig, 0x542C, 0x542C, 0x01, 0x04, .u32, .rw, .std, 0, [], 0⟩,
  ⟨.rig, 0x542D, 0x542D, 0x01, 0x02, .u64, .rw, .std, 0, [], 0⟩,
  ⟨.rig, 0x542E, 0x542E, 0x01, 0x10, .u32, .rw, .std, 0, [], 0⟩,
  ⟨.rig, 0x542F, 0x542F, 0x01, 0x0B, .u32, .rw, .std, 0, [], 0⟩,
  ⟨.rig, 0x5430, 0x5430, 0x01, 0x04, .u32, .rw, .std, 0, [], 0⟩,
  ⟨.rig, 0x5431, 0x5431, 0x01, 0x08, .u32, .rw, .std, 0, [], 0⟩,
  ⟨.rig, 0x2600, 0x2600, 0x01, 0x01, .u8, .ro, .std, 255, [], 0⟩,
  ⟨.rig, 0x2600, 0x2600, 0x02, 0x02, .u32, .ro, .std, 0, [], 0⟩,
  ⟨.rig, 0x2600, 0x2600, 0x03, 0x03, .u8, .ro, .std, 0, [], 0⟩,
  ⟨.rig, 0x2600, 0x2600, 0x04, 0x04, .u8, .ro, .std, 0, [], 0⟩,
  ⟨.rig, 0x2600, 0x2600, 0x05, 0x05, .u8, .wo, .std, 0, [(1, 1)], 0⟩,
  ⟨.rig, 0x2600, 0x2600, 0x06, 0x06, .bool, .rws, .std, 1, [], 0⟩,
  ⟨.rig, 0x2600, 0x2600, 0x07, 0x07, .u32, .ro, .std, 0, [], 0⟩,
  ⟨.rig, 0x2620, 0x2620, 0x01, 0x01, .u8, .rws, .std, 16, [(1, 255)], 0⟩,
  ⟨.rig, 0x2621, 0x2621, 0x01, 0x01, .u8, .rws, .std, 8, [(1, 255)], 0⟩,
  ⟨.rig, 0x2622, 0x2622, 0x01, 0x01, .u8, .rws, .std, 8, [(1, 255)], 0⟩,
  ⟨.rig, 0x2623, 0x2623, 0x01, 0x01, .u8, .rws, .std, 4, [(1, 255)], 0⟩,
  ⟨.rig, 0x2624, 0x2624, 0x01, 0x01, .u8, .rws, .std, 4, [(1, 255)], 0⟩,
  ⟨.rig, 0x2625, 0x2625, 0x01, 0x01, .u8, .rws, .std, 4, [(1, 255)], 0⟩,
  ⟨.rig, 0x2626, 0x2626, 0x01, 0x01, .u8, .rws, .std, 4, [(1, 255)], 0⟩,
  ⟨.rig, 0x2627, 0x2627, 0x01, 0x01, .u8, .rws, .std, 4, [(1, 255)], 0⟩,
  ⟨.rig, 0x2628, 0x2628, 0x01, 0x01, .u8, .rws, .std, 3, [(1, 255)], 0⟩,
  ⟨.rig, 0x2620, 0x2620, 0x02, 0x02, .u32, .rws, .std, 86400000, [(1, 86400000)], 0⟩,
  ⟨.rig, 0x2621, 0x2621, 0x02, 0x02, .u32, .rws, .std, 3600000, [(1, 86400000)], 0⟩,
  ⟨.rig, 0x2622, 0x2622, 0x02, 0x02, .u32, .rws, .std, 3600000, [(1, 86400000)], 0⟩,
  ⟨.rig, 0x2623, 0x2623, 0x02, 0x02, .u32, .rws, .std, 3600000, [(1, 86400000)], 0⟩,
  ⟨.rig, 0x2624, 0x2624, 0x02, 0x02, .u32, .rws, .std, 86400000, [(1, 86400000)], 0⟩,
  ⟨.rig, 0x2625, 0x2625, 0x02, 0x02, .u32, .rws, .std, 3600000, [(1, 86400000)], 0⟩,
  ⟨.rig, 0x2626, 0x2626, 0x02, 0x02, .u32, .rws, .std, 3600000, [(1, 86400000)], 0⟩,
  ⟨.rig, 0x2627, 0x2627, 0x02, 0x02, .u32, .rws, .std, 3600000, [(1, 86400000)], 0⟩]

/-- Rows of the object tables of chapter 18, part 2. -/
def objRows18b : List ObjRow := [
  ⟨.rig, 0x2628, 0x2628, 0x02, 0x02, .u32, .rws, .std, 86400000, [(1, 86400000)], 0⟩,
  ⟨.rig, 0x2630, 0x2630, 0x01, 0x01, .u32, .rw, .std, 0, [], 0⟩,
  ⟨.rig, 0x2630, 0x2630, 0x02, 0x02, .u8, .rw, .std, 0, [], 0x3⟩,
  ⟨.rig, 0x2630, 0x2630, 0x03, 0x03, .u8, .rw, .std, 0, [], 0x3⟩,
  ⟨.rig, 0x2650, 0x2650, 0x01, 0x01, .u16, .wo, .std, 0, [], 0⟩,
  ⟨.rig, 0x2670, 0x2670, 0x01, 0x01, .u8, .wo, .std, 0, [(0, 1)], 0⟩,
  ⟨.rig, 0x2670, 0x2670, 0x02, 0x02, .u8, .ro, .std, 0, [], 0⟩,
  ⟨.rig, 0x2670, 0x2670, 0x03, 0x03, .u16, .rws, .std, 60, [(10, 3600)], 0⟩,
  ⟨.rig, 0x2670, 0x2670, 0x04, 0x04, .u8, .ro, .std, 0, [], 0⟩,
  ⟨.mast, 0x0058, 0x0058, 0x01, 0x01, .u64, .rw, .std, 0, [], 0⟩,
  ⟨.mast, 0x0058, 0x0058, 0x02, 0x02, .u8, .rw, .std, 0, [], 0x3⟩,
  ⟨.mast, 0x0058, 0x0058, 0x03, 0x03, .bool, .rw, .std, 0, [(0, 0)], 0⟩,
  ⟨.mast, 0x0058, 0x0058, 0x04, 0x04, .u16, .ro, .std, 0, [], 0⟩]

/-- Rows of the object tables of chapter 19, part 1. -/
def objRows19a : List ObjRow := [
  ⟨.rig, 0x2100, 0x2100, 0x01, 0x01, .bool, .ro, .std, 0, [], 0⟩,
  ⟨.rig, 0x2100, 0x2100, 0x02, 0x02, .u64, .ro, .std, 0, [], 0⟩,
  ⟨.rig, 0x2100, 0x2100, 0x03, 0x03, .u8, .ro, .std, 0, [], 0⟩,
  ⟨.rig, 0x2100, 0x2100, 0x04, 0x04, .u32, .ro, .std, 0, [], 0⟩,
  ⟨.rig, 0x2100, 0x2100, 0x05, 0x05, .u8, .ro, .std, 0, [], 0⟩,
  ⟨.rig, 0x2702, 0x2702, 0x01, 0x01, .u32, .ro, .std, 0, [], 0⟩,
  ⟨.rig, 0x2702, 0x2702, 0x02, 0x02, .u8, .ro, .std, 0, [], 0⟩,
  ⟨.rig, 0x2702, 0x2702, 0x03, 0x03, .u8, .ro, .std, 0, [], 0⟩,
  ⟨.rig, 0x2702, 0x2702, 0x04, 0x04, .u8, .ro, .std, 0, [], 0⟩,
  ⟨.rig, 0x2702, 0x2702, 0x05, 0x05, .u8, .ro, .std, 0, [], 0⟩]

/-- Rows of the object tables of chapter 20, part 1. -/
def objRows20a : List ObjRow := [
  ⟨.rig, 0x2110, 0x2110, 0x01, 0x01, .i16, .ro, .std, 0, [], 0⟩,
  ⟨.rig, 0x2110, 0x2110, 0x02, 0x02, .i16, .rws, .std, 12800, [(8960, 13440)], 0⟩,
  ⟨.rig, 0x2110, 0x2110, 0x03, 0x03, .i16, .rws, .std, 640, [(128, 2560)], 0⟩,
  ⟨.rig, 0x2110, 0x2110, 0x04, 0x04, .bool, .ro, .std, 0, [], 0⟩,
  ⟨.rig, 0x2110, 0x2110, 0x05, 0x14, .i16, .ro, .std, 0, [], 0⟩]

/-- Every row of the dictionary. -/
def objRows : List ObjRow :=
  objRows03a ++ objRows04a ++ objRows04b ++ objRows04c ++ objRows04d ++ objRows05a ++ objRows06a ++ objRows06b ++ objRows07a ++ objRows08a ++ objRows08b ++ objRows09a ++ objRows10a ++ objRows11a ++ objRows12a ++ objRows13a ++ objRows14a ++ objRows15a ++ objRows16a ++ objRows17a ++ objRows17b ++ objRows18a ++ objRows18b ++ objRows19a ++ objRows20a

end Sys2Proof.Machine
end

