-- ==== Sys2Proof/Machine/StateHost.lean ====
section
/-! DEFINITION. State of queues, commands in flight, DMA and endpoints (chapters 12 and 13). -/
namespace Sys2Proof.Machine

/-- Who owns a queue (12 R317). -/
inductive Owner where
  | nobody
  | fn (f : Fn)
  | peer (a : Nat)
  deriving DecidableEq, Repr

/-- One pair of an SQ's duplicate table (12 R333): `done` is the recorded status and RESULT, absent while in progress. -/
structure DupEntry where
  tag : Nat
  seq : Nat
  done : Option (Nat × Nat)
  deriving DecidableEq, Repr

/-- A submission queue (12 R317, R320-R323, R333). It is free while its owner is nobody. -/
structure SQ where
  owner : Owner := .nobody
  admin : Bool := false
  base : Nat := 0
  log : Nat := 4
  head : Nat := 0
  tail : Nat := 0
  eq : Nat := 0
  halted : Bool := false
  /-- packets fetched and not yet arrived, oldest first -/
  fetched : List Packet := []
  /-- of a peer's SQ: the EPOCH of each fetched packet (14 R386) -/
  epochs : List Nat := []
  /-- duplicate table, most recent first, at most 4,096 pairs -/
  dups : List DupEntry := []
  /-- a deferred error waits to set DEF (12 R338) -/
  defPending : Bool := false
  deriving DecidableEq, Repr

/-- An event record before its PHASE is known (12 Table 12.10). -/
structure EvRec where
  type : Nat
  level : Nat
  res : Nat
  tag : Nat
  status : Nat
  payload : Nat
  time : Nat
  tun : Bool
  dup : Bool
  defd : Bool
  /-- the mast of the command that a COMPLETION ends, while the record waits (12 R325, R340); no part of the record -/
  mast : Option Nat := none
  deriving DecidableEq, Repr

/-- An event queue (12 R317, R344-R347). -/
structure EQ where
  owner : Owner := .nobody
  admin : Bool := false
  base : Nat := 0
  log : Nat := 4
  vec : Nat := 0
  icnt : Nat := 0
  itime : Nat := 0
  subs : Nat := 0
  /-- first slot not yet returned by the consumer -/
  head : Nat := 0
  /-- next slot the rig writes -/
  tail : Nat := 0
  phase : Bool := true
  /-- records of types 0x01-0x11 that found the EQ full -/
  waiting : List EvRec := []
  /-- records of types 0x20-0x23 dropped since the last EQ_OVERFLOW -/
  dropped : Nat := 0
  /-- unsignalled records (12 R346) and the writing time of the earliest -/
  unsig : Nat := 0
  unsigAt : Nat := 0
  /-- its message is due and its vector masked (12 R346) -/
  asked : Bool := false
  deriving DecidableEq, Repr

/-- Where an outstanding command stands. -/
inductive Stage where
  /-- waits for its mast to leave the writing state (01 R34) -/
  | heldWriting
  /-- waits for an earlier WRITE of its own queue on the same extent (12 R324) -/
  | heldQueueWrite (serial : Nat)
  /-- waits for an earlier WRITE of its own queue on the same extent that is itself held (12 R324, R339) -/
  | heldBehind (cid : Nat)
  /-- waits for FURL_N to be released (12 R339, 06 R174) -/
  | heldFurl
  /-- waits until its mast's entries of the Extent Map are built afresh (16 R439) -/
  | heldMap
  /-- its scatter list is being fetched (12 R328) -/
  | scatter
  /-- sectors outstanding (12 R327) -/
  | reading
  /-- a WRITE waiting for staging, for data or for its durable point; `serial` names its entry among the writes -/
  | write (serial : Nat)
  /-- waits for the writes in `covers` (12 R337) -/
  | flush
  /-- a DICT_WRITE's buffer is being fetched -/
  | dictBuffer
  /-- a begun DICT_WRITE whose action is still running: a save (17 R474) or a passing (18 R487) -/
  | action
  /-- MOUNT reading the log (11 R310) -/
  | mounting
  /-- FURL until the mast is present (06 R173) -/
  | furling
  /-- a JOB segment waiting for its engine, or running on it (15 R410-R413) -/
  | job
  /-- an ABORT or a DELETE_SQ waits for the commands that it stopped, whose data is still being flushed (12 R335, R336; 13 R358), and
  then completes with `reply` -/
  | settling (cids : List Nat) (reply : Nat)
  /-- flush reads of 13 R358 outstanding -/
  | flushReads
  /-- FENCE sent, FENCE_ACK awaited (14 R397) -/
  | fence
  deriving DecidableEq, Repr

/-- A command from its arrival to the writing of its COMPLETION (12 R325). -/
structure Cmd where
  cid : Nat
  sq : Nat
  owner : Owner
  opc : Nat
  tag : Nat
  seq : Nat
  pkt : Packet
  /-- the mast it names -/
  mast : Option Nat
  stage : Stage
  /-- data bytes posted so far (RESULT of READ) -/
  posted : Nat := 0
  /-- sectors (EIDX) still to be delivered or reported -/
  need : List Nat := []
  /-- a named sector was unrecoverable -/
  lost : Bool := false
  /-- scatter list: (address, length) -/
  scatter : List (Nat × Nat) := []
  /-- address ranges written as data: (address, length) (13 R358) -/
  written : List (Nat × Nat) := []
  /-- serials of the writes a FLUSH waits for, in accepted order, and how many it covered -/
  covers : List Nat := []
  /-- those of them that have become durable or failed, with their status -/
  settled : List (Nat × Nat) := []
  /-- the status to complete with once flush reads or the FENCE_ACK allow it -/
  finish : Nat := 0
  /-- flush reads outstanding -/
  flushes : Nat := 0
  /-- WRITE_DATA packets sent (14 R397), and when the FENCE was sent -/
  sent : Nat := 0
  fenceAt : Nat := 0
  /-- duplicates waiting for its completion (12 R333) -/
  dups : Nat := 0
  /-- the job that its segment belongs to has closed (15 R413, R416) -/
  jobOver : Bool := false
  /-- bytes for a peer's memory that fill no 64-byte line yet: (address of the line, byte of it, value) (14 R396) -/
  frag : List (Nat × Nat × Byte) := []
  /-- a DICT_WRITE's buffer that came while no shroud held the token (17 R459) -/
  dict : Option (List Byte) := none
  /-- its sectors are sought once its mast's entries of the Extent Map are built afresh (16 R439) -/
  mapWait : Bool := false
  /-- its SQ was deleted: its records go to the owner's admin EQ (12 R336), or nowhere after a function reset (13 R367) -/
  orphan : Bool := false
  mute : Bool := false
  deriving DecidableEq, Repr

/-- What a read of host memory is for (13.7). -/
inductive ReadPurpose where
  | sqSlots (q : Nat) (n : Nat)
  | scatterList (cid : Nat)
  | dictData (cid : Nat)
  | flushRead (cid : Nat)
  deriving DecidableEq, Repr

/-- A read of host memory outstanding at an endpoint (13 R363, R364). -/
structure HostRead where
  ep : Endpoint
  fn : Nat
  tag : Nat
  addr : Nat
  len : Nat
  purpose : ReadPurpose
  issued : Nat
  limit : Nat
  /-- data of the completions that have arrived so far, in address order (13 R364) -/
  got : List Byte := []
  /-- bytes still to be asked for after this request, and those that earlier requests brought (13 R349) -/
  rest : Nat := 0
  acc : List Byte := []
  deriving DecidableEq, Repr

/-- One peer-window record (13 Table 13.8). -/
structure PeerWin where
  en : Bool := false
  kind : Nat := 0
  base : Nat := 0
  size : Nat := 0
  ridm : Nat := 0
  ridv : Nat := 0
  /-- the whole register at +0x18 -/
  w18 : Nat := 0
  deriving DecidableEq, Repr

/-- One MSI-X table entry with its pending bit (13 Table 13.2; the reset of 13 R367 masks every vector). -/
structure MsixEntry where
  addr : Nat := 0
  data : Nat := 0
  masked : Bool := true
  pend : Bool := false
  deriving DecidableEq, Repr

/-- BAR0 state of one function (13 Tables 13.4-13.6, 13.8). -/
structure FnRegs where
  asqb : Nat := 0
  aeqb : Nat := 0
  aitime : Nat := 0
  aicnt : Nat := 1
  avec : Nat := 0
  ae : Nat := 4
  as_ : Nat := 4
  aen : Bool := false
  aerr : Bool := false
  ardy : Bool := false
  mboxOff : Nat := 0
  mboxIndex : Nat := 0
  mboxSub : Nat := 0
  mboxCA : Bool := false
  mboxTotal : Nat := 0
  mboxLen : Nat := 0
  mboxOlen : Nat := 0
  mboxStatus : Nat := 0
  mboxBusy : Bool := false
  /-- an operation taken and not yet applied: 0 none (17 R459) -/
  mboxOp : Nat := 0
  /-- the 4 KiB data window and the 65,568-byte write buffer, by offset, absent bytes 0 -/
  window : List (Nat × Nat) := []
  wbuf : List (Nat × Nat) := []
  /-- peer-window shadows and windows in force that differ from the reset windows, by slot -/
  shadow : List (Nat × PeerWin) := []
  force : List (Nat × PeerWin) := []
  wstsFail : Bool := false
  wstsCount : Nat := 0
  msix : List (Nat × MsixEntry) := []
  deriving DecidableEq, Repr

/-- Something that left the rig, in order. -/
inductive Emit where
  /-- a posted memory write of a function: data, an event record (12 R343) -/
  | write (f : Fn) (addr : Nat) (data : List Byte)
  /-- an MSI-X message of a function (12 R346) -/
  | msix (f : Fn) (addr data : Nat)
  /-- a function's read of host memory (13.7) -/
  | readReq (f : Fn) (tag addr len : Nat)
  /-- the completion of a read that reached the rig: UR, CA or data (13 R365), or of a configuration request -/
  | cplUR (f : Fn)
  | cplCA (f : Fn)
  | cplData (f : Fn) (data : List Byte)
  | cfgRetry (f : Fn)
  | cfgDone (f : Fn) (v : Nat)
  /-- an error reported under AER: 0 Unsupported Request, 1 Poisoned TLP, 2 Completion Timeout, 3 Unexpected Completion -/
  | aer (f : Fn) (kind : Nat)
  /-- an LTR message (13 R362) -/
  | ltr (ep : Endpoint) (v : Nat)
  /-- a request for an L1 entry or an L0p width (13 R360, R361) -/
  | linkRequest (ep : Endpoint) (what : Nat)
  /-- a Gorcy packet out of a port: the bytes of its header, padded payload and trailer (14 R378) -/
  | gorcy (port : Nat) (bytes : List Byte)
  /-- a block out of a port on one of its lanes: the PAM4 levels of its codeword (14 R371, R372) -/
  | block (port lane : Nat) (line : LineBits)
  /-- a port or a mast link (32 + m) sending PRBS13Q (03 R100, 14 R383) -/
  | prbs (port : Nat)
  /-- one mast-link frame on an outbound lane: the PAM4 levels of its codeword (03 R79, R89) -/
  | frame (m lane : Nat) (line : LineBits)
  /-- a CoE, FoE or AL answer on the field network: code 0 success else SDO abort, FoE error or AL status code -/
  | field (code : Nat) (data : List Byte)
  /-- an output pin: 0 THERM_N, 1 others by chapter 20 -/
  | pin (which : Nat) (level : Bool)
  /-- bits shifted out on TDO (20 R527) -/
  | tdo (bits : List Bool)
  deriving DecidableEq, Repr

/-- Traffic class and attributes of a TLP. -/
structure TlpAttr where
  tc : Nat
  ro : Bool
  ido : Bool
  ns : Bool
  deriving DecidableEq, Repr

/-- Every TLP that the rig issues has Traffic Class 0, and Relaxed Ordering, ID-Based Ordering and No Snoop 0 (13 R356). -/
def Emit.attr : Emit → Option TlpAttr
  | .write .. | .msix .. | .readReq .. | .cplUR _ | .cplCA _ | .cplData .. | .cfgRetry _ | .cfgDone .. | .aer .. | .ltr .. =>
    some ⟨0, false, false, false⟩
  | _ => none

/-- The function that a TLP belongs to; an LTR message is the physical function's. -/
def Emit.fnOf : Emit → Option Fn
  | .write f _ _ | .msix f _ _ | .readReq f _ _ _ | .cplUR f | .cplCA f | .cplData f _ | .cfgRetry f | .cfgDone f _ | .aer f _ => some f
  | .ltr e _ => some ⟨e, 0⟩
  | _ => none

/-- State of one PCIe endpoint (13.1, 13.9); its link state, rate, width and tag size are the objects 2200 and 2201. -/
structure EpState where
  /-- the platform's PERST is asserted -/
  perst : Bool := true
  /-- functions in a hold that they have not resumed from, each with the instant of its DL_Down (13 R368) -/
  holds : List (Nat × Nat) := []
  /-- TLPs sent and not acknowledged at the hold, in order -/
  kept : List Emit := []
  /-- TLPs formed since the hold -/
  waiting : List Emit := []
  /-- reads waiting to be issued: abandoned without status at the hold, needed since, or beyond 4,096 outstanding -/
  abandoned : List HostRead := []
  devCtl2 : Nat := 0
  /-- Device Control (13 Table 13.1: payload and read request sizes, error reporting), and the AER registers of the physical function with
  the header logged: requester ID, BAR2 offset, length (13 R365; notes/assumptions/169.md) -/
  devCtl : Nat := 0x2810
  aerUnc : Nat := 0
  aerUncMask : Nat := 0
  aerUncSev : Nat := 0x462030
  aerCor : Nat := 0
  aerCorMask : Nat := 0xE000
  aerLog : Option (Nat × Nat × Nat) := none
  memSpace : Bool := false
  busMaster : Bool := false
  /-- virtual functions whose Bus Master Enable is set -/
  vfMaster : List Nat := []
  aspmL1 : Bool := false
  /-- L0p, ASPM L1.1 and L1.2, and LTR are enabled (13 R360, R361) -/
  l0pEn : Bool := false
  l11 : Bool := false
  l12 : Bool := false
  ltrEn : Bool := false
  tag10 : Bool := false
  tag14 : Bool := false
  vfEnable : Bool := false
  numVFs : Nat := 0
  /-- functions in D3hot -/
  d3hot : List Nat := []
  /-- BAR registers by 16 * function + 2 * bar + half -/
  bars : List (Nat × Nat) := []
  nextTag : Nat := 0
  /-- width that the link came up with (13 R361) -/
  fullWidth : Nat := 0
  /-- the last LTR message sent was the active one -/
  ltrActive : Bool := false
  /-- when the rig last sent a TLP here (13 R360) -/
  txAt : Nat := 0
  deriving DecidableEq, Repr

/-- The two endpoints' states and everything keyed by queue, command or tag. -/
structure HostState where
  sqs : List (Nat × SQ) := []
  eqs : List (Nat × EQ) := []
  cmds : List Cmd := []
  nextCid : Nat := 0
  fns : List (Nat × FnRegs) := []
  ha : EpState := {}
  hb : EpState := {}
  reads : List HostRead := []
  /-- tags withheld from reuse: (endpoint, tag, until) (13 R364) -/
  withheld : List (Endpoint × Nat × Nat) := []
  /-- packets and accesses that arrived while no shroud held the token, in order (18 R485): SQ, packet, epoch of its peer -/
  heldPackets : List (Nat × Packet × Nat) := []
  /-- lowest SQ of the round robin's next turn (12 R322) -/
  turnFrom : Nat := 0
  /-- the same among the admin SQs -/
  turnAdmin : Nat := 0
  deriving DecidableEq, Repr

end Sys2Proof.Machine
end

