-- ==== Sys2Proof/Machine/StateMedia.lean ====
section
/-! DEFINITION. State of reading and writing a disc: the decoder pool and the retry ladder (chapter 10), writes and commit
records (chapter 11), the Extent Map, the page pool and the locator cache (chapter 16). -/
namespace Sys2Proof.Machine

/-- A frame slot of a disc: layer, track, frame slot (09.5). -/
structure Slot where
  layer : Nat
  track : Nat
  sect : Nat
  deriving DecidableEq, Repr

/-- Where a sector in flight stands. -/
inductive SecPhase where
  /-- wanted, not scheduled in this revolution -/
  | wanted
  /-- scheduled: a pool place is reserved and the frame is awaited -/
  | scheduled
  /-- its codeword is in the pool queue or in a decoder -/
  | pool
  /-- at step 7, waiting for the other members of its group -/
  | rebuild
  /-- at step 8, waiting for a FETCH_REP -/
  | fetch
  deriving DecidableEq, Repr

/-- What a sector is read for (10 R257). -/
inductive SecUse where
  /-- data of an extent for waiting commands -/
  | data
  /-- a member of a cross-parity group read for a rebuild (10 R274) -/
  | member
  /-- a read for a peer's FETCH_REQ (14 R400): source address and XID -/
  | replica (src xid : Nat)
  /-- the verification of slot ordinal `n` of the write `serial`, or of the commit record `n` when `serial` is absent (11 R302) -/
  | verify (serial : Option Nat) (n : Nat)
  /-- a log slot, read for a MOUNT or to build a mast's entries afresh (11 R310, 16 R439) -/
  | log
  deriving DecidableEq, Repr

/-- A sector read to verify a burn. -/
def SecUse.isVerify : SecUse → Bool
  | .data => false
  | .member => false
  | .replica .. => false
  | .verify .. => true
  | .log => false

/-- A sector read of a committed extent. -/
def SecUse.ofExtent : SecUse → Bool
  | .data => true
  | .member => true
  | .replica .. => true
  | .verify .. => false
  | .log => false

/-- What a log slot holds after steps 0 to 6 (11 R295, R310): blank, unreadable, or a record's user field. -/
inductive LogFound where
  | blank
  | unreadable
  | record (user : List Byte)
  deriving DecidableEq, Repr

/-- A sector being read (10.3-10.6), with what R264 expects its header to say. -/
structure Sector where
  sid : Nat
  mast : Nat
  slot : Slot
  /-- the sail of the step-0 read, and the sail that reads it now -/
  sail : Nat
  reader : Nat
  str : Nat
  xpe : Bool
  ext : Nat
  eidx : Nat
  xpos : Nat
  kind : Nat
  reloc : Bool
  use : SecUse
  phase : SecPhase := .wanted
  step : Nat := 0
  /-- bit s - 1: step s entered (10 Table 10.3) -/
  entered : Nat := 0
  /-- alternatives decoded at step 2, shifts tried or passed over at step 6 -/
  tries : Nat := 0
  /-- offsets with which it was read at step 5, in order (10 R272) -/
  offs : List Nat := []
  /-- when its FETCH_REQ was sent, and that request's XID -/
  fetchAt : Nat := 0
  xid : Nat := 0
  /-- commands that wait on it -/
  waiters : List Nat := []
  deriving DecidableEq, Repr

/-- A codeword's LLRs (10 R269): alignment q, predicted position p, the n codeword LLRs (descrambled, polarity undone) and
the n/64 polarity LLRs. -/
structure Codeword where
  sid : Nat
  mast : Nat
  sail : Nat
  str : Nat
  q : Nat
  p : Nat
  llr : List Int
  pol : List Int
  /-- its sync search chose a candidate, not the flywheel step (09 R243, R244) -/
  found : Bool := true
  /-- rig time at which it became ready (10 R257) -/
  came : Nat := 0
  /-- its frame slot -/
  slot : Slot := ⟨0, 0, 0⟩
  deriving DecidableEq, Repr

/-- One decoder (10 R256, R282). -/
structure Decoder where
  /-- at most two codewords; the first is the one being decoded -/
  bufs : List Codeword := []
  idleSince : Nat := 0
  testedAt : Nat := 0
  /-- a cleared decoder runs its self-test before it takes a codeword (10 R282) -/
  untested : Bool := false
  deriving DecidableEq, Repr

/-- Accepted members of a cross-parity group, kept while a sector of the group is still read (10 R274). -/
structure Group where
  mast : Nat
  ext : Nat
  grp : Nat
  /-- (XPOS, info bytes) accepted -/
  members : List (Nat × List Byte)
  /-- XPOS values that reached step 7 unaccepted -/
  lost : List Nat
  deriving DecidableEq, Repr

/-- Phase of a write (11.1-11.6). -/
inductive WPhase where
  /-- waits for staging or for a place in a window (12 R330, 13 R366) -/
  | waiting
  /-- granted, data arriving -/
  | granted
  /-- accepted: pending, nothing burned -/
  | pending
  /-- slots fixed, burning and verifying -/
  | burning
  /-- every slot verified, its entry waits for the open record -/
  | verified
  /-- its extent entry is in the open record -/
  | entered
  /-- its extent entry is in a closed record -/
  | recorded
  /-- attached to another pending write (11 Table 11.1) -/
  | attached (owner : Nat)
  deriving DecidableEq, Repr

/-- State of one placed slot. -/
inductive BurnState where
  | placed | burned | passed | failed
  deriving DecidableEq, Repr

/-- One placed slot of a write: ordinal n in placement order, the slot that now carries it, relocations made. -/
structure WSlot where
  n : Nat
  slot : Slot
  state : BurnState := .placed
  relocs : Nat := 0
  deriving DecidableEq, Repr

/-- A write from its arrival until it is durable or has failed (chapter 11). -/
structure Write where
  serial : Nat
  cid : Nat
  sq : Nat
  owner : Owner
  tag : Nat
  seq : Nat
  mast : Nat
  ext : Nat
  len : Nat
  str : Nat
  xpe : Bool
  dur : Bool
  phase : WPhase := .waiting
  /-- grant: number, aperture offset, granules, granules received (ascending), start -/
  gid : Nat := 0
  goff : Nat := 0
  ngr : Nat := 0
  got : List Nat := []
  grantAt : Nat := 0
  /-- staged bytes by offset, absent bytes 0 -/
  data : List (Nat × Nat) := []
  dig : Nat := 0
  acceptedAt : Nat := 0
  /-- its place in the order of accepted points (11 R293) -/
  order : Nat := 0
  /-- placement: first stripe's layer, lower track, first column -/
  place : Option (Nat × Nat × Nat) := none
  slots : List WSlot := []
  attempts : Nat := 0
  /-- its COMPLETION was written -/
  completed : Bool := false
  orphan : Bool := false
  mute : Bool := false
  /-- channels that hold its staged pages (16 R433) -/
  chans : List Nat := []
  deriving DecidableEq, Repr

/-- A commit record (11.6): its SEQ, the serials of the writes whose extent entries it holds in entry order, failures. -/
structure CommitRec where
  seq : Nat
  /-- (serial, relocation ordinal) for a relocation entry, (serial, none) for an extent entry -/
  entries : List (Nat × Option Nat)
  firstAt : Nat
  fails : Nat := 0
  /-- log slot it was burned in, awaiting verification -/
  burnedAt : Option Nat := none
  /-- its 64-byte entries, from its closing; its header (09 Table 9.5), from its first burn -/
  body : List Nat := []
  header : Option Nat := none
  deriving DecidableEq, Repr

/-- A mast's writing side (11.4-11.6). -/
structure WriteSide where
  openRec : Option CommitRec := none
  closed : List CommitRec := []
  lastSeq : Nat := 0
  /-- next free log slot, by order in the log area -/
  logNext : Nat := 0
  /-- when the present reading or writing period began (11 R301) -/
  periodAt : Nat := 0
  /-- the disc is closed for writing (11 R308) -/
  closedForWriting : Bool := false
  /-- spare slots taken: (layer, track, slot) -/
  spares : List Slot := []
  /-- strength given to a stripe (layer, lower track) (09 R232, 11 R294) -/
  stripeStr : List (Nat × Nat × Nat) := []
  /-- relocation entries of passed records whose extent entry has not come yet (09 R252) -/
  relocPool : List Nat := []
  /-- placement column after the last placed extent: layer, lower track, column -/
  frontier : Nat × Nat × Nat := (0, 0, 0)
  /-- what the log slots read so far held, in placement order, while a MOUNT or a rebuild of the map reads the log (11 R310) -/
  log : List LogFound := []
  /-- SEQ of the last record passed when that reading began: a rebuild of the map applies no later one (16 R439) -/
  logTo : Nat := 0
  deriving DecidableEq, Repr

/-- A sector kept in the read cache (16 R433). -/
structure Retained where
  mast : Nat
  ext : Nat
  eidx : Nat
  chan : Nat
  user : List Byte
  deriving DecidableEq, Repr

/-- One valid line of the locator cache (16 R445, R446). A line holds what memory holds (16 R448), so it carries no data of its
own. -/
structure CacheLine where
  st : Nat
  ln : Nat
  nru : Bool
  deriving DecidableEq, Repr

/-- A request waiting on a line (16 R449). -/
structure CacheReq where
  kind : CacheKind
  st : Nat
  ln : Nat
  /-- a prefetch that waits for room (16 R447, R450) -/
  pre : Bool
  deriving DecidableEq, Repr

/-- A fill in flight (16 R446-R450, R453): where it installs, its victim in the eviction buffer, its waiters. -/
structure Fill where
  st : Nat
  ln : Nat
  set : Nat
  way : Nat
  demand : Bool
  cancelled : Bool := false
  waiters : List CacheReq := []
  deriving DecidableEq, Repr

/-- A line in the eviction buffer, with the fill whose victim it was (16 R450). -/
structure Evicted where
  st : Nat
  ln : Nat
  byStruct : Nat
  byLine : Nat
  deriving DecidableEq, Repr

/-- A maintenance operation running (16 R452-R454). -/
structure Maint where
  op : Nat
  st : Nat
  ln : Nat
  /-- requests that wait for its completion -/
  waiters : List CacheReq := []
  deriving DecidableEq, Repr

/-- The rig's memory structures (chapter 16) and everything in flight between discs and hosts (chapters 10, 11). -/
structure MediaState where
  sectors : List Sector := []
  nextSid : Nat := 0
  queue : List Codeword := []
  decoders : List (Nat × Decoder) := []
  groups : List Group := []
  writes : List Write := []
  nextSerial : Nat := 0
  nextGid : Nat := 0
  nextOrder : Nat := 0
  /-- Extent Map entries other than free ones, by 16 * bucket + entry, as 256-bit values (16 R440) -/
  map : List (Nat × Nat) := []
  /-- masts whose entries are being built afresh from their disc's log (16 R439) -/
  mapLost : List Nat := []
  /-- granules that differ from what the fill left, by channel * 2^29 + granule index (16 R428, R430) -/
  cells : List (Nat × Granule) := []
  retained : List Retained := []
  lines : List (Nat × CacheLine) := []
  fills : List Fill := []
  evicted : List Evicted := []
  maint : Option Maint := none
  /-- maintenance operations that have arrived and not started (16 R449, R452) -/
  maintNext : List Maint := []
  /-- requests waiting for an eviction-buffer place (16 R450) -/
  cacheWait : List CacheReq := []
  agePointer : Nat := 0
  /-- channels being filled after a clear (16 R436) -/
  filling : List Nat := []
  /-- rebuild areas in use: (channel, share) and whether the copy is complete (16 R438) -/
  rebuilds : List (Nat × Nat × Bool) := []
  /-- channels whose own share is still being copied to them after a clear (16 R436) -/
  homeCopy : List Nat := []
  /-- scrub position of each channel: next granule -/
  scrub : List (Nat × Nat) := []
  /-- staging limit that start-up took, in MiB (16 R433) -/
  stageLim : Nat := 0
  /-- pages reserved for write staging (11 R289) -/
  staged : Nat := 0
  /-- pages taken from the pool so far: the rotation over the channels (16 R433) -/
  nextPage : Nat := 0
  deriving DecidableEq, Repr

end Sys2Proof.Machine
end

