-- ==== Sys2Proof/Machine/StateFabric.lean ====
section
/-! DEFINITION. State of the Gorcy fabric (chapter 14) and of the stream engines and check-value units (chapter 15). -/
namespace Sys2Proof.Machine

/-- A packet kept until acknowledged (14 R380, R381), with the header and the dimension that it was routed from. -/
structure SentPkt where
  lseq : Nat
  header : BitVec 512
  payload : List Byte
  sentAt : Nat
  replays : Nat
  orig : BitVec 512
  arr : Nat
  deriving DecidableEq, Repr

/-- A packet waiting for credit at its output port: header as routed, the header and dimension that it was routed from, and the port and
virtual channel whose input buffer holds it, where it came from another rig (14 R377, R382). -/
structure WaitPkt where
  header : BitVec 512
  payload : List Byte
  orig : BitVec 512
  arr : Nat
  from_ : Option (Nat × Nat)
  deriving DecidableEq, Repr

/-- One Gorcy port (14.1, 14.4, 14.5); its state is object 2301:01 + p and its retired lanes 2301:05 + p. -/
structure Port where
  lane0 : Bool := false
  lane1 : Bool := false
  lane0Down : Option Nat := none
  lane1Down : Option Nat := none
  /-- first detection of signal (14 Table 14.4a) -/
  t0 : Option Nat := none
  sendSeq : Nat := 0
  expect : Nat := 0
  unacked : List SentPkt := []
  /-- packets waiting for credit, in order -/
  stalled : List WaitPkt := []
  /-- units sent, units that the neighbour has freed, and units freed here, per virtual channel of 1,024 units: cumulative (14 R377,
  R382) -/
  used : List Nat := [0, 0, 0, 0]
  limit : List Nat := [0, 0, 0, 0]
  freed : List Nat := [0, 0, 0, 0]
  /-- stream bytes that fill no block yet and where packets start among them, blocks and pairs sent (14 R372) -/
  tx : List Byte := []
  txStarts : List Nat := []
  txBlocks : Nat := 0
  txPairs : Nat := 0
  /-- trainings that ended without a port up, and when the PRBS13Q after the last of them has run (14 Table 14.4a) -/
  restarts : Nat := 0
  prbsUntil : Nat := 0
  /-- a HELLO is to be sent for a change (14 R384) -/
  helloOwed : Bool := false
  /-- packets accepted since the last LCTL, and when the first of them was -/
  owed : Nat := 0
  owedAt : Nat := 0
  miswired : Bool := false
  helloSentAt : Option Nat := none
  /-- last valid HELLO received: T_SEND, arrival, source, epoch, TFLAGS, RANK, ROOT, DIST; absent before the first -/
  helloAt : Option Nat := none
  nTSend : Nat := 0
  nSrc : Nat := 0
  nEpoch : Nat := 0
  nFlags : Nat := 0
  nRank : Nat := 255
  nRoot : Nat := 0
  nDist : Nat := 0
  /-- consecutive measurements with |theta| > 1,000, consecutive ones within, the last valid measurement -/
  bad : Nat := 0
  good : Nat := 0
  measuredAt : Option Nat := none
  deriving DecidableEq, Repr

/-- One entry of the lease table (14 R393). -/
structure Lease where
  disc : Nat
  epoch : Nat
  holder : Nat
  carried : Nat
  deriving DecidableEq, Repr

/-- A peer that holds queues (12 R318, 14 R395). -/
structure Peer where
  addr : Nat
  q : Nat
  eq : Nat
  lastAt : Nat
  deriving DecidableEq, Repr

/-- Application of WRITE_DATA packets of one command of one source (14 R397): counts, and a FENCE waiting for them. -/
structure FenceIn where
  src : Nat
  serial : Nat
  applied : Nat
  dropped : Nat
  /-- packets the FENCE names and its XID, once it arrived -/
  due : Option (Nat × Nat)
  deriving DecidableEq, Repr

/-- A cross-rig copy in progress at this source (14 R399). -/
structure Copy where
  slot : Nat
  serial : Nat
  dst : Nat
  startedAt : Nat
  /-- GOFF of the XFER_READY, once received -/
  goff : Option Nat := none
  /-- the SQ that the destination gave this rig, once a record named it -/
  asq : Option Nat := none
  /-- an ABORT for its tag has been sent -/
  aborting : Bool := false
  deriving DecidableEq, Repr

/-- Fabric-wide state (14.6-14.10). -/
structure FabricState where
  ports : List (Nat × Port) := []
  leases : List Lease := []
  peers : List Peer := []
  fences : List FenceIn := []
  copies : List Copy := []
  /-- serials of copy slots, by slot (14 R399; notes/assumptions/26.md) -/
  copySerial : List (Nat × Nat) := []
  nextXid : Nat := 0
  /-- (peer, epoch) pairs already reported with EPOCH_MISMATCH (14 R386) -/
  reported : List (Nat × Nat) := []
  timeUnsure : Bool := false
  /-- root advertised: RANK, ROOT, DIST (14 R389) -/
  rank : Nat := 255
  root : Nat := 0
  dist : Nat := 0
  /-- fields of a HELLO that are the rig's own, as last advertised (14 R384) -/
  advert : List Nat := []
  /-- when the present parent began to be followed or was last measured -/
  parentAt : Nat := 0
  /-- the one-time step before first ready was made (14 R390) -/
  stepped : Bool := false
  leaseRot : Nat := 0
  /-- lease entries (disc, epoch, holder) as last carried in a HELLO: an entry not among them has changed (14 R393) -/
  leaseSent : List (Nat × Nat × Nat) := []
  /-- known peers' latest epochs by address, each plus 1 -/
  epochs : List (Nat × Nat) := []
  /-- next slot of the EQ that a peer keeps for this rig, by the peer's address (14 R395) -/
  heads : List (Nat × Nat) := []
  deriving DecidableEq, Repr

/-- A check-value unit (15.9). CVV, polynomial, initial value and final XOR hold their low w bits. -/
structure CvUnit where
  cfg : Nat := 0x0320
  poly : Nat := 0x1EDC6F41
  init : Nat := 0xFFFFFFFF
  xorout : Nat := 0xFFFFFFFF
  cvv : Nat := 0xFFFFFFFF
  deriving DecidableEq, Repr

/-- The registers a context holds (15 R403, R414). -/
structure EngCtx where
  /-- G0-G15 -/
  regs : Vector (BitVec 64) 16 := Vector.replicate 16 0
  z : Bool := false
  n : Bool := false
  c : Bool := false
  v : Bool := false
  stack : List (BitVec 13) := []
  pc : BitVec 13 := 0
  /-- scratch bytes by address, absent bytes 0 -/
  scratch : List (Nat × Nat) := []
  cv : CvUnit := {}
  /-- bytes taken by the last IN, and whether one of them was of a lost sector (15 R412, Tables 15.2, 15.4) -/
  icnt : Nat := 0
  lostFlag : Bool := false
  /-- lost sectors met in the job, as (mast, EXT, sector of the extent), and their number -/
  lostSeen : List (Nat × Nat × Nat) := []
  lostN : Nat := 0
  segN : Nat := 0
  deriving DecidableEq, Repr

/-- A segment running on an engine (15.5). -/
structure Segment where
  cid : Nat
  mast : Nat := 0
  ext : Nat := 0
  len : Nat
  ocap : Nat
  last : Bool
  save : Bool
  /-- input delivered in order and not yet taken: byte, and whether it belongs to a lost sector -/
  input : List (Nat × Bool) := []
  /-- sectors (EIDX) of the range not yet delivered, ascending; sectors delivered out of order wait in `early` -/
  due : List Nat := []
  early : List (Nat × Option (List Byte)) := []
  off : Nat := 0
  ipos : Nat := 0
  opos : Nat := 0
  words : Nat := 0
  deriving DecidableEq, Repr

/-- A stream engine (15 R403); assignment, window size, start parameters and state are objects 2500 + e. -/
structure Engine where
  /-- control store: words other than those at start-up (15 R419, Table 15.6), by address -/
  store : List (Nat × Microword) := []
  ctx : EngCtx := {}
  seg : Option Segment := none
  /-- SQ of the job that holds the engine -/
  holder : Option Nat := none
  /-- SQs with an open job on this engine -/
  openJobs : List Nat := []
  /-- save slots in use: (SQ, context) -/
  saves : List (Nat × EngCtx) := []
  /-- commands waiting for the engine, in arrival order -/
  waiting : List Nat := []
  /-- shared-window bytes by address, absent bytes 0, and the window page table: channel and page of each of its pages (16 R433) -/
  window : List (Nat × Nat) := []
  pages : List (Nat × Nat) := []
  loading : Bool := false
  deriving DecidableEq, Repr

/-- All engines and host-owned units; an image load in progress. -/
structure EngineState where
  engines : List (Nat × Engine) := []
  units : List (Nat × CvUnit) := []
  /-- the image staged in 2541:01 -/
  image : List Byte := []
  /-- loads accepted and not complete, in order: the engines that each writes, and its image -/
  loads : List (Nat × List Byte) := []
  deriving DecidableEq, Repr

end Sys2Proof.Machine
end

