-- ==== Sys2Proof/Machine/StateRig.lean ====
section
/-! DEFINITION. State of the rig's supervision: NV store and field network (chapter 17), shrouds and availability (chapter 18),
start-up (chapter 19), pins and test access (chapter 20). -/
namespace Sys2Proof.Machine

/-- A valid parameter bank (17 R471): SEQ, records by dictionary key, and the DOMAIN records. -/
structure Bank where
  seq : Nat
  recs : List (Nat × Int)
  blobs : List (Nat × List Byte)
  deriving DecidableEq, Repr

/-- A save in progress (17 R472): target bank (0 A, 1 B), the state as it stood at its start, whether it is the repeat. -/
structure Save where
  target : Nat
  bank : Bank
  second : Bool
  deriving DecidableEq, Repr

/-- Who waits for a save to end (17 R474): a command, a mailbox, or an SDO. -/
inductive Waiter where
  | cmd (cid : Nat)
  | mailbox (f : Fn)
  | sdo
  deriving DecidableEq, Repr

/-- The NV store (17.4). Image slots hold the bytes FoE wrote. -/
structure NvState where
  bankA : Option Bank := none
  bankB : Option Bank := none
  save : Option Save := none
  /-- another save was asked for while one ran: waiters it answers -/
  next : Option (List Waiter) := none
  /-- waiters of the running save -/
  waiters : List Waiter := []
  /-- rig time of the first RWS write no save has yet covered -/
  uncovered : Option Nat := none
  failedAt : Option Nat := none
  slot0 : List Byte := []
  slot1 : List Byte := []
  /-- boot record: (SEQ, slot) entries (19 R510) -/
  boot : List (Nat × Nat) := []
  deriving DecidableEq, Repr

/-- A CoE request waiting: an upload, or a download of some bytes (17 R466). -/
structure SdoReq where
  index : Nat
  sub : Nat
  ca : Bool
  down : Option (List Byte)
  deriving DecidableEq, Repr

/-- The EtherCAT SubDevice beyond its objects (17.3): SyncManager settings the MainDevice wrote, DC, TxPDO, mailbox. -/
structure FieldState where
  /-- (start, length, enabled) of SM0-SM3 -/
  sm : List (Nat × Nat × Nat) := [(0x1000, 512, 1), (0x1200, 512, 1), (0x1400, 0, 0), (0x1800, 56, 1)]
  dcSelected : Bool := false
  /-- magnitudes of the last 16 system time differences, newest first -/
  diffs : List Nat := []
  txpdo : List Byte := []
  lastReply : Option (Nat × List Byte) := none
  /-- an SDO download waits for its save -/
  sdoBusy : Bool := false
  /-- CoE requests held until a holder of the token and rig ready take them (18 R485, 19 R515), oldest first -/
  held : List SdoReq := []
  /-- an AL request above Init held until rig ready (19 R515) -/
  alHeld : Option (AlState × AlConfig) := none
  deriving DecidableEq, Repr

/-- Steps of a vendor-image update (18 Table 18.5). -/
inductive UpdateStep where
  | none | loadingS | passing | observing | loadingH
  deriving DecidableEq, Repr

/-- Shrouds, token, update, failures (chapter 18); holder, G and states are the objects 2600. -/
structure AvailState where
  /-- rig time from which no shroud has held the token -/
  noHolderAt : Option Nat := none
  /-- the period without holder already furled the masts -/
  noHolderFurled : Bool := false
  /-- rig time since which A has been in standby -/
  standbyA : Option Nat := none
  /-- an update: step, slot, shroud H that held at t0, start of observation -/
  upd : UpdateStep := .none
  updSlot : Nat := 0
  updH : Shroud := .a
  updAt : Nat := 0
  /-- image slot each shroud runs -/
  imageA : Nat := 0
  imageB : Nat := 0
  /-- failure instants, newest first, by class * 65536 + mast * 256 + unit (18 R489) -/
  fails : List (Nat × List Nat) := []
  deriving DecidableEq, Repr

/-- Pins as registered (00 H): asserted levels. -/
structure PinState where
  rstN : Bool := true
  testN : Bool := false
  furlN : Bool := false
  /-- rig time at which SYNC_IN's latest pulse ends -/
  syncFall : Nat := 0
  /-- the period P of the last two accepted edges, whole (06 R165) -/
  syncP : Nat := 0
  /-- SYNC_IN: last accepted edge, stuck latch, edges since it was lost (06 R165, R166) -/
  syncAt : Option Nat := none
  syncRise : Nat := 0
  syncEdges : Nat := 0
  therm : Bool := false
  thermalFurl : Bool := false
  deriving DecidableEq, Repr

/-- JTAG (20 R527): instruction register, boundary-scan shift and update stages. -/
structure JtagState where
  ir : BitVec 8 := 0x01
  chain : List Bool := []
  update : List Bool := []
  /-- EXTEST drives the balls -/
  driving : Bool := false
  deriving DecidableEq, Repr

/-- Start-up (chapter 19). -/
structure BootState where
  /-- lock of the root PLL, or its reference, was lost and is not regained (19 R503) -/
  pllLost : Bool := false
  /-- in reset: RST_N, TEST_N or PLL (19 R507, 20 R526) -/
  inReset : Bool := true
  /-- every channel's fill is awaited -/
  filling : Bool := false
  ready : Bool := false
  wasReady : Bool := false
  recovery : Bool := false
  deriving DecidableEq, Repr

end Sys2Proof.Machine
end

