-- ==== Sys2Proof/Machine/StateMast.lean ====
section
/-! DEFINITION. State of one mast (chapters 3 to 9). -/
namespace Sys2Proof.Machine

/-- The mast state machine (01 R34). -/
inductive MastState where
  | absent | present | spinning | tracking | reading | writing | furling | faulted | retired
  deriving DecidableEq, Repr

/-- One inbound lane's receiver (03 R101, R104, R105). -/
structure LaneRx where
  /-- frame lock -/
  locked : Bool := false
  /-- consecutive valid frames while locking; consecutive frames that are not valid while locked -/
  run : Nat := 0
  bad : Nat := 0
  /-- unlocked at t0 + 40 ms of the present training (03 Table 3.12, step 5) -/
  failed : Bool := false
  /-- cleared during the present training: it takes part in the next (03 R108) -/
  skip : Bool := false
  /-- TXEQ setting being tried, and the best eye margin met with its register value (03 Table 3.12, step 5) -/
  trial : Nat := 0
  best : Option (Nat × Nat) := none
  /-- start of the present down time (ns) -/
  downAt : Option Nat := none
  /-- end of the last down time (ns) -/
  upAt : Nat := 0
  deriving DecidableEq, Repr

/-- The mast link's rig side (chapter 3). Link state, lanes, LMAP, D and identity are the objects M+08 and M+09. -/
structure LinkSt where
  /-- first detection of signal of the present training (03 R100) -/
  t0 : Option Nat := none
  /-- consecutive training failures (03 R103) -/
  fails : Nat := 0
  /-- since when PRBS13Q is sent after a training that failed (03 R103) -/
  prbsAt : Option Nat := none
  /-- rig time of the latest signal on an inbound lane (03 R107) -/
  lastSig : Nat := 0
  lanes : List (Nat × LaneRx) := []
  /-- outbound lanes: consecutive telemetry sets showing a lane down; the lane is down -/
  outBad0 : Nat := 0
  outBad1 : Nat := 0
  /-- rise of OUNC0 and OUNC1 at the latest telemetry set -/
  rise0 : Nat := 0
  rise1 : Nat := 0
  outDown0 : Bool := false
  outDown1 : Bool := false
  /-- the most recent telemetry set, words 0 to 38, and the set in use (03 R87, R99) -/
  newest : List Nat := []
  tel : List Nat := []
  /-- the set in use is not the set of its strobe (03 R99) -/
  stale : Bool := false
  /-- LATE, OUNC0, OUNC1, WUND of the set before (03 R88) -/
  wraps : List Nat := [0, 0, 0, 0]
  /-- consecutive sets whose RIMG differs (03 R96) -/
  rimgBad : Nat := 0
  /-- the rig's register image: values sent that differ from Table 3.7's resets -/
  image : List (Nat × Nat) := []
  /-- next register of the rotation (03 R96) -/
  rotate : Nat := 0
  /-- value of FCLR to send, 0 none -/
  fclr : Nat := 0
  seq : Nat := 0
  /-- identity requested; TSET frames still to send (03 Table 3.12) -/
  idreq : Bool := false
  tset : Nat := 0
  /-- lane 0 brings lane 6's duties: its latest sample frame was of TYPE 2 (03 Table 3.13) -/
  lmapped : Bool := false
  /-- the mast is faulted through its sled alone (07 R192) -/
  sledOnly : Bool := false
  deriving DecidableEq, Repr

/-- A filtered PID block (04 R116): long states, previous error, and the values of its last evaluation. -/
structure Pid where
  i : Int := 0
  d : Int := 0
  ePrev : Int := 0
  u : Int := 0
  p40 : Int := 0
  ff : Int := 0
  /-- error input of the last evaluation, also of a disabled block -/
  e : Int := 0
  /-- a selector candidate under AW 2 awaits the choice (04 R117): integrator after step 4, saturation without and with step 4 -/
  late : Option (Int × Bool × Bool) := none
  deriving DecidableEq, Repr

/-- The observer's states (06 R157); the estimates' angle and speed are also shown at M+27:0A and 0B. -/
structure Observer where
  ia : Int := 0
  ib : Int := 0
  ea : Int := 0
  eb : Int := 0
  w : Int := 0
  th : Int := 0
  deriving DecidableEq, Repr

/-- A commit of one block's shadow record that waits for its evaluation (04 R126, R128): the values as committed, by
256 * ii + sub-index. -/
structure Commit where
  block : Nat
  tick : Nat
  vals : List (Nat × Int)
  deriving DecidableEq, Repr

/-- What a held target write sets (04 R114, 05 R143). -/
structure HeldTarget where
  cmd : YardCmd
  deriving DecidableEq, Repr

/-- The yard servo engine (chapter 4). -/
structure ServoSt where
  pids : List (Nat × Pid) := []
  /-- (s1, s2) of section s of chain b, by 16 * b + s -/
  secs : List (Nat × (Int × Int)) := []
  /-- last output of each chain -/
  chainOut : List (Nat × Int) := []
  obs : Observer := {}
  /-- active parameters (committed), by dictionary key less the mast's base; values that differ from their defaults -/
  act : List (Nat × Int) := []
  commits : List Commit := []
  /-- TSN each loop used at its last evaluation, by loop number (04 R113) -/
  used : List (Nat × Nat) := []
  /-- targets and feed-forward inputs by block number -/
  targets : List (Nat × Int) := []
  ffs : List (Nat × Int) := []
  /-- target writes held during a positioning order, in arrival order -/
  held : List HeldTarget := []
  /-- flags that the latest evaluations raised, as (sub-index of M+20, bit, tick at which the evaluation's window ends) (04 R130) -/
  raised : List (Nat × Nat × Nat) := []
  /-- selector output -/
  w : Int := 0
  /-- the greatest generation received (18 R484) -/
  gen : Nat := 0
  deriving DecidableEq, Repr

/-- The trace buffer (04.8); its state is M+2E:01. Entries are four nodes, oldest first. -/
structure Trace where
  entries : List (List Nat) := []
  /-- node 0 of the previous entry -/
  prev : Option Nat := none
  decim : Nat := 0
  fire : Bool := false
  /-- events (bits as TEVENT) since the previous entry's evaluation: those before the present evaluation of TBASE's loop began, and
  those since (04 R133) -/
  before : Nat := 0
  events : Nat := 0
  trigAt : Nat := 0
  deriving DecidableEq, Repr

/-- A timed positioning sequence (05.3 to 05.6). Times are ticks. -/
inductive Seqn where
  | none
  /-- acquisition: step of Table 5.4, tick of the step's start, tick of the order -/
  | acquire (step : Nat) (since : Nat) (t0 : Nat)
  /-- track jump: delta, crossings seen, held TRK, start -/
  | jump (delta : Int) (seen : Nat) (heldV : Int) (t0 : Nat)
  /-- seek to a guide track, corrections made; step 0 while the sled moves, then steps 4 to 7 of Table 5.4 -/
  | seek (target : Nat) (corr : Nat) (step : Nat) (since : Nat) (t0 : Nat)
  /-- layer jump: from, to, lobes seen, held HLF, start, tick at which lobe 2n began, brake ended -/
  | layer (a b : Nat) (lobes : Nat) (heldV : Int) (t0 : Nat) (brake : Option Nat) (ended : Bool)
  /-- homing: step of Table 7.1, end of the present leg in n, start (tick) -/
  | homing (leg : Nat) (limit : Int) (t0 : Nat)
  deriving DecidableEq, Repr

/-- A running calibration (05.8, 08.8). -/
structure Calib where
  kind : CalKind
  code : Nat
  /-- the search under way (code 3: 0 SA, 1 HOFS; channel code 4: tap order) and the candidate in it -/
  search : Nat := 0
  cand : Nat := 0
  /-- metrics so far, in search order; for channel codes one list per candidate, one metric per sail -/
  metrics : List (List Int) := []
  /-- searched values before the command, by dictionary key -/
  saved : List (Nat × Int) := []
  /-- tick at which the candidate was applied; its settling time has passed; its metric and samples so far -/
  since : Nat := 0
  armed : Bool := false
  acc : Nat := 0
  n : Nat := 0
  /-- group sums of code 4 -/
  groups : List Int := []
  /-- sails that decoded a sector during the search -/
  decoded : List Nat := []
  /-- loop targets by block and the HSA output before the command (05 R153) -/
  tgts : List (Nat × Int) := []
  hsaWas : Int := 0
  /-- frames to be read again since a decoder's memory error struck them: sail, slot, strength (10 R281) -/
  again : List (Nat × Slot × Nat) := []
  /-- M+35:03, or M+45:03, as the command found it: the layer of a loop calibration, the preset of a channel calibration -/
  arg : Nat := 0
  /-- values chosen so far, by dictionary key -/
  chosen : List (Nat × Int) := []
  /-- sails measured -/
  sails : List Nat := []
  /-- positions of one measuring span (08 Table 8.3) -/
  full : Nat := 0
  /-- every sail measured has adapted for its 65,536 positions (08 R220): the first candidate is applied -/
  adapted : Bool := false
  deriving DecidableEq, Repr

/-- The optical loops (chapter 5). -/
structure OptSt where
  /-- consecutive evaluations of each loop's lock test and loss test -/
  lockRun : List (Nat × Nat) := []
  lossRun : List (Nat × Nat) := []
  seqn : Seqn := .none
  /-- failures within the present order -/
  fails : Nat := 0
  /-- FE, TE, HFE of the previous evaluation -/
  prevFe : Int := 0
  prevTe : Int := 0
  prevHfe : Int := 0
  /-- evaluations since the last crossing; magnitudes of TE's peaks over the last 64 crossings; the peak now -/
  sinceX : Nat := 0
  peaks : List Nat := []
  peak : Nat := 0
  /-- |HFE| has reached HSC in the present ramp -/
  lobe : Bool := false
  /-- tick at which block 6 last resumed after a layer jump -/
  resumed : Option Nat := none
  /-- a slew of HSA: its start tick, from, to (05 Table 5.6) -/
  slew : Option (Nat × Int × Int) := none
  /-- the outputs of the optical loops -/
  foc : Int := 0
  trk : Int := 0
  brc : Int := 0
  hlf : Int := 0
  hsa : Int := 0
  /-- the write gate, and the laser, spindle, sled and chopper enables of the next frame (03 Table 3.6) -/
  wrEn : Bool := false
  lsrEn : Bool := false
  spnEn : Bool := false
  sldEn : Bool := false
  /-- last guide-address unit: track, unit; chi0 -/
  unit : Option (Nat × Nat) := none
  chi0 : Option Int := none
  /-- a media type mismatch found after the mount (09 R230) -/
  mismatch : Bool := false
  /-- clock track: F0, F, NCO phase (cycles, UQ.48) at tick `at_`, flywheel runs in a row, snap still owed, running -/
  f0 : Nat := 0
  f : Nat := 0
  phi : Nat := 0
  phiAt : Nat := 0
  flyRuns : Nat := 0
  snap : Int := 0
  /-- sample index less integer part of the NCO's sampling phase, modulo 2^32 (05 R150) -/
  off : Nat := 0
  /-- what frames carry until a tick: (tick, phi, phiAt, F) before the last run (04 R112) -/
  clkOld : Option (Nat × Nat × Nat × Nat) := none
  /-- fraction of the front-end's phase P at the tick `pfAt` (UQ0.24), and the SFW in force since (03 R92, R93) -/
  pf : Nat := 0
  pfAt : Nat := 0
  pfW : Nat := 0
  /-- clock-track loop: 0 off, 1 awaiting its first full run, 2 snapping, 3 closed -/
  clockPh : Nat := 0
  /-- K(z) in UQ8.16, marks per revolution, next clock mark's cycle count -/
  k : Nat := 0
  nz : Nat := 0
  mark : Nat := 0
  /-- a jump that corrects a seek: (target track, corrections made) -/
  within : Option (Nat × Nat) := none
  /-- the ladder offset in force: 0 tracking +a, 1 tracking -a, 2 halyard +h, 3 halyard -h (10 R272) -/
  offset : Option Nat := none
  /-- the layer that the present layer-jump order names, and its failures (05 R147) -/
  layerGoal : Option Nat := none
  layerFails : Nat := 0
  /-- a furl order, or FURL_N, ends the running order at the next evaluation of a mast that does not furl (05 R143) -/
  endDue : Bool := false
  cal : Option Calib := none
  /-- orders that wait at the Mast level: seeks, jumps and layer jumps (05 R143) -/
  queued : List Seqn := []
  deriving DecidableEq, Repr

/-- The spindle drive (chapter 6); its state is M+38:01. -/
structure DriveSt where
  mirror : Bool := false
  t0 : Nat := 0
  /-- tick at which the alignment began (06 Table 6.3, 3S) -/
  alignAt : Nat := 0
  /-- P_rev at the latest strobe that found the spindle at target (06 R162) -/
  revTgt : Nat := 0
  /-- a start is to be ordered once the furl under way ends (06 R163, R174) -/
  startDue : Bool := false
  /-- tick at which the ramp began, or at which the last start failed -/
  rampAt : Nat := 0
  thc : Int := 0
  wc : Int := 0
  wcRem : Int := 0
  handRun : Nat := 0
  fails : Nat := 0
  /-- commanded voltages of the previous evaluation -/
  va : Int := 0
  vb : Int := 0
  /-- speed word in use, evaluations at target in a row -/
  sUse : Int := 0
  atTarget : Nat := 0
  demand : Bool := false
  /-- duties and chopper -/
  pwa : Nat := 0
  pwb : Nat := 0
  pwc : Nat := 0
  chp : Nat := 0
  /-- tick at which the chopper was turned on, tick since which VBUS has also not fallen below VCHON, and consecutive counted
  strobes -/
  chpAt : Option Nat := none
  chpHigh : Option Nat := none
  chpBad : Nat := 0
  /-- FOC when the furl under way began (06 R173) -/
  furlFoc : Int := 0
  /-- a furl is under way: tick of its start; the observer amplitude below EMIN since -/
  furlAt : Option Nat := none
  quietAt : Option Nat := none
  /-- accepted SYNC_IN edge that the SYNC term was last formed from, plus 1 -/
  syncSeen : Nat := 0
  /-- s_use fell at the last 4 kHz evaluation -/
  falling : Bool := false
  deriving DecidableEq, Repr

/-- The sled (chapter 7); phase n, target X, velocity v and amplitude A are the objects M+3E. -/
structure SledSt where
  /-- a target that takes effect at the next planning evaluation (07 R178) -/
  xNext : Option Int := none
  a : Int := 0
  num : Int := 640000000
  te : Nat := 0
  /-- velocity decided for the next period -/
  vnext : Int := 0
  hasNext : Bool := false
  /-- the boundary at which that period begins -/
  tb : Nat := 0
  /-- A was lowered, or stays at IRUN, until the next period that moves (07 R188, R191, R193) -/
  settled : Bool := false
  /-- homing has set the deviation reference since the link came up (07 R190) -/
  refSet : Bool := false
  lastStep : Nat := 0
  /-- the latest steps, newest first: (tick, n after the step) -/
  recent : List (Nat × Int) := []
  referenced : Bool := false
  eIdx : Int := 0
  nIdx : Int := 0
  eRef : Int := 0
  nRef : Int := 0
  outRun : Nat := 0
  /-- the present run of tests outside the window has been a stall (07 R191) -/
  runStalled : Bool := false
  /-- the Yard level has lowered A to IHOLD (07 R193) -/
  lowered : Bool := false
  /-- stop at the next boundary -/
  stop : Bool := false
  /-- the sled trip or safe state holds SLD_EN at 0 until homing (07 R189) -/
  tripped : Bool := false
  /-- ENCST[0] read 0 in the set before -/
  encLost : Bool := false
  /-- FFLT[3] in the latest set of an up link (07 R192) -/
  fltSeen : Bool := false
  deriving DecidableEq, Repr

/-- One raw sample of a sail: value, erased (03 R104), taken in a frame with the sail's CLIP bit. -/
structure Raw where
  x : Int
  erased : Bool
  clip : Bool
  deriving DecidableEq, Repr

/-- Long adaptive values of one sail (08 Table 8.2): G, O, A, equaliser taps 0 to 14, canceller taps h-, h+. -/
structure Taps where
  g : Int := 0
  o : Int := 0
  a : Int := 0
  eq : List Int := []
  hm : List Int := []
  hp : List Int := []
  deriving DecidableEq, Repr

/-- Channel enables (M+42:01), step and leakage exponents of a sail, in force from a frame's start (08 R207, R211, Table 8.5). -/
structure Steps where
  en : Nat
  mg : Nat
  mo_ : Nat
  ma : Nat
  me : Nat
  le : Nat
  mc : Nat
  lc : Nat
  deriving DecidableEq, Repr

/-- A change of a sail's long values at a position: a start set loaded (08 R210), or one update (R207). -/
structure TapEvent where
  pos : Nat
  load : Bool
  taps : Taps
  deriving DecidableEq, Repr

/-- Marks a frame that a calibration reads: it belongs to no sector. -/
def calSid : Nat := 2 ^ 64

/-- A frame read under way on a sail (08 R217): the sector, its predicted position p, frame length. -/
structure FrameRead where
  sid : Nat
  p : Nat
  len : Nat
  str : Nat
  /-- the variant of 08 R218 applies -/
  alt : Bool := false
  /-- its frame slot, for a frame read by a calibration -/
  slot : Slot := ⟨0, 0, 0⟩
  /-- a calibration's frame with a place reserved in the pool's queue (10 R258) -/
  pool : Bool := false
  /-- its first position has been reached: the start set and the objects of M+42 are taken (08 R210, R211) -/
  begun : Bool := false
  deriving DecidableEq, Repr

/-- One detector output (08 R213, R214): canceller output z, LLR, tentative decision. -/
structure Det where
  z : Int
  llr : Int
  dec : Bool
  deriving DecidableEq, Repr

/-- One sail's channel (chapter 8); V0 and V1, numbers 64 and 65, only keep samples. -/
structure SailSt where
  /-- sample index of the first entry of `raw`, and samples from there on -/
  base : Nat := 0
  raw : List Raw := []
  running : Bool := false
  /-- next detector block -/
  blk : Nat := 0
  /-- position of the first entry of `det`, and detector outputs from there on -/
  dbase : Nat := 0
  det : List Det := []
  /-- long values before every entry of `events`, none while no start set was loaded; start sets loaded and updates made since, oldest
  first (08 R208, R210) -/
  carry : Option Taps := none
  events : List TapEvent := []
  /-- what M+42 gave at the start of each frame, oldest first (08 R211) -/
  pars : List (Nat × Steps) := []
  /-- the frame begun last ran under 08 R218 -/
  lastAlt : Bool := false
  /-- the start set is to be loaded at the next frame (08 R210) -/
  reload : Bool := true
  frames : List FrameRead := []
  /-- calibration statistics (08 R221): squared-error sum, histogram by w + 16, positions still to take, sync offsets of the frames
  measured -/
  sq : Nat := 0
  hist : List Nat := []
  span : Nat := 0
  deltas : List Int := []
  /-- sector frames finished since the calibration began, those of them that reached SYTH (08 R222), frames measured (R221) -/
  done : Nat := 0
  synced : Nat := 0
  taken : Nat := 0
  /-- positions adapted since the calibration began (08 R220) -/
  seen : Nat := 0
  deriving DecidableEq, Repr

/-- A write stream of one write slot (03 R98): next write index, channel bits still to send, and what they burn: slot ordinal
`n` of the write `serial`, or the commit record `n` when `serial` is absent. -/
structure WStream where
  slot : Nat
  serial : Option Nat
  n : Nat
  widx : Nat
  bits : List Bool
  deriving DecidableEq, Repr

/-- Outputs of the yard that command frames carry (03 Table 3.6). -/
structure YardOut where
  foc : Int := 0
  trk : Int := 0
  brc : Int := 0
  hlf : Int := 0
  hsa : Int := 0
  pwa : Nat := 0
  pwb : Nat := 0
  pwc : Nat := 0
  chp : Nat := 0
  wrEn : Bool := false
  deriving DecidableEq, Repr

/-- Everything one mast holds beyond its objects. -/
structure Mast where
  st : MastState := .absent
  /-- the latest tick of the 640 MHz mast clock that a command named, and the rig time (ns) at which it stood -/
  tick : Nat := 0
  tickAt : Nat := 0
  /-- the outputs that frames leaving before a tick still carry (04 R111) -/
  outHeld : Option (Nat × YardOut) := none
  link : LinkSt := {}
  servo : ServoSt := {}
  trace : Trace := {}
  opt : OptSt := {}
  drive : DriveSt := {}
  sled : SledSt := {}
  sails : List (Nat × SailSt) := []
  /-- codewords whose last LLR reached the pool, in order (10 R257) -/
  ready : List Codeword := []
  streams : List WStream := []
  /-- objects as they stood before the MOUNT in progress (09 R230) -/
  mountSaved : List (Nat × Int) := []
  wr : WriteSide := {}
  /-- the disc and the lease epoch E whose lease became stale last: only a greater E holds that disc again (14 R394) -/
  staleOf : Option (Nat × Nat) := none
  deriving DecidableEq, Repr

end Sys2Proof.Machine
end

