-- ==== Sys2Proof/Machine/State.lean ====
section
/-! DEFINITION. The state of the rig, its faults and refusals, and the state after reset. -/
namespace Sys2Proof.Machine

/-- Why the block stops. The spec describes no stop of the block: no meaning raises a fault, so this type is empty (safe). -/
inductive Fault where
  deriving DecidableEq, Repr

/-- Why a command has no meaning. -/
inductive Refusal where
  /-- raised by Dispatch.lean's arms for a row without a meaning (safe) -/
  | notModelled (mnemonic : String)
  deriving DecidableEq, Repr

/-- The state of one SH3264 (chapters 0 to 20). -/
structure State where
  /-- commands waiting, first in first out (the model's queue) -/
  pending : List Sys2Proof.Instr := []
  /-- rig time in ns (00 R18) -/
  now : Nat := 0
  /-- dictionary values that differ from their defaults, by 256 * index + sub-index, ascending -/
  objs : List (Nat × Int) := []
  /-- DOMAIN and string values that are not empty, by key, ascending -/
  blobs : List (Nat × List Byte) := []
  masts : List (Nat × Mast) := []
  host : HostState := {}
  media : MediaState := {}
  fabric : FabricState := {}
  eng : EngineState := {}
  nv : NvState := {}
  field : FieldState := {}
  avail : AvailState := {}
  pins : PinState := {}
  jtag : JtagState := {}
  boot : BootState := {}
  /-- events counted at the instant `countAt`, by counter key (00 R30) -/
  countAt : Nat := 0
  counted : List (Nat × Nat) := []
  /-- everything that left the rig, newest first -/
  out : List Emit := []
  /-- the model's own counter of free values taken (an undefined value of the spec, Config.freeValue) -/
  freeCtr : Nat := 0
  deriving DecidableEq, Repr

/-- The rig at power-up, RST_N asserted (19 R504, R507). -/
def State.reset : State := {}

end Sys2Proof.Machine
end

