-- ==== Sys2Proof/Machine/Table.lean ====
section
/-! DEFINITION. Sparse tables: ascending lists of (key, value) pairs that list no value equal to its key's default. -/
namespace Sys2Proof.Machine

/-- What a table reads at `k`: the listed value, else the default `d k`. -/
def tblGet {α : Type} (d : Nat → α) : List (Nat × α) → Nat → α
  | [], k => d k
  | (i, v) :: t, k => if i = k then v else tblGet d t k

/-- Writes `v` at `k`, keeping the table ascending and free of default entries. -/
def tblPut {α : Type} [DecidableEq α] (d : Nat → α) (k : Nat) (v : α) : List (Nat × α) → List (Nat × α)
  | [] => if v = d k then [] else [(k, v)]
  | (i, w) :: t =>
    if k < i then (if v = d k then (i, w) :: t else (k, v) :: (i, w) :: t)
    else if i = k then (if v = d k then t else (k, v) :: t)
    else (i, w) :: tblPut d k v t

/-- The canonical form: keys strictly rising and no entry equal to its default. -/
def tblWf {α : Type} [DecidableEq α] (d : Nat → α) : List (Nat × α) → Bool
  | [] => true
  | (i, v) :: t => decide (v ≠ d i) && t.all (fun e => decide (i < e.1)) && tblWf d t

/-- Removes every entry whose key satisfies `p` (it then reads as its default). -/
def tblDrop {α : Type} (p : Nat → Bool) (t : List (Nat × α)) : List (Nat × α) :=
  t.filter (fun e => !p e.1)

/-- Bytes of a sparse byte store from `a` on, `n` of them. -/
def bytesAt (t : List (Nat × Nat)) (a n : Nat) : List Byte :=
  (List.range n).map (fun i => BitVec.ofNat 8 (tblGet (fun _ => 0) t (a + i)))

/-- Writes bytes into a sparse byte store from `a` on. -/
def putBytes (t : List (Nat × Nat)) (a : Nat) : List Byte → List (Nat × Nat)
  | [] => t
  | b :: bs => putBytes (tblPut (fun _ => 0) a b.toNat t) (a + 1) bs

/-- Inserts `k` into an ascending list without repeats. -/
def setInsert (k : Nat) : List Nat → List Nat
  | [] => [k]
  | i :: t => if k < i then k :: i :: t else if i = k then i :: t else i :: setInsert k t

/-- Puts `a` before the first element that `le` does not place before it. -/
def insertBy {α : Type} (le : α → α → Bool) (a : α) : List α → List α
  | [] => [a]
  | x :: t => if le a x then a :: x :: t else x :: insertBy le a t

/-- A list in ascending order; equal elements keep theirs. -/
def sortBy {α : Type} (le : α → α → Bool) (l : List α) : List α := l.foldr (insertBy le) []

end Sys2Proof.Machine
end

