-- ==== Sys2Proof/Machine/Ops.lean ====
section
/-! DEFINITION. Named operations over the state: rig time, dictionary values, counters, masts, queues, posted writes. -/
namespace Sys2Proof.Machine

/-- Rig time of an event: it never runs backward (14 R390; notes/assumptions/2.md). -/
def State.at_ (s : State) (t : Nat) : State := { s with now := max s.now t }

/-- Milliseconds as nanoseconds. -/
def ms (n : Nat) : Nat := n * 1000000
/-- Microseconds as nanoseconds. -/
def us (n : Nat) : Nat := n * 1000
/-- Seconds as nanoseconds. -/
def sec (n : Nat) : Nat := n * 1000000000

/-- Table key of object index:sub (00 R11). -/
def okey (index sub : Nat) : Nat := index * 256 + sub
/-- Table key of M+ii:ss on mast m (00 R12). -/
def mkey (m ii ss : Nat) : Nat := okey (0x3000 + m * 0x80 + ii) ss
/-- Table key of counter B+oo:ss of mast m (18 R495). -/
def ckey (m oo ss : Nat) : Nat := okey (0x5000 + m * 0x20 + oo) ss
/-- Table key of T+ii:ss of media table T (09 R254). -/
def tkey (t ii ss : Nat) : Nat := okey (0x4000 + t * 0x100 + ii) ss

/-- Whether a row describes index:sub. -/
def rowMatches (index sub : Nat) (r : ObjRow) : Bool :=
  decide (r.sLo ≤ sub) && decide (sub ≤ r.sHi) &&
  match r.space with
  | .rig => decide (r.iLo ≤ index) && decide (index ≤ r.iHi)
  | .mast => decide (0x3000 ≤ index) && decide (index < 0x4000) && decide ((index - 0x3000) % 0x80 = r.iLo)
  | .media => decide (0x4000 ≤ index) && decide (index < 0x5000) && decide ((index - 0x4000) % 0x100 = r.iLo)
  | .count => decide (0x5000 ≤ index) && decide (index < 0x5400) && decide ((index - 0x5000) % 0x20 = r.iLo)

/-- The catalogue row of index:sub. -/
def rowOf (index sub : Nat) : Option ObjRow := objRows.find? (rowMatches index sub)

/-- The row of a table key. -/
def rowOfKey (k : Nat) : Option ObjRow := rowOf (k / 256) (k % 256)

/-- The default of a dictionary value. -/
def objDefault (k : Nat) : Int :=
  match rowOfKey k with
  | some r => r.dflt
  | none => 0

/-- A dictionary value. -/
def State.obj (s : State) (k : Nat) : Int := tblGet objDefault s.objs k
/-- A dictionary value as a natural number. -/
def State.objN (s : State) (k : Nat) : Nat := (s.obj k).toNat
/-- Sets a dictionary value. -/
def State.setObj (s : State) (k : Nat) (v : Int) : State := { s with objs := tblPut objDefault k v s.objs }
/-- A DOMAIN or string value. -/
def State.blob (s : State) (k : Nat) : List Byte := tblGet (fun _ => []) s.blobs k
/-- Sets a DOMAIN or string value. -/
def State.setBlob (s : State) (k : Nat) (v : List Byte) : State := { s with blobs := tblPut (fun _ => []) k v s.blobs }

/-- The greatest value of a counter (00 R28). -/
def counterMax (k : Nat) : Int :=
  match rowOfKey k with
  | some r => if r.ty = .u64 then 2 ^ 64 - 1 else 2 ^ 32 - 1
  | none => 2 ^ 32 - 1

/-- Events of a counter counted at the present instant (00 R30). -/
def State.countedNow (s : State) (k : Nat) : Nat := if s.countAt = s.now then tblGet (fun _ => 0) s.counted k else 0

/-- Notes `n` events of a counter at the present instant. -/
def State.noteCount (s : State) (k n : Nat) : State :=
  { s with countAt := s.now
           counted := tblPut (fun _ => 0) k (s.countedNow k + n) (if s.countAt = s.now then s.counted else []) }

/-- Counts `n` events, saturating (00 R28). -/
def State.countN (s : State) (k n : Nat) : State := (s.noteCount k n).setObj k (min (s.obj k + n) (counterMax k))
/-- Clears a counter: an event at the very instant of the clear is counted after it (00 R30). -/
def State.clearCounter (s : State) (k : Nat) : State := s.setObj k (min (s.countedNow k : Int) (counterMax k))
/-- Counts one event. -/
def State.count (s : State) (k : Nat) : State := s.countN k 1

/-- Adds a posting to what has left the rig. -/
def State.emit (s : State) (e : Emit) : State := { s with out := e :: s.out }

/-- Takes a free value: an undefined value of the spec (notes/assumptions/1.md). -/
def State.takeFree (s : State) : BitVec 64 × State := (Config.freeValue s.freeCtr, { s with freeCtr := s.freeCtr + 1 })

/-- Mast `m`. -/
def State.mast (s : State) (m : Nat) : Mast := tblGet (fun _ => ({} : Mast)) s.masts m
/-- Replaces mast `m`. -/
def State.setMast (s : State) (m : Nat) (x : Mast) : State := { s with masts := tblPut (fun _ => ({} : Mast)) m x s.masts }
/-- Changes mast `m`. -/
def State.updMast (s : State) (m : Nat) (f : Mast → Mast) : State := s.setMast m (f (s.mast m))

/-- Number of a mast state, in the order of 01 R34. -/
def mastCode : MastState → Nat
  | .absent => 0 | .present => 1 | .spinning => 2 | .tracking => 3 | .reading => 4 | .writing => 5 | .furling => 6
  | .faulted => 7 | .retired => 8

/-- Submission queue `q`. -/
def State.sq (s : State) (q : Nat) : SQ := tblGet (fun _ => ({} : SQ)) s.host.sqs q
/-- Replaces submission queue `q`. -/
def State.setSq (s : State) (q : Nat) (x : SQ) : State :=
  { s with host := { s.host with sqs := tblPut (fun _ => ({} : SQ)) q x s.host.sqs } }
/-- Event queue `e`. -/
def State.eq (s : State) (e : Nat) : EQ := tblGet (fun _ => ({} : EQ)) s.host.eqs e
/-- Replaces event queue `e`. -/
def State.setEq (s : State) (e : Nat) (x : EQ) : State :=
  { s with host := { s.host with eqs := tblPut (fun _ => ({} : EQ)) e x s.host.eqs } }

/-- An endpoint's state. -/
def State.ep (s : State) : Endpoint → EpState
  | .ha => s.host.ha
  | .hb => s.host.hb
/-- Replaces an endpoint's state. -/
def State.setEp (s : State) (e : Endpoint) (x : EpState) : State :=
  match e with
  | .ha => { s with host := { s.host with ha := x } }
  | .hb => { s with host := { s.host with hb := x } }

/-- Index offset of an endpoint's objects: 2200 serves HA and 2201 HB (13 R370). -/
def epIx : Endpoint → Nat
  | .ha => 0
  | .hb => 1

/-- Admin pair number of a function (13 Table 13.5). -/
def aqn (f : Fn) : Nat :=
  match f.ep with
  | .ha => f.fn
  | .hb => 65 + f.fn

/-- The function of an admin pair number (13 Table 13.5). -/
def fnOfAqn (n : Nat) : Fn := if n < 65 then ⟨.ha, n⟩ else ⟨.hb, n - 65⟩

/-- BAR0 state of a function. -/
def State.fnr (s : State) (f : Fn) : FnRegs := tblGet (fun _ => ({} : FnRegs)) s.host.fns (aqn f)
/-- Replaces the BAR0 state of a function. -/
def State.setFnr (s : State) (f : Fn) (x : FnRegs) : State :=
  { s with host := { s.host with fns := tblPut (fun _ => ({} : FnRegs)) (aqn f) x s.host.fns } }

/-- A mask of retired units reads bit k set. -/
def State.maskBit (s : State) (k i : Nat) : Bool := (s.objN k).testBit i

/-- The link leaves L1 as soon as the rig has a TLP to send (13 R360): L-state of 2200:04 or 2201:04. -/
def State.wakeLink (s : State) (e : Endpoint) : State :=
  let k := okey (0x2200 + epIx e) 4
  if s.objN k % 8 < 2 then s else s.setObj k (s.objN k / 128 * 128 : Nat)

/-- A function is in a hold that it has not resumed from (13 R368). -/
def State.fnHeld (s : State) (f : Fn) : Bool := (s.ep f.ep).holds.any (fun h => h.1 = f.fn)

/-- Sends a TLP of an endpoint, or keeps it while its function is in a hold (13 R368). A TLP of an endpoint held in reset, or retired as
faulty (R369), is lost with the link. -/
def State.tlp (s : State) (e : Endpoint) (x : Emit) : State :=
  let p := s.ep e
  if s.fnHeld (x.fnOf.getD ⟨e, 0⟩) then s.setEp e { p with waiting := p.waiting ++ [x] }
  else if p.perst || s.maskBit (okey 0x2630 2) (epIx e) then s
  else ((s.wakeLink e).setEp e { p with txAt := s.now }).emit x

/-- Gorcy port `p`. -/
def State.port (s : State) (p : Nat) : Port := tblGet (fun _ => ({} : Port)) s.fabric.ports p
/-- Replaces Gorcy port `p`. -/
def State.setPort (s : State) (p : Nat) (x : Port) : State :=
  { s with fabric := { s.fabric with ports := tblPut (fun _ => ({} : Port)) p x s.fabric.ports } }

/-- Stream engine `e`. -/
def State.engine (s : State) (e : Nat) : Engine := tblGet (fun _ => ({} : Engine)) s.eng.engines e
/-- Replaces stream engine `e`. -/
def State.setEngine (s : State) (e : Nat) (x : Engine) : State :=
  { s with eng := { s.eng with engines := tblPut (fun _ => ({} : Engine)) e x s.eng.engines } }

/-- Decoder `d`. -/
def State.decoder (s : State) (d : Nat) : Decoder := tblGet (fun _ => ({} : Decoder)) s.media.decoders d
/-- Replaces decoder `d`. -/
def State.setDecoder (s : State) (d : Nat) (x : Decoder) : State :=
  { s with media := { s.media with decoders := tblPut (fun _ => ({} : Decoder)) d x s.media.decoders } }

/-- The configuration epoch, 2001:01. -/
def State.epoch (s : State) : Nat := s.objN (okey 0x2001 1)
/-- This rig's fabric address, 2300:01. -/
def State.addr (s : State) : Nat := s.objN (okey 0x2300 1)

/-- Folds a state change over a list. -/
def forEach {α : Type} (l : List α) (f : α → State → State) (s : State) : State := l.foldl (fun a x => f x a) s

/-- Sets bit `i` of a mask object. -/
def State.setMaskBit (s : State) (k i : Nat) : State := s.setObj k (((s.objN k) ||| 2 ^ i : Nat) : Int)
/-- Clears bit `i` of a mask object. -/
def State.clearMaskBit (s : State) (k i : Nat) : State :=
  if s.maskBit k i then s.setObj k (((s.objN k) - 2 ^ i : Nat) : Int) else s

/-- Holder of the command token, 2600:01. -/
def State.holder (s : State) : Nat := s.objN (okey 0x2600 1)
/-- A shroud holds the token (18 R488). -/
def State.hasHolder (s : State) : Bool := decide (s.holder ≠ 255)

end Sys2Proof.Machine
end

