-- ==== Sys2Proof/Machine/Operands.lean ====
section
/-! DEFINITION. Operand forms of the stream engines' microwords: registers, pairs, widths, byte lists (15 R403, R405, R407). -/
namespace Sys2Proof.Machine

/-- Width of a SZ code (15 Table 15.1). -/
def mwWidth (sz : Nat) : Nat := match sz with
  | 0 => 8 | 1 => 16 | 2 => 32 | 3 => 64 | _ => 128

/-- Register r. -/
def EngCtx.reg (x : EngCtx) (r : Nat) : Nat := (x.regs.toList.getD r 0).toNat
/-- Sets register r. -/
def EngCtx.setReg (x : EngCtx) (r v : Nat) : EngCtx := { x with regs := x.regs.setIfInBounds r (BitVec.ofNat 64 v) }

/-- The low w bits of register or pair r (15 R407). -/
def EngCtx.get (x : EngCtx) (r w : Nat) : Nat :=
  if w = 128 then x.reg r + x.reg (r + 1) * 2 ^ 64 else x.reg r % 2 ^ w

/-- Writes a w-bit result to register or pair r, filling with zeros or with its top bit (15 R407). -/
def EngCtx.put (x : EngCtx) (r w v : Nat) (sg : Bool) : EngCtx :=
  if w = 128 then (x.setReg r (v % 2 ^ 64)).setReg (r + 1) (v / 2 ^ 64 % 2 ^ 64)
  else x.setReg r (if sg then (toBits (toSigned (v % 2 ^ w) w) 64) else v % 2 ^ w)

/-- The bytes i of a value, byte 0 first (15 R405). -/
def EngCtx.bytes (x : EngCtx) (r n : Nat) : List Byte := (leBytes 16 (x.get r 128)).take n

end Sys2Proof.Machine
end

