-- ==== Sys2Proof/Machine/Flags.lean ====
section
/-! DEFINITION. The flags of a stream engine and the conditions over them (15 Table 15.2, R407). -/
namespace Sys2Proof.Machine

/-- Sets the flags of a w-bit result when SF is 1 (15 R407). -/
def EngCtx.flags (x : EngCtx) (sf : Bool) (w r : Nat) (c v : Bool) : EngCtx :=
  if sf then { x with z := decide (r % 2 ^ w = 0), n := r.testBit (w - 1), c := c, v := v } else x

/-- Bytes of LEN taken by a segment (15 R412). -/
def Segment.eos (g : Segment) : Bool := decide (g.len ≤ g.ipos)

/-- A condition (15 Table 15.2). -/
def ccHolds (x : EngCtx) (g : Segment) (cc : Nat) : Bool := match cc with
  | 0 => true | 1 => x.z | 2 => !x.z | 3 => x.c | 4 => !x.c | 5 => x.n | 6 => !x.n | 7 => x.v | 8 => !x.v
  | 9 => !x.c && !x.z | 10 => x.n != x.v | 11 => x.n == x.v | 12 => g.eos | 13 => x.lostFlag | 14 => g.last | _ => false

end Sys2Proof.Machine
end

