-- ==== Sys2Proof/Machine/Library.lean ====
section
/-! DEFINITION. Microwords (15.2), the trap word (15 R419), and a vendor library with the behaviour of Table 15.6: the spec gives the
entries' behaviour and not their words, so these words are the model's (notes/assumptions/23.md). -/
namespace Sys2Proof.Machine

/-- A microword's fields (15 Table 15.1). -/
structure Mw where
  cyc : Nat := 0
  op : Nat := 0
  rd : Nat := 0
  ra : Nat := 0
  rb : Nat := 0
  cc : Nat := 0
  sf : Bool := false
  im : Bool := false
  sg : Bool := false
  sz : Nat := 3
  nx : Nat := 0
  tgt : Nat := 0
  res : Nat := 0
  imm : Nat := 0
  aux : Nat := 0
  deriving DecidableEq, Repr

/-- Reads a word's fields (15 Table 15.1). -/
def decodeMw (w : Microword) : Mw :=
  let v := w.toNat
  { cyc := fld v 191 190, op := fld v 189 184, rd := fld v 183 180, ra := fld v 179 176, rb := fld v 175 172, cc := fld v 171 168,
    sf := v.testBit 167, im := v.testBit 166, sg := v.testBit 165, sz := fld v 164 162, nx := fld v 161 159, tgt := fld v 158 146,
    res := fld v 145 128, imm := fld v 127 64, aux := fld v 63 0 }

/-- The word with given fields. -/
def encodeMw (x : Mw) : Microword :=
  BitVec.ofNat 192 (x.aux % 2 ^ 64 + (x.imm % 2 ^ 64) * 2 ^ 64 + (x.res % 2 ^ 18) * 2 ^ 128 + (x.tgt % 2 ^ 13) * 2 ^ 146 +
    (x.nx % 8) * 2 ^ 159 + (x.sz % 8) * 2 ^ 162 + (if x.sg then 2 ^ 165 else 0) + (if x.im then 2 ^ 166 else 0) +
    (if x.sf then 2 ^ 167 else 0) + (x.cc % 16) * 2 ^ 168 + (x.rb % 16) * 2 ^ 172 + (x.ra % 16) * 2 ^ 176 +
    (x.rd % 16) * 2 ^ 180 + (x.op % 64) * 2 ^ 184 + (x.cyc % 4) * 2 ^ 190)

/-- The trap word (15 R419): NX 5 with code 0x800A. An image's AUX gives 15 code bits only, so a reserved bit marks this word. -/
def trapWord : Microword := encodeMw { sz := 0, nx := 5, res := 1, aux := 0x800A }

/-- A jump under a condition. -/
def mwJump (cc tgt : Nat) : Microword := encodeMw { sz := 0, cc := cc, nx := 1, tgt := tgt }
/-- The end of a segment with a resume word. -/
def mwDone (cc tgt : Nat) : Microword := encodeMw { sz := 0, cc := cc, nx := 4, tgt := tgt }
/-- IN to pair G0. -/
def mwIn : Microword := encodeMw { op := 0x20, sz := 4 }
/-- GETS of special register i. -/
def mwGets (rd i : Nat) : Microword := encodeMw { op := 0x27, rd := rd, im := true, imm := i }
/-- A 64-bit operation with a register operand. -/
def mwReg (op rd ra rb : Nat) : Microword := encodeMw { op := op, rd := rd, ra := ra, rb := rb }
/-- A 64-bit operation with an immediate. -/
def mwImm (op rd ra imm : Nat) : Microword := encodeMw { op := op, rd := rd, ra := ra, im := true, imm := imm }
/-- A compare that sets flags. -/
def mwCmp (ra imm : Nat) : Microword := encodeMw { op := 0x1C, ra := ra, sf := true, im := true, imm := imm }

/-- Entry COPY at 0x040, DIGEST at 0x048 (15 Table 15.6). -/
def libCopyDigest : List (Nat × Microword) :=
  [(0x000, mwJump 0 0x040), (0x001, mwJump 0 0x048), (0x002, mwJump 0 0x0A0), (0x003, mwJump 0 0x080),
   (0x040, mwIn), (0x041, mwGets 2 0), (0x042, encodeMw { op := 0x21, rb := 2, sz := 4 }), (0x043, mwDone 12 0),
   (0x044, mwJump 0 0x040),
   (0x048, mwIn), (0x049, mwGets 2 0), (0x04A, encodeMw { op := 0x26, rb := 2, sz := 4 }), (0x04B, mwJump 12 0x04D),
   (0x04C, mwJump 0 0x048), (0x04D, mwJump 14 0x04F), (0x04E, mwDone 0 1), (0x04F, mwGets 0 11),
   (0x050, encodeMw { op := 0x21, im := true, sz := 4, imm := 8 }), (0x051, mwDone 0 1)]

/-- Entry COUNT at 0x080 (15 Table 15.6): v to every byte of pair G4, equal bytes of each 16 counted in G8. -/
def libCount : List (Nat × Microword) :=
  [(0x080, encodeMw { cyc := 3, op := 0x24, rd := 3, ra := 15, sz := 0, aux := 1 }),
   (0x081, encodeMw { cyc := 1, op := 0x0D, rd := 4, ra := 3, im := true, imm := 0x0101010101010101 }),
   (0x082, mwReg 0x13 5 0 4), (0x083, mwIn), (0x084, mwGets 2 0),
   (0x085, encodeMw { op := 0x07, rd := 6, rb := 4, sz := 4 }), (0x086, encodeMw { op := 0x1A, rd := 10, ra := 6, im := true, sz := 4 }),
   (0x087, mwImm 0x13 11 0 1), (0x088, mwReg 0x09 11 11 2), (0x089, mwImm 0x03 11 11 1), (0x08A, mwReg 0x05 10 10 11),
   (0x08B, mwReg 0x16 10 10 0), (0x08C, mwReg 0x01 8 8 10), (0x08D, mwJump 12 0x08F), (0x08E, mwJump 0 0x083),
   (0x08F, mwJump 14 0x091), (0x090, mwDone 0 3), (0x091, encodeMw { op := 0x21, ra := 8, im := true, sz := 4, imm := 8 }),
   (0x092, mwDone 0 3)]

/-- Entry SELECT at 0x0A0 (15 Table 15.6): b in G12, v in G13, the record gathered in scratch 0 to 63, G8 its bytes so far. -/
def libSelect : List (Nat × Microword) :=
  [(0x0A0, encodeMw { cyc := 3, op := 0x24, rd := 12, ra := 15, sz := 0, aux := 0 }),
   (0x0A1, encodeMw { cyc := 3, op := 0x24, rd := 13, ra := 15, sz := 0, aux := 1 }),
   (0x0A2, mwIn), (0x0A3, mwGets 2 0), (0x0A4, mwCmp 2 0), (0x0A5, mwJump 1 0x0C0),
   (0x0A6, encodeMw { cyc := 1, op := 0x23, ra := 8, rb := 0, sz := 0 }), (0x0A7, mwImm 0x01 8 8 1), (0x0A8, mwImm 0x03 2 2 1),
   (0x0A9, mwImm 0x0A 0 0 8), (0x0AA, mwImm 0x09 3 1 56), (0x0AB, mwReg 0x06 0 0 3), (0x0AC, mwImm 0x0A 1 1 8),
   (0x0AD, mwCmp 8 64), (0x0AE, mwJump 2 0x0A4), (0x0AF, mwImm 0x13 8 0 0), (0x0B0, mwCmp 12 63), (0x0B1, mwJump 9 0x0A4),
   (0x0B2, encodeMw { cyc := 1, op := 0x22, rd := 14, ra := 12, sz := 0 }),
   (0x0B3, encodeMw { op := 0x1C, ra := 14, rb := 13, sf := true }), (0x0B4, mwJump 2 0x0A4)] ++
  (List.range 4).flatMap (fun i =>
    [(0x0B5 + 2 * i, encodeMw { cyc := 1, op := 0x22, rd := 4, ra := 15, sz := 4, aux := 16 * i }),
     (0x0B6 + 2 * i, encodeMw { op := 0x21, ra := 4, im := true, sz := 4, imm := 16 })]) ++
  [(0x0BD, mwJump 0 0x0A4), (0x0C0, mwDone 12 2), (0x0C1, mwJump 0 0x0A2)]

/-- The control store at start-up: the vendor library, trap words elsewhere (15.7). -/
def startWord (a : Nat) : Microword :=
  match (libCopyDigest ++ libCount ++ libSelect).find? (fun p => p.1 = a) with
  | some p => p.2
  | none => trapWord

end Sys2Proof.Machine
end

