-- ==== Sys2Proof/Machine/Codec.lean ====
section
/-! DEFINITION. The line code of a mast-link lane (03 R79, R81): RS(544,514) over GF(2^10) of IEEE 802.3 Clause 91, Gray-mapped
PAM4 and PRBS13Q of Clause 120 (notes/assumptions/138.md). -/
namespace Sys2Proof.Machine

/-! ## The field GF(2^10), modulus x^10 + x^3 + 1 -/

/-- The product by α. -/
def gfTimes2 (x : Nat) : Nat := if x < 512 then 2 * x else (2 * x) ^^^ 0x409
/-- The product of two field elements. -/
def gfMul (a b : Nat) : Nat :=
  (List.range 10).foldl (fun r i => gfTimes2 r ^^^ (if b.testBit (9 - i) then a else 0)) 0
/-- A power of α. -/
def alphaPow : Nat → Nat
  | 0 => 1
  | n + 1 => gfTimes2 (alphaPow n)
/-- A power of a field element. -/
def gfPow (a : Nat) : Nat → Nat
  | 0 => 1
  | n + 1 => gfMul a (gfPow a n)
/-- The inverse of a field element that is not 0. -/
def gfInv (a : Nat) : Nat := gfPow a 1022

/-- The value of a polynomial, lowest coefficient first, at x. -/
def polyEval (p : List Nat) (x : Nat) : Nat := p.foldr (fun c r => gfMul r x ^^^ c) 0
/-- The sum of two polynomials. -/
def polyAdd : List Nat → List Nat → List Nat
  | [], q => q
  | p, [] => p
  | a :: p, b :: q => (a ^^^ b) :: polyAdd p q
/-- The product of a polynomial by c x^k. -/
def polyShift (p : List Nat) (c k : Nat) : List Nat := List.replicate k 0 ++ p.map (gfMul c)
/-- The product of two polynomials. -/
def polyMul (p : List Nat) : List Nat → List Nat
  | [] => []
  | b :: q => polyAdd (p.map (gfMul b)) (0 :: polyMul p q)

/-! ## The code -/

/-- The generator polynomial (Clause 91): the product of x - α^j for j from 0 to 29, lowest coefficient first. -/
def rsGenerator : List Nat := (List.range 30).foldl (fun g j => polyMul g [alphaPow j, 1]) [1]

/-- The coefficients below x^30 of α^b times the generator, 10 bits each: what one bit of the feedback symbol adds to the 300-bit
parity register. -/
def rsTaps : List Nat := [
  0x8fe282ece68a0011b235468f99448417ad07bd81eb9f7dcd69c5262305881fcb927880d0a0b,
  0x1dc595d9cc16402360638d1f22ad082f1a9f7b02d57eebbed2884cd60b103f9724f100a341f,
  0x3b8b2bb3982c8046c0c6187e455a105e352ed60da8fd575dad12d9ac12297f2e49e20044c3e,
  0x771647473959008d818c30bc1ab029bc2add8c1353fa3ebb5a25b348045bfe1c13e4098987c,
  0xee2c8e8a7bb2010b27186138b544527a553b3c26a7b4fd56bd4b26102cb6fe7827c812114f8,
  0xde599d34ff6642066e39c231fa88a4f4aa665c4c4d697a8d73960cb0596cfef0df9024229f0,
  0xbef32a4dfecc840cd87b8663753548eb545cb8989a92753ee62e5960b2d8ffe13f0448453e0,
  0x7fe6d4bffc9b480994f60ec67a6a90d4e8a955303764ea79c55cb2c161b9fdc2fe2c908a3c9,
  0xff8d397bf134d0030dec1d8ce4f529abd1d28e606e8954d78ab92512c372f9c5ec7d201679b,
  0xfd5a62d7eb69a0061bd83b19c9ea5255e3a518c9dd12a9ab1d704ab582edf1cbc8de402cb3f]

/-- What a feedback symbol adds to the parity register. -/
def rsFeed (v : Nat) : List Nat → Nat
  | [] => 0
  | t :: ts => (if v % 2 = 1 then t else 0) ^^^ rsFeed (v / 2) ts

/-- The parity register after message symbols n - 1, ..., 0 of the remaining message, lowest symbol first. -/
def rsRun : Nat → Nat → Nat → Nat
  | 0, _, p => p
  | n + 1, msg, p => rsRun n (msg / 1024) (p % 2 ^ 290 * 1024 ^^^ rsFeed (p / 2 ^ 290 ^^^ msg % 1024) rsTaps)

/-- The order of n symbols reversed: the register's highest coefficient is sent first. -/
def symReverse : Nat → Nat → Nat
  | 0, _ => 0
  | n + 1, p => p % 1024 * 1024 ^ n + symReverse n (p / 1024)

/-- The 30 parity symbols of a message, the one sent first lowest. -/
def rsParity (msg : Nat) : Nat := symReverse 30 (rsRun 514 msg 0)

/-- The codeword of a frame's message (03 R79, R81): frame bit k is bit k mod 10 of symbol k div 10, symbols in ascending order. -/
def rsEncode (b : FrameBits) : Nat := b.toNat + rsParity b.toNat * 2 ^ 5140

/-- The symbols of a received codeword, in the order sent. -/
def rsSymbols (cw : Nat) : List Nat := (List.range 544).map (fun i => cw / 1024 ^ i % 1024)

/-- The syndromes: the received polynomial, its highest coefficient sent first, at α^0 to α^29. -/
def rsSyndromes (sy : List Nat) : List Nat :=
  (List.range 30).map (fun j => sy.foldl (fun a c => gfMul a (alphaPow j) ^^^ c) 0)

/-- State of the Berlekamp-Massey recursion: locator, its earlier form, length, steps since and discrepancy of that form. -/
structure Locate where
  c : List Nat := [1]
  b : List Nat := [1]
  l : Nat := 0
  m : Nat := 1
  d : Nat := 1

/-- One step of the recursion, for syndrome n. -/
def locateStep (s : List Nat) (x : Locate) (n : Nat) : Locate :=
  let d := (List.range (x.l + 1)).foldl (fun a i => a ^^^ (if i ≤ n then gfMul (x.c.getD i 0) (s.getD (n - i) 0) else 0)) 0
  if d = 0 then { x with m := x.m + 1 }
  else
    let c := polyAdd x.c (polyShift x.b (gfMul d (gfInv x.d)) x.m)
    if 2 * x.l ≤ n then { c := c, b := x.c, l := n + 1 - x.l, m := 1, d := d } else { x with c := c, m := x.m + 1 }

/-- Errors of a received codeword: (place in the order sent, value to add), or none when more than 15 symbols are wrong. -/
def rsErrors (sy : List Nat) : Option (List (Nat × Nat)) :=
  let s := rsSyndromes sy
  let x := (List.range 30).foldl (locateStep s) {}
  let omega := (polyMul x.c s).take 30
  let slope := (x.c.mapIdx (fun i c => if i % 2 = 1 then c else 0)).drop 1
  let hits := (List.range 544).filter (fun i => polyEval x.c (alphaPow ((1023 - (543 - i)) % 1023)) = 0)
  if 15 < x.l ∨ hits.length ≠ x.l then none
  else some (hits.map (fun i =>
    let inv := alphaPow ((1023 - (543 - i)) % 1023)
    (i, gfMul (alphaPow (543 - i)) (gfMul (polyEval omega inv) (gfInv (polyEval slope inv))))))

/-- A received codeword after correction: the number of symbols corrected and the message, or none when it does not decode. -/
def rsDecode (cw : Nat) : Option (Nat × Nat) :=
  let msg := cw % 2 ^ 5140
  if cw / 2 ^ 5140 = rsParity msg then some (0, msg)
  else match rsErrors (rsSymbols cw) with
    | none => none
    | some es =>
      let fixed := es.foldl (fun c e => c ^^^ e.2 * 1024 ^ e.1) cw
      if fixed / 2 ^ 5140 = rsParity (fixed % 2 ^ 5140) then some (es.length, fixed % 2 ^ 5140) else none

/-! ## PAM4 -/

/-- The even bits of a codeword's length. -/
def evenBits : Nat := (4 ^ 2720 - 1) / 3

/-- Gray mapping of bit pairs (first, second) to levels (Clause 120): 00, 01, 11, 10 are the levels 0 to 3. -/
def grayLevels (cw : Nat) : Nat := ((cw * 2) &&& (evenBits * 2)) ||| ((cw ^^^ cw / 2) &&& evenBits)
/-- The bit pairs of levels. -/
def grayBits (lv : Nat) : Nat := ((lv / 2) &&& evenBits) ||| ((lv ^^^ lv * 2) &&& (evenBits * 2))

/-- The levels that a lane sends for a frame's message. -/
def lineOf (b : FrameBits) : LineBits := BitVec.ofNat 5440 (grayLevels (rsEncode b))

/-- The bits of PRBS13 (1 + x + x^2 + x^12 + x^13) from a register's content on. -/
def prbs13 : Nat → Nat → List Bool
  | 0, _ => []
  | n + 1, s =>
    let f := (s.testBit 12) ^^ (s.testBit 11) ^^ (s.testBit 1) ^^ (s.testBit 0)
    f :: prbs13 n ((2 * s + (if f then 1 else 0)) % 2 ^ 13)

/-- One period of PRBS13Q from a register's content on: 8,191 levels, the Gray mapping of two periods of PRBS13 (03 R101). -/
def prbs13q (seed : Nat) : List Nat :=
  let b := prbs13 16382 seed
  (List.range 8191).map (fun i => match b.getD (2 * i) false, b.getD (2 * i + 1) false with
    | false, false => 0
    | false, true => 1
    | true, true => 2
    | true, false => 3)

end Sys2Proof.Machine

namespace Sys2Proof
open Sys2Proof.Machine

/-- What the receiver's decoder makes of a codeword: symbols corrected and message (03 R79). -/
def RxFrame.result (f : RxFrame) : Option (Nat × Nat) := rsDecode (grayBits f.line.toNat)
/-- The codeword decodes, corrected or not (03 R84). -/
def RxFrame.decoded (f : RxFrame) : Bool := f.result.isSome
/-- Symbols corrected. -/
def RxFrame.corrected (f : RxFrame) : Nat := (f.result.map (·.1)).getD 0
/-- The frame's message, still scrambled (03 R82). -/
def RxFrame.bits (f : RxFrame) : FrameBits := BitVec.ofNat 5140 ((f.result.map (·.2)).getD 0)

end Sys2Proof
end

