-- ==== Sys2Proof/Machine/Format.lean ====
section
/-! DEFINITION. The Chiun media format (chapter 9): scrambler, CRCs, polarity, LDPC code, headers, stripes and placement. -/
namespace Sys2Proof.Machine

/-- The additive scrambler of 03 R82, `n` bits from a seed. -/
def scrambler : Nat → Nat → List Bool
  | 0, _ => []
  | n + 1, s =>
    let f := (s.testBit 30) ^^ (s.testBit 27)
    f :: scrambler n ((s * 2 + (if f then 1 else 0)) % 2 ^ 31)

/-- The bit-serial CRC of 03 R83 at width `w`: from bit 0 upward, no reflection. -/
def crcBits (w poly : Nat) (init : Nat) (bits : List Bool) : Nat := bits.foldl (fun c b => cvBit w poly c b) init

/-- The CRC-16 of 03 R83. -/
def crc16 (bits : List Bool) : Nat := crcBits 16 0x1021 0xFFFF bits

/-- The CRC-64 of 09 R239 over a list of bits. -/
def crc64Bits (bits : List Bool) : Nat :=
  (crcBits 64 0x42F0E1EBA9EA3693 0xFFFFFFFFFFFFFFFF bits) ^^^ 0xFFFFFFFFFFFFFFFF

/-- Bits of bytes, bit 0 of each byte first. -/
def bytesToBits (l : List Byte) : List Bool := l.flatMap (fun b => bitsOf b.toNat 8)

/-- Bytes of bits, bit 0 of each byte first; `n` bytes. -/
def bitsToBytes : Nat → List Bool → List Byte
  | 0, _ => []
  | n + 1, l => BitVec.ofNat 8 (natOfBits (l.take 8)) :: bitsToBytes n (l.drop 8)

/-- The CRC-64 of bytes, each byte bit 0 first (09 R239, 11 R290). -/
def crc64 (l : List Byte) : Nat := crc64Bits (bytesToBits l)

/-- Codeword length of strength `str`, 0-3 for S1-S4 (09 Table 9.2). -/
def codewordLen (str : Nat) : Nat := match str with
  | 0 => 37120 | 1 => 39168 | 2 => 41216 | _ => 45312

/-- Frame length of a strength (09 Table 9.2). -/
def frameLen (str : Nat) : Nat := 64 + 65 * (codewordLen str / 64)

/-- Row blocks of a strength's code (09 R240). -/
def ldpcM (str : Nat) : Nat := match str with
  | 0 => 16 | 1 => 24 | 2 => 32 | _ => 48

/-- The constant added to every shift (09 Table 9.4). -/
def ldpcSigma (str : Nat) : Nat := match str with
  | 0 => 0 | 1 => 11 | 2 => 23 | _ => 47

/-- Row block and shift of the t-th block of info column block j (09 R241). -/
def ldpcBlock (str t j : Nat) : Nat × Nat :=
  let m := ldpcM str
  let (a, b, c) := match t with
    | 0 => (1, 0, 0) | 1 => (3, 37, 64) | 2 => (5, 101, 128) | _ => (7, 173, 192)
  ((j + t * (m / 4)) % m, (a * j * j + b * j + c + ldpcSigma str) % 256)

/-- Non-zero blocks of row block `r`: (column block, shift), in ascending column block (09 R240-R242, 10 R260). -/
def ldpcRow (str r : Nat) : List (Nat × Nat) :=
  let m := ldpcM str
  let info := (List.range 129).flatMap (fun j =>
    ((List.range 4).map (fun t => ldpcBlock str t j)).filterMap (fun b => if b.1 = r then some (j, b.2) else none))
  let p0 := if r = 0 ∨ r = m - 1 then [(129, 1)] else if r = m / 2 then [(129, 0)] else []
  let ps := (List.range (m - 1)).filterMap (fun i =>
    if r = i ∨ r = i + 1 then some (129 + (i + 1), 0) else none)
  info ++ p0 ++ ps

/-- rot(v, k) on a 256-bit vector (09 R240): bit n of the result is bit (n + k) mod 256. -/
def rot256 (v k : Nat) : Nat := (v / 2 ^ (k % 256) + v * 2 ^ (256 - k % 256)) % 2 ^ 256

/-- The parity vectors of an info block given as 129 column vectors (09 R242). -/
def ldpcParity (str : Nat) (u : List Nat) : List Nat :=
  let m := ldpcM str
  let lam := (List.range m).map (fun r =>
    (List.range 129).foldl (fun acc j => (List.range 4).foldl (fun a t =>
      let b := ldpcBlock str t j
      if b.1 = r then a ^^^ rot256 (u.getD j 0) b.2 else a) acc) 0)
  let p0 := lam.foldl (fun a x => a ^^^ x) 0
  let p1 := lam.getD 0 0 ^^^ rot256 p0 1
  let step : List Nat → Nat → List Nat := fun ps i =>
    ps ++ [lam.getD i 0 ^^^ ps.getD i 0 ^^^ (if i = m / 2 then p0 else 0)]
  ((List.range (m - 2)).map (· + 1)).foldl step [p0, p1]

/-- The codeword of an info block of 4,128 bytes (09 R238, R242). -/
def encodeCodeword (str : Nat) (info : List Byte) : List Bool :=
  let bits := bytesToBits info
  let u := (List.range 129).map (fun j => natOfBits ((bits.drop (256 * j)).take 256))
  bits ++ (ldpcParity str u).flatMap (fun p => bitsOf p 256)

/-- The physical address A of a slot (09 R237, 11 R298). -/
def physAddr (s : Slot) : Nat := s.layer * 2 ^ 27 + s.track * 2 ^ 9 + s.sect

/-- The scrambling bits of a frame (09 R237). -/
def frameScramble (s : Slot) (n : Nat) : List Bool := scrambler n (physAddr s + 1)

/-- Polarity coding of scrambled bits, 64 at a time, with the running digital sum so far (09 R235). -/
def polarityCode : Nat → Int → List Bool → List Bool
  | 0, _, _ => []
  | b + 1, rds, y =>
    let blk := y.take 64
    let bs : Int := blk.foldl (fun a x => a + (if x then 1 else -1)) 0
    let pol : Bool := decide ((rds > 0 ∧ bs > 0) ∨ (rds < 0 ∧ bs < 0))
    let rds' := rds + (if pol then 1 else -1) + (if pol then -bs else bs)
    (pol :: blk.map (fun x => x ^^ pol)) ++ polarityCode b rds' (y.drop 64)

/-- The sync mark's channel bits (09 R234). -/
def syncBits : List Bool := bitsOf 0x3B5CA71E96302D8B 64

/-- The channel bits of a sector frame (11 R297): sync, polarity-coded scrambled codeword. -/
def frameBits (str : Nat) (s : Slot) (info : List Byte) : List Bool :=
  let n := codewordLen str
  let y := List.zipWith xor (encodeCodeword str info) (frameScramble s n)
  syncBits ++ polarityCode (n / 64) 0 y

/-- A sector header (09 Table 9.3). -/
structure SecHeader where
  ext : Nat
  aux : Nat
  track : Nat
  layer : Nat
  sect : Nat
  eidx : Nat
  xpos : Nat
  kind : Nat
  str : Nat
  reloc : Bool
  xpe : Bool
  deriving DecidableEq, Repr

/-- The 192 bits of a header (09 Table 9.3). -/
def headerBits (h : SecHeader) : Nat :=
  (if h.xpe then 2 ^ 9 else 0) + (if h.reloc then 2 ^ 10 else 0) + h.str * 2 ^ 11 + h.kind * 2 ^ 13 + h.xpos * 2 ^ 17 +
  h.eidx * 2 ^ 21 + h.sect * 2 ^ 33 + h.layer * 2 ^ 42 + h.track * 2 ^ 46 + h.aux * 2 ^ 64 + h.ext * 2 ^ 128

/-- Reads a header. -/
def parseHeader (v : Nat) : SecHeader :=
  { ext := fld v 191 128, aux := fld v 127 64, track := fld v 63 46, layer := fld v 45 42, sect := fld v 41 33,
    eidx := fld v 32 21, xpos := fld v 20 17, kind := fld v 16 13, str := fld v 12 11, reloc := v.testBit 10,
    xpe := v.testBit 9 }

/-- Pads or cuts to `n` bytes. -/
def padTo (n : Nat) (l : List Byte) : List Byte := (l ++ List.replicate (n - l.length) 0).take n

/-- The info block of a sector: header, user field, CRC-64 (09 R238, R239). -/
def infoBlock (h : SecHeader) (user : List Byte) : List Byte :=
  let body := leBytes 24 (headerBits h) ++ padTo 4096 user
  body ++ leBytes 8 (crc64 body)

/-- The CRC-64 an info block carries, and whether it matches. -/
def infoCrc (info : List Byte) : Nat := leNat ((info.drop 4120).take 8)
def infoCrcOk (info : List Byte) : Bool := decide (crc64 (info.take 4120) = infoCrc info)
/-- The user field (10 R266). -/
def infoUser (info : List Byte) : List Byte := (info.drop 24).take 4096

/-- XOR of two byte lists of the same length. -/
def xorBytes (a b : List Byte) : List Byte := List.zipWith (fun x y => x ^^^ y) a b

/-- Zones of a table (09 R254) and one zone's G, N and K. -/
def State.zones (s : State) (t : Nat) : Nat := s.objN (tkey t 0 5)
def State.zoneG (s : State) (t z : Nat) : Nat :=
  if z ≥ s.zones t then 142000 else leNat (((s.blob (tkey t 3 1)).drop (16 * z)).take 4)
def State.zoneN (s : State) (t z : Nat) : Nat := leNat (((s.blob (tkey t 3 1)).drop (16 * z + 4)).take 4)
def State.zoneK (s : State) (t z : Nat) : Nat := leNat (((s.blob (tkey t 3 1)).drop (16 * z + 8)).take 4)

/-- The zone of a guide track (09 R226). -/
def State.zoneOf (s : State) (t g : Nat) : Nat :=
  ((List.range (s.zones t)).filter (fun z => decide (s.zoneG t z ≤ g))).length - 1

/-- Highest data track of zone z (09 R245). -/
def State.tHi (s : State) (t z : Nat) : Nat := min (s.zoneG t (z + 1) - 1) 141866
/-- Lowest data track of zone z (09 R227). -/
def State.tLo (s : State) (t z : Nat) : Nat := max (s.zoneG t z + 65) 200
/-- Whole stripes of zone z (09 R245). -/
def State.stripes (s : State) (t z : Nat) : Nat := (s.tHi t z + 1 - s.tLo t z) / 16
/-- Lower track of stripe q of zone z (09 R245). -/
def State.stripeLow (s : State) (t z q : Nat) : Nat := s.tHi t z + 1 - 16 * (q + 1)

/-- Frame slots of a track in zone z at a strength (09 R231). -/
def State.slotsOf (s : State) (t z str : Nat) : Nat :=
  (s.zoneN t z * s.zoneK t z - 1024 * 2 ^ 16) / (frameLen str * 2 ^ 16)

/-- Placement columns of zone z (09 R246). -/
def State.columns (s : State) (t z str : Nat) : Nat := s.slotsOf t z str - s.objN (tkey t 0 10)

/-- The table a mast holds, if any (09 Table 9.7). -/
def State.tableOf (s : State) (m : Nat) : Option Nat :=
  let v := s.objN (mkey m 0x50 1)
  if v = 255 then none else some v

/-- The next stripe in placement order after (layer, lower track) (09 R246), passing over zones without stripes. -/
def State.nextStripe (s : State) (t layer low : Nat) : Option (Nat × Nat) :=
  let z := s.zoneOf t low
  let q := (s.tHi t z + 1 - low) / 16 - 1
  if q + 1 < s.stripes t z then some (layer, s.stripeLow t z (q + 1))
  else if layer + 1 < s.objN (tkey t 0 3) then some (layer + 1, s.stripeLow t z 0)
  else match ((List.range z).reverse.filter (fun y => decide (s.stripes t y > 0))).head? with
    | some y => some (0, s.stripeLow t y 0)
    | none => none

/-- A stripe holds log-area tracks (11 R293). -/
def State.isLogStripe (s : State) (t layer low : Nat) : Bool :=
  decide (layer = s.objN (tkey t 0 8)) && decide (s.objN (tkey t 0 9) < low + 16) &&
    decide (low < s.objN (okey (0x4000 + t * 0x100) 0x93))

/-- The stripe where placement begins on a blank disc (11 R293). -/
def State.firstStripe (s : State) (t : Nat) : Option (Nat × Nat) :=
  match ((List.range (s.zones t)).reverse.filter (fun z => decide (s.stripes t z > 0))).head? with
  | some z => some (0, s.stripeLow t z 0)
  | none => none

/-- The next stripe that holds no log-area track, passing over at most `fuel` log stripes (11 R293). -/
def State.nextPlace (s : State) (t : Nat) : Nat → Nat → Nat → Option (Nat × Nat)
  | 0, _, _ => none
  | fuel + 1, layer, low =>
    match s.nextStripe t layer low with
    | none => none
    | some (l', low') => if s.isLogStripe t l' low' then s.nextPlace t fuel l' low' else some (l', low')

/-- Slots of a run of `k` placement slots from ordinal n on, walking columns and stripes (09 R246); `low` is the stripe's
lower track, `col` the column. -/
def State.walk (s : State) (t str : Nat) : Nat → Nat → Nat → Nat → Nat → List Slot
  | 0, _, _, _, _ => []
  | k + 1, layer, low, col, i =>
    let z := s.zoneOf t low
    if col ≥ s.columns t z str then
      match s.nextPlace t 10000 layer low with
      | none => []
      | some (l', low') =>
        if s.columns t (s.zoneOf t low') str = 0 then []
        else ⟨l', low', 0⟩ :: s.walk t str k l' low' 0 1
    else ⟨layer, low + i, col⟩ ::
      (if i + 1 = 16 then s.walk t str k layer low (col + 1) 0 else s.walk t str k layer low col (i + 1))

/-- Data sectors of an extent (11 R288). -/
def dataSectors (len : Nat) : Nat := (len + 4095) / 4096
/-- Slots of an extent, parity slots included (09 R249). -/
def totalSlots (len : Nat) (xpe : Bool) : Nat :=
  dataSectors len + (if xpe then (dataSectors len + 14) / 15 else 0)
/-- Slot ordinal of a data sector (09 R249). -/
def slotOfEidx (xpe : Bool) (e : Nat) : Nat := if xpe then e + e / 15 else e
/-- The sector at slot ordinal n of an extent: (KIND, EIDX, XPOS) (09 R249). -/
def secOfSlot (len : Nat) (xpe : Bool) (n : Nat) : Nat × Nat × Nat :=
  if xpe then
    let last := totalSlots len xpe - 1
    if n % 16 = 15 ∨ n = last then (2, n / 16, 15) else (1, 15 * (n / 16) + n % 16, n % 16)
  else (1, n, 0)

end Sys2Proof.Machine
end

