-- ==== Sys2Proof/Machine/GorcyStream.lean ====
section
/-! DEFINITION. The lanes of a Gorcy port (14.1, 14.3): the bytes of a packet in the stream, blocks, scrambling, pairs and lanes, and
what a receiver makes of them. The rows carry packets; this file says which line bits carry one (notes/assumptions/150.md). -/
namespace Sys2Proof.Machine

/-- Header field of a Gorcy packet (14 Table 14.2). -/
def hf (h : BitVec 512) (hi lo : Nat) : Nat := fld h.toNat hi lo

/-- The header with bits hi..lo replaced. -/
def hfSet (h : BitVec 512) (hi lo v : Nat) : BitVec 512 :=
  let n := h.toNat
  BitVec.ofNat 512 (n - fld n hi lo * 2 ^ lo + (v % 2 ^ (hi + 1 - lo)) * 2 ^ lo)

/-- A packet in the stream (14 R378): header, padded payload, trailer with the CRC-32C of both. -/
def packetBytes (header : BitVec 512) (payload : List Byte) : List Byte :=
  let covered := leBytes 64 header.toNat ++ padTo ((payload.length + 7) / 8 * 8) payload
  covered ++ leBytes 4 (crc32c covered) ++ leBytes 4 0

/-- The kinds of block (14 Table 14.1). -/
inductive BlockKind where
  | idle | stream | marker
  deriving DecidableEq, Repr

/-- Code of a block's kind; other values are reserved. -/
def BlockKind.code : BlockKind → Nat
  | .idle => 0
  | .stream => 1
  | .marker => 2

/-- A block before scrambling: where the first packet in it starts, in 8-byte units, and its 640 stream bytes. -/
structure GorcyBlock where
  kind : BlockKind
  first : Option Nat := none
  bytes : List Byte := []
  deriving DecidableEq, Repr

/-- Seed of the scrambler of port p, lane l (14 R372). -/
def gorcySeed (p l : Nat) : Nat := 0x47435900 + 2 * p + l

/-- A block's message bits (14 Table 14.1). -/
def GorcyBlock.message (b : GorcyBlock) : Nat := b.kind.code + (b.first.getD 0xFFF) * 16 + leNat (padTo 640 b.bytes) * 2 ^ 16

/-- The codeword of a block on its lane: scrambled, RS(544,514), Gray-mapped (14 R371, R372). -/
def GorcyBlock.line (b : GorcyBlock) (p l : Nat) : LineBits :=
  lineOf (BitVec.ofNat 5140 (b.message ^^^ natOfBits (scrambler 5140 (gorcySeed p l))))

/-- A received codeword of a lane: none when it fails RS decoding or its KIND is reserved, and is discarded (14 R372). -/
def gorcyBlockIn (p l : Nat) (line : LineBits) : Option GorcyBlock :=
  match rsDecode (grayBits line.toNat) with
  | none => none
  | some (_, m) =>
    let n := m ^^^ natOfBits (scrambler 5140 (gorcySeed p l))
    let first := if fld n 15 4 < 80 then some (fld n 15 4) else none
    let bytes := leBytes 640 (fld n 5135 16)
    match fld n 3 0 with
    | 0 => some ⟨.idle, first, bytes⟩
    | 1 => some ⟨.stream, first, bytes⟩
    | 2 => some ⟨.marker, first, bytes⟩
    | _ => none

/-- A block without stream bytes. -/
def GorcyBlock.empty (k : BlockKind) : GorcyBlock := ⟨k, none, []⟩

/-- The first n stream blocks of 640 bytes of a stream in which packets start at `starts` (14 R372, Table 14.1). -/
def streamBlocks (starts : List Nat) (all : List Byte) (n : Nat) : List GorcyBlock :=
  (List.range n).map (fun k => ⟨.stream,
    (starts.find? (fun u => decide (640 * k ≤ u ∧ u < 640 * (k + 1)))).map (fun u => (u - 640 * k) / 8), (all.drop (640 * k)).take 640⟩)

/-- What pair j of a port carries, counted from 0: alignment markers once after every 8,192 pairs, idle blocks once in every 1,024, else
stream blocks (14 R372). -/
def pairKind (j : Nat) : BlockKind := if j % 8193 = 8192 then .marker else if j % 1024 = 1023 then .idle else .stream

/-- The lane of stream block k: both lanes in turn, or the one lane that is not retired (14 R372, R373). -/
def streamLane (lane0 lane1 : Bool) (k : Nat) : Option Nat :=
  match lane0, lane1 with
  | true, true => some (k % 2)
  | true, false => some 0
  | false, true => some 1
  | false, false => none

/-- A block leaves a port on a lane. -/
def State.sendBlock (s : State) (p l : Nat) (b : GorcyBlock) : State := s.emit (.block p l (b.line p l))

/-- A pair without stream bytes leaves a port, one block on each of its lanes. -/
def State.sendPair (s : State) (p : Nat) (k : BlockKind) : State :=
  let po := s.port p
  let s1 := if po.lane0 then s.sendBlock p 0 (.empty k) else s
  if po.lane1 then s1.sendBlock p 1 (.empty k) else s1

/-- Pairs of markers or idle blocks that come before the next stream pair (14 R372). -/
def State.otherPairs (s : State) (p : Nat) : Nat → State
  | 0 => s
  | n + 1 =>
    let po := s.port p
    match pairKind po.txPairs with
    | .stream => s
    | k => ((s.setPort p { po with txPairs := po.txPairs + 1 }).sendPair p k).otherPairs p n

/-- A stream block leaves a port on the lane whose turn it is; after the second of a pair the next pair begins (14 R372, R373). -/
def State.streamBlock (s : State) (p : Nat) (b : GorcyBlock) : State :=
  let po := s.port p
  let s1 := match streamLane po.lane0 po.lane1 po.txBlocks with
    | some l => s.sendBlock p l b
    | none => s
  let s2 := s1.setPort p { po with txBlocks := po.txBlocks + 1, txPairs := po.txPairs + po.txBlocks % 2 }
  if po.txBlocks % 2 = 1 then s2.otherPairs p 2 else s2

/-- A packet leaves a port (14 R378): its bytes join the port's stream, which leaves block by block as blocks fill (R372;
notes/assumptions/150.md). -/
def State.emitPacket (s : State) (p : Nat) (header : BitVec 512) (payload : List Byte) : State :=
  let po := s.port p
  let bytes := packetBytes header payload
  let all := po.tx ++ bytes
  let starts := po.txStarts ++ [po.tx.length]
  let n := all.length / 640
  let s1 := (s.setPort p { po with
    tx := all.drop (640 * n), txStarts := (starts.filter (fun u => 640 * n ≤ u)).map (fun u => u - 640 * n) }).emit (.gorcy p bytes)
  forEach (streamBlocks starts all n) (fun b a => a.streamBlock p b) s1

/-- Packets at the head of a stream, by their LEN (14 R378); what is left over waits for more bytes. -/
def packetsIn : Nat → List Byte → List GPacket
  | 0, _ => []
  | fuel + 1, l =>
    let h : BitVec 512 := BitVec.ofNat 512 (leNat (l.take 64))
    let n := (hf h 108 96 + 7) / 8 * 8
    if l.length < 72 + n then []
    else ⟨h, (l.drop 64).take n, BitVec.ofNat 32 (leNat ((l.drop (64 + n)).take 4))⟩ :: packetsIn fuel (l.drop (72 + n))

/-- The stream that parsing goes on with after a lost block: the following blocks from the first packet that starts there
(14 R372). -/
def resumeStream : List GorcyBlock → List Byte
  | [] => []
  | b :: rest => match b.first with
    | some f => b.bytes.drop (8 * f) ++ rest.flatMap (·.bytes)
    | none => resumeStream rest

end Sys2Proof.Machine
end

