-- ==== Sys2Proof/Machine/Link.lean ====
section
/-! DEFINITION. Gorcy packets out of the rig: header layout (14 Table 14.2), routing (14.2), numbering and credits (14.4). -/
namespace Sys2Proof.Machine

/-- A header this rig sends (14 Table 14.2): link fields zero. -/
def State.mkHeader (s : State) (type cls dst xid len tsf : Nat) : BitVec 512 :=
  BitVec.ofNat 512 (type + cls * 2 ^ 32 + s.addr * 2 ^ 42 + dst * 2 ^ 53 + (xid % 2 ^ 32) * 2 ^ 64 + len * 2 ^ 96 +
    (s.objN (okey 0x2300 4)) * 2 ^ 112 + (s.epoch % 2 ^ 64) * 2 ^ 128 + tsf * 2 ^ 192)

/-- A port carries packets: its state reads one lane or up (14 Table 14.6). -/
def State.portUp (s : State) (p : Nat) : Bool :=
  let v := s.objN (okey 0x2301 (p + 1))
  decide (v = 2 ∨ v = 3)

/-- An address names a rig of the torus (14 R374). -/
def State.addrValid (s : State) (a : Nat) : Bool :=
  decide (a % 32 < s.objN (okey 0x2300 2)) && decide (a / 32 < s.objN (okey 0x2300 3))

/-- One routing decision (14 R375, R376): the port and the header with RT, DTR, DIR and VC as it leaves; `arrDim` is the
dimension it arrived in (0 X, 1 Y, 2 sent by this rig). `fuel` allows the one switch to Y first. -/
def State.route (s : State) (arrDim : Nat) : Nat → BitVec 512 → Option (Nat × BitVec 512)
  | 0, _ => none
  | fuel + 1, h =>
    let dst := hf h 63 53
    let me := s.addr
    let rt := hf h 34 34
    let nx := s.objN (okey 0x2300 2)
    let ny := s.objN (okey 0x2300 3)
    let xOk := decide (dst % 32 = me % 32)
    let yOk := decide (dst / 32 = me / 32)
    let dim := if rt = 0 then (if xOk then 1 else 0) else (if yOk then 0 else 1)
    let n := if dim = 0 then nx else ny
    let cur := if dim = 0 then me % 32 else me / 32
    let goal := if dim = 0 then dst % 32 else dst / 32
    let turned := decide (arrDim ≠ dim)
    let dtr := if turned then 0 else hf h 19 19
    let vc := if turned then 0 else hf h 33 33
    let d := (goal + n - cur) % n
    let minus := if dtr = 1 then hf h 18 18 else if d ≤ n - d then 0 else 1
    let portOf : Nat → Nat := fun mn => 2 * dim + mn
    let out : Nat → Nat → Option (Nat × BitVec 512) := fun mn fixed =>
      let wrap := if mn = 0 then decide (cur + 1 = n) else decide (cur = 0)
      let h1 := hfSet h 19 19 fixed
      let h2 := hfSet h1 18 18 (if fixed = 1 then mn else 0)
      some (portOf mn, hfSet h2 33 33 (if wrap then 1 else vc))
    if xOk && yOk then none
    else if s.portUp (portOf minus) then out minus dtr
    else if s.portUp (portOf (1 - minus)) then out (1 - minus) 1
    else if rt = 0 then s.route arrDim fuel (hfSet h 34 34 1)
    else none

/-- Units of credit of a packet (14 R382). -/
def creditUnits (len : Nat) : Nat := (72 + len + 63) / 64

/-- Virtual channel number of a packet in the order of LCTL's counts (14 Table 14.3). -/
def vcIndex (h : BitVec 512) : Nat := 2 * hf h 32 32 + hf h 33 33

/-- A packet has left the input buffer that held it: its units are free (14 R377, R382). -/
def State.freeInput (s : State) (h : BitVec 512) : Option (Nat × Nat) → State
  | none => s
  | some (q, v) =>
    let po := s.port q
    s.setPort q { po with freed := po.freed.set v ((po.freed.getD v 0 + creditUnits (hf h 108 96)) % 65536) }

/-- Sends a request or response packet out of port `p`: numbers it and keeps it for replay while its channel's credit and the replay
window allow, else it waits behind the others of its channel (14 R380, R382). A miswired port carries none (R385). -/
def State.linkSend (s : State) (p : Nat) (x : WaitPkt) : State :=
  let po := s.port p
  let u := creditUnits (hf x.header 108 96)
  let v := vcIndex x.header
  let room := (1024 + po.limit.getD v 0 + 65536 - po.used.getD v 0) % 65536
  if po.stalled.all (fun y => vcIndex y.header ≠ v) ∧ u ≤ room ∧ po.unacked.length < 1024 ∧ s.portUp p = true then
    let h' := hfSet x.header 31 20 po.sendSeq
    let po' := { po with
      sendSeq := (po.sendSeq + 1) % 4096
      used := po.used.set v ((po.used.getD v 0 + u) % 65536)
      unacked := po.unacked ++ [⟨po.sendSeq, h', x.payload, s.now, 0, x.orig, x.arr⟩] }
    ((s.setPort p po').freeInput x.header x.from_).emitPacket p h' x.payload
  else s.setPort p { po with stalled := po.stalled ++ [x] }

/-- Routes a packet that stands in an input buffer or in none; one that finds no port is dropped and counted (14 R376). -/
def State.fabricPass (s : State) (arrDim : Nat) (h : BitVec 512) (pay : List Byte) (from_ : Option (Nat × Nat)) : State :=
  if !s.addrValid (hf h 63 53) then (s.count (okey 0x5428 17)).freeInput h from_
  else match s.route arrDim 2 h with
    | some (p, h') => s.linkSend p ⟨h', pay, h, arrDim, from_⟩
    | none => (s.count (okey 0x5428 17)).freeInput h from_

/-- Routes a packet of this rig. -/
def State.fabricSend (s : State) (arrDim : Nat) (h : BitVec 512) (pay : List Byte) : State := s.fabricPass arrDim h pay none

/-! ## Time (14.7) -/

/-- The rig is willing to act as time source: TFLAGS[2] (14 R389). -/
def State.willing (s : State) : Bool := decide (s.objN (okey 0x2302 1) ≠ 0) && !s.fabric.timeUnsure

/-- A port's neighbour counts for time: HELLO seen, port carrying, same epoch, not time-unsure (14 R386, R389, R391). -/
def State.timeNeighbour (s : State) (p : Nat) : Bool :=
  let po := s.port p
  po.helloAt.isSome && decide (2 ≤ s.objN (okey 0x2301 (p + 1))) && decide (po.nEpoch = s.epoch) && !po.nFlags.testBit 0

/-- (RANK, ROOT) order (14 R389). -/
def rootLess (a b : Nat × Nat) : Bool := decide (a.1 < b.1 ∨ (a.1 = b.1 ∧ a.2 < b.2))

/-- The neighbours' best root: (port, RANK, ROOT, DIST), by root, then distance, neighbour address and port (14 R389). -/
def State.bestNeighbour (s : State) : Option (Nat × Port) :=
  (((List.range 4).filter (fun p => s.timeNeighbour p && decide (1 ≤ (s.port p).nRank ∧ (s.port p).nRank ≤ 254) &&
    decide ((s.port p).nDist < 255))).map (fun p => (p, s.port p))).foldl
    (fun (b : Option (Nat × Port)) x => match b with
      | none => some x
      | some y =>
        let kx := (x.2.nRank, x.2.nRoot)
        let ky := (y.2.nRank, y.2.nRoot)
        if rootLess kx ky ∨ (kx = ky ∧ (x.2.nDist < y.2.nDist ∨ (x.2.nDist = y.2.nDist ∧ x.2.nSrc < y.2.nSrc))) then some x else some y) none

/-- The field network's clock steers rig time (14 R389, 17 R468). -/
def State.byClock (s : State) : Bool :=
  decide (s.objN (okey 0x2302 3) = 2 ∧ s.obj (okey 0x2302 2) = 1 ∧ s.objN (okey 0x2120 1) = 2)

/-- TFLAGS of the rig's HELLOs (14 Table 14.4). -/
def State.tflags (s : State) : Nat :=
  (if s.fabric.timeUnsure then 1 else 0) + (if s.byClock then 2 else 0) + (if s.willing then 4 else 0)

/-- A HELLO is owed on every port (14 R384). -/
def State.oweHello (s : State) : State :=
  forEach (List.range 4) (fun p a => if a.objN (okey 0x2301 (p + 1)) = 0 then a else a.setPort p { a.port p with helloOwed := true }) s

/-- A change of a HELLO's own fields sends one on every port; T_SEND, ECHO and RXT, new in each HELLO, are no such change (14 R384;
notes/assumptions/171.md). -/
def State.advertise (s : State) : State :=
  let now := [s.objN (okey 0x2300 2), s.objN (okey 0x2300 3), s.tflags, s.fabric.rank, s.fabric.root, s.fabric.dist]
  if s.fabric.advert = now then s else ({ s with fabric := { s.fabric with advert := now } } : State).oweHello

/-- Chooses root and parent and shows the time state (14 R389; Table 14.6). -/
def State.chooseRoot (s : State) : State :=
  let own := (s.objN (okey 0x2302 1), s.addr)
  let best := s.bestNeighbour
  let self := s.willing && (match best with
    | some b => rootLess own (b.2.nRank, b.2.nRoot) || decide (own = (b.2.nRank, b.2.nRoot))
    | none => true)
  let old := s.objN (okey 0x2302 4)
  let (rank, root, dist, parent) : Nat × Nat × Nat × Nat :=
    if self then (own.1, own.2, 0, 255)
    else match best with
      | some b => (b.2.nRank, b.2.nRoot, b.2.nDist + 1, b.1)
      | none => (255, 0, 0, 255)
  let st : Nat := if s.fabric.timeUnsure then 3 else if self then 2 else if parent ≠ 255 then 1 else 0
  let s1 := { s with fabric := { s.fabric with
    rank := rank, root := root, dist := dist, parentAt := if old = 255 then s.now else s.fabric.parentAt } }
  let s2 := (s1.setObj (okey 0x2302 3) st).setObj (okey 0x2302 4) parent
  (if parent = 255 ∧ ¬(self = true ∧ s.obj (okey 0x2302 2) = 1 ∧ s.objN (okey 0x2120 1) = 2) then s2.setObj (okey 0x2302 6) 0
    else s2).advertise

/-- A port goes down (14 R373, R381): it trains again, or stays down when both lanes are retired; its neighbour offers no root any more
(R389), and what it had not yet delivered is sent again on the new route in the order first accepted for sending. -/
def State.portOff (s : State) (p : Nat) : State :=
  let po := s.port p
  let dead := decide (s.objN (okey 0x2301 (5 + p)) % 4 = 3)
  let s1 := s.setPort p {
    lane0Down := po.lane0Down, lane1Down := po.lane1Down, miswired := po.miswired, restarts := po.restarts, prbsUntil := po.prbsUntil }
  let s2 := s1.setObj (okey 0x2301 (p + 1)) (if dead then 0 else 1)
  let s3 := (if dead then s2 else s2.emit (.prbs p)).chooseRoot
  forEach (po.unacked.map (fun u => (u.orig, u.payload, u.arr, none)) ++ po.stalled.map (fun u => (u.orig, u.payload, u.arr, u.from_)))
    (fun (u : BitVec 512 × List Byte × Nat × Option (Nat × Nat)) a => a.fabricPass u.2.2.1 u.1 u.2.1 u.2.2.2) s3

/-- A fresh transaction number. -/
def State.freshXid (s : State) : Nat × State :=
  (s.fabric.nextXid, { s with fabric := { s.fabric with nextXid := (s.fabric.nextXid + 1) % 2 ^ 32 } })

/-- Sends a packet of this rig with a fresh XID. -/
def State.sendPacket (s : State) (type cls dst tsf : Nat) (pay : List Byte) : State :=
  let (x, s) := s.freshXid
  s.fabricSend 2 (s.mkHeader type cls dst x pay.length tsf) pay

/-- Sends a reply: it carries its request's XID (14 Table 14.2). -/
def State.sendReply (s : State) (type dst xid tsf : Nat) (pay : List Byte) : State :=
  s.fabricSend 2 (s.mkHeader type 1 dst xid pay.length tsf) pay

end Sys2Proof.Machine
end

