-- ==== Sys2Proof/Machine/Events.lean ====
section
/-! DEFINITION. Event records, event queues, conditions and the completion of commands (12.6-12.9). -/
namespace Sys2Proof.Machine

/-- Status codes (12 Table 12.9). -/
def stSuccess : Nat := 0x0000
def stInvalidOpcode : Nat := 0x0001
def stInvalidField : Nat := 0x0002
def stAccessDenied : Nat := 0x0003
def stObjectAbsent : Nat := 0x0004
def stUnitBusy : Nat := 0x0005
def stTagInUse : Nat := 0x0006
def stNoQueue : Nat := 0x0007
def stExtentAbsent : Nat := 0x0010
def stExtentExists : Nat := 0x0011
def stMediaMismatch : Nat := 0x0012
def stMediaReadOnly : Nat := 0x0013
def stMediaFull : Nat := 0x0014
def stLogFull : Nat := 0x0015
def stMapFull : Nat := 0x0016
def stMediaUnavailable : Nat := 0x0017
def stMediaUnrecovered : Nat := 0x0018
def stWriteFailed : Nat := 0x0019
def stMastFurled : Nat := 0x0020
def stMastFaulted : Nat := 0x0021
def stLeaseLost : Nat := 0x0022
def stEpochMismatch : Nat := 0x0023
def stWindowChanged : Nat := 0x0024
def stMemoryError : Nat := 0x0025
def stEngineUnavailable : Nat := 0x0026
def stEngineFault : Nat := 0x0027
def stWriteTimeout : Nat := 0x0030
def stGrantTimeout : Nat := 0x0031
def stPeerTimeout : Nat := 0x0032
def stTransferError : Nat := 0x0033
def stAborted : Nat := 0x0040
def stAbortClean : Nat := 0x0041
def stAbortPartial : Nat := 0x0042
def stAbortTooLate : Nat := 0x0043
def stAbortNoTag : Nat := 0x0044

/-- The 256 bits of an event record (12 Table 12.10). -/
def recBits (r : EvRec) (phase : Bool) : Nat :=
  (if phase then 1 else 0) + (if r.defd then 2 else 0) + (if r.dup then 4 else 0) + (if r.tun then 8 else 0) +
  r.type * 2 ^ 8 + (r.level % 8) * 2 ^ 16 + (r.res % 2 ^ 13) * 2 ^ 19 + (r.tag % 2 ^ 16) * 2 ^ 32 +
  (r.status % 2 ^ 16) * 2 ^ 48 + (r.time % 2 ^ 64) * 2 ^ 64 + (r.payload % 2 ^ 128) * 2 ^ 128

/-- Forms a record now (12 Table 12.10). -/
def State.formRec (s : State) (type level res tag status payload : Nat) : EvRec :=
  { type := type, level := level, res := res, tag := tag, status := status, payload := payload, time := s.now,
    tun := s.fabric.timeUnsure, dup := false, defd := false }

/-- Ring size of an EQ. -/
def EQ.size (e : EQ) : Nat := 2 ^ e.log
/-- Unconsumed records of an EQ. -/
def EQ.used (e : EQ) : Nat := (e.tail + e.size - e.head) % e.size
/-- An EQ holds at most 2^e - 1 unconsumed records (12 R345). -/
def EQ.full (e : EQ) : Bool := decide (e.size ≤ e.used + 1)

/-- Sends an EQ's MSI-X message, or sets the vector's pending bit while it is masked: its records stay unsignalled until then (12 R346). -/
def State.signal (s : State) (e : Nat) : State :=
  let q := s.eq e
  match q.owner with
  | .fn f =>
    let r := s.fnr f
    let v := tblGet (fun _ => ({} : MsixEntry)) r.msix q.vec
    if v.masked then
      (s.setEq e { q with asked := true }).setFnr f { r with msix := tblPut (fun _ => ({} : MsixEntry)) q.vec { v with pend := true } r.msix }
    else (s.setEq e { q with unsig := 0, unsigAt := 0, asked := false }).tlp f.ep (.msix f v.addr v.data)
  | _ => s

/-- Writes a record at the EQ's next slot and signals it when its moderation says so (12 R343, R344, R346). -/
def State.writeRec (s : State) (e : Nat) (r : EvRec) : State :=
  let q := s.eq e
  let bytes := leBytes 32 (recBits r q.phase)
  let tail' := (q.tail + 1) % q.size
  let q' := { q with tail := tail', phase := if tail' = 0 then !q.phase else q.phase }
  match q.owner with
  | .fn f =>
    let q2 := { q' with unsig := q.unsig + 1, unsigAt := if q.unsig = 0 then s.now else q.unsigAt }
    let s1 := (s.setEq e q2).tlp f.ep (.write f (q.base + 32 * q.tail) bytes)
    let n := if q.icnt = 0 then 256 else q.icnt
    if q2.unsig ≥ n ∨ q.itime = 0 then s1.signal e else s1
  | .peer a => (s.setEq e q').sendPacket 0x11 1 a 0 bytes
  | .nobody => s

/-- A record is due on an EQ (12 R345): it is written, waits in order (types below 0x20), or is dropped and counted. -/
def State.postRec (s : State) (e : Nat) (r : EvRec) : State :=
  let q := s.eq e
  if q.owner = .nobody then s
  else if r.type < 0x20 then
    (if q.waiting ≠ [] ∨ q.full then s.setEq e { q with waiting := q.waiting ++ [r] } else s.writeRec e r)
  else if q.full ∨ q.dropped > 0 ∨ q.waiting ≠ [] then
    (s.setEq e { q with dropped := q.dropped + 1 }).count (okey 0x5420 6)
  else s.writeRec e r

/-- Writes waiting records while slots are free, then the EQ_OVERFLOW record (12 R345). -/
def State.drainEq (s : State) (e : Nat) : Nat → State
  | 0 => s
  | n + 1 =>
    let q := s.eq e
    if q.full then s
    else match q.waiting with
      | r :: rest => ((s.setEq e { q with waiting := rest }).writeRec e r).drainEq e n
      | [] =>
        if q.dropped > 0 then
          (s.setEq e { q with dropped := 0 }).writeRec e (s.formRec 0x3F 4 e 0 0 (q.dropped * 2 ^ 64))
        else s

/-- Sends a record to every subscriber of `SUBS[bit]` (12 R347). -/
def State.publish (s : State) (bit : Nat) (r : EvRec) : State :=
  forEach (s.host.eqs.filter (fun p => p.2.subs.testBit bit)) (fun p a => a.postRec p.1 r) s

/-- The EQ that a function's admin pair uses, when ready (12 R318). -/
def State.adminEq (s : State) : Owner → Option Nat
  | .fn f => if (s.fnr f).ardy then some (aqn f) else none
  | .peer a => (s.fabric.peers.find? (fun p => p.addr = a)).map (·.eq)
  | .nobody => none

/-- A CONDITION event to the subscribers of SUBS[2] (18 R497). -/
def State.condition (s : State) (code level res arg : Nat) : State :=
  s.publish 2 (s.formRec 0x22 level res 0 0 (code + (arg % 2 ^ 64) * 2 ^ 64))

/-- A CONDITION event on an owner's admin EQ only (12 R320, R323, 13 R353). -/
def State.conditionTo (s : State) (o : Owner) (code level res arg : Nat) : State :=
  match s.adminEq o with
  | some e => s.postRec e (s.formRec 0x22 level res 0 0 (code + (arg % 2 ^ 64) * 2 ^ 64))
  | none => s

/-- A FABRIC event (12 Table 12.11) naming a fabric address. The spec lists no FABRIC code, and an argument only where `arg` gives
one: each is a free value (notes/assumptions/19.md). -/
def State.fabricEvent (s : State) (addr status : Nat) (arg : Option Nat) : State :=
  let (code, s1) := s.takeFree
  let (free, s2) := s1.takeFree
  s2.publish 3 (s2.formRec 0x23 5 addr 0 status (code.toNat % 2 ^ 16 + (arg.getD free.toNat % 2 ^ 64) * 2 ^ 64))

/-- Verification reads under way are cut short: the slots still await verification (11 R302). -/
def State.cutVerify (s : State) (m : Nat) : State :=
  { s with media := { s.media with
    sectors := s.media.sectors.filter (fun x => !(decide (x.mast = m ∧ x.phase = .scheduled) && x.use.isVerify)) } }

/-- Changes a mast's state and raises MAST_STATE (12 Table 12.11). A mast that writes no more shows state 0 and width 0 (11 R316), and
verifies no more. -/
def State.setMastState (s : State) (m : Nat) (st : MastState) : State :=
  let old := (s.mast m).st
  if old = st then s
  else
    let s1 := (s.updMast m (fun x => { x with st := st })).publish 0 (s.formRec 0x20 3 m 0 0 (mastCode st + mastCode old * 2 ^ 64))
    if old = .writing then
      ((if s1.obj (mkey m 0x54 1) = 5 then s1 else s1.setObj (mkey m 0x54 1) 0).setObj (mkey m 0x50 3) 0).cutVerify m
    else s1

/-- The command with serial `cid`. -/
def State.cmd (s : State) (cid : Nat) : Option Cmd := s.host.cmds.find? (fun c => c.cid = cid)
/-- Replaces the list of outstanding commands. -/
def State.setCmds (s : State) (l : List Cmd) : State := { s with host := { s.host with cmds := l } }
/-- Changes one outstanding command. -/
def State.updCmd (s : State) (cid : Nat) (f : Cmd → Cmd) : State :=
  s.setCmds (s.host.cmds.map (fun c => if c.cid = cid then f c else c))

/-- The EQ that a command's records go to: bound EQ, or the owner's admin EQ once its SQ is gone (12 R336). -/
def State.recEq (s : State) (sq : Nat) (owner : Owner) (orphan : Bool) : Option Nat :=
  if orphan then s.adminEq owner else some (s.sq sq).eq

/-- Sends the LTR value when the endpoint's functions begin or cease to have commands outstanding (13 R362). -/
def State.ltrUpdate (s : State) (e : Endpoint) : State :=
  let any := s.host.cmds.any (fun c => match c.owner with
    | .fn f => decide (f.ep = e)
    | _ => false)
  let p := s.ep e
  if any = p.ltrActive then s
  else (s.setEp e { p with ltrActive := any }).tlp e (.ltr e (s.objN (okey (0x2220 + epIx e) (if any then 3 else 4))))

/-- Records a pair's completion in the duplicate table (12 R333). -/
def dupDone (l : List DupEntry) (tag seq st res : Nat) : List DupEntry :=
  l.map (fun d => if d.tag = tag ∧ d.seq = seq then { d with done := some (st, res) } else d)

/-- A COMPLETION record of SQ `q` (12 Tables 12.11, 12.12). -/
def State.completionRec (s : State) (q : Nat) (tag seq st res : Nat) (dup defd : Bool) : EvRec :=
  { s.formRec 0x01 4 q tag st ((s.sq q).head % 2 ^ 16 + (seq % 2 ^ 32) * 2 ^ 32 + (res % 2 ^ 64) * 2 ^ 64) with
    dup := dup, defd := defd }

/-- Writes a COMPLETION on SQ `q`'s bound EQ: DEF shows a pending deferred error once (12 R338). While the record waits, the command of
mast `m` that it ends is outstanding (R325). -/
def State.postCompletion (s : State) (m : Option Nat) (q tag seq st res : Nat) (dup : Bool) : State :=
  let sq := s.sq q
  (s.setSq q { sq with defPending := false }).postRec sq.eq { s.completionRec q tag seq st res dup sq.defPending with mast := m }

/-- Key of sub-index `sub` of copy slot `c` (14 Table 14.6). -/
def copyKey (c sub : Nat) : Nat := okey (0x2310 + c) sub

/-- Settles a copy slot with a status (14 R399): done or failed, counted, with a FABRIC event. -/
def State.settleCopy (s : State) (c st : Nat) : State :=
  if !(s.fabric.copies.any (fun x => x.slot = c)) then s
  else
    let s0 := s.setCmds (s.host.cmds.filter (fun x => !(decide (x.owner = .nobody ∧ x.tag = 0xF000 + c))))
    let s1 := { s0 with fabric := { s0.fabric with copies := s0.fabric.copies.filter (fun x => x.slot ≠ c) } }
    let v := (if st = 0 then 2 else 3) * 16384 + st % 16384
    let s2 := (s1.setObj (copyKey c 6) (v : Nat)).setObj (copyKey c 0x8D) st
    (s2.count (okey 0x5428 (if st = 0 then 25 else 26))).fabricEvent s2.addr 0 (some (c + st * 2 ^ 16))

/-- A record that no queue takes: it is counted when a function reset took its function's queues (13 R367). -/
def State.lostRecord (s : State) : Owner → State
  | .fn _ => s.count (okey 0x5420 8)
  | _ => s

/-- `n` records that no queue takes. -/
def State.lostRecords (s : State) (n : Nat) (o : Owner) : State := (List.range n).foldl (fun a _ => a.lostRecord o) s

/-- Shows the free queue counts, 2280:01 and :02. -/
def State.showQueues (s : State) : State :=
  (s.setObj (okey 0x2280 1) (4096 - (s.host.sqs.filter (fun p => decide (p.2.owner ≠ .nobody))).length : Nat)).setObj
    (okey 0x2280 2) (4096 - (s.host.eqs.filter (fun p => decide (p.2.owner ≠ .nobody))).length : Nat)

/-- Writes the COMPLETION of an outstanding command, then those of its duplicates, and ends it (12 R325, R333, R336). -/
def State.completeOne (s : State) (cid st res : Nat) : State :=
  match s.cmd cid with
  | none => s
  | some c =>
    let s0 := s.setCmds (s.host.cmds.filter (fun x => x.cid ≠ cid))
    let s1 :=
      if c.owner = .nobody then (if st = 0 then s0 else s0.settleCopy (c.tag - 0xF000) st)
      else if c.mute then s0.lostRecords (1 + c.dups) c.owner
      else if c.orphan then
        match s0.adminEq c.owner with
        | some e => forEach (List.range (c.dups + 1)) (fun i a => a.postRec e
            { a.completionRec c.sq c.tag c.seq st res (decide (0 < i)) false with mast := if i = 0 then c.mast else none }) s0
        | none => s0.lostRecords (1 + c.dups) c.owner
      else
        let sq := s0.sq c.sq
        let s2 := s0.setSq c.sq { sq with dups := dupDone sq.dups c.tag c.seq st res }
        let s3 := s2.postCompletion c.mast c.sq c.tag c.seq st res false
        (List.range c.dups).foldl (fun a _ => a.postCompletion none c.sq c.tag c.seq st res true) s3
    match c.owner with
    | .fn f => s1.ltrUpdate f.ep
    | _ => s1

/-- Ends an outstanding command with its COMPLETION, and the ABORT or DELETE_SQ that waited for it alone: an ABORT replies, a DELETE_SQ
frees its queue first (12 R335, R336). -/
def State.complete (s : State) (cid st res : Nat) : State :=
  let s1 := s.completeOne cid st res
  let l := s1.host.cmds.filter (fun c => match c.stage with
    | .settling w _ => decide (w = [cid])
    | _ => false)
  let s2 := s1.setCmds (s1.host.cmds.map (fun c => match c.stage with
    | .settling w r => { c with stage := .settling (w.filter (· ≠ cid)) r }
    | _ => c))
  forEach l (fun c a =>
    let q := fld c.pkt.toNat 75 64
    match c.stage with
    | .settling _ r => (if c.opc = 0x11 then (a.setSq q {}).showQueues else a).completeOne c.cid r 0
    | _ => a) s2

/-- A record of a write other than its COMPLETION: XFER_READY, WRITE_DURABLE or DEFERRED_ERROR (12 Table 12.11). -/
def State.writeEvent (s : State) (w : Write) (type status hi seqField lo : Nat) : State :=
  if w.mute then s.lostRecord w.owner
  else match s.recEq w.sq w.owner w.orphan with
    | some e => s.postRec e (s.formRec type 4 w.sq w.tag status (lo + (seqField % 2 ^ 32) * 2 ^ 32 + (hi % 2 ^ 64) * 2 ^ 64))
    | none => s.lostRecord w.owner

end Sys2Proof.Machine
end

