-- ==== Sys2Proof/Machine/Granule.lean ====
section
/-! DEFINITION. Granules of LPDDR6 with their check bits (16 R428, R429), the remap table (16 R435), and where the copies of a mirrored
share lie (16 R432, R438). -/
namespace Sys2Proof.Machine

/-- Check bit k of granule g: the XOR of the eight bits of byte k and bit k of g (16 R428). -/
def checkBit (g k : Nat) (data : BitVec 256) : Bool := decide (popCount (data.toNat / 2 ^ (8 * k) % 256) 8 % 2 = 1) ^^ g.testBit k

/-- The check bits of granule g (16 R428). -/
def granuleCheck (g : Nat) (data : BitVec 256) : BitVec 32 := BitVec.ofNat 32 (natOfBits ((List.range 32).map (fun k => checkBit g k data)))

/-- Data with the check bits of granule g. -/
def sealGranule (g : Nat) (data : BitVec 256) : Granule := ⟨data, granuleCheck g data⟩

/-- A granule read with any check bit that disagrees has a check-bit error (16 R428). -/
def badGranule (g : Nat) (x : Granule) : Bool := decide (x.check ≠ granuleCheck g x.data)

/-- A granule as it is read when some of its bits differ. -/
def flipGranule (x y : Granule) : Granule := ⟨x.data ^^^ y.data, x.check ^^^ y.check⟩

/-- Byte k of granule g is written under the data mask with its check bit; nothing else changes (16 R429). -/
def putGranuleByte (g k : Nat) (b : Byte) (x : Granule) : Granule :=
  let hole : BitVec 256 := ~~~(BitVec.ofNat 256 (0xFF * 2 ^ (8 * k)))
  let data := (x.data &&& hole) ||| BitVec.ofNat 256 (b.toNat * 2 ^ (8 * k))
  let keep : BitVec 32 := ~~~(BitVec.ofNat 32 (2 ^ k))
  ⟨data, (x.check &&& keep) ||| BitVec.ofNat 32 (if checkBit g k data then 2 ^ k else 0)⟩

/-- A granule that nothing has written since the fill holds zeros and its index's check bits (16 R430). -/
def filledCell : Nat → Granule := fun k => sealGranule (k % 2 ^ 29) 0

/-- The granule of channel c that an access to granule g reaches: its spare while an entry of the remap table maps it (16 R435). -/
def State.placed (s : State) (c g : Nat) : Nat :=
  match (List.range 16).find? (fun i => decide (s.objN (okey (0x2440 + c) (i + 1)) = g)) with
  | some i => 4194288 + i
  | none => g

/-- What granule g of channel c holds, at the granule itself and through the remap table. -/
def State.cellAt (s : State) (c g : Nat) : Granule := tblGet filledCell s.media.cells (c * 2 ^ 29 + g)
def State.granule (s : State) (c g : Nat) : Granule := s.cellAt c (s.placed c g)
/-- Writes a granule of channel c. -/
def State.setCell (s : State) (c g : Nat) (x : Granule) : State :=
  { s with media := { s.media with cells := tblPut filledCell (c * 2 ^ 29 + g) x s.media.cells } }
/-- Writes granule g whole, with its check bits. -/
def State.setGranule (s : State) (c g : Nat) (data : BitVec 256) : State :=
  s.setCell c (s.placed c g) (sealGranule (s.placed c g) data)

/-- Writes bytes from local address a of channel c on (16 R429). -/
def State.writeLocal (s : State) (c a : Nat) (l : List Byte) : State :=
  forEach l.zipIdx (fun p x =>
    let g := x.placed c ((a + p.2) / 32)
    x.setCell c g (putGranuleByte g ((a + p.2) % 32) p.1 (x.cellAt c g))) s

/-- Pages free in the pool, 2401:05 (16 R433, R455). -/
def State.showFree (s : State) : State :=
  let n := popCount (s.objN (okey 0x2400 2)) 16
  s.setObj (okey 0x2401 5) ((n * (s.objN (okey 0x2400 4) * 1024 - 128) * 256 - s.objN (okey 0x2542 5) * 256 - s.media.staged -
    s.media.retained.length : Nat))

/-- Where group g (0 A, 1 B) holds a complete copy of share k: channel and first local address (16 R432, R438). -/
def State.copyPlace (s : State) (g k : Nat) : Option (Nat × Nat) :=
  if s.maskBit (okey 0x2400 2) (8 * g + k) && !s.media.homeCopy.contains (8 * g + k) then some (8 * g + k, 0)
  else (s.media.rebuilds.find? (fun r => decide (r.1 / 8 = g ∧ r.2.1 = k) && r.2.2)).map (fun r => (r.1, 67108864))

/-- Group g holds a complete copy of share k. -/
def State.copyHeld (s : State) (g k : Nat) : Bool := (s.copyPlace g k).isSome

/-- Writes bytes of share k in copy A and then in copy B, where they are held (16 R444). -/
def State.shareWrite (s : State) (k off : Nat) (l : List Byte) : State :=
  forEach [0, 1] (fun g a => match a.copyPlace g k with
    | some (c, base) => a.writeLocal c (base + off) l
    | none => a) s

/-- Share and offset of entry i of the Extent Map (16.5, R432). -/
def entryPlace (i : Nat) : Nat × Nat := (i / 16 % 8, i / 128 * 512 + i % 16 * 32)

/-- Entry of the Extent Map at an offset of share k, below 16 MiB. -/
def entryAt (k off : Nat) : Nat := (8 * (off / 512) + k) * 16 + off % 512 / 32

/-- What the granule at an offset of share k holds in either copy: an entry of the Extent Map, or what a structure holds whose byte
layout the spec does not give, zeros here (notes/assumptions/148.md). -/
def State.shareData (s : State) (k off : Nat) : BitVec 256 :=
  if off < 16777216 then BitVec.ofNat 256 (tblGet (fun _ => 0) s.media.map (entryAt k off)) else 0

/-- A share is copied to an area of channel c (16 R436, R438). -/
def State.copyShare (s : State) (c base k : Nat) : State :=
  let inArea : Nat → Bool := fun g => decide (base / 32 ≤ g ∧ g < base / 32 + 2097152)
  let s1 := { s with media := { s.media with cells := tblDrop (fun i => decide (i / 2 ^ 29 = c) && inArea (i % 2 ^ 29)) s.media.cells } }
  let s2 := forEach ((List.range 16).map (fun i => s.objN (okey (0x2440 + c) (i + 1)))) (fun g a => if inArea g then a.setGranule c g 0 else a) s1
  forEach (s.media.map.filter (fun p => decide ((entryPlace p.1).1 = k))) (fun p a =>
    a.setGranule c ((base + (entryPlace p.1).2) / 32) (BitVec.ofNat 256 p.2)) s2

end Sys2Proof.Machine
end

