-- ==== Sys2Proof/Machine/Cache.lean ====
section
/-! DEFINITION. The locator cache (16.6): its lines, victims and order of accesses, a write of a line, and the issue of maintenance
operations (16.7). -/
namespace Sys2Proof.Machine

/-- Lines of a cacheable structure (16.5, R432). -/
def structLines (st : Nat) : Nat := match st with
  | 1 => 2097152 | 2 => 4194304 | 3 => 32768 | 4 => 18432 | 5 => 1048576 | _ => 0

/-- Ways in use of the locator cache (16 R445). -/
def State.waysInUse (s : State) : List Nat :=
  (List.range (s.objN (okey 0x2410 1))).filter (fun w => !s.maskBit (okey 0x2410 2) w)

/-- Set of a line (16 R445). -/
def cacheSet (st ln : Nat) : Nat := ((ln % 4096) ^^^ (ln / 4096 % 4096) ^^^ (st * 0x2C5)) % 4096

/-- The default of an absent line: structure 0 names none. -/
def noLine : Nat → CacheLine := fun _ => ⟨0, 0, false⟩
/-- The line in (set, way). -/
def State.lineAt (s : State) (set way : Nat) : CacheLine := tblGet noLine s.media.lines (set * 16 + way)
/-- Replaces the line in (set, way). -/
def State.setLine (s : State) (set way : Nat) (x : CacheLine) : State :=
  { s with media := { s.media with lines := tblPut noLine (set * 16 + way) x s.media.lines } }

/-- The way in use that holds a line. -/
def State.wayOf (s : State) (st ln : Nat) : Option Nat :=
  s.waysInUse.find? (fun w => let x := s.lineAt (cacheSet st ln) w; decide (x.st = st ∧ x.ln = ln))

/-- The victim for a set (16 R446): its way and the set with its bits cleared where every bit was set. -/
def State.victim (s : State) (set : Nat) : Option Nat × State :=
  let ws := s.waysInUse.filter (fun w => !(s.media.fills.any (fun f => decide (f.set = set ∧ f.way = w))))
  match ws.find? (fun w => (s.lineAt set w).st = 0) with
  | some w => (some w, s)
  | none =>
    match ws.find? (fun w => !(s.lineAt set w).nru) with
    | some w => (some w, s)
    | none =>
      match ws with
      | [] => (none, s)
      | w :: _ => (some w, forEach ws (fun v a => a.setLine set v { a.lineAt set v with nru := false }) s)

/-- Drops the cache lines of a structure satisfying `p`, and cancels the installation of their fills in flight (16 R453). -/
def State.dropLines (s : State) (p : Nat → Nat → Bool) : State :=
  { s with media := { s.media with
    lines := s.media.lines.filter (fun e => !(p e.2.st e.2.ln))
    evicted := s.media.evicted.filter (fun e => !(p e.st e.ln))
    fills := s.media.fills.map (fun f => if p f.st f.ln then { f with cancelled := true } else f) } }

/-- A maintenance operation that is running concerns a line (16 R453, R454). -/
def Maint.covers (x : Maint) (st ln : Nat) : Bool :=
  decide (x.op = 3 ∨ (x.st = st ∧ (x.op = 2 ∨ x.ln = ln)))

/-- Maintenance operations in the order of their arrival: the one running, then those that wait for it or for earlier requests (16 R449,
R452). -/
def State.maintQueue (s : State) : List Maint := s.media.maint.toList ++ s.media.maintNext

/-- A maintenance operation that has arrived and not completed holds an access of line (st, ln) (16 R453, R454). -/
def State.maintHolds (s : State) (st ln : Nat) : Bool := s.maintQueue.any (fun x => x.covers st ln)

/-- The last of some operations that concerns a line takes a waiter. -/
def maintWaiter (r : CacheReq) : List Maint → List Maint
  | [] => []
  | x :: l =>
    if l.any (fun y => y.covers r.st r.ln) then x :: maintWaiter r l
    else if x.covers r.st r.ln then { x with waiters := x.waiters ++ [r] } :: l
    else x :: l

/-- An access waits for the last operation that holds it. -/
def State.maintWait (s : State) (r : CacheReq) : State :=
  if s.media.maintNext.any (fun x => x.covers r.st r.ln) then { s with media := { s.media with maintNext := maintWaiter r s.media.maintNext } }
  else { s with media := { s.media with maint := s.media.maint.map (fun x => { x with waiters := x.waiters ++ [r] }) } }

/-- An access waits for a way or for room in the eviction buffer, or behind one of its line that does (16 R449, R450). -/
def State.cacheDefer (s : State) (r : CacheReq) : State :=
  { s with media := { s.media with cacheWait := s.media.cacheWait ++ [r] } }

/-- An earlier access of the line waits for a way or for room (16 R449). -/
def State.cacheBehind (s : State) (st ln : Nat) : Bool := s.media.cacheWait.any (fun r => decide (r.st = st ∧ r.ln = ln))

/-- A fill of the line is in flight (16 R449). -/
def State.filling_ (s : State) (st ln : Nat) : Bool := s.media.fills.any (fun f => decide (f.st = st ∧ f.ln = ln))
/-- An access waits for the fill of its line. -/
def State.fillWait (s : State) (r : CacheReq) : State :=
  { s with media := { s.media with fills := s.media.fills.map (fun f =>
    if f.st = r.st ∧ f.ln = r.ln then { f with waiters := f.waiters ++ [r] } else f) } }

/-- A line that the eviction buffer holds comes back (16 R450). -/
def State.cacheReclaim (s : State) (r : CacheReq) (e : Evicted) : State :=
  let set := cacheSet r.st r.ln
  let s1 := ({ s with media := { s.media with evicted := s.media.evicted.erase e } }).count (okey 0x542C 4)
  match s1.victim set with
  | (some w, s2) => s2.setLine set w ⟨r.st, r.ln, true⟩
  | (none, s2) => s2

/-- A write of a line takes effect (16 R448): a line that is present is updated, its bit set; nothing is installed. -/
def State.cacheStore (s : State) (r : CacheReq) : State :=
  let set := cacheSet r.st r.ln
  match s.wayOf r.st r.ln with
  | some w => (s.setLine set w { s.lineAt set w with nru := true }).count (okey 0x542D 1)
  | none => match s.media.evicted.find? (fun e => decide (e.st = r.st ∧ e.ln = r.ln)) with
    | some e => s.cacheReclaim r e
    | none => s.count (okey 0x542D 2)

/-- A write of a line of the rig's own passes through the cache (16 R444, R448, R449; notes/assumptions/174.md). -/
def State.cacheWrite (s : State) (st ln : Nat) : State :=
  let r : CacheReq := ⟨.write, st, ln, false⟩
  if s.waysInUse = [] then s
  else if s.maintHolds st ln then s.maintWait r
  else if s.cacheBehind st ln then s.cacheDefer r
  else if s.filling_ st ln then s.fillWait r
  else s.cacheStore r

/-- A maintenance operation starts: its lines are invalid, its fills' installations cancelled (16 R453, R454). -/
def State.startMaint (s : State) (x : Maint) : State :=
  let s1 := s.dropLines x.covers
  { s1 with media := { s1.media with maint := some x } }

/-- The operation running waits for no fill any more (16 R453, R454). -/
def State.maintOver (s : State) (x : Maint) : Bool := !s.media.fills.any (fun f => f.cancelled && x.covers f.st f.ln)

/-- A maintenance operation is issued, by a write or by the rig at a rebuild (16 R452, R439). With nothing before it, it takes effect at its
arrival, and completes at once where no fill of its lines is in flight. -/
def State.issueMaint (s : State) (op st ln : Nat) : State :=
  let x : Maint := ⟨op, st, ln, []⟩
  let s1 := s.setObj (okey 0x2410 8) 1
  if s.maintQueue = [] ∧ s.media.cacheWait.all (fun r => !x.covers r.st r.ln) = true then
    let s2 := s1.startMaint x
    if s2.maintOver x then ({ s2 with media := { s2.media with maint := none } } : State).setObj (okey 0x2410 8) 0 else s2
  else { s1 with media := { s1.media with maintNext := s1.media.maintNext ++ [x] } }

end Sys2Proof.Machine
end

