-- ==== Sys2Proof/Machine/Extents.lean ====
section
/-! DEFINITION. The Extent Map (16.5), staging (11 R289), and the end of writes: durable points, failures, flushes (11.7, 11.8,
12.7). -/
namespace Sys2Proof.Machine

/-- A 256-bit extent entry (16 Table 16.4). -/
def extentEntry (ext dig len track layer col str : Nat) (xpe : Bool) (nrel mast state : Nat) : Nat :=
  state + mast * 2 ^ 48 + nrel * 2 ^ 53 + (if xpe then 2 ^ 69 else 0) + str * 2 ^ 70 + col * 2 ^ 72 + layer * 2 ^ 81 +
  track * 2 ^ 85 + len * 2 ^ 103 + dig * 2 ^ 128 + ext * 2 ^ 192

/-- A 256-bit relocation entry (16 Table 16.5). -/
def relocEntry (ext ord slot : Nat) (sp : Slot) (mast state : Nat) : Nat :=
  state + 4 + mast * 2 ^ 48 + sp.sect * 2 ^ 129 + sp.layer * 2 ^ 138 + sp.track * 2 ^ 142 + slot * 2 ^ 160 +
  ord * 2 ^ 176 + ext * 2 ^ 192

def meState (e : Nat) : Nat := fld e 1 0
def meKind (e : Nat) : Nat := fld e 3 2
def meMast (e : Nat) : Nat := fld e 52 48
def meExt (e : Nat) : Nat := fld e 255 192
def meOrd (e : Nat) : Nat := if meKind e = 1 then fld e 191 176 else 0
def meDig (e : Nat) : Nat := fld e 191 128
def meLen (e : Nat) : Nat := fld e 127 103
def meTrack (e : Nat) : Nat := fld e 102 85
def meLayer (e : Nat) : Nat := fld e 84 81
def meCol (e : Nat) : Nat := fld e 80 72
def meStr (e : Nat) : Nat := fld e 71 70
def meXpe (e : Nat) : Bool := e.testBit 69
def meNrel (e : Nat) : Nat := fld e 68 53
def meSlotN (e : Nat) : Nat := fld e 175 160
def meSpare (e : Nat) : Slot := ⟨fld e 141 138, fld e 159 142, fld e 137 129⟩

/-- Home bucket of a key (16 R441). -/
def mapHome (ext mast kind ord : Nat) : Nat :=
  crc32c (leBytes 8 ext ++ leBytes 1 mast ++ leBytes 1 kind ++ leBytes 2 ord) % 2 ^ 18

/-- Entry i of the map; 0 is a free entry. -/
def State.mapAt (s : State) (i : Nat) : Nat := tblGet (fun _ => 0) s.media.map i

/-- Writes entry i in both copies, through the locator cache (16 R444), and keeps the counts of 2420. -/
def State.mapPut (s : State) (i v : Nat) : State :=
  let old := meState (s.mapAt i)
  let k : Nat → Nat := fun st => match st with
    | 1 => okey 0x2420 2
    | 2 => okey 0x2420 1
    | _ => okey 0x2420 3
  let s1 := { s with media := { s.media with map := tblPut (fun _ => 0) i v s.media.map } }
  let s2 := if old = 0 then s1 else s1.setObj (k old) (s1.obj (k old) - 1)
  let s3 := if meState v = 0 then s2 else s2.setObj (k (meState v)) (s2.obj (k (meState v)) + 1)
  (s3.cacheWrite 1 (i / 2)).shareWrite (entryPlace i).1 (entryPlace i).2 (leBytes 32 v)

/-- The indices of the probe window in order, bucket by bucket (16 R441). -/
def probeBuckets (home : Nat) : List (List Nat) :=
  (List.range 16).map (fun i => (List.range 16).map (fun j => 16 * ((home + i) % 262144) + j))

/-- A key matches an entry. -/
def meMatches (e ext mast kind ord : Nat) : Bool :=
  decide (meExt e = ext ∧ meMast e = mast ∧ meKind e = kind ∧ meOrd e = ord)

/-- Walks the probe window for the first entry with the key and one of the given states (16 R442). -/
def State.mapFind (s : State) (states : List Nat) (ext mast kind ord : Nat) : List (List Nat) → Option Nat
  | [] => none
  | b :: rest =>
    match b.find? (fun i => states.contains (meState (s.mapAt i)) && meMatches (s.mapAt i) ext mast kind ord) with
    | some i => some i
    | none => if b.any (fun i => meState (s.mapAt i) = 0) then none else s.mapFind states ext mast kind ord rest

/-- A lookup (16 R442): the index of the matching valid entry. -/
def State.mapLookup (s : State) (ext mast kind ord : Nat) : Option Nat :=
  s.mapFind [2] ext mast kind ord (probeBuckets (mapHome ext mast kind ord))

/-- The valid extent entry of EXT on a mast. -/
def State.extentOf (s : State) (m ext : Nat) : Option Nat := (s.mapLookup ext m 0 0).map s.mapAt

/-- Outcome of an insertion (16 R442). -/
inductive MapResult where
  | inserted | duplicate | full
  deriving DecidableEq, Repr

/-- First free or removed entry of the window, and how many buckets were walked. -/
def State.mapSpace (s : State) : Nat → List (List Nat) → Option (Nat × Nat)
  | _, [] => none
  | n, b :: rest =>
    match b.find? (fun i => decide (meState (s.mapAt i) = 0 ∨ meState (s.mapAt i) = 3)) with
    | some i => some (i, n)
    | none => s.mapSpace (n + 1) rest

/-- An insertion (16 R442, R539). -/
def State.mapInsert (s : State) (e : Nat) : State × MapResult :=
  let home := mapHome (meExt e) (meMast e) (meKind e) (meOrd e)
  let probe : Nat → State → State := fun n a => a.setObj (okey 0x2420 4) (max (a.obj (okey 0x2420 4)) n)
  match s.mapLookup (meExt e) (meMast e) (meKind e) (meOrd e) with
  | some _ => (s, .duplicate)
  | none =>
    match s.mapSpace 1 (probeBuckets home) with
    | some (i, n) => (probe n (s.mapPut i e), .inserted)
    | none => (probe 16 s, .full)

/-- Index of a reserved extent entry. -/
def State.mapReserved (s : State) (m ext : Nat) : Option Nat :=
  (probeBuckets (mapHome ext m 0 0)).flatten.find?
    (fun i => meState (s.mapAt i) = 1 && meMatches (s.mapAt i) ext m 0 0)

/-- A failed write's reserved entry becomes removed (16 R443). -/
def State.mapRelease (s : State) (m ext : Nat) : State :=
  match s.mapReserved m ext with
  | some i => s.mapPut i (s.mapAt i + 2)
  | none => s

/-- An unmount sets every entry of the mast to STATE 3 (16 R443). -/
def State.mapUnmount (s : State) (m : Nat) : State :=
  forEach (s.media.map.filter (fun p => meMast p.2 = m ∧ meState p.2 ≠ 3)) (fun p a => a.mapPut p.1 (p.2 - meState p.2 + 3)) s

/-- Relocations of an extent in the map: (slot n, spare) (16 R444). -/
def State.relocsOf (s : State) (m ext nrel : Nat) : List (Nat × Slot) :=
  (List.range nrel).filterMap (fun o => (s.mapLookup ext m 1 o).map (fun i => (meSlotN (s.mapAt i), meSpare (s.mapAt i))))

/-- The write with a serial. -/
def State.write (s : State) (serial : Nat) : Option Write := s.media.writes.find? (fun w => w.serial = serial)
/-- Replaces the list of writes. -/
def State.setWrites (s : State) (l : List Write) : State := { s with media := { s.media with writes := l } }
/-- Changes one write. -/
def State.updWrite (s : State) (serial : Nat) (f : Write → Write) : State :=
  s.setWrites (s.media.writes.map (fun w => if w.serial = serial then f w else w))

/-- Accepted and not durable: pending (11 R285). -/
def Write.accepted (w : Write) : Bool :=
  match w.phase with
  | .waiting => false
  | .granted => false
  | _ => true

/-- Pending writes of a mast that burn for themselves, in accepted order. -/
def State.pendingOn (s : State) (m : Nat) : List Write :=
  sortBy (fun a b => decide (a.order ≤ b.order)) (s.media.writes.filter (fun w => decide (w.mast = m) && w.accepted &&
    (match w.phase with
     | .attached _ => false
     | _ => true)))

/-- Pages a write holds in staging (11 R289). -/
def Write.pages (w : Write) : Nat :=
  match w.phase with
  | .waiting => 0
  | _ => totalSlots w.len w.xpe

/-- Shows the pending writes of a mast in M+54:0C. -/
def State.showPending (s : State) (m : Nat) : State :=
  s.setObj (mkey m 0x54 0x0C) ((s.media.writes.filter (fun w => w.mast = m && w.accepted)).length : Nat)

/-- A settled write leaves a FLUSH's cover (12 R337): the FLUSH completes once all it covers are settled, with the status of
the earliest accepted that failed. -/
def State.settleFlush (s : State) (serial st : Nat) : State :=
  let s1 := s.setCmds (s.host.cmds.map (fun c =>
    if c.stage = .flush ∧ c.covers.contains serial ∧ !(c.settled.any (fun p => p.1 = serial)) then
      { c with settled := c.settled ++ [(serial, st)] } else c))
  let done := s1.host.cmds.filter (fun c => decide (c.stage = .flush) && c.covers.contains serial &&
    c.covers.all (fun w => c.settled.any (fun p => p.1 = w)))
  forEach done (fun c a =>
    let first := c.covers.filterMap (fun w => (c.settled.find? (fun p => decide (p.1 = w ∧ p.2 ≠ 0))).map (·.2))
    a.complete c.cid (first.headD 0) c.covers.length) s1

/-- Replaces the status in a pair's entry with a deferred status (12 R334). -/
def dupReplace (l : List DupEntry) (tag seq st : Nat) : List DupEntry :=
  l.map (fun d => if d.tag = tag ∧ d.seq = seq then { d with done := some (st, ((d.done.map (·.2)).getD 0)) } else d)

/-- A write reports its failure (11 R314, 12 R338): its own completion while that is not yet written, else deferred. -/
def State.reportFailure (s : State) (w : Write) (st : Nat) : State :=
  if w.completed then
    let s1 := (s.writeEvent w 0x04 st w.ext w.seq 0).count (okey 0x5420 7)
    if w.orphan then s1
    else
      let q := s1.sq w.sq
      s1.setSq w.sq { q with defPending := true, dups := dupReplace q.dups w.tag w.seq st }
  else s.complete w.cid st 0

/-- Burning of a write stops at the next slot boundary (11 Tables 11.2, 11.3): frames not yet begun are dropped. -/
def State.stopBurn (s : State) (w : Write) : State :=
  s.updMast w.mast (fun x => { x with
    streams := x.streams.filter (fun z => !(decide (z.serial = some w.serial ∧ z.bits.length = frameLen w.str))) })

/-- Sectors of an accepted write that ends without becoming durable leave the read cache (01 R39, R46): a later write of its EXT may
hold other data. -/
def State.uncache (s : State) (w : Write) : State :=
  if w.accepted then
    ({ s with media := { s.media with retained := s.media.retained.filter (fun r => !(decide (r.mast = w.mast ∧ r.ext = w.ext))) } } : State).showFree
  else s

/-- Closed records as they stand with SEQ without a gap (11 R307, 09 R252): those burned keep theirs, those not yet burned follow the last
of them, or record `last` of the disc; one that holds no entry any more is none. -/
def WriteSide.renumber (w : WriteSide) (last : Nat) : WriteSide :=
  let burned := w.closed.filter (fun r => r.header.isSome)
  let rest := w.closed.filter (fun r => r.header.isNone && decide (r.entries ≠ []))
  let n := (burned.getLast?.map (·.seq)).getD last
  { w with closed := burned ++ rest.mapIdx (fun i r => { r with seq := n + 1 + i }), lastSeq := n + rest.length }

/-- A record without the entries of a write: none may be taken out once it has been burned (11 R307, R308). -/
def CommitRec.without (r : CommitRec) (serial : Nat) : CommitRec :=
  if r.header.isSome then r
  else
    let keep := (List.zip r.entries (r.body ++ List.replicate (r.entries.length - r.body.length) 0)).filter (fun p => decide (p.1.1 ≠ serial))
    { r with entries := keep.map (·.1), body := if r.body = [] then [] else keep.map (·.2) }

/-- Removes a write with what it holds: staging, its reserved map entry, its entries in records that are not yet burned (11 R289, R296,
R312). -/
def State.dropWrite (s : State) (w : Write) : State :=
  let s1 := s.setWrites (s.media.writes.filter (fun x => x.serial ≠ w.serial))
  let s2 := ({ s1 with media := { s1.media with staged := s1.media.staged - w.pages } } : State).showFree
  let s3 := if w.phase = .entered ∨ w.phase = .recorded then s2.mapRelease w.mast w.ext else s2
  let s4 := (s3.stopBurn w).updMast w.mast (fun x => { x with wr := { x.wr with
    openRec := x.wr.openRec.map (fun (r : CommitRec) => r.without w.serial) } })
  let hit := (s4.mast w.mast).wr.closed.any (fun r => r.header.isNone && r.entries.any (fun e => decide (e.1 = w.serial)))
  let s5 := if hit then s4.updMast w.mast (fun x => { x with
      wr := WriteSide.renumber { x.wr with closed := x.wr.closed.map (fun (r : CommitRec) => r.without w.serial) } (s4.objN (mkey w.mast 0x50 4)) })
    else s4
  s5.showPending w.mast

/-- Fails one write alone. -/
def State.failOne (s : State) (st : Nat) (w : Write) : State :=
  (((s.dropWrite w).uncache w).reportFailure w st).settleFlush w.serial st

/-- Writes attached to a write (11 Table 11.1). -/
def State.attachedTo (s : State) (serial : Nat) : List Write :=
  s.media.writes.filter (fun w => decide (w.phase = .attached serial))

/-- A write fails, and the writes attached to it fail with the same status (11 Table 11.1). -/
def State.failWrite (s : State) (serial st : Nat) : State :=
  match s.write serial with
  | none => s
  | some w => forEach (s.attachedTo serial) (fun a b => b.failOne st a) (s.failOne st w)

/-- An attempt is abandoned (11 R305): counted, and the write starts afresh or fails after M+54:05 of them. -/
def State.abandonWrite (s : State) (w : Write) : State :=
  let s1 := s.count (ckey w.mast 0x0F 1)
  if s1.objN (mkey w.mast 0x54 5) ≤ w.attempts + 1 then s1.failWrite w.serial stWriteFailed
  else (s1.stopBurn w).updWrite w.serial (fun x => { x with
    phase := .pending, place := none, slots := [], attempts := x.attempts + 1 })

/-- One write reaches its durable point (11 R286): its event, or its completion with DUR set. -/
def State.durableOne (s : State) (w : Write) : State :=
  let s1 := s.dropWrite { w with phase := .burning }
  let s2 := if w.completed then s1.writeEvent w 0x03 0 w.ext w.seq 0 else s1.complete w.cid 0 0
  s2.settleFlush w.serial 0

/-- A write's durable limit has passed (11 R312). -/
def State.durableDue (s : State) (w : Write) : Bool :=
  w.accepted && decide (w.acceptedAt + sec (s.objN (mkey w.mast 0x54 7)) ≤ s.now)

/-- A write becomes durable, and those attached to it (11 R309); one at or after its durable limit has failed (00 R22). -/
def State.durableWrite (s : State) (serial : Nat) : State :=
  let one : Write → State → State := fun a b => if b.durableDue a then b.failOne stWriteTimeout a else b.durableOne a
  match s.write serial with
  | none => s
  | some w => forEach (s.attachedTo serial) one (one w s)

/-- Every pending write of a mast fails (11 Table 11.3), in accepted order. -/
def State.failPending (s : State) (m st : Nat) : State :=
  forEach (s.media.writes.filter (fun w => w.mast = m && w.accepted)) (fun w a => a.failWrite w.serial st) s

/-- Every write of a mast not yet accepted completes at once (12 R340). -/
def State.failUnaccepted (s : State) (m st : Nat) : State :=
  forEach (s.media.writes.filter (fun w => w.mast = m && !w.accepted)) (fun w a => a.failOne st w) s

/-- Whether every bit of a mask names a retired decoder: healthy decoders of the pool (10 R282). -/
def State.decoderRetired (s : State) (d : Nat) : Bool :=
  if d < 64 then s.maskBit (okey 0x2660 2) d else s.maskBit (okey 0x2660 3) (d - 64)
def State.decodersHealthy (s : State) : Nat :=
  ((List.range 128).filter (fun d => !s.decoderRetired d)).length

/-! ## The log of a disc (11 R310, 16 R439) -/

/-- Lower tracks of the log stripes, outermost first (09 R251). -/
def State.logLows (s : State) (t : Nat) : List Nat :=
  let a := s.objN (tkey t 0 9)
  let b := s.objN (okey (0x4000 + t * 0x100) 0x93)
  (List.range ((b - a) / 16)).map (fun i => b - 16 * (i + 1))

/-- Zone of the log area. -/
def State.logZone (s : State) (t : Nat) : Nat := s.zoneOf t (s.objN (tkey t 0 9))

/-- Log slots of a disc, and log slot i in placement order (09 R251). -/
def State.logSlots (s : State) (t : Nat) : Nat := (s.logLows t).length * 16 * s.columns t (s.logZone t) 3
def State.logSlot (s : State) (t i : Nat) : Option Slot :=
  let per := 16 * s.columns t (s.logZone t) 3
  if per = 0 then none
  else ((s.logLows t)[i / per]?).map (fun low => ⟨s.objN (tkey t 0 8), low + i % per % 16, i % per / 16⟩)

/-- The read of a log slot (11 R302, R310). -/
def logSector (m : Nat) (sl : Slot) (use : SecUse) : Sector :=
  { sid := 0, mast := m, slot := sl, sail := 0, reader := 0, str := 3, xpe := false, ext := 0, eidx := 0, xpos := 0, kind := 3,
    reloc := false, use := use }

/-- Commands that mount a mast's disc. -/
def State.mountCmds (s : State) (m : Nat) : List Cmd := s.host.cmds.filter (fun c => decide (c.stage = .mounting ∧ c.mast = some m))

/-- A MOUNT waits for this mast's disc. -/
def State.mounting (s : State) (m : Nat) : Bool := s.host.cmds.any (fun c => decide (c.stage = .mounting ∧ c.mast = some m))

/-- A mast's log is wanted: by a MOUNT, or since both copies of part of the Extent Map are lost (11 R310, 16 R439). -/
def State.logOpen (s : State) (m : Nat) : Bool := s.mounting m || s.media.mapLost.contains m

/-- SEQ of a record, from its first entry (09 Table 9.4). -/
def logSeq (user : List Byte) : Nat := fld (leNat (user.take 64)) 127 64

/-- What is known of the log after a slot (11 R310): SEQ of the last record applied, and whether the log ends there; `upTo` is the greatest
SEQ to apply, if there is one. -/
def logAfter (upTo : Option Nat) (a : Nat × Bool) (f : LogFound) : Nat × Bool :=
  match f with
  | .blank => (a.1, true)
  | .unreadable => a
  | .record u =>
    if logSeq u = a.1 + 1 ∧ upTo.all (fun n => decide (logSeq u ≤ n)) = true then (a.1 + 1, a.2)
    else if logSeq u = a.1 then a else (a.1, true)

/-- The greatest SEQ that the log reading applies: that of the last record passed, where the map is built afresh (16 R439). -/
def State.logUpTo (s : State) (m : Nat) : Option Nat := if s.mounting m then none else some (s.mast m).wr.logTo

/-- The log slots have been read (11 R310): a blank slot, the end of the log area, or a record out of sequence ends the log. -/
def State.logDone (s : State) (m t : Nat) : Bool :=
  let l := (s.mast m).wr.log
  (l.foldl (logAfter (s.logUpTo m)) (0, false)).2 || (s.logSlot t l.length).isNone

/-- A log slot has been taken through its steps (11 R310). -/
def State.logFound (s : State) (m : Nat) (f : LogFound) : State :=
  s.updMast m (fun x => { x with wr := { x.wr with log := x.wr.log ++ [f] } })

/-- The log of a mast is to be read from its first slot on. -/
def State.logAnew (s : State) (m : Nat) : State :=
  let s1 := { s with media := { s.media with sectors := s.media.sectors.filter (fun x => !decide (x.mast = m ∧ x.use = SecUse.log)) } }
  s1.updMast m (fun x => { x with wr := { x.wr with log := [], logTo := s.objN (mkey m 0x50 4) } })

end Sys2Proof.Machine
end

