-- ==== Sys2Proof/Machine/Deliver.lean ====
section
/-! DEFINITION. The rig's reads of host memory (13.7), delivery of data to host memory, peers, the read cache and stream engines
(12.3, 10.4, 15 R412), and the end of a READ (13 R358, 14 R397). -/
namespace Sys2Proof.Machine

/-- A field of a command packet (12.2). -/
def Cmd.pf (c : Cmd) (hi lo : Nat) : Nat := fld c.pkt.toNat hi lo

/-- Completion timeout by Device Control 2 (13 Table 13.7), in ns. -/
def completionTimeoutNs (v : Nat) : Nat := match v % 16 with
  | 1 => us 80 | 2 => ms 8 | 5 => ms 40 | 6 => ms 160 | 9 => ms 640 | 10 => ms 2500 | 13 => sec 10 | 14 => sec 40
  | _ => ms 32

/-- First tag value and number of tags of a tag size (13 R363; notes/assumptions/8.md). -/
def tagRange (size : Nat) : Nat × Nat := match size with
  | 14 => (1024, 16384 - 1024)
  | 10 => (256, 768)
  | _ => (0, 256)

/-- Tag size in use (13 R363): 2200:05 or 2201:05. -/
def State.tagSize (s : State) (e : Endpoint) : Nat := s.objN (okey (0x2200 + epIx e) 5)

/-- A tag that is neither outstanding nor withheld (13 R363, R364). -/
def State.freeTag (s : State) (e : Endpoint) : Option Nat :=
  let (lo, n) := tagRange (s.tagSize e)
  let start := (s.ep e).nextTag
  ((List.range n).map (fun i => lo + (start + i) % n)).find? (fun g =>
    !(s.host.reads.any (fun r => decide (r.ep = e ∧ r.tag = g))) &&
    !(s.host.withheld.any (fun w => decide (w.1 = e ∧ w.2.1 = g ∧ s.now < w.2.2))))

/-- An endpoint is held in reset: PERST asserted, or retired as faulty (13 R367, R369). -/
def State.epInReset (s : State) (e : Endpoint) : Bool := (s.ep e).perst || s.maskBit (okey 0x2630 2) (epIx e)

/-- A failed fetch of SQ slots halts the SQ (12 R323). -/
def State.haltSq (s : State) (q : Nat) : State :=
  let x := s.sq q
  if x.owner = .nobody then s
  else ((s.setSq q { x with halted := true }).count (okey 0x5420 3)).conditionTo x.owner 0x0002 4 q q

/-- Object index of an endpoint's counters (18 Table 18.3). -/
def epCounter (e : Endpoint) (i : Nat) : Nat := okey (0x5421 + epIx e) i

/-- An error that the rig reports under AER, of a physical or a virtual function of the endpoint (13 R349, R365; Table 13.2): 0 Unsupported
Request, 1 Poisoned TLP Received, 2 Completion Timeout, 3 Unexpected Completion, which is advisory. Its status is set, the header logged,
and a message sent as AER and Device Control enable it (notes/assumptions/169.md). -/
def State.aerError (s : State) (f : Fn) (kind : Nat) (hdr : Option (Nat × Nat × Nat)) : State :=
  let p := s.ep f.ep
  let b := match kind with
    | 0 => 20
    | 1 => 12
    | 2 => 14
    | _ => 16
  let seen := p.aerUncMask.testBit b
  let log := if seen || p.aerLog.isSome then p.aerLog else hdr
  if kind = 3 then
    let p1 := { p with aerCor := p.aerCor ||| 2 ^ 13 }
    if p.aerCorMask.testBit 13 then s.setEp f.ep p1
    else
      let s1 := s.setEp f.ep { p1 with aerUnc := p.aerUnc ||| 2 ^ b, aerLog := log }
      if p.devCtl.testBit 0 then s1.tlp f.ep (.aer f kind) else s1
  else
    let s1 := s.setEp f.ep { p with aerUnc := p.aerUnc ||| 2 ^ b, aerLog := log }
    let on := p.devCtl.testBit (if p.aerUncSev.testBit b then 2 else 1) && (decide (kind ≠ 0) || p.devCtl.testBit 3)
    if !seen && on then s1.tlp f.ep (.aer f kind) else s1

/-- Max Payload Size and Max Read Request Size in force at an endpoint (13 Table 13.1). -/
def EpState.mps (p : EpState) : Nat := 128 * 2 ^ min (fld p.devCtl 7 5) 2
def EpState.mrrs (p : EpState) : Nat := 128 * 2 ^ min (fld p.devCtl 14 12) 5

/-- Bytes of a transfer from address a, of n in all, that one TLP takes: at most `max`, and none across a 4 KiB boundary. -/
def tlpSpan (max a n : Nat) : Nat := min n (min max (4096 - a % 4096))

/-- The TLPs that write n bytes from address a, `off` bytes into the data: (address, offset, length). -/
def tlpCuts (max : Nat) : Nat → Nat → Nat → Nat → List (Nat × Nat × Nat)
  | 0, _, _, _ => []
  | fuel + 1, a, off, n =>
    if n = 0 then []
    else
      let k := tlpSpan max a n
      (a, off, k) :: tlpCuts max fuel (a + k) (off + k) (n - k)

/-- Issues a read now: takes a tag and sends the request (13 R363, R364), for at most Max Read Request Size; the rest of the range is asked
for when its data has come (R349; notes/assumptions/99.md). -/
def State.sendRead (s : State) (r : HostRead) : State :=
  match s.freeTag r.ep with
  | none => s.setEp r.ep { s.ep r.ep with abandoned := (s.ep r.ep).abandoned ++ [r] }
  | some g =>
    let p := s.ep r.ep
    let n0 := r.len + r.rest
    let k := tlpSpan p.mrrs r.addr n0
    let r' := { r with tag := g, issued := s.now, limit := completionTimeoutNs p.devCtl2, got := [], len := k, rest := n0 - k }
    let (lo, n) := tagRange (s.tagSize r.ep)
    let s1 := s.setEp r.ep { p with nextTag := (g + 1 - lo) % n }
    ({ s1 with host := { s1.host with reads := s1.host.reads ++ [r'] } }).tlp r.ep (.readReq ⟨r.ep, r.fn⟩ g r.addr k)

/-- A read is issued, or waits during a hold or beyond 4,096 outstanding (13 R363, R367, R368). -/
def State.askRead (s : State) (r : HostRead) : State :=
  if s.fnHeld ⟨r.ep, r.fn⟩ ∨ (s.host.reads.filter (fun x => x.ep = r.ep)).length ≥ 4096 then
    s.setEp r.ep { s.ep r.ep with abandoned := (s.ep r.ep).abandoned ++ [r] }
  else s.sendRead r

/-- A range lies wholly within a host range of 2222 or 2223 (13 R358, R538). -/
def State.isDirect (s : State) (e : Endpoint) (a n : Nat) : Bool :=
  (List.range 8).any (fun i =>
    let base := s.objN (okey (0x2222 + epIx e) (i + 1))
    let lim := s.objN (okey (0x2222 + epIx e) (i + 9))
    decide (lim ≠ 0 ∧ base ≤ a ∧ a + n ≤ lim))

/-- No further sector is read for a command (15 R413). -/
def State.detach (s : State) (cid : Nat) : State :=
  { s with media := { s.media with sectors := s.media.sectors.map (fun x => { x with waiters := x.waiters.filter (· ≠ cid) }) } }

/-- Sends a WRITE_DATA of a command to its node (14 R396). -/
def State.sendData (s : State) (cid addr : Nat) (data : List Byte) : State :=
  match s.cmd cid with
  | none => s
  | some c => (s.sendPacket 0x20 0 (c.pf 266 256) (addr % 2 ^ 64 + (cid % 2 ^ 32) * 2 ^ 64) data).updCmd cid (fun x => { x with sent := x.sent + 1 })

/-- The bytes of a line of 64, as far as they are there; the others 0. -/
def lineBytes (l : List (Nat × Nat × Byte)) (a : Nat) : List Byte :=
  (List.range 64).map (fun i => ((l.find? (fun b => decide (b.1 = a ∧ b.2.1 = i))).map (fun b => b.2.2)).getD 0)

/-- The data of a command has ended: lines that are not full leave with zeros where they have no byte (14 R396; notes/assumptions/9.md). -/
def State.sendFrags (s : State) (cid : Nat) : State :=
  match s.cmd cid with
  | none => s
  | some c => forEach (c.frag.map (·.1)).eraseDups (fun a u => u.sendData cid a (lineBytes c.frag a)) (s.updCmd cid (fun x => { x with frag := [] }))

/-- Ends a command that delivered data: flush reads (13 R358) or a FENCE (14 R397) first, where they are needed. -/
def State.finishData (s0 : State) (cid st : Nat) : State :=
  let s := (s0.detach cid).sendFrags cid
  match s.cmd cid with
  | none => s
  | some c =>
    if c.pkt.getLsbD 9 then
      if c.sent = 0 then s.complete cid st c.posted
      else (s.updCmd cid (fun x => { x with stage := .fence, finish := st, fenceAt := s.now })).sendPacket 0x21 0
        (c.pf 266 256) (cid % 2 ^ 32 + (c.sent % 2 ^ 32) * 2 ^ 32) []
    else match c.owner with
      | .fn f =>
        let far := (c.written.filter (fun w => !s.isDirect f.ep w.1 w.2)).eraseDups
        if far = [] then s.complete cid st c.posted
        else if s.epInReset f.ep then (s.countN (epCounter f.ep 5) far.length).complete cid stTransferError c.posted
        else forEach far (fun w a => a.askRead ⟨f.ep, f.fn, 0, (w.1 + w.2 - 1) / 4 * 4, 0, .flushRead cid, a.now, 0, [], 0, []⟩)
          (s.updCmd cid (fun x => { x with stage := .flushReads, finish := st, flushes := far.length }))
      | _ => s.complete cid st c.posted

/-- An outstanding command that delivers data ends before its time with a status: what it has posted is flushed or fenced first (13 R358,
14 R397), unless a function reset has silenced it (13 R367). -/
def State.endData (s : State) (cid st : Nat) : State :=
  match s.cmd cid with
  | none => s
  | some c =>
    if c.mute then s.complete cid st c.posted
    else match c.stage with
      | .flushReads => s.updCmd cid (fun x => { x with finish := st })
      | .fence => s.updCmd cid (fun x => { x with finish := st })
      | _ => s.finishData cid st

/-- A flush read has ended, well or badly: the command completes after the last of them (13 R358). -/
def State.flushEnds (s : State) (cid : Nat) (ok : Bool) : State :=
  match s.cmd cid with
  | none => s
  | some c =>
    let st := if ok then c.finish else stTransferError
    if c.flushes ≤ 1 then s.complete cid st c.posted else s.updCmd cid (fun x => { x with flushes := x.flushes - 1, finish := st })

/-- Dictionary key of engine object 2500 + e : sub. -/
def ekey (e sub : Nat) : Nat := okey (0x2500 + e) sub

/-- State shown in 2500 + e :01 (15 Table 15.8). -/
def State.showEngine (s : State) (e : Nat) : State :=
  let en := s.engine e
  let v : Nat := if s.maskBit (okey 0x2542 2) e then 4 else if en.loading then 3 else if en.seg.isSome then 1
    else if en.holder.isSome then 2 else 0
  (s.setObj (ekey e 1) v).setObj (ekey e 5) en.saves.length

/-- A JOB's data has still to be read, run or delivered: it does not only wait for the proof of delivery. -/
def Cmd.jobOpen (c : Cmd) : Bool := decide (c.opc = 0x05 ∧ c.stage ≠ .flushReads ∧ c.stage ≠ .fence)

/-- Closes the job of SQ `q` on engine `e`: its context and save slot go, its segments still outstanding complete with `st`
(15 R415, R416; notes/assumptions/10.md). -/
def State.closeJob (s : State) (e q st : Nat) : State :=
  let en := s.engine e
  let holds := decide (en.holder = some q)
  let left := s.host.cmds.filter (fun c => c.jobOpen && decide (c.sq = q ∧ c.pf 77 72 = e))
  let en' := { en with
    seg := if holds then none else en.seg
    holder := if holds then none else en.holder
    ctx := if holds then {} else en.ctx
    openJobs := en.openJobs.filter (· ≠ q)
    saves := en.saves.filter (fun r => r.1 ≠ q)
    waiting := en.waiting.filter (fun w => !(left.any (fun c => c.cid = w))) }
  let s1 := s.setCmds (s.host.cmds.map (fun c => if c.opc = 0x05 ∧ c.sq = q ∧ c.pf 77 72 = e then { c with jobOver := true } else c))
  forEach left (fun c a => a.endData c.cid st) ((s1.setEngine e en').showEngine e)

/-- A command that fails before any of its data moves: a JOB's segment leaves its engine's queue, and a FIRST opens no job
(15 R410; notes/assumptions/28.md). -/
def State.failCmd (s : State) (c : Cmd) (st : Nat) : State :=
  let s1 := s.complete c.cid st 0
  let e := c.pf 77 72
  if c.opc ≠ 0x05 then s1
  else if c.pkt.getLsbD 10 then s1.closeJob e c.sq st
  else s1.setEngine e { s1.engine e with waiting := (s1.engine e).waiting.filter (· ≠ c.cid) }

/-- A read of host memory that ended as failed (13 R364): the failure passes to what needed it. -/
def State.readFailed (s : State) (r : HostRead) : State :=
  match r.purpose with
  | .sqSlots q _ => s.haltSq q
  | .scatterList cid =>
    match s.cmd cid with
    | some c => s.failCmd c stTransferError
    | none => s
  | .dictData cid => s.complete cid stTransferError 0
  | .flushRead cid =>
    (s.count (epCounter r.ep 5)).flushEnds cid false

/-- A read that the rig needs (13 R367): it fails at once while the endpoint is in reset, waits during a hold or beyond 4,096
outstanding, and is issued otherwise. -/
def State.needRead (s : State) (f : Fn) (addr len : Nat) (p : ReadPurpose) : State :=
  let r : HostRead := ⟨f.ep, f.fn, 0, addr, len, p, s.now, 0, [], 0, []⟩
  if s.epInReset f.ep then s.readFailed r else s.askRead r

/-- Issues reads that waited, of functions in no hold (13 R367, R368). -/
def State.issueWaiting (s : State) (e : Endpoint) : Nat → State
  | 0 => s
  | n + 1 =>
    let p := s.ep e
    match p.abandoned.find? (fun r => !s.fnHeld ⟨r.ep, r.fn⟩) with
    | none => s
    | some r =>
      if (s.host.reads.filter (fun x => x.ep = e)).length ≥ 4096 ∨ s.freeTag e = none then s
      else ((s.setEp e { p with abandoned := p.abandoned.erase r }).sendRead r).issueWaiting e n

/-- The SQ fetches its next slot (12 R322) unless it is halted, empty, already fetching, or held by a waiting record on its EQ
(12 R345). -/
def State.fetchSq (s : State) (q : Nat) : State :=
  let x := s.sq q
  match x.owner with
  | .fn f =>
    let busy := s.host.reads.any (fun r => match r.purpose with
        | .sqSlots p _ => decide (p = q)
        | _ => false) ||
      (s.ep f.ep).abandoned.any (fun r => match r.purpose with
        | .sqSlots p _ => decide (p = q)
        | _ => false)
    if x.halted ∨ x.head = x.tail ∨ busy = true ∨ (s.eq x.eq).waiting ≠ [] then s
    else
      let slot := x.head
      (s.setSq q { x with head := (x.head + 1) % 2 ^ x.log }).needRead f (x.base + 64 * slot) 64 (.sqSlots q 1)
  | _ => s

/-- After an EQ's slots are returned, its SQs fetch again (12 R345). -/
def State.fetchBound (s : State) (e : Nat) : State :=
  forEach (s.host.sqs.filter (fun p => decide (p.2.eq = e) && decide (p.2.owner ≠ .nobody))) (fun p a => a.fetchSq p.1) s

/-- A piece of a command's data in one region of its destination: the region's address, the piece's place in it, its offset in the data,
its length. -/
structure Piece where
  base : Nat
  rel : Nat
  off : Nat
  len : Nat
  deriving DecidableEq, Repr

/-- Pieces of the regions of a destination, (address, length) each, that take bytes i to i + n - 1 (12 R328). -/
def scatterPieces : List (Nat × Nat) → Nat → Nat → Nat → List Piece
  | [], _, _, _ => []
  | (a, l) :: rest, start, i, n =>
    let lo := max i start
    let hi := min (i + n) (start + l)
    let tail := scatterPieces rest (start + l) i n
    if lo < hi then ⟨a, lo - start, lo - i, hi - lo⟩ :: tail else tail

/-- Cuts bytes into WRITE_DATA payloads of at most 4,096 (14 Table 14.3). -/
def chunk4k : Nat → List Byte → List (List Byte)
  | 0, _ => []
  | n + 1, l => if l = [] then [] else l.take 4096 :: chunk4k n (l.drop 4096)

/-- Adds the n bytes from address a to ranges written: a range that they touch grows (13 R358). -/
def addRange (l : List (Nat × Nat)) (a n : Nat) : List (Nat × Nat) :=
  let near := l.filter (fun r => decide (r.1 ≤ a + n ∧ a ≤ r.1 + r.2))
  let lo := near.foldl (fun b r => min b r.1) a
  let hi := near.foldl (fun b r => max b (r.1 + r.2)) (a + n)
  l.filter (fun r => !decide (r.1 ≤ a + n ∧ a ≤ r.1 + r.2)) ++ [(lo, hi - lo)]

/-- Bytes of a part of a line join those that wait there; a full line leaves (14 R396; notes/assumptions/9.md). -/
def State.addFrag (s : State) (cid line at_ : Nat) (data : List Byte) : State :=
  match s.cmd cid with
  | none => s
  | some c =>
    let l := c.frag ++ data.mapIdx (fun i b => (line, at_ + i, b))
    if data = [] then s
    else if (l.filter (fun b => b.1 = line)).length < 64 then s.updCmd cid (fun x => { x with frag := l })
    else (s.updCmd cid (fun x => { x with frag := l.filter (fun b => b.1 ≠ line) })).sendData cid line (lineBytes l line)

/-- A piece of data goes to a peer's memory: whole lines of 64 bytes of its region at once, the rest when its line is full or the data ends
(14 R396, Table 14.3; notes/assumptions/9.md). -/
def State.sendPiece (s : State) (cid : Nat) (p : Piece) (data : List Byte) : State :=
  let head := min p.len ((64 - p.rel % 64) % 64)
  let mid := (p.len - head) / 64 * 64
  let s1 := s.addFrag cid (p.base + p.rel / 64 * 64) (p.rel % 64) (data.take head)
  let at_ := p.base + p.rel + head
  let s2 := forEach ((chunk4k (mid / 4096 + 1) ((data.drop head).take mid)).mapIdx (fun j b => (at_ + 4096 * j, b)))
    (fun q a => a.sendData cid q.1 q.2) s1
  s2.addFrag cid (at_ + mid) 0 (data.drop (head + mid))

/-- Places bytes i, i + 1, ... of a command's data at its destination (12 R328, 14 R396). -/
def State.place (s : State) (cid i : Nat) (bytes : List Byte) : State :=
  match s.cmd cid with
  | none => s
  | some c =>
    let n := bytes.length
    if n = 0 then s
    else
      let pieces : List Piece := if c.pkt.getLsbD 8 then scatterPieces c.scatter 0 i n else [⟨c.pf 383 320, i, 0, n⟩]
      if c.pkt.getLsbD 9 then
        (forEach pieces (fun p a => a.sendPiece cid p ((bytes.drop p.off).take p.len)) s).updCmd cid (fun x => { x with posted := x.posted + n })
      else
        match c.owner with
        | .fn f =>
          let tlps := pieces.flatMap (fun p => tlpCuts (s.ep f.ep).mps (p.len + 1) (p.base + p.rel) p.off p.len)
          let s1 := forEach tlps (fun p a => a.tlp f.ep (.write f p.1 ((bytes.drop p.2.1).take p.2.2))) s
          s1.updCmd cid (fun x => { x with
            posted := x.posted + n, written := pieces.foldl (fun l p => addRange l (p.base + p.rel) p.len) x.written })
        | _ => s

/-- Healthy channels, 2400:02. -/
def State.channels (s : State) : List Nat := (List.range 16).filter (fun c => s.maskBit (okey 0x2400 2) c)

/-- Takes `n` pages from the healthy channels in rotation (16 R433): the channels they lie on. -/
def State.takePages (s : State) (n : Nat) : List Nat × State :=
  let ch := s.channels
  let l := ((List.range (min n ch.length)).map (fun i => ch.getD ((s.media.nextPage + i) % ch.length) 0)).eraseDups
  (l, { s with media := { s.media with nextPage := s.media.nextPage + n } })

/-- The read cache keeps a sector, giving up the one retained earliest when full (16 R433). -/
def State.retain (s : State) (m ext eidx : Nat) (user : List Byte) : State :=
  let cap := s.objN (okey 0x2401 4) * 256
  let keep := s.media.retained.filter (fun r => !(decide (r.mast = m ∧ r.ext = ext ∧ r.eidx = eidx)))
  let (ch, s1) := s.takePages 1
  let l := keep ++ [⟨m, ext, eidx, ch.headD 0, user⟩]
  ({ s1 with media := { s1.media with retained := l.drop (l.length - cap) } } : State).showFree

/-- A sector in the read cache. -/
def State.cached (s : State) (m ext eidx : Nat) : Option (List Byte) :=
  (s.media.retained.find? (fun r => decide (r.mast = m ∧ r.ext = ext ∧ r.eidx = eidx))).map (·.user)

/-- A READ whose sectors are all delivered or reported ends (10 R268). -/
def State.finishRead (s : State) (cid : Nat) : State :=
  match s.cmd cid with
  | none => s
  | some c => if c.stage = .reading ∧ c.need = [] then s.finishData cid (if c.lost then stMediaUnrecovered else 0) else s

/-- Moves delivered sectors into a segment's input in ascending order (01 R38, 15 R412); `none` is a lost-sector marker. -/
def feedSegment (off len : Nat) : Nat → Segment → Segment
  | 0, g => g
  | n + 1, g =>
    match g.due with
    | [] => g
    | e :: rest =>
      match g.early.find? (fun p => p.1 = e) with
      | none => g
      | some (_, data) =>
        let lo := max off (4096 * e) - 4096 * e
        let hi := min (off + len) (4096 * e + 4096) - 4096 * e
        let bytes : List (Nat × Bool) := match data with
          | some u => ((u.drop lo).take (hi - lo)).map (fun b => (b.toNat, false))
          | none => List.replicate (hi - lo) (0, true)
        feedSegment off len n { g with
          due := rest, early := g.early.filter (fun p => p.1 ≠ e), input := g.input ++ bytes }

/-- Delivers a sector's user field, or a lost-sector marker, to a JOB's segment (10 R267, R277). -/
def State.deliverJob (s : State) (c : Cmd) (eidx : Nat) (data : Option (List Byte)) : State :=
  let e := c.pf 77 72
  let en := s.engine e
  match en.seg with
  | some g =>
    if g.cid = c.cid then
      let g1 := { g with early := g.early ++ [(eidx, data)] }
      s.setEngine e { en with seg := some (feedSegment (c.pf 223 192) (c.pf 255 224) (g1.early.length) g1) }
    else s
  | none => s

/-- Delivers an accepted sector to one command that waits on it (10 R267, 12 R328, R329). -/
def State.deliver (s : State) (m ext eidx : Nat) (user : List Byte) (cid : Nat) : State :=
  match s.cmd cid with
  | none => s
  | some c =>
    let s0 := s.updCmd cid (fun x => { x with need := x.need.filter (· ≠ eidx) })
    if c.opc = 0x05 then s0.deliverJob c eidx (some user)
    else
      let off := c.pf 223 192
      let len := c.pf 255 224
      let lo := max off (4096 * eidx)
      let hi := min (off + len) (4096 * eidx + 4096)
      let s1 := s0.place cid (lo - off) ((user.drop (lo - 4096 * eidx)).take (hi - lo))
      let s2 := if c.pkt.getLsbD 10 then s1.retain m ext eidx user else s1
      s2.finishRead cid

/-- A command learns that a sector is unrecoverable (10 R277). -/
def State.deliverLost (s : State) (eidx cid : Nat) : State :=
  match s.cmd cid with
  | none => s
  | some c =>
    let s0 := s.updCmd cid (fun x => { x with need := x.need.filter (· ≠ eidx), lost := true })
    if c.opc = 0x05 then s0.deliverJob c eidx none else s0.finishRead cid

/-! ## What a read needs, and its end before its time (12 R327, R339, R340; 18 R480) -/

/-- The pending write of EXT on a mast whose staged data serves reads (01 R39). -/
def State.stagedWrite (s : State) (m ext : Nat) : Option Write := (s.pendingOn m).find? (fun w => decide (w.ext = ext))

/-- EIDX of the sectors that hold bytes off to off + len - 1 (12 R327). -/
def sectorRange (off len : Nat) : List Nat :=
  if len = 0 then [] else (List.range ((off + len - 1) / 4096 + 1 - off / 4096)).map (fun i => off / 4096 + i)

/-- Length of an extent that a read may name: of its accepted write, else of its durable entry; none when absent (12 R327). -/
def State.extentLen (s : State) (m ext : Nat) : Option Nat :=
  match s.stagedWrite m ext with
  | some w => some w.len
  | none => (s.extentOf m ext).map meLen

/-- Some sector of the range must be read from the disc: neither staged nor in the read cache (01 R34, 16 R433). -/
def State.needsDisc (s : State) (m ext off len : Nat) : Bool :=
  (s.stagedWrite m ext).isNone && (sectorRange off len).any (fun e => (s.cached m ext e).isNone)

/-- An outstanding READ or JOB ends with a status; RESULT counts the bytes posted. A JOB's running segment takes its job with it. -/
def State.stopRead (s : State) (c : Cmd) (st : Nat) : State :=
  let running := match (s.engine (c.pf 77 72)).seg with
    | some g => decide (g.cid = c.cid)
    | none => false
  if c.opc ≠ 0x05 then s.endData c.cid st
  else if running then (s.endData c.cid st).closeJob (c.pf 77 72) c.sq st
  else if c.jobOpen then s.failCmd c st
  else s.endData c.cid st

end Sys2Proof.Machine
end

