-- ==== Sys2Proof/Machine/Ladder.lean ====
section
/-! DEFINITION. The retry ladder (10.6, 10.7): entering and skipping steps, step 8's fetch, unrecoverable and weak sectors, and the
fail-over of a faulted or retired mast (12 R339). -/
namespace Sys2Proof.Machine

def State.sector (s : State) (sid : Nat) : Option Sector := s.media.sectors.find? (fun x => x.sid = sid)
def State.setSectors (s : State) (l : List Sector) : State := { s with media := { s.media with sectors := l } }
def State.updSector (s : State) (sid : Nat) (f : Sector → Sector) : State :=
  s.setSectors (s.media.sectors.map (fun x => if x.sid = sid then f x else x))
def State.dropSector (s : State) (sid : Nat) : State := s.setSectors (s.media.sectors.filter (fun x => x.sid ≠ sid))

/-- Adds a sector to read; its serial is fresh. -/
def State.addSector (s : State) (x : Sector) : State :=
  { s with media := { s.media with
    sectors := s.media.sectors ++ [{ x with sid := s.media.nextSid }], nextSid := s.media.nextSid + 1 } }

/-- The active window (18 R492): first sail and W_A, as M+58:04 shows them. -/
def State.window (s : State) (m : Nat) : Nat × Nat :=
  let v := s.objN (mkey m 0x58 4)
  (v / 256, v % 256)

/-- A sail lies in the active window. -/
def State.inWindow (s : State) (m : Nat) (k : Int) : Bool :=
  let w := s.window m
  decide ((w.1 : Int) ≤ k ∧ k < (w.1 : Int) + w.2)

/-- Guide track of the active servo sail with sail k over a data track (05 R135): V0 below the window, or V1 above it. -/
def State.servoOver (s : State) (m track : Nat) (k : Int) : Int :=
  if s.maskBit (mkey m 0x30 1) 5 then (track : Int) + 64 - k else (track : Int) - 1 - k

/-- Sail k may serve a data track: it lies in the active window, and with it there the active servo sail lies in the track's zone
(09 R227). -/
def State.maySail (s : State) (m track : Nat) (k : Int) : Bool :=
  let t := (s.tableOf m).getD 0
  let g := s.servoOver m track k
  s.inWindow m k && decide (0 ≤ g) && decide (s.zoneOf t g.toNat = s.zoneOf t track)

/-- Commands that still wait on a sector. -/
def State.waitersOf (s : State) (x : Sector) : List Cmd := s.host.cmds.filter (fun c => x.waiters.contains c.cid)
/-- A cross-rig copy waits on a sector: its read has every step of the ladder open (14 R399). -/
def State.copyWaits (s : State) (x : Sector) : Bool := (s.waitersOf x).any (fun c => decide (c.owner = .nobody))

/-- Payload of UNRECOVERED and SECTOR_WEAK (10 Table 10.3). -/
def sectorPayload (x : Sector) : Nat :=
  x.str + x.entered * 2 ^ 2 + x.mast * 2 ^ 10 + x.sail * 2 ^ 15 + x.slot.sect * 2 ^ 21 + x.slot.track * 2 ^ 30 +
  x.slot.layer * 2 ^ 48 + x.eidx * 2 ^ 52 + x.ext * 2 ^ 64

/-- A sector event goes to the earliest waiting command's bound EQ, or to SUBS[4] (12 Table 12.11, R347). -/
def State.sectorEvent (s : State) (x : Sector) (type st : Nat) : State :=
  match (s.waitersOf x).filter (fun c => decide (c.owner ≠ .nobody)) with
  | c :: _ =>
    match s.recEq c.sq c.owner c.orphan with
    | some e => s.postRec e (s.formRec type 3 x.mast c.tag st (sectorPayload x))
    | none => s
  | [] => s.publish 4 (s.formRec type 3 x.mast 0 st (sectorPayload x))

/-- Answers a peer's FETCH_REQ with a status (14 R400). -/
def State.fetchStatus (s : State) (dst xid st : Nat) : State := s.sendReply 0x31 dst xid st []

/-- The group of a sector (09 R249). -/
def Sector.group (x : Sector) : Nat := if x.kind = 2 then x.eidx else x.eidx / 15

/-- The recorded group, or a fresh one. -/
def State.groupOf (s : State) (m ext g : Nat) : Group :=
  (s.media.groups.find? (fun y => decide (y.mast = m ∧ y.ext = ext ∧ y.grp = g))).getD ⟨m, ext, g, [], []⟩
def State.setGroup (s : State) (y : Group) : State :=
  { s with media := { s.media with
    groups := y :: s.media.groups.filter (fun z => !(decide (z.mast = y.mast ∧ z.ext = y.ext ∧ z.grp = y.grp))) } }

/-- A sector of the same cross-parity group. -/
def Sector.sameGroup (x z : Sector) : Bool := z.use.ofExtent && decide (z.mast = x.mast ∧ z.ext = x.ext ∧ z.group = x.group)

/-- What is kept of a sector's group goes with the last of its sectors that is read. -/
def State.groupDone (s : State) (x : Sector) : State :=
  if s.media.sectors.any x.sameGroup then s
  else { s with media := { s.media with
    groups := s.media.groups.filter (fun z => !(decide (z.mast = x.mast ∧ z.ext = x.ext ∧ z.grp = x.group))) } }

/-- A member of a group has reached step 7 unaccepted and is read no more (10 R274). -/
def State.loseMember (s : State) (x : Sector) : State :=
  if x.xpe = false then s
  else
    let y := s.groupOf x.mast x.ext x.group
    (s.setGroup { y with lost := setInsert x.xpos y.lost }).groupDone x

/-- A mast's frames can be read again: it reads, or loops that were lost are being acquired again (05 R139; notes/assumptions/144.md). -/
def MastState.rereads : MastState → Bool
  | .spinning => true
  | .tracking => true
  | .reading => true
  | _ => false

/-- A sector at step 9 (10 R277), or a member or replica read that ends unrecovered. A log slot is unreadable then (11 R310); where its
ladder was broken off since the mast reads no more, it is read again from step 0 (notes/assumptions/177.md). -/
def State.unrecoverable (s : State) (x : Sector) : State :=
  match x.use with
  | .data =>
    let s1 := ((s.dropSector x.sid).loseMember x).sectorEvent x 0x11 stMediaUnrecovered
    forEach x.waiters (fun c a => a.deliverLost x.eidx c) (s1.count (ckey x.mast 0x0C 10))
  | .replica src xid => ((s.dropSector x.sid).loseMember x).fetchStatus src xid stMediaUnrecovered
  | .member => s.dropSector x.sid
  | .verify .. => s.dropSector x.sid
  | .log =>
    if (s.mast x.mast).st.rereads then (s.dropSector x.sid).logFound x.mast .unreadable
    else s.updSector x.sid (fun z => { z with phase := .wanted, step := 0, entered := 0 })

/-- The peer that holds the replica, M+56:04. -/
def State.replicaAddr (s : State) (m : Nat) : Nat := s.objN (mkey m 0x56 4)

/-- The epoch last known of a peer; its own when none is known (14 R386). -/
def State.peerEpoch (s : State) (a : Nat) : Nat :=
  match tblGet (fun _ => 0) s.fabric.epochs a with
  | 0 => s.epoch
  | e + 1 => e

/-- A sector whose frame is read anew at the step where it stands, with that step's settings (10 R281). -/
def Sector.unread (x : Sector) : Sector := { x with phase := .wanted, offs := if x.step = 5 then x.offs.dropLast else x.offs }

/-- The track's neighbour on the side of shift `i` of step 6 can read it (10 R273): 0 the sail before the one that failed, 1 the one
after. -/
def State.shiftOpen (s : State) (x : Sector) (i : Nat) : Bool :=
  s.maySail x.mast x.slot.track ((x.sail : Int) + (if i = 0 then -1 else 1))

/-- The shift of step 6 that a sector takes next (10 R273): a shift whose reader lies outside the window is passed over; none when both
have failed or been skipped. -/
def State.shiftNow (s : State) (x : Sector) : Option Nat := [0, 1].find? (fun i => decide (x.tries ≤ i) && s.shiftOpen x i)

/-- A ladder step is skipped (10 Table 10.2). -/
def State.skipStep (s : State) (x : Sector) (k : Nat) : Bool :=
  let en := (s.objN (mkey x.mast 0x52 3)).testBit (k - 1) || s.copyWaits x
  let reading := (s.mast x.mast).st.rereads
  match k with
  | 1 => false
  | 2 => false
  | 3 => !en || !reading
  | 4 => !en || !reading
  | 5 => !en || !reading
  | 6 => !en || !reading || !(s.shiftOpen x 0 || s.shiftOpen x 1)
  | 7 => !en || !x.xpe
  | 8 => !en || decide (s.replicaAddr x.mast = 0xFFFF) || decide (s.peerEpoch (s.replicaAddr x.mast) ≠ s.epoch) ||
      decide (x.use ≠ .data)
  | _ => false

/-- A command waits on a data sector, a peer on a replica, a MOUNT or a rebuild of the map on a log slot. -/
def State.waitedOn (s : State) (x : Sector) : Bool :=
  match x.use with
  | .data => decide (s.waitersOf x ≠ [])
  | .replica .. => true
  | .member => false
  | .verify .. => false
  | .log => s.logOpen x.mast

/-- Something still waits on a sector (10 R276): a command, a peer, or the rebuild of another sector of its group. -/
def State.stillWanted (s : State) (x : Sector) : Bool :=
  x.use.isVerify || s.waitedOn x ||
  s.media.sectors.any (fun z => decide (z.phase = .rebuild ∧ z.sid ≠ x.sid) && x.sameGroup z && s.waitedOn z)

/-- Sectors of a sector's group that wait for their rebuild. -/
def State.rebuilding (s : State) (x : Sector) : List Sector :=
  s.media.sectors.filter (fun z => decide (z.phase = .rebuild) && x.sameGroup z)

/-- Members of a group that reached step 7 unaccepted (10 R274): those recorded, and sectors standing at step 7 or 8. -/
def State.groupLost (s : State) (x : Sector) : List Nat :=
  (s.media.sectors.filter (fun z => decide (7 ≤ z.step) && x.sameGroup z)).foldl (fun l z => setInsert z.xpos l)
    (s.groupOf x.mast x.ext x.group).lost

/-- XPOS values of a group's members: data positions present, and 15 for parity (09 R249). -/
def groupXpos (len g : Nat) : List Nat := (List.range (min 15 (dataSectors len - 15 * g))) ++ [15]

/-- Members of a group that must be read for a rebuild and are not in hand or in flight (10 R274). -/
def State.readMembers (s : State) (x : Sector) : State :=
  match s.extentOf x.mast x.ext, s.tableOf x.mast with
  | some e, some t =>
    let g := x.group
    let have_ := (s.groupOf x.mast x.ext g).members.map (·.1)
    let slots := s.walk t (meStr e) (totalSlots (meLen e) true) (meLayer e) (meTrack e) (meCol e) 0
    let rel := s.relocsOf x.mast x.ext (meNrel e)
    forEach ((groupXpos (meLen e) g).filter (fun p => p ≠ x.xpos && !have_.contains p)) (fun p a =>
      let n := if p = 15 then min (16 * g + 15) (totalSlots (meLen e) true - 1) else 16 * g + p
      let inFlight := a.media.sectors.any (fun y => x.sameGroup y && decide (y.xpos = p))
      match slots[n]? with
      | some sl =>
        let sp := (rel.find? (fun r => r.1 = n)).map (·.2)
        if inFlight then a
        else a.addSector {
          sid := 0, mast := x.mast, slot := sp.getD sl, sail := x.sail, reader := x.sail, str := x.str,
          xpe := true, ext := x.ext, eidx := if p = 15 then g else 15 * g + p, xpos := p, kind := if p = 15 then 2 else 1,
          reloc := sp.isSome, use := .member }
      | none => a) s
  | _, _ => s

/-- The write serial of an extent (11 R298). -/
def writeSerial (dig layer track col : Nat) : Nat :=
  (dig / 2 ^ 31 * 2 ^ 31) % 2 ^ 64 ||| (layer * 2 ^ 27 + track * 2 ^ 9 + col)

/-- Placement slot n of an extent in the map. -/
def State.plannedSlot (s : State) (m e n : Nat) : Option Slot :=
  match s.tableOf m with
  | some t => (s.walk t (meStr e) (n + 1) (meLayer e) (meTrack e) (meCol e) 0)[n]?
  | none => none

/-- The info block of a KIND 1 member as formatted for its planned slot (09 R249, R250). -/
def plannedInfo (e eidx xpos : Nat) (sl : Slot) (user : List Byte) : List Byte :=
  infoBlock {
    ext := meExt e, aux := writeSerial (meDig e) (meLayer e) (meTrack e) (meCol e), track := sl.track, layer := sl.layer,
    sect := sl.sect, eidx := eidx, xpos := xpos, kind := 1, str := meStr e, reloc := false, xpe := true
  } user

/-- Rebuilds data member `xpos` of group g from the other members' info blocks (09 R250): its user field when the check passes. -/
def State.rebuild (s : State) (m e g xpos : Nat) (members : List (Nat × List Byte)) : Option (List Byte) :=
  let others := (members.filter (fun p => decide (p.1 ≠ 15 ∧ p.1 ≠ xpos)))
  match members.find? (fun p => p.1 = 15), s.plannedSlot m e (16 * g + xpos) with
  | some par, some sl =>
    let user := others.foldl (fun a p => xorBytes a (infoUser p.2)) (infoUser par.2)
    let crcOf : Nat × List Byte → Nat := fun p =>
      let h := parseHeader (leNat (p.2.take 24))
      if h.reloc then
        match s.plannedSlot m e (16 * g + p.1) with
        | some so => infoCrc (plannedInfo e h.eidx p.1 so (infoUser p.2))
        | none => 0
      else infoCrc p.2
    let want := others.foldl (fun a p => a ^^^ crcOf p) (parseHeader (leNat (par.2.take 24))).aux
    if infoCrc (plannedInfo e (15 * g + xpos) xpos sl user) = want then some user else none
  | _, _ => none

/-- Members of a group other than `xpos` are all in hand. -/
def groupComplete (len g xpos : Nat) (members : List (Nat × List Byte)) : Bool :=
  ((groupXpos len g).filter (fun p => p ≠ xpos)).all (fun p => members.any (fun q => q.1 = p))

/-- An accepted sector answers a peer (14 R400, Table 14.3): header, CRC-64 and the extent's DIG, and the user field. -/
def State.fetchAnswer (s : State) (x : Sector) (src xid : Nat) (info : List Byte) : State :=
  let dig := ((s.extentOf x.mast x.ext).map meDig).getD 0
  s.sendReply 0x31 src xid (leNat (info.take 24) + infoCrc info * 2 ^ 192 + dig * 2 ^ 256) (infoUser info)

/-- An accepted sector reaches whatever it was read for (10 R266, R267). -/
def State.acceptData (s : State) (x : Sector) (info : List Byte) : State :=
  match x.use with
  | .data => forEach x.waiters (fun c a => a.deliver x.mast x.ext x.eidx (infoUser info) c) (s.dropSector x.sid)
  | .replica src xid => (s.dropSector x.sid).fetchAnswer x src xid info
  | .member => s.dropSector x.sid
  | .verify .. => s.dropSector x.sid
  | .log => (s.dropSector x.sid).logFound x.mast (.record (infoUser info))

/-- What the members at hand give the rebuild of a sector (10 R274, 09 R250): nothing while members are missing; `some none` when the check
of the rebuilt sector fails; else the state with the sector accepted at step 7 as a weak one (10 R270, R278) and delivered. -/
def State.rebuildNow (s : State) (x : Sector) : Option (Option State) :=
  match s.extentOf x.mast x.ext with
  | none => none
  | some e =>
    let mem := (s.groupOf x.mast x.ext x.group).members
    if groupComplete (meLen e) x.group x.xpos mem = false then none
    else match s.rebuild x.mast e x.group x.xpos mem, s.plannedSlot x.mast e (16 * x.group + x.xpos) with
      | some user, some sl =>
        let info := plannedInfo e x.eidx x.xpos sl user
        let s1 := ((s.count (ckey x.mast 0x0C 4)).count (ckey x.mast 0x0E 7)).count (ckey x.mast 0x0C 9)
        some (some (((s1.sectorEvent x 0x10 0).acceptData x info).groupDone x))
      | _, _ => some none

/-- Enters step k for a sector, passing over skipped steps; each step entered is counted (10 R269-R277). A member that nothing but a
rebuild waits on ends at step 7, and the rebuilds of its group with it (R274). -/
def State.enterStep (s : State) : Nat → Nat → Nat → State
  | 0, _, _ => s
  | fuel + 1, sid, k =>
    match s.sector sid with
    | none => s
    | some x =>
      let giveUp : State → State := fun b => (forEach (b.rebuilding x) (fun z a => a.enterStep fuel z.sid 8) b).groupDone x
      if s.stillWanted x = false then (s.dropSector sid).groupDone x
      else if 7 ≤ k ∧ s.waitedOn x = false then giveUp ((s.dropSector sid).loseMember x)
      else if k ≥ 9 then s.unrecoverable x
      else if s.skipStep x k then s.enterStep fuel sid (k + 1)
      else
        let s1 := (s.updSector sid (fun z => { z with step := k, entered := z.entered ||| 2 ^ (k - 1), tries := 0, offs := [] })).count
          (ckey x.mast 0x0D k)
        if k ≤ 2 then s1.updSector sid (fun z => { z with phase := .pool })
        else if k ≤ 6 then s1.updSector sid (fun z => { z with phase := .wanted })
        else if k = 7 then
          let s2 := s1.updSector sid (fun z => { z with phase := .rebuild })
          match s2.rebuildNow { x with step := 7, entered := x.entered ||| 64 } with
          | some (some a) => a
          | some none => s2.enterStep fuel sid 8
          | none =>
            if 2 ≤ (s2.groupLost x).length ∨ (s.mast x.mast).st.rereads = false then giveUp s2 else s2.readMembers x
        else
          let (xid, s2) := s1.freshXid
          let dst := s2.replicaAddr x.mast
          let tsf := x.ext + x.eidx * 2 ^ 64 + s2.objN (mkey x.mast 0x56 5) * 2 ^ 128
          (s2.updSector sid (fun z => { z with phase := .fetch, fetchAt := s2.now, xid := xid })).fabricSend 2
            (s2.mkHeader 0x30 0 dst xid 0 tsf) []

/-- The step at which a sector stands has failed: it enters the next (10 R269). -/
def State.stepFailed (s : State) (sid : Nat) : State :=
  match s.sector sid with
  | none => s
  | some x => s.enterStep 40 sid (x.step + 1)

/-- A shift of step 6 has failed (10 R273): the other shift, else the next step. -/
def State.shiftEnds (s : State) (x : Sector) (i : Nat) : State :=
  let y := { x with tries := i + 1 }
  if (s.shiftNow y).isSome then s.updSector x.sid (fun z => { z with phase := .wanted, tries := i + 1 }) else s.stepFailed x.sid

/-- A re-read of the present step has failed (10 R272, R273): the next one of the step while the mast reads, else the next step. -/
def State.readFailedAt (s : State) (sid : Nat) : State :=
  match s.sector sid with
  | none => s
  | some x =>
    if (s.mast x.mast).st.rereads = false then s.stepFailed sid
    else if x.step = 5 ∧ x.offs.length < 4 then s.updSector sid (fun z => { z with phase := .wanted })
    else if x.step = 6 then s.shiftEnds x (if x.reader < x.sail then 0 else 1)
    else s.stepFailed sid

/-- A track jump of the ladder's step 6 fails: for the sectors whose shift it was to make, the shift counts as one whose re-read failed
(10 R273). One track outward puts the sail before over the track, one inward the sail after. -/
def State.shiftFailed (s : State) (m : Nat) (d : Int) : State :=
  if d.natAbs ≠ 1 then s
  else
    let i := if 0 < d then 0 else 1
    let mine := s.media.sectors.filter (fun x => decide (x.mast = m ∧ x.phase = .wanted))
    let here : Sector → Bool := fun x => decide (x.slot.layer = s.objN (mkey m 0x30 4) ∧
      (s.servoOver m x.slot.track x.sail - s.objN (mkey m 0x30 3)).natAbs ≤ 1)
    if mine.any (fun x => decide (3 ≤ x.step ∧ x.step ≤ 5)) then s
    else forEach (mine.filter (fun x => decide (x.step = 6 ∧ s.shiftNow x = some i) && here x)) (fun x a => a.shiftEnds x i) s

/-- Sectors at step 6 whose readers lie outside the window now have no shift left (10 R273). -/
def State.skipShifts (s : State) (m : Nat) : State :=
  forEach (s.media.sectors.filter (fun x => decide (x.mast = m ∧ x.phase = .wanted ∧ x.step = 6 ∧ s.shiftNow x = none)))
    (fun x a => a.stepFailed x.sid) s

/-- A mast leaves the reading state (10 R276): steps 3 to 6 are skipped, ladders under way continue at step 7; a codeword already in the
pool is decoded first. Members that a rebuild waits on can be read no more, so that it fails. Log slots wait for the mast
(notes/assumptions/177.md). -/
def State.ladderOff (s : State) (m : Nat) : State :=
  let s1 := forEach (s.media.sectors.filter (fun x => decide (x.mast = m ∧ x.step ≤ 6 ∧ x.phase ≠ .pool) && x.use.ofExtent &&
    (decide (1 ≤ x.step) || !s.waitedOn x))) (fun x a => a.enterStep 40 x.sid 7) s
  let stuck := s1.media.sectors.filter (fun z => decide (z.mast = m ∧ z.phase = .rebuild) &&
    s1.media.sectors.any (fun y => z.sameGroup y && decide (y.step = 0 ∧ (y.phase = .wanted ∨ y.phase = .scheduled))))
  forEach stuck (fun z a => a.enterStep 40 z.sid 8) s1

/-- A codeword leaves its decoder undecoded (10 R281, R276): the frame is read again at its next revolution and resumes its step; on a
mast that reads no more the ladder goes on at step 7. -/
def State.rereadSector (s : State) (sid : Nat) : State :=
  match s.sector sid with
  | none => s
  | some x =>
    if x.use.isVerify then s.dropSector sid
    else if 1 ≤ x.step ∧ (s.mast x.mast).st.rereads = false then s.enterStep 40 sid 7
    else s.updSector sid Sector.unread

/-- Sectors of a mast that nothing waits on any more leave (10 R276), and what is kept of their groups. -/
def State.dropOrphans (s : State) (m : Nat) : State :=
  let gone := s.media.sectors.filter (fun x => decide (x.mast = m) && !s.stillWanted x)
  forEach gone (fun x a => (a.dropSector x.sid).groupDone x) s

/-- Sectors of a mast's disc are read no more: a peer that asked for one is answered (14 R400). -/
def State.dropSectors (s : State) (m st : Nat) : State :=
  let mine := s.media.sectors.filter (fun x => x.mast = m)
  forEach mine (fun x a => match x.use with
    | .replica src xid => a.fetchStatus src xid st
    | _ => a) (s.setSectors (s.media.sectors.filter (fun x => x.mast ≠ m)))

/-- A mast whose disc is no more at hand answers the peers whose sectors have not been read (14 R400). -/
def State.dropReplicas (s : State) (m : Nat) : State :=
  let hit := s.media.sectors.filter (fun x => decide (x.mast = m ∧ x.step = 0 ∧ x.phase ≠ .pool))
  forEach hit (fun x a => match x.use with
    | .replica src xid => ((a.dropSector x.sid).groupDone x).fetchStatus src xid stMediaUnavailable
    | _ => a) s

/-- Objects that the acquisition of a mount changes: zone, F and SFW, guide track, layer, order's result, ATR. -/
def acquisitionKeys (m : Nat) : List Nat :=
  [mkey m 0x50 2, mkey m 0x34 4, mkey m 0x34 5, mkey m 0x30 3, mkey m 0x30 4, mkey m 0x30 8, mkey m 0x30 0x0A]

/-- A MOUNT in progress ends with a status, and no object of the mast is left changed by it (09 R230): on a mismatch those of its
acquisition too, which has been given up. -/
def State.mountFails (s : State) (m st : Nat) : State :=
  let cmds := s.mountCmds m
  let saved := (s.mast m).mountSaved.filter (fun p => decide (st = stMediaMismatch) || !(acquisitionKeys m).contains p.1)
  let s1 := forEach saved (fun p a => a.setObj p.1 p.2) s
  let s2 := s1.updMast m (fun x => { x with mountSaved := [] })
  forEach cmds (fun c a => a.complete c.cid st 0) s2

/-- The fail-over of a mast's commands (12 R339): those without effect complete with `st`; reads with sectors on the ladder, or
with bytes posted, go on at step 7. -/
def State.failOver (s : State) (m st : Nat) : State :=
  let s0 := s.ladderOff m
  let onLadder : State → Cmd → Bool := fun a c =>
    decide (0 < c.posted) || a.media.sectors.any (fun x => x.waiters.contains c.cid && decide (x.step ≥ 1))
  let read : Cmd → State → State := fun c a =>
    if onLadder a c then
      forEach (a.media.sectors.filter (fun x => x.waiters.contains c.cid && decide (x.step = 0)))
        (fun x b => b.enterStep 40 x.sid 7) a
    else a.stopRead c st
  let s1 := forEach (s0.host.cmds.filter (fun c => decide (c.mast = some m))) (fun c a =>
    match c.stage with
    | .reading => read c a
    | .job => read c a
    | .heldWriting => a.failCmd c st
    | .heldQueueWrite _ => a.failCmd c st
    | .heldBehind _ => a.failCmd c st
    | .heldFurl => a.failCmd c st
    | .heldMap => a.failCmd c st
    | .scatter => a.failCmd c st
    | .furling => a.complete c.cid st 0
    | _ => a) s0
  (((s1.mountFails m st).failUnaccepted m st).dropReplicas m).dropOrphans m

end Sys2Proof.Machine
end

