-- ==== Sys2Proof/Machine/Settle.lean ====
section
/-! DEFINITION. Faulting jobs (15 R415), settling aborts (12.6, 11 R311), deleting queues (12 R336) and the function reset
(13 R367). -/
namespace Sys2Proof.Machine

/-- Counter of a fault code (18 Table 18.3, 5425). -/
def faultCounter (code : Nat) : Nat :=
  if code < 0x8000 then 1 else if code ≤ 0x8002 then 2 else min 10 (code - 0x8000)

/-- A job faults (15 R415): ENGINE_FAULT with RESULT OPOS, the job closes, the code is shown and counted. -/
def State.jobFault (s : State) (e code : Nat) : State :=
  let en := s.engine e
  match en.holder with
  | none => s
  | some q =>
    let s1 := (s.setObj (ekey e 6) code).count (okey 0x5425 (faultCounter code))
    let s2 := match en.seg with
      | some g => s1.finishData g.cid stEngineFault
      | none => s1
    s2.closeJob e q stEngineFault

/-- The abort of an attached or outstanding write (11 Table 11.2): reply, and the state after it. -/
def State.abortWrite (s : State) (w : Write) : State × Nat :=
  let closedRec : Write → Bool := fun x => decide (x.phase = .recorded)
  let gone (reply : Nat) : State × Nat :=
    let s1 := (s.dropWrite w).uncache w
    let s2 := s1.complete w.cid stAborted 0
    let s3 := s2.settleFlush w.serial stAborted
    (forEach (s3.attachedTo w.serial) (fun a b => b.failOne reply a) s3, reply)
  match w.phase with
  | .attached goal =>
    match s.write goal with
    | some p => if closedRec p then (s, stAbortTooLate) else gone stAbortClean
    | none => (s, stAbortTooLate)
  | .recorded => (s, stAbortTooLate)
  | _ => if w.slots.all (fun x => x.state = .placed) ∧ w.attempts = 0 then gone stAbortClean else gone stAbortPartial

/-- Settles one outstanding command as an abort does (12 Table 12.8): the state after it and the reply. -/
def State.settle (s : State) (cid : Nat) : State × Nat :=
  match s.cmd cid with
  | none => (s, stAbortNoTag)
  | some c =>
    let mastOf := c.pf 68 64
    let readEnd : State × Nat :=
      let s1 := s.endData cid stAborted
      let s2 := if c.opc = 0x05 ∧ c.jobOver = false then s1.closeJob (c.pf 77 72) c.sq stAborted else s1
      (s2.dropOrphans mastOf, if c.posted = 0 then stAbortClean else stAbortPartial)
    match c.stage with
    | .write n =>
      match s.write n with
      | some w => s.abortWrite w
      | none => (s, stAbortTooLate)
    | .flush => (s.complete cid stAborted 0, stAbortClean)
    | .dictBuffer => (s, stAbortTooLate)
    | .action => (s, stAbortTooLate)
    | .mounting => (s, stAbortTooLate)
    | .furling => (s, stAbortTooLate)
    | .flushReads => if c.opc = 0x06 then (s, stAbortTooLate) else readEnd
    | _ => readEnd

/-- Outstanding READs and JOBs that name a mast complete with `st`; RESULT counts the bytes posted (12 R340, 14 R394). -/
def State.endReads (s : State) (m st : Nat) : State :=
  let hit := s.host.cmds.filter (fun c => decide (c.mast = some m ∧ (c.opc = 0x01 ∨ c.opc = 0x05)))
  (forEach hit (fun c a => a.stopRead c st) s).dropOrphans m

/-- Every read and write on a mast fails with a status (09 R230). -/
def State.failDisc (s : State) (m st : Nat) : State := (((s.endReads m st).dropSectors m stMediaUnavailable).failPending m st).failUnaccepted m st

/-- Closes every open job of an SQ (15 R416). -/
def State.closeJobsOf (s : State) (q : Nat) : State :=
  forEach ((List.range 64).filter (fun e => (s.engine e).openJobs.contains q)) (fun e a => a.closeJob e q stAborted) s

/-- A number of no queue: a slot read whose SQ is gone fetches for it. -/
def noQueue : Nat := 4096

/-- A command that was stopped and still flushes or fences what it has posted (13 R358, 14 R397). -/
def Cmd.flushing (c : Cmd) : Bool := decide (c.opc ≠ 0x06 ∧ (c.stage = .flushReads ∨ c.stage = .fence))

/-- The commands of SQ `q` that were stopped and whose data is still being flushed. -/
def State.flushingOf (s : State) (q : Nat) : List Nat := (s.host.cmds.filter (fun c => decide (c.sq = q) && c.flushing)).map (·.cid)

/-- Stops SQ `q` (12 R336): settles its commands in arrival order and hands what runs on to the admin EQ; those stopped that still flush
what they posted stay with the queue's bound EQ. -/
def State.stopSq (s : State) (q : Nat) : State :=
  let s1 := (forEach (s.host.cmds.filter (fun c => decide (c.sq = q))) (fun c a => (a.settle c.cid).1) s).closeJobsOf q
  let s2 := s1.setCmds (s1.host.cmds.map (fun c => if c.sq = q ∧ c.flushing = false then { c with orphan := true } else c))
  let s3 := s2.setWrites (s2.media.writes.map (fun w => if w.sq = q then { w with orphan := true } else w))
  let gone : HostRead → Bool := fun r => match r.purpose with
    | .sqSlots p _ => decide (p = q)
    | _ => false
  let off : EpState → EpState := fun p => { p with abandoned := p.abandoned.filter (fun r => !gone r) }
  let h := s3.host
  let reads := h.reads.map (fun r => if gone r then { r with purpose := .sqSlots noQueue 1 } else r)
  { s3 with host := { h with ha := off h.ha, hb := off h.hb, reads := reads } }.setSq q { s3.sq q with halted := true, fetched := [], epochs := [] }

/-- Deletes SQ `q` at once (12 R336): what still flushes runs on without it. -/
def State.deleteSq (s : State) (q : Nat) : State :=
  let s1 := s.stopSq q
  ((s1.setCmds (s1.host.cmds.map (fun c => if c.sq = q then { c with orphan := true } else c))).setSq q {}).showQueues

/-- Every queue of an owner goes without a record: what runs on is mute (13 R367). -/
def State.dropQueues (s : State) (o : Owner) : State :=
  let mine := s.host.sqs.filter (fun p => decide (p.2.owner = o))
  let s1 := s.setCmds (s.host.cmds.map (fun c => if c.owner = o then { c with mute := true } else c))
  let s2 := s1.setWrites (s1.media.writes.map (fun w => if w.owner = o then { w with mute := true } else w))
  let s3 := forEach (s2.host.cmds.filter (fun c => decide (c.owner = o))) (fun c a =>
    match c.stage with
    | .write n =>
      match a.write n with
      | some w => if w.accepted then a else (a.settle c.cid).1
      | none => a
    | .dictBuffer => a.complete c.cid stTransferError 0
    | .scatter => a.complete c.cid stAborted 0
    | .flushReads => a.complete c.cid stAborted c.posted
    | _ => (a.settle c.cid).1) s2
  let s4 := s3.setCmds (s3.host.cmds.map (fun c => if c.owner = o then { c with orphan := true } else c))
  let s5 := s4.setWrites (s4.media.writes.map (fun w => if w.owner = o then { w with orphan := true } else w))
  let s6 := forEach mine (fun p a => (a.closeJobsOf p.1).setSq p.1 {}) s5
  let s7 := forEach (s6.host.eqs.filter (fun p => decide (p.2.owner = o))) (fun p a => (a.lostRecords p.2.waiting.length o).setEq p.1 {}) s6
  s7.showQueues

/-- The function reset (13 R367). -/
def State.functionReset (s : State) (f : Fn) : State :=
  let s1 := s.dropQueues (.fn f)
  let mine := s1.host.reads.filter (fun r => decide (r.ep = f.ep ∧ r.fn = f.fn))
  let s2 := { s1 with host := { s1.host with
    reads := s1.host.reads.filter (fun r => !(decide (r.ep = f.ep ∧ r.fn = f.fn)))
    withheld := s1.host.withheld ++ mine.map (fun (r : HostRead) => (r.ep, r.tag, s1.now + 2 * r.limit)) } }
  let p := s2.ep f.ep
  let s3 := s2.setEp f.ep { p with abandoned := p.abandoned.filter (fun r => r.fn ≠ f.fn) }
  s3.setFnr f {}

/-- The functions of an endpoint that exist: the PF and 64 VFs (13 R350). -/
def epFns (e : Endpoint) : List Fn := (List.range 65).map (fun n => ⟨e, n⟩)

/-- Function reset of several functions. -/
def State.functionResets (s : State) (l : List Fn) : State := forEach l (fun f a => a.functionReset f) s

end Sys2Proof.Machine
end

