-- ==== Sys2Proof/Machine/Retire.lean ====
section
/-! DEFINITION. Saves of the NV store (17.4), failures and retirement of resources (18.3, 18.4). -/
namespace Sys2Proof.Machine

/-- Keys of the retirement records (17 R471), ascending. -/
def retirementKeys : List Nat :=
  [5, 6, 7, 8].map (fun p => okey 0x2301 p) ++ [okey 0x2400 3, okey 0x2410 2] ++
  (List.range 16).flatMap (fun c => (List.range 17).map (fun i => okey (0x2440 + c) (i + 1))) ++
  [okey 0x2542 2, okey 0x2630 1, okey 0x2630 2, okey 0x2630 3, okey 0x2660 2, okey 0x2660 3] ++
  (List.range 32).flatMap (fun m => [mkey m 8 4, mkey m 8 5, mkey m 0x38 8, mkey m 0x58 1, mkey m 0x58 2, mkey m 0x58 3])

/-- A key holds a value saved as RWS (17 R457). -/
def isRws (k : Nat) : Bool :=
  match rowOfKey k with
  | some r => decide (r.acc = .rws)
  | none => false

/-- A key of a servo block's record, M+21 to M+2D: saved by its active value (04 R129). -/
def servoKey (k : Nat) : Bool :=
  decide (0x3000 ≤ k / 256 ∧ k / 256 < 0x4000 ∧ 0x21 ≤ (k / 256 - 0x3000) % 0x80 ∧ (k / 256 - 0x3000) % 0x80 ≤ 0x2D)

/-- The body of a bank (17 R471): RWS values that differ from their defaults and every retirement record. -/
def State.snapshot (s : State) (seq : Nat) : Bank :=
  let active := s.masts.flatMap (fun (p : Nat × Mast) => p.2.servo.act.map (fun v => (mkey p.1 (v.1 / 256) (v.1 % 256), v.2)))
  let rws := s.objs.filter (fun p => isRws p.1 && !servoKey p.1) ++ active.filter (fun p => isRws p.1)
  let all := sortBy (fun a b => decide (a.1 ≤ b.1)) (rws ++ retirementKeys.map (fun k => (k, s.obj k)))
  { seq := seq, recs := all, blobs := s.blobs.filter (fun p => isRws p.1) }

/-- Starts a save (17 R472) into the bank that does not hold the bank in force; that bank is erased. -/
def State.beginSave (s : State) (w : List Waiter) : State :=
  let inForce := s.objN (okey 0x2700 2)
  let target := if inForce = 0 then 1 else 0
  let seq := if inForce = 255 then 1 else (s.objN (okey 0x2700 3) + 1) % 2 ^ 32
  let b := s.snapshot seq
  let nv := { s.nv with
    save := some ⟨target, b, false⟩, waiters := w, uncovered := none,
    bankA := if target = 0 then none else s.nv.bankA, bankB := if target = 1 then none else s.nv.bankB }
  (({ s with nv := nv }).setObj (okey 0x2700 1) 1).setObj (okey 0x2700 5) 0

/-- Asks for a save (17 R474): at once, or the next one while one runs. -/
def State.requestSave (s : State) (w : List Waiter) : State :=
  match s.nv.save with
  | none => s.beginSave w
  | some _ => { s with nv := { s.nv with next := some ((s.nv.next.getD []) ++ w) } }

/-- Fault classes, numbered as Table 18.2a codes them. -/
inductive FaultClass where
  | lane | dataSail | servoSail | positioning | sled | mast | decoder | engine | channel | way | gorcyLane | endpoint | shroud
  deriving DecidableEq, Repr

def classCode : FaultClass → Nat
  | .lane => 1 | .dataSail => 2 | .servoSail => 3 | .positioning => 4 | .sled => 5 | .mast => 6 | .decoder => 7
  | .engine => 8 | .channel => 9 | .way => 10 | .gorcyLane => 11 | .endpoint => 12 | .shroud => 13

/-- Keys of N and W of a class (18 Table 18.2). -/
def classNW (c : FaultClass) (m : Nat) : Nat × Nat := match c with
  | .lane => (mkey m 0x0A 1, mkey m 0x0A 2)
  | .dataSail => (okey 0x2620 1, okey 0x2620 2)
  | .servoSail => (okey 0x2621 1, okey 0x2621 2)
  | .positioning => (okey 0x2622 1, okey 0x2622 2)
  | .sled => (okey 0x2623 1, okey 0x2623 2)
  | .mast => (okey 0x2624 1, okey 0x2624 2)
  | .decoder => (okey 0x2625 1, okey 0x2625 2)
  | .engine => (okey 0x2626 1, okey 0x2626 2)
  | .channel => (okey 0x2400 6, okey 0x2400 7)
  | .way => (okey 0x2410 9, okey 0x2410 0x0A)
  | .gorcyLane => (okey 0x2301 9, okey 0x2301 0x0A)
  | .endpoint => (okey 0x2627 1, okey 0x2627 2)
  | .shroud => (okey 0x2628 1, okey 0x2628 2)

def failKey (c : FaultClass) (m u : Nat) : Nat := classCode c * 65536 + m * 256 + u

/-- Notes one failure of a resource; true when it is then permanently faulty: N within W (18 R489, 00 R24). -/
def State.noteFailure (s : State) (c : FaultClass) (m u : Nat) : State × Bool :=
  let k := failKey c m u
  let (kn, kw) := classNW c m
  let w := ms (s.objN kw)
  let l := (s.now :: tblGet (fun _ => []) s.avail.fails k).filter (fun t => s.now < t + w)
  ({ s with avail := { s.avail with fails := tblPut (fun _ => []) k l s.avail.fails } }, decide (s.objN kn ≤ l.length))

/-- Failures before a clear no longer count (18 R491). -/
def State.forgetFailures (s : State) (c : FaultClass) (m u : Nat) : State :=
  { s with avail := { s.avail with fails := tblPut (fun _ => []) (failKey c m u) [] s.avail.fails } }

/-- The RETIRED record (18 R541). -/
def State.retiredEvent (s : State) (c : FaultClass) (level res arg : Nat) : State :=
  s.publish 1 (s.formRec 0x21 level res 0 0 (classCode c + arg * 2 ^ 64))

/-- Inbound lane that carries a data sail (03 Table 3.3, 18 R494). -/
def laneOfSail (k : Nat) : Nat := if k < 60 then k / 10 else 6

/-- A data sail is healthy: neither it nor its lane group is retired (18 R492, R494). -/
def State.sailHealthy (s : State) (m k : Nat) : Bool :=
  !(s.maskBit (mkey m 0x58 1) k) && !(s.maskBit (mkey m 8 4) (laneOfSail k)) &&
  !(decide (k < 10) && s.maskBit (mkey m 8 4) 6)

/-- Length of the run of healthy sails starting at k. -/
def State.runFrom (s : State) (m : Nat) : Nat → Nat → Nat
  | 0, _ => 0
  | n + 1, k => if k < 64 ∧ s.sailHealthy m k = true then 1 + s.runFrom m n (k + 1) else 0

/-- The active window (18 R492): the longest run, the first of equal ones. -/
def State.windowOf (s : State) (m : Nat) : Nat × Nat :=
  (List.range 64).foldl (fun best k => let n := s.runFrom m 64 k; if n > best.2 then (k, n) else best) (0, 0)

/-- Brings the window in force: at a placement (18 R493) and when the mast comes up. -/
def State.showWindow (s : State) (m : Nat) : State :=
  let w := s.windowOf m
  s.setObj (mkey m 0x58 4) (w.1 * 256 + w.2 : Nat)

/-- Attempts with slots burned and not all verified are abandoned (11 Table 11.3). -/
def State.abandonAttempts (s : State) (m : Nat) : State :=
  let hit := s.media.writes.filter (fun w => decide (w.mast = m ∧ w.phase = .burning) &&
    w.slots.any (fun x => x.state ≠ .placed) && !(w.slots.all (fun x => x.state = .passed)))
  forEach hit (fun w a => a.abandonWrite w) s

/-- A retired mast's domain is gated (19 Table 19.1): no order runs, no enable is held, a disc that the drive turned coasts, and the
sled is unreferenced and off (06 R172, 07 R189). -/
def State.gateMast (s : State) (m : Nat) : State :=
  let st := s.objN (mkey m 0x38 1)
  let s1 := if (s.mast m).opt.seqn = .none then s else (s.setObj (mkey m 0x30 2) 0).setObj (mkey m 0x30 8) 3
  let s2 := s1.updMast m (fun x => { x with
    opt := { x.opt with
      seqn := .none, queued := [], within := none, endDue := false, lsrEn := false, wrEn := false, spnEn := false, sldEn := false }
    servo := { x.servo with held := [] }
    drive := { x.drive with chp := 0, chpAt := none, chpHigh := none, chpBad := 0, atTarget := 0, startDue := false, furlAt := none }
    sled := { x.sled with
      referenced := false, refSet := false, xNext := none, hasNext := false, stop := false, a := 0, num := 640000000 } })
  ((s2.setObj (mkey m 0x38 1) (if 4 ≤ st ∧ st ≤ 6 then 5 else 0)).setObj (mkey m 0x3E 1) 0).setObj (mkey m 0x3E 4) 0

/-- A mast is retired (18 R489, R494, 12 R339): pending writes fail MEDIA_UNAVAILABLE, commands fail over, its domain is
gated. -/
def State.retireMast (s : State) (m : Nat) : State :=
  if s.maskBit (okey 0x2630 1) m then s
  else
    let s1 := ((s.setMaskBit (okey 0x2630 1) m).setMastState m .retired).retiredEvent .mast 3 m 0
    let s2 := (s1.failPending m stMediaUnavailable).failOver m stMediaUnavailable
    ((s2.gateMast m).setObj (mkey m 8 1) 0).requestSave []

/-- The mast enters the faulted state, which counts one failure of the mast class (18 Table 18.2, 12 R339). -/
def State.faultMast (s : State) (m : Nat) : State :=
  if (s.mast m).st = .faulted then s.updMast m (fun x => { x with link := { x.link with sledOnly := false } })
  else if (s.mast m).st = .retired then s
  else
    let s0 := s.updMast m (fun x => { x with
      trace := { x.trace with events := x.trace.events ||| 32 }, link := { x.link with sledOnly := false } })
    let s1 := (s0.setMastState m .faulted).count (ckey m 0x11 3)
    let s2 := (s1.abandonAttempts m).failOver m stMastFaulted
    let (s3, perm) := s2.noteFailure .mast m 0
    if perm then s3.retireMast m else s3

/-- What a retired lane or sail does to its mast (18 R494): an empty window, both servo sails retired, no unretired outbound
lane or no telemetry lane retires the mast. -/
def State.checkMast (s : State) (m : Nat) : State :=
  let noOut := decide (s.objN (mkey m 8 5) % 4 = 3)
  let noTel := s.maskBit (mkey m 8 4) 6 && s.maskBit (mkey m 8 4) 0
  let servo := decide (s.objN (mkey m 0x58 2) % 4 = 3)
  if noOut || noTel || servo || decide ((s.windowOf m).2 = 0) then s.retireMast m else s

/-- Positioning order shown in M+30:02 (05 Table 5.8); a calibration shows 5. -/
def orderCode : Seqn → Nat
  | .none => 0 | .acquire .. => 1 | .jump .. => 2 | .seek .. => 3 | .layer .. => 4 | .homing .. => 3

/-- A calibration's frames leave the sails: it reads no more. -/
def SailSt.dropCal (x : SailSt) : SailSt := { x with frames := x.frames.filter (fun f => f.sid ≠ calSid), reload := true }

/-- Restores what a calibration searched, and ends it as a fail (05 R153, R154; 08 R220, R223): M+45:06 shows the sails that failed. -/
def State.failCalFor (s : State) (m : Nat) (bad : List Nat) : State :=
  match (s.mast m).opt.cal with
  | none => s
  | some c =>
    let out := if c.kind = .loop then mkey m 0x35 2 else mkey m 0x45 2
    let s1 := forEach c.saved (fun p a => a.setObj p.1 p.2) s
    let s2 := s1.updMast m (fun x => { x with
      opt := { x.opt with cal := none, hsa := if c.kind = .loop then c.hsaWas else x.opt.hsa }
      sails := x.sails.map (fun p => (p.1, p.2.dropCal))
      servo := { x.servo with targets := c.tgts.foldl (fun l p => tblPut (fun _ => 0) p.1 p.2 l) x.servo.targets } })
    let s3 := if c.kind = .channel then s2.setObj (mkey m 0x45 6) (bad.foldl (fun a k => a ||| 2 ^ k) 0 : Nat) else s2
    ((s3.setObj (mkey m 0x30 2) (orderCode (s3.mast m).opt.seqn : Nat)).setObj out 3).count (ckey m 5 12)

/-- A calibration ends as a fail for a reason of the whole mast. -/
def State.failCal (s : State) (m : Nat) : State := s.failCalFor m []

/-- A calibration that measures a sail now retired ends as a fail (08 R219). -/
def State.calHealth (s : State) (m : Nat) : State :=
  match (s.mast m).opt.cal with
  | none => s
  | some c =>
    let bad := c.sails.filter (fun k => !s.sailHealthy m k)
    if bad = [] then s else s.failCalFor m bad

/-- Retires a mast-link lane; `code` is 0-6 inbound, 8-9 outbound (18 R541). -/
def State.retireLane (s : State) (m code : Nat) : State :=
  let s1 := if code < 8 then s.setMaskBit (mkey m 8 4) code else s.setMaskBit (mkey m 8 5) (code - 8)
  (((s1.calHealth m).retiredEvent .lane 3 m code).requestSave []).checkMast m

/-- Retires data sail k. -/
def State.retireSail (s : State) (m k : Nat) : State :=
  ((((s.setMaskBit (mkey m 0x58 1) k).calHealth m).retiredEvent .dataSail 1 m k).requestSave []).checkMast m

/-- The active servo sail changes (05 R137): M+30:01 bit 5, the focus target of that sail, one count. -/
def State.switchSail (s : State) (m : Nat) (v1 : Bool) : State :=
  let k := mkey m 0x30 1
  if s.maskBit k 5 = v1 then s
  else
    let s1 := if v1 then s.setMaskBit k 5 else s.clearMaskBit k 5
    let foc := s1.obj (mkey m 0x30 (if v1 then 9 else 7))
    (s1.updMast m (fun x => { x with servo := { x.servo with targets := tblPut (fun _ => 0) 1 foc x.servo.targets } })).count
      (ckey m 5 6)

/-- Retires servo sail 0 or 1: with V0 retired V1 becomes active for good (05 R137). -/
def State.retireServoSail (s : State) (m v : Nat) : State :=
  let s1 := ((s.setMaskBit (mkey m 0x58 2) v).retiredEvent .servoSail 1 m (64 + v)).requestSave []
  (s1.switchSail m (decide (v = 0))).checkMast m

/-- A positioning resource found permanently faulty retires its mast (18 Table 18.2). -/
def State.retirePositioning (s : State) (m : Nat) : State := (s.retiredEvent .positioning 3 m 0).retireMast m

/-- Retires a sled, once: the mast becomes faulted (07 R192). -/
def State.retireSled (s : State) (m : Nat) : State :=
  if s.obj (mkey m 0x58 3) ≠ 0 then s
  else
  let s1 := ((s.setObj (mkey m 0x58 3) 1).retiredEvent .sled 2 m 0).requestSave []
  if (s.mast m).st = .faulted then s1
  else (s1.faultMast m).updMast m (fun x => { x with link := { x.link with sledOnly := decide (x.st = .faulted) } })

/-- One failure of a class at a mast, with its retirement when permanently faulty. -/
def State.failPositioning (s : State) (m : Nat) : State :=
  let (s1, p) := (s.count (ckey m 0x11 1)).noteFailure .positioning m 0
  if p then s1.retirePositioning m else s1
def State.failSail (s : State) (m k : Nat) : State :=
  let (s1, p) := (s.count (ckey m 0x10 (k + 1))).noteFailure .dataSail m k
  if p then s1.retireSail m k else s1
def State.failServoSail (s : State) (m v : Nat) : State :=
  let (s1, p) := (s.count (ckey m 0x10 (65 + v))).noteFailure .servoSail m v
  if p then s1.retireServoSail m v else s1
def State.failSled (s : State) (m : Nat) : State :=
  let (s1, p) := (s.count (ckey m 0x11 2)).noteFailure .sled m 0
  if p then s1.retireSled m else s1
/-- One failure of a mast-link lane (03 R105). -/
def State.failLane (s : State) (m code : Nat) : State :=
  let (s1, p) := (s.count (ckey m 2 (if code < 8 then code + 1 else code))).noteFailure .lane m code
  if p then s1.retireLane m code else s1

/-- Commands that need the disc complete with MEDIA_UNAVAILABLE once no decoder is healthy (18 R480). -/
def State.noDecoders (s : State) : State :=
  if s.decodersHealthy ≠ 0 then s
  else
    let hit := s.host.cmds.filter (fun c => c.need ≠ [] && (decide (c.opc = 0x01) || decide (c.opc = 0x05)))
    let s1 := forEach hit (fun c a => a.stopRead c stMediaUnavailable) s
    forEach (List.range 32) (fun m a => a.dropOrphans m) s1

/-- A codeword leaves its decoder undecoded (10 R281): its frame is read again, which is counted; a calibration's too, while it runs. -/
def State.restartCodeword (s : State) (c : Codeword) : State :=
  if c.sid = calSid then
    (s.updMast c.mast (fun x => { x with opt := { x.opt with
      cal := x.opt.cal.map (fun k => { k with again := k.again ++ [(c.sail, c.slot, c.str)] }) } })).count (ckey c.mast 0x0C 8)
  else match s.sector c.sid with
    | none => s
    | some x => (s.rereadSector c.sid).count (ckey x.mast 0x0C 8)

/-- Retires a decoder (10 R281, R282): its current codeword is read again, a waiting one goes back
to the queue ahead of those that became ready after it. -/
def State.retireDecoder (s : State) (d : Nat) : State :=
  if s.decoderRetired d then s
  else
    let bufs := (s.decoder d).bufs
    let s1 := if d < 64 then s.setMaskBit (okey 0x2660 2) d else s.setMaskBit (okey 0x2660 3) (d - 64)
    let s2 := (s1.setObj (okey 0x2660 1) (s1.decodersHealthy : Nat)).setDecoder d {}
    let s3 := match bufs with
      | c :: rest =>
        let a := s2.restartCodeword c
        { a with media := { a.media with queue := sortBy (fun x y => decide (x.came ≤ y.came)) (rest ++ a.media.queue) } }
      | [] => s2
    ((s3.retiredEvent .decoder 4 d 0).requestSave []).noDecoders

/-- One failure of a decoder (10 R281). -/
def State.failDecoder (s : State) (d : Nat) : State :=
  let (s1, p) := (s.count (okey 0x5423 (d + 1))).noteFailure .decoder 0 d
  if p then s1.retireDecoder d else s1

/-- Healthy engines, 2542:01. -/
def State.showEngines (s : State) : State :=
  s.setObj (okey 0x2542 1) (64 - popCount (s.objN (okey 0x2542 2)) 64 : Nat)

/-- Retires a stream engine (18 Table 18.2): a job that holds it faults with 0x8007 (15 R415), segments that wait for it find no engine
(R410). -/
def State.retireEngine (s : State) (e : Nat) : State :=
  let s0 := ((s.jobFault e 0x8007).setMaskBit (okey 0x2542 2) e).showEngines
  let s1 := forEach ((s0.engine e).waiting.filterMap s0.cmd) (fun c a => a.failCmd c stEngineUnavailable) s0
  ((s1.showEngine e).retiredEvent .engine 4 e 0).requestSave []

/-- One failure of a stream engine (15 R415, R420). -/
def State.failEngine (s : State) (e : Nat) : State :=
  let (s1, p) := (s.count (okey 0x5424 (e + 1))).noteFailure .engine 0 e
  if p then s1.retireEngine e else s1

/-- Drops every line of the ways satisfying `p` (16 R445, R451). -/
def State.dropWays (s : State) (p : Nat → Bool) : State :=
  { s with media := { s.media with lines := tblDrop (fun k => p (k % 16)) s.media.lines } }

/-- Retires a cache way (16 R451). -/
def State.retireWay (s : State) (w : Nat) : State :=
  (((s.setMaskBit (okey 0x2410 2) w).dropWays (fun x => decide (x = w))).retiredEvent .way 4 w 0).requestSave []

/-- One failure of a way (16 R451). -/
def State.failWay (s : State) (w : Nat) : State :=
  let (s1, p) := (s.count (okey 0x542E (w + 1))).noteFailure .way 0 w
  if p then s1.retireWay w else s1

/-- Lowest healthy channel of channel c's group whose rebuild area is free (16 R438). -/
def State.rebuildPlace (s : State) (c : Nat) : Option Nat :=
  ((List.range 8).map (fun i => c / 8 * 8 + i)).find? (fun d =>
    s.maskBit (okey 0x2400 2) d && !(s.media.rebuilds.any (fun r => r.1 = d)))

/-- Shows the shares with fewer than two copies, 2400:09. -/
def State.showShares (s : State) : State :=
  s.setObj (okey 0x2400 9) (((List.range 8).map (fun k => if s.copyHeld 0 k && s.copyHeld 1 k then 0 else 2 ^ k)).foldl (· + ·) 0 : Nat)

/-- The duplicate tables of a share's SQs from one on become empty (16 R439): `n` of them, q = 8 i + k. -/
def State.dupsLost (s0 : State) (k i n : Nat) : State :=
  let s := s0.issueMaint 2 2 0
  { s with host := { s.host with sqs := s.host.sqs.map (fun p =>
    if p.1 % 8 = k ∧ i ≤ p.1 / 8 ∧ p.1 / 8 < i + n then (p.1, { p.2 with dups := [] }) else p) } }

/-- A media description table reads as not valid (16 R439). -/
def State.tableLost (s : State) (t : Nat) : State := (s.issueMaint 2 4 0).setObj (tkey t 0 1) 0

/-- The lease table is lost: it is refilled from the link hellos (16 R439). -/
def State.leasesLost (s0 : State) : State :=
  let s := s0.issueMaint 2 3 0
  { s with fabric := { s.fabric with leases := [] } }

/-- Both copies of part of the Extent Map are lost (16 R439): its cache lines are dropped, and every mounted mast's entries leave it
until they are built afresh from its disc's log; those reserved for pending writes stay. -/
def State.loseMap (s : State) : State :=
  let ms := (List.range 32).filter (fun m => (s.tableOf m).isSome)
  let s1 := forEach (s.media.map.filter (fun p => decide (meState p.2 = 2) && ms.contains (meMast p.2)))
    (fun p a => a.mapPut p.1 (p.2 + 1)) (s.issueMaint 2 1 0)
  forEach (ms.filter (fun m => !s1.mounting m)) (fun m a => a.logAnew m) { s1 with media := { s1.media with mapLost := ms } }

/-- Both copies of a share are lost (16 R439). -/
def State.shareLost (s : State) (k : Nat) : State :=
  forEach (List.range 16) (fun t a => a.tableLost t) (s.loseMap.dupsLost k 0 512).leasesLost

/-- Pool capacity, staging limit and read cache in force for the healthy channels (16 R433). -/
def State.showPool (s : State) : State :=
  let n := popCount (s.objN (okey 0x2400 2)) 16
  let cap := n * (s.objN (okey 0x2400 4) * 1024 - 128)
  let win := s.objN (okey 0x2542 5)
  let lim := min s.media.stageLim (cap - win)
  let cache := cap - win - lim
  let s1 := ((s.setObj (okey 0x2400 5) cap).setObj (okey 0x2401 3) lim).setObj (okey 0x2401 4) cache
  let keep := s1.media.retained.drop (s1.media.retained.length - cache * 256)
  let s2 := { s1 with media := { s1.media with retained := keep } }
  s2.showFree

/-- The first page of channel c beyond those of every engine's window. -/
def State.nextWindowPage (s : State) (c : Nat) : Nat :=
  s.eng.engines.foldl (fun b x => x.2.pages.foldl (fun d p => if p.1 = c then max d (p.2 + 1) else d) b) 0

/-- `n` pages for windows from the channels `ch` in rotation: channel and page of each (16 R433). -/
def State.windowRun (s : State) (ch : List Nat) (n : Nat) : List (Nat × Nat) :=
  let base := ch.map (fun c => (c, s.nextWindowPage c))
  (List.range (if ch = [] then 0 else n)).map (fun j =>
    let b := base.getD ((s.media.nextPage + j) % max 1 ch.length) (0, 0)
    (b.1, b.2 + j / max 1 ch.length))

/-- Pages of an engine's shared window (15 R417). -/
def State.windowPages (s : State) (e : Nat) : Nat := s.objN (ekey e 3) * 256

/-- An engine's window is given its pages, at its assignment or when it is resized (16 R433, 15 R417). -/
def State.givePages (s : State) (e : Nat) : State :=
  let s1 := s.setEngine e { s.engine e with pages := [] }
  let n := s.windowPages e
  let s2 := s1.setEngine e { s1.engine e with pages := s1.windowRun s1.channels n }
  { s2 with media := { s2.media with nextPage := s2.media.nextPage + n } }

/-- Page j of an engine's window is replaced by a zeroed page (16 Table 16.3). -/
def State.zeroWindowPage (s : State) (e j : Nat) : State :=
  let en := s.engine e
  s.setEngine e { en with window := tblDrop (fun a => decide (a / 4096 = j)) en.window }

/-- A channel's window pages are replaced by zeroed pages; a job holding an affected engine faults with 0x8006 (Table 16.3). -/
def State.windowsLost (s : State) (c : Nat) : State :=
  forEach (List.range 64) (fun e a =>
    let en := a.engine e
    let n := (en.pages.filter (fun p => p.1 = c)).length
    if n = 0 then a
    else
      let fresh := a.windowRun (s.channels.filter (· ≠ c)) n
      let pages := (en.pages.foldl (fun (x : List (Nat × Nat) × List (Nat × Nat)) p =>
        if p.1 = c then (x.1 ++ [x.2.headD (0, 0)], x.2.tail) else (x.1 ++ [p], x.2)) ([], fresh)).1
      let b := { a with media := { a.media with nextPage := a.media.nextPage + n } }
      (b.setEngine e { en with
        pages := pages, window := tblDrop (fun x => decide ((en.pages.getD (x / 4096) (0, 0)).1 = c)) en.window }).jobFault e 0x8006) s

/-- What a retired channel does to the shares it held and to its pages (16 R438, Table 16.3). -/
def State.channelLost (s : State) (c : Nat) : State :=
  let home := c % 8
  let held := (if s.maskBit (okey 0x2400 2) c && !s.media.homeCopy.contains c then [home] else []) ++
    (s.media.rebuilds.filter (fun r => r.1 = c)).map (fun r => r.2.1)
  let s0 := if s.maskBit (okey 0x2400 2) c then s.windowsLost c else s
  let s1 := s0.clearMaskBit (okey 0x2400 2) c
  let s2 := { s1 with media := { s1.media with
    rebuilds := s1.media.rebuilds.filter (fun r => r.1 ≠ c)
    homeCopy := s1.media.homeCopy.filter (· ≠ c), filling := s1.media.filling.filter (· ≠ c)
    retained := s1.media.retained.filter (fun r => r.chan ≠ c) } }
  let s3 := forEach held (fun k a =>
    if !a.copyHeld 0 k && !a.copyHeld 1 k then a.shareLost k
    else match a.rebuildPlace c with
    | some d => { a with media := { a.media with rebuilds := a.media.rebuilds ++ [(d, k, false)] } }
    | none => (a.count (okey 0x542C 2)).condition 0x0006 4 0 k) s2
  let hitWrites := s3.media.writes.filter (fun w => w.chans.contains c)
  (forEach hitWrites (fun w a => a.failWrite w.serial stMemoryError) s3.showShares).showPool

/-- Retires a memory channel (16 R436). -/
def State.retireChannel (s : State) (c : Nat) : State :=
  if s.maskBit (okey 0x2400 3) c then s
  else (((s.setMaskBit (okey 0x2400 3) c).channelLost c).retiredEvent .channel 4 c 0).requestSave []

/-- One failure of a memory channel (16 R436). -/
def State.failChannel (s : State) (c : Nat) : State :=
  let (s1, p) := s.noteFailure .channel 0 c
  if p then s1.retireChannel c else s1

/-- A port's state from its lanes (14 R373, Table 14.6): a port in training or down stays so until it comes up, a port without
lanes goes down. -/
def State.showPort (s : State) (p : Nat) : State :=
  let po := s.port p
  let n := (if po.lane0 then 1 else 0) + (if po.lane1 then 1 else 0)
  let k := okey 0x2301 (p + 1)
  let cur := s.objN k
  if cur = 0 then s
  else if cur = 1 then (if s.objN (okey 0x2301 (5 + p)) % 4 = 3 then s.portOff p else s)
  else if n = 0 then s.portOff p
  else (s.setObj k (if po.miswired then 4 else if n = 1 then 2 else 3) : State).chooseRoot

/-- Retires a Gorcy lane (14 R373). -/
def State.retireGorcyLane (s : State) (p l : Nat) : State :=
  let po := s.port p
  let s1 := s.setPort p (if l = 0 then { po with lane0 := false, lane0Down := none } else { po with lane1 := false, lane1Down := none })
  (((s1.setMaskBit (okey 0x2301 (5 + p)) l).showPort p).retiredEvent .gorcyLane 4 p l).requestSave []

/-- One failure of a Gorcy lane (14 R373, 18 Table 18.3). -/
def State.failGorcyLane (s : State) (p l : Nat) : State :=
  let (s1, q) := (s.count (okey 0x5428 (9 + 2 * p + l))).noteFailure .gorcyLane p l
  if q then s1.retireGorcyLane p l else s1

/-- An endpoint's link goes down: link state, rate, width (13 Table 13.9). -/
def State.linkOff (s : State) (e : Endpoint) (st : Nat) : State :=
  let i := 0x2200 + epIx e
  (((s.setObj (okey i 1) st).setObj (okey i 2) 0).setObj (okey i 3) 0).setObj (okey i 4) 0

/-- The tag size that the enables and the link's mode give (13 R363). -/
def State.showTags (s : State) (e : Endpoint) : State :=
  let p := s.ep e
  let flit := decide (128 ≤ s.objN (okey (0x2200 + epIx e) 4))
  s.setObj (okey (0x2200 + epIx e) 5) (if p.tag14 && flit then 14 else if p.tag10 then 10 else 8)

/-- The endpoint's configuration space after a reset. -/
def EpState.configReset (p : EpState) : EpState :=
  { p with devCtl2 := 0, devCtl := 0x2810, vfMaster := [], memSpace := false, busMaster := false, aspmL1 := false, l0pEn := false, l11 := false, l12 := false,
           ltrEn := false, tag10 := false, tag14 := false,
           vfEnable := false, numVFs := 0, d3hot := [], bars := [] }

/-- What an endpoint loses when its PERST, or a retirement, takes it: its configuration space and whatever a hold kept (13 R367,
R369). -/
def EpState.held (p : EpState) : EpState :=
  { p.configReset with
    holds := [], kept := [], waiting := [], abandoned := []
    aerUnc := 0, aerUncMask := 0, aerUncSev := 0x462030, aerCor := 0, aerCorMask := 0xE000, aerLog := none }

/-- Retires an endpoint: it behaves as if its PERST were held (13 R369). -/
def State.retireEndpoint (s : State) (e : Endpoint) : State :=
  let s1 := (s.setMaskBit (okey 0x2630 2) (epIx e)).functionResets (epFns e)
  let s2 := (s1.setEp e (s1.ep e).held).linkOff e 4
  ((s2.showTags e).retiredEvent .endpoint 4 (epIx e) 0).requestSave []

/-- One failure of an endpoint (18 Table 18.2). -/
def State.failEndpoint (s : State) (e : Endpoint) : State :=
  let (s1, p) := s.noteFailure .endpoint 0 (epIx e)
  if p then s1.retireEndpoint e else s1

def shroudIx : Shroud → Nat
  | .a => 0
  | .b => 1
/-- Key of a shroud's state, 2600:03 or 2600:04. -/
def shroudKey (x : Shroud) : Nat := okey 0x2600 (3 + shroudIx x)

/-- Retires a shroud (18 Table 18.2). -/
def State.retireShroud (s : State) (x : Shroud) : State :=
  (((s.setMaskBit (okey 0x2630 3) (shroudIx x)).setObj (shroudKey x) 5).retiredEvent .shroud 4 (shroudIx x) 0).requestSave []

/-- One failure of a shroud (18 R486). -/
def State.failShroud (s : State) (x : Shroud) : State :=
  let (s1, p) := s.noteFailure .shroud 0 (shroudIx x)
  if p then s1.retireShroud x else s1

end Sys2Proof.Machine
end

