-- ==== Sys2Proof/Machine/Mast.lean ====
section
/-! DEFINITION. Named operations over one mast: its parts, its dictionary objects, its front-end registers (03.7) and its targets. -/
namespace Sys2Proof.Machine

/-- Object M+ii:ss of a mast. -/
def State.mo (s : State) (m ii ss : Nat) : Int := s.obj (mkey m ii ss)
/-- Object M+ii:ss as a natural number. -/
def State.moN (s : State) (m ii ss : Nat) : Nat := s.objN (mkey m ii ss)
/-- Sets object M+ii:ss. -/
def State.setMo (s : State) (m ii ss : Nat) (v : Int) : State := s.setObj (mkey m ii ss) v
/-- Counts B+oo:ss. -/
def State.countM (s : State) (m oo ss : Nat) : State := s.count (ckey m oo ss)

/-- The mast clock stands at a tick now (it never runs backward). -/
def State.atTick (s : State) (m tick : Nat) : State :=
  s.updMast m (fun x => if x.tick ≤ tick then { x with tick := tick, tickAt := s.now } else x)
/-- A command of strobe T runs now: `late` ns after the strobe (04 R111, R112; notes/assumptions/139.md). -/
def State.atStrobe (s : State) (m T late : Nat) : State :=
  s.updMast m (fun x => if x.tick ≤ T then { x with tick := T, tickAt := s.now - late } else x)
/-- The mast clock's tick at the present rig time: 16 ticks last 25 ns (notes/assumptions/139.md). -/
def State.tickNow (s : State) (m : Nat) : Nat := (s.mast m).tick + ((s.now - (s.mast m).tickAt) * 16 + 24) / 25
def State.updLink (s : State) (m : Nat) (f : LinkSt → LinkSt) : State := s.updMast m (fun x => { x with link := f x.link })
def State.updServo (s : State) (m : Nat) (f : ServoSt → ServoSt) : State := s.updMast m (fun x => { x with servo := f x.servo })
def State.updOpt (s : State) (m : Nat) (f : OptSt → OptSt) : State := s.updMast m (fun x => { x with opt := f x.opt })
def State.updDrive (s : State) (m : Nat) (f : DriveSt → DriveSt) : State := s.updMast m (fun x => { x with drive := f x.drive })
def State.updSled (s : State) (m : Nat) (f : SledSt → SledSt) : State := s.updMast m (fun x => { x with sled := f x.sled })
def State.link (s : State) (m : Nat) : LinkSt := (s.mast m).link
def State.servo (s : State) (m : Nat) : ServoSt := (s.mast m).servo
def State.opt (s : State) (m : Nat) : OptSt := (s.mast m).opt
def State.drive (s : State) (m : Nat) : DriveSt := (s.mast m).drive
def State.sled (s : State) (m : Nat) : SledSt := (s.mast m).sled

/-- Inbound lane `l`. -/
def LinkSt.lane (x : LinkSt) (l : Nat) : LaneRx := tblGet (fun _ => ({} : LaneRx)) x.lanes l
def LinkSt.setLane (x : LinkSt) (l : Nat) (v : LaneRx) : LinkSt :=
  { x with lanes := tblPut (fun _ => ({} : LaneRx)) l v x.lanes }

/-- Sail `k` of a mast; 64 and 65 are V0 and V1. -/
def State.sail (s : State) (m k : Nat) : SailSt := tblGet (fun _ => ({} : SailSt)) (s.mast m).sails k
def State.setSail (s : State) (m k : Nat) (v : SailSt) : State :=
  s.updMast m (fun x => { x with sails := tblPut (fun _ => ({} : SailSt)) k v x.sails })

/-- A telemetry word of the set in use, as a 16-bit value (03 Table 3.5); 0 before the first set. -/
def State.tw (s : State) (m w : Nat) : Nat := (s.link m).tel.getD w 0
/-- A telemetry word as Q1.15. -/
def State.tq (s : State) (m w : Nat) : Int := toSigned (s.tw m w) 16
/-- The sled encoder count of the set in use. -/
def State.enc (s : State) (m : Nat) : Nat := s.tw m 24 + 65536 * s.tw m 25

/-- V1 is the active servo sail (05 R137), M+30:01 bit 5. -/
def State.v1Active (s : State) (m : Nat) : Bool := s.maskBit (mkey m 0x30 1) 5

/-- The link is up (03 Table 3.14). -/
def State.linkUp (s : State) (m : Nat) : Bool := decide (s.moN m 8 1 = 6)

/-- Outbound lanes in use: healthy, not retired, nor cleared too late for the present training (03 R108, Table 3.13). -/
def State.outLanes (s : State) (m : Nat) : Nat :=
  let r := s.moN m 8 5
  let x := s.link m
  (if !(r.testBit 0) && !x.outDown0 && !(x.lane 8).skip then 1 else 0) +
    (if !(r.testBit 1) && !x.outDown1 && !(x.lane 9).skip then 2 else 0)

/-- Reset value of a front-end register (03 Table 3.7). -/
def regReset (a : Nat) : Nat :=
  if a = 0x180 then 16000 else if a = 0x181 ∨ a = 0x182 then 0x7FFF else if a = 0x184 then 3 else 0

/-- The registers of Table 3.7 other than FCLR, ascending. -/
def regAddrs : List Nat :=
  List.range 0x42 ++ (List.range 0x42).map (fun i => 0x80 + i) ++ (List.range 0x30).map (fun i => 0x100 + i) ++
  (List.range 8).map (fun i => 0x140 + i) ++ (List.range 5).map (fun i => 0x180 + i) ++ (List.range 7).map (fun i => 0x190 + i)

/-- Value of a register in the rig's image: what it last sent (03 R96). -/
def State.regSent (s : State) (m a : Nat) : Nat := tblGet regReset (s.link m).image a

/-- Write slot `k` is in use: it carries the k-th burning sail (03 R97, 11 R299). -/
def State.slotSail (s : State) (m k : Nat) : Option Nat :=
  let w := s.moN m 0x50 3
  if (s.mast m).st = .writing ∧ k < 16 then
    if k < w ∧ (s.outLanes m = 3 ∨ k < 8) then some ((s.window m).1 + k) else none
  else none

/-- The i-th transmitter setting that training tries: post-cursor i div 9, pre-cursor i mod 9 (03 Table 3.7). -/
def txeqCode (i : Nat) : Nat := i / 9 * 16 + i % 9

/-- TXEQ of an inbound lane (03 Table 3.12, step 5): the setting being tried while equalising, else the best one met. -/
def State.txeq (s : State) (m l : Nat) : Nat :=
  let x := (s.link m).lane l
  if s.moN m 8 1 = 3 ∧ x.trial < 81 then txeqCode x.trial else (x.best.map (·.2)).getD 0

/-- The value that a register should hold (03 Table 3.7, 08 R197, 06 R160, 11 R299). -/
def State.regWant (s : State) (m a : Nat) : Nat :=
  let layer := s.moN m 0x30 4
  if a < 0x40 then s.moN m 0x40 (a + 1) % 64
  else if a < 0x42 then 0
  else if 0x80 ≤ a ∧ a < 0xC2 then s.moN m 0x41 (a - 0x80 + 1)
  else if 0x100 ≤ a ∧ a < 0x110 then
    match s.slotSail m (a - 0x100) with
    | some k => 2 ^ 15 + k
    | none => 0
  else if 0x110 ≤ a ∧ a < 0x120 then (if (s.slotSail m (a - 0x110)).isSome then s.moN m 0x55 (layer + 1) else 0)
  else if 0x120 ≤ a ∧ a < 0x130 then (if (s.slotSail m (a - 0x120)).isSome then s.moN m 0x55 (layer + 0x11) else 0)
  else if 0x140 ≤ a ∧ a < 0x148 then fld (s.moN m 0x55 (layer + 0x21)) (8 * (a - 0x140) + 7) (8 * (a - 0x140))
  else if a = 0x180 then (if (s.opt m).spnEn then s.regSent m a else s.moN m 0x38 6)
  else if a = 0x181 then s.moN m 0x39 4
  else if a = 0x182 then 0x7FFF -- no object or rule gives ITRIP's value: it keeps its reset value (notes/assumptions/140.md)
  else if a = 0x183 then s.moN m 8 6
  else if a = 0x184 then s.outLanes m
  else if 0x190 ≤ a ∧ a < 0x197 then s.txeq m (a - 0x190)
  else 0

/-- CRC-16 of a register image over 0x000 to 0x1FF, FCLR as zero (03 R96). -/
def imageCrc (reg : Nat → Nat) : Nat :=
  crc16 ((List.range 0x200).flatMap (fun a => bitsOf (if a = 0x1F0 then 0 else reg a) 16))

/-- RIMG of the rig's own image. -/
def State.ownRimg (s : State) (m : Nat) : Nat := imageCrc (s.regSent m)

/-- The yard's outputs as they stand. -/
def State.outNow (s : State) (m : Nat) : YardOut :=
  let o := s.opt m
  let d := s.drive m
  { foc := o.foc, trk := o.trk, brc := o.brc, hlf := o.hlf, hsa := o.hsa, pwa := d.pwa, pwb := d.pwb, pwc := d.pwc, chp := d.chp
    wrEn := o.wrEn }
/-- The outputs that a frame leaving at a tick carries (04 R111, 05 R140): those before the evaluation from strobe T until T + 384. -/
def State.outAt (s : State) (m tick : Nat) : YardOut :=
  match (s.mast m).outHeld with
  | some (due, o) => if tick < due then o else s.outNow m
  | none => s.outNow m
/-- An evaluation from strobe T begins: frames keep the present outputs until T + 384. -/
def State.holdOut (s : State) (m T : Nat) : State := s.updMast m (fun x => { x with outHeld := some (T + 384, s.outNow m) })

/-- The set-point of a loop: its target r (04 R114). -/
def State.target (s : State) (m b : Nat) : Int := tblGet (fun _ => 0) (s.servo m).targets b
def State.setTarget (s : State) (m b : Nat) (v : Int) : State :=
  s.updServo m (fun x => { x with targets := tblPut (fun _ => 0) b v x.targets })
/-- A loop's feed-forward input. -/
def State.feed (s : State) (m b : Nat) : Int := tblGet (fun _ => 0) (s.servo m).ffs b
def State.setFeed (s : State) (m b : Nat) (v : Int) : State :=
  s.updServo m (fun x => { x with ffs := tblPut (fun _ => 0) b v x.ffs })

/-- The mast reads or writes or tracks: its five loops are locked (05 R139). -/
def MastState.onTrack : MastState → Bool
  | .tracking => true
  | .reading => true
  | .writing => true
  | _ => false

/-- Events of the trace buffer since its last entry (04 R133): bit of TEVENT. -/
def State.traceEvent (s : State) (m bit : Nat) : State :=
  s.updMast m (fun x => { x with trace := { x.trace with events := x.trace.events ||| 2 ^ bit } })

/-- `a` comes no later than `b` in positions modulo 2^32 (08 R198). -/
def posLe (a b : Nat) : Bool := decide ((b + 2 ^ 32 - a % 2 ^ 32) % 2 ^ 32 < 2 ^ 31)
/-- Distance from `a` to `b` modulo 2^32. -/
def posDiff (a b : Nat) : Nat := (b + 2 ^ 32 - a % 2 ^ 32) % 2 ^ 32

/-- NCO phase at a tick in cycles, UQ.48, wraps counted (02 R67). -/
def OptSt.phaseAt (x : OptSt) (tick : Nat) : Nat := x.phi + (tick - x.phiAt) * x.f
/-- The clock-track state that a frame leaving at a tick carries (04 R112): that before the last run until its window has ended. -/
def OptSt.clockAt (x : OptSt) (tick : Nat) : OptSt :=
  match x.clkOld with
  | some (due, phi, phiAt, f) => if tick < due then { x with phi := phi, phiAt := phiAt, f := f } else x
  | none => x
/-- The sample index at a tick (05 R150). -/
def OptSt.indexAt (x : OptSt) (tick : Nat) : Nat := (x.phaseAt tick * x.k / 2 ^ 64 + x.off) % 2 ^ 32

/-- The sample index that the front-end has reached at the present tick. -/
def State.indexNow (s : State) (m : Nat) : Nat := ((s.opt m).clockAt (s.tickNow m)).indexAt (s.tickNow m)

/-- A write stream's last bit has been burned by a sample index: every bit is sent and the index has passed it (03 R98). -/
def WStream.over (x : WStream) (index : Nat) : Bool := decide (x.bits = []) && posLe (x.widx % 2 ^ 32) index

/-- Write streams of a mast that are not yet burned to their end. -/
def State.burnsLeft (s : State) (m : Nat) : List WStream := (s.mast m).streams.filter (fun x => !x.over (s.indexNow m))

/-- Closes the write gate (05 R140): slots that the revolution was still to burn count as failed, a record burn so cut is made again
(11 R303), and verification reads under way are cut short (R302). -/
def State.closeGate (s0 : State) (m : Nat) : State :=
  let s := s0.cutVerify m
  let cut := s.burnsLeft m
  let s1 := s.updMast m (fun x => { x with opt := { x.opt with wrEn := false }, streams := [] })
  forEach cut (fun c a =>
    match c.serial with
    | some w => a.updWrite w (fun y => { y with slots := y.slots.map (fun z =>
        if z.n = c.n ∧ z.state = .burned then { z with state := .failed } else z) })
    | none => a.updMast m (fun x => { x with wr := { x.wr with closed := x.wr.closed.map (fun r =>
        if r.seq = c.n then { r with burnedAt := none } else r) } })) s1

/-- What M+30:02 shows of a running sequence: a jump that corrects a seek is part of the seek (05 R143, R145). -/
def State.orderShown (s : State) (m : Nat) (q : Seqn) : Nat := match q with
  | .jump .. => if (s.opt m).within.isSome then 3 else orderCode q
  | _ => orderCode q
/-- Sets the running sequence and shows it. -/
def State.setSeqn (s : State) (m : Nat) (q : Seqn) : State :=
  (s.updOpt m (fun x => { x with seqn := q })).setMo m 0x30 2 (s.orderShown m q : Nat)

/-- A mast whose loops are not all locked is no longer on track: it must acquire again (05 R139). -/
def State.offTrack (s : State) (m : Nat) : State :=
  if (s.mast m).st.onTrack ∧ (List.range 5).any (fun b => !s.maskBit (mkey m 0x30 1) b) = true then s.setMastState m .spinning else s

/-- One failed seek or jump (05 R145, R147): the seek-failure counter and one failure of the positioning resource. -/
def State.seekFails (s : State) (m : Nat) : State := (((s.countM m 5 9).offTrack m).failPositioning m)

/-- Sled parameters M+3D (07 Table 7.2). -/
def State.sp (s : State) (m i : Nat) : Int := s.mo m 0x3D i
/-- Ticks per second: U of 07 R183. -/
def sledU : Int := 640000000

/-- Phase n, target X, velocity v of the sled (07 Table 7.3). -/
def State.sledN (s : State) (m : Nat) : Int := s.mo m 0x3E 2
def State.sledX (s : State) (m : Nat) : Int := s.mo m 0x3E 3
def State.sledV (s : State) (m : Nat) : Int := s.mo m 0x3E 4

/-- Encoder pitch of the front-end (03 Table 3.11 word 8). -/
def State.encp (s : State) (m : Nat) : Int := s.mo m 9 9

/-- Floor quotient by a divisor that a front-end value forms: 0 where that value is not positive (the spec's divisors are
positive, 02 R75). -/
def quot (n d : Int) : Int := if d ≤ 0 then 0 else n.fdiv d

/-- Microsteps of a distance in encoder counts (07 R187). -/
def State.countsToSteps (s : State) (m : Nat) (q : Int) : Int := s.sp m 3 * quot (q * 256 * s.encp m) (s.sp m 2)
/-- Position x(X) of a phase target (07 R187). -/
def State.posOfPhase (s : State) (m : Nat) (x : Int) : Int :=
  s.sp m 3 * quot ((x - (s.sled m).nIdx) * s.sp m 2) (256 * s.encp m)
/-- A target lies within the travel (07 R182, R187). -/
def State.inTravel (s : State) (m : Nat) (x : Int) : Bool :=
  let p := s.posOfPhase m x
  decide (s.sp m 0x0F ≤ p ∧ p ≤ s.sp m 0x10)
/-- Gives the sled a new target: it takes effect at the next planning evaluation (07 R178). -/
def State.sledTo (s : State) (m : Nat) (x : Int) : State := s.updSled m (fun y => { y with xNext := some x })

/-- A sled target needs a referenced sled and must lie within the travel (07 R182, R187). -/
def State.sledTargetOk (s : State) (m : Nat) (x : Int) : Bool := (s.sled m).referenced && s.inTravel m x

/-- A target write of the shroud as it takes effect (04 R114); a sled order that 07 R182 or R187 rejects fails. -/
def State.applyTarget (s : State) (m : Nat) : YardCmd → State
  | .target b v => if b = 11 then s.setMo m 0x38 0x0B v else s.setTarget m b v
  | .feedForward b v => s.setFeed m b v
  | .writeGate on => s.updOpt m (fun x => { x with wrEn := on })
  | .sledTarget x => if s.sledTargetOk m x then s.sledTo m x else s.seekFails m

/-- Ends a positioning order with a result (05 R143, Table 5.8): held targets apply in arrival order, and every sail loads its
start set at its next frame (08 R210). -/
def State.endOrder (s : State) (m result : Nat) : State :=
  let held := (s.servo m).held
  let s0 := (s.setSeqn m .none).updOpt m (fun x => { x with within := none, endDue := false })
  let s1 := (s0.setMo m 0x30 8 (result : Nat)).updServo m (fun x => { x with held := [] })
  let s2 := s1.updMast m (fun x => { x with sails := x.sails.map (fun p => (p.1, { p.2 with reload := true })) })
  forEach held (fun h a => a.applyTarget m h.cmd) s2

end Sys2Proof.Machine
end

