-- ==== Sys2Proof/Machine/Channel.lean ====
section
/-! DEFINITION. The sail read channel (chapter 8) with the sync search and polarity decoding of chapter 9: raw samples to codeword
LLRs. -/
namespace Sys2Proof.Machine

/-- Coarse part of a sail's along-track offset (08 R197). -/
def State.coarse (s : State) (m k : Nat) : Nat := s.moN m 0x40 (k + 1) / 64

/-- A sail is burning (08 R196): its write slot has bits still to burn while the gate is open. -/
def State.burning (s : State) (m k : Nat) : Bool :=
  (s.opt m).wrEn && (s.burnsLeft m).any (fun x => decide (s.slotSail m x.slot = some k))

/-- Zone of the track that a sail reads: the track under it (05 R135). -/
def State.sailZone (s : State) (m t k : Nat) : Nat :=
  let g := s.moN m 0x30 3
  s.zoneOf t (if s.v1Active m then g + k - 64 else g + 1 + k)

/-- The start set of a sail with the taps of an equaliser preset (08 R201), as long values. -/
def State.startSet (s : State) (m k preset : Nat) : Taps :=
  let t := (s.tableOf m).getD 0
  let z := s.sailZone m t k
  let e := (s.blob (tkey t 4 1)).drop (8 * (z * s.objN (tkey t 0 3) + s.moN m 0x30 4))
  let gz : Int := (leNat (e.take 2) : Nat)
  let oz := toSigned (leNat ((e.drop 2).take 2)) 16
  let az := toSigned (leNat ((e.drop 4).take 2)) 16
  let g0 := min (rne (gz * s.mo m 0x46 (k + 1)) 15) 0xFFFF
  let o0 := sat (oz + s.mo m 0x47 (k + 1)) 11
  let a0 := sat (az + s.mo m 0x48 (k + 1)) 16
  { g := g0 * 256, o := o0 * 65536, a := a0 * 256,
    eq := (List.range 15).map (fun i => s.mo m 0x44 (16 * preset + i + 1) * 256),
    hm := (List.range 5).map (fun i => s.mo m 0x49 (i + 1) * 256),
    hp := (List.range 5).map (fun i => s.mo m 0x49 (i + 6) * 256) }

/-- Applied value of a Q2.22 tap (02 R70). -/
def tapApplied (c : Int) : Int := sat (rne c 8) 16

/-- Conditioning (08 R202): d and w. -/
def condition_ (t : Taps) (x : Int) : Int × Int :=
  let g := min (rne t.g 8) 0xFFFF
  let o := sat (rne t.o 16) 11
  let a := sat (rne t.a 8) 16
  let d := x * 64 - o
  (d, sat (rne (g * d * 2048 + a * d * d) 31) 5)

/-- The raw sample of a sail at a position, none outside what is held. -/
def SailSt.rawAt (x : SailSt) (c v : Nat) : Option Raw := x.raw[posDiff x.base (v + c)]?

/-- The position from which a change of the long values is seen: a start set from its own on, an update `lag` positions later (08 R208,
R210). -/
def TapEvent.from_ (e : TapEvent) (lag : Nat) : Nat := if e.load then e.pos else e.pos + lag

/-- Long values that follow every update from positions up to v - lag since the last load (08 R208); they carry on over any span
without frames (R210). -/
def SailSt.longAt (x : SailSt) (start : Taps) (v lag : Nat) : Taps :=
  x.events.foldl (fun t e => if posLe (e.from_ lag) v then e.taps else t) (x.carry.getD start)

/-- Notes a change of the long values, before any start set whose position is still to come. -/
def SailSt.note (x : SailSt) (n : TapEvent) : SailSt :=
  let next : TapEvent → Bool := fun e => e.load && !posLe e.pos n.pos
  { x with events := x.events.takeWhile (fun e => !next e) ++ n :: x.events.dropWhile (fun e => !next e) }

/-- One sail's view for a detector block: its state, coarse offset and start set. -/
structure SailView where
  st : SailSt
  c : Nat
  start : Taps

def State.view (s : State) (m k : Nat) : SailView := ⟨s.sail m k, s.coarse m k, s.startSet m k 0⟩

/-- (d, w) of a sail at a position; 0 where no sample is held. -/
def SailView.dw (x : SailView) (v : Nat) : Int × Int :=
  match x.st.rawAt x.c v with
  | some r => condition_ (x.st.longAt x.start v 512) r.x
  | none => (0, 0)
/-- The sample at a position is erased or absent. -/
def SailView.erased (x : SailView) (v : Nat) : Bool :=
  match x.st.rawAt x.c v with
  | some r => r.erased
  | none => true

/-- The equaliser output (08 R203, 02 R69) from the applied taps. -/
def equalise (eq : List Int) (w : Nat → Int) (v : Nat) : Int :=
  sat (rne ((List.range 15).foldl (fun a i => a + tapApplied (eq.getD i 0) * w ((v + 2 ^ 32 + 7 - i) % 2 ^ 32)) 0) 10) 12

/-- The spacing of the pair Sk, Sk+1 lies in [32, 120] (08 R200). -/
def State.spacingOk (s : State) (m k : Nat) : Bool :=
  let sp : Int := (s.coarse m (k + 1) : Int) - s.coarse m k
  decide (32 ≤ sp ∧ sp ≤ 120)

/-- Pairs of a mast whose sails omit each other (08 R200). -/
def State.spacingOmitted (s : State) (m : Nat) : Nat := ((List.range 63).filter (fun k => !s.spacingOk m k)).length

/-- A neighbour of sail k that the canceller may use (08 R206): present, healthy, not burning, spacing in [32, 120]. -/
def State.neighbour (s : State) (m k : Nat) (right : Bool) : Option Nat :=
  let nb? := if right then (if k < 63 then some (k + 1) else none) else (if 0 < k then some (k - 1) else none)
  match nb? with
  | none => none
  | some n =>
    if s.sailHealthy m n && !s.burning m n && s.spacingOk m (min k n) then some n else none

/-- One neighbour's part of the canceller sum, and how many of its five terms are omitted (08 R204, R206). -/
def cancelPart (h : List Int) (nb : Option SailView) (v : Nat) : Int × Nat :=
  match nb with
  | none => (0, 5)
  | some x => (List.range 5).foldl (fun (a : Int × Nat) j =>
      let p := (v + 2 ^ 32 + 2 - j) % 2 ^ 32
      if x.erased p then (a.1, a.2 + 1) else (a.1 + tapApplied (h.getD j 0) * (x.dw p).2, a.2)) (0, 0)

/-- What the channel forms at one position: y, the cancellation, z, omitted terms. -/
structure PosOut where
  y : Int
  c : Int
  z : Int
  omitted : Nat

/-- Equaliser and canceller at a position (08 R203, R204). -/
def positionOut (on : Bool) (self : SailView) (l r : Option SailView) (v : Nat) : PosOut :=
  let t := self.st.longAt self.start v 512
  let y := equalise t.eq (fun p => (self.dw p).2) v
  if on then
    let a := cancelPart t.hm l v
    let b := cancelPart t.hp r v
    let c := sat (rne (a.1 + b.1) 10) 12
    ⟨y, c, sat (y - c) 12, a.2 + b.2⟩
  else ⟨y, 0, y, 0⟩

/-- The partial-response target (08 R212). -/
structure Target where
  len : Nat
  h : List Int

def State.targetOf (s : State) (m : Nat) : Target :=
  ⟨s.moN m 0x43 1, (List.range 5).map (fun i => s.mo m 0x43 (i + 2))⟩

/-- The ideal detector input of a state and a new bit (08 R212). -/
def Target.rhat (t : Target) (sigma : Nat) (b : Bool) : Int :=
  (List.range (t.len - 1)).foldl (fun a j => a + (if sigma.testBit j then t.h.getD (j + 1) 0 else -(t.h.getD (j + 1) 0)))
    (if b then t.h.getD 0 0 else -(t.h.getD 0 0))

/-- Branch metric (08 R212); none is an erased position (08 R215). -/
def branchMetric (z : Option Int) (r : Int) : Nat :=
  match z with
  | none => 0
  | some v => min (rne ((v - r) * (v - r)) 4).toNat 65535

def listMin (l : List Nat) : Nat := l.foldl min (l.headD 0)
/-- Normalisation (08 R213, step 3); metrics are uint32 and saturate. -/
def normalise (l : List Nat) : List Nat := l.map (fun x => min (x - listMin l) (2 ^ 32 - 1))

/-- One forward step (08 R213, step 1). -/
def forwardStep (t : Target) (al : List Nat) (z : Option Int) : List Nat :=
  let n := 2 ^ (t.len - 1)
  normalise ((List.range n).map (fun sp =>
    let b := decide (sp % 2 = 1)
    let s0 := sp / 2
    let s1 := sp / 2 + n / 2
    min (al.getD s0 0 + branchMetric z (t.rhat s0 b)) (al.getD s1 0 + branchMetric z (t.rhat s1 b))))

/-- One backward step (08 R213, step 2). -/
def backwardStep (t : Target) (be : List Nat) (z : Option Int) : List Nat :=
  let n := 2 ^ (t.len - 1)
  normalise ((List.range n).map (fun sg =>
    min (be.getD (2 * sg % n) 0 + branchMetric z (t.rhat sg false))
      (be.getD ((2 * sg + 1) % n) 0 + branchMetric z (t.rhat sg true))))

/-- The raw difference D = M1 - M0 (08 R213, step 4). -/
def softOut (t : Target) (al be : List Nat) (z : Option Int) : Int :=
  let n := 2 ^ (t.len - 1)
  let m : Bool → Nat := fun b => listMin ((List.range n).map (fun sg =>
    al.getD sg 0 + branchMetric z (t.rhat sg b) + be.getD ((2 * sg + (if b then 1 else 0)) % n) 0))
  (m true : Int) - m false

/-- All metrics of a recursion over a list of inputs, the start included. -/
def scanStep (f : List Nat → Option Int → List Nat) : List Nat → List (Option Int) → List (List Nat)
  | a, [] => [a]
  | a, z :: zs => a :: scanStep f (f a z) zs

/-- The detector on one block (08 R213): 192 inputs from position 64i - 64 on give 64 differences. -/
def detectBlock (t : Target) (zs : List (Option Int)) : List Int :=
  let zero := List.replicate (2 ^ (t.len - 1)) 0
  let al := (scanStep (forwardStep t) zero (zs.take 128)).drop 64
  let be := ((scanStep (backwardStep t) zero ((zs.drop 64).reverse)).drop 64).reverse
  (List.range 64).map (fun i => softOut t (al.getD i zero) (be.getD (i + 1) zero) (zs.getD (64 + i) none))

/-- One adaptive update (08 R207): the new long value and whether it saturated. -/
def adapt (p : Int) (f wb : Nat) (e xi : Int) (mm lam : Nat) : Int × Bool :=
  let pe := e * xi
  let step := if mm + 4 ≤ f then pe * 2 ^ (f - 4 - mm) else rne pe (mm + 4 - f)
  let leak := if lam = 0 then 0 else rne p lam
  let v := p - step - leak
  (sat v wb, decide (sat v wb ≠ v))

/-- Updates a list of taps, with its regressors; a regressor absent leaves its tap. -/
def adaptList (l : List Int) (xi : List (Option Int)) (e : Int) (mm lam : Nat) : List Int × Nat :=
  (List.zipWith (fun c x => match x with
    | some v => adapt c 22 24 e v mm lam
    | none => (c, false)) l xi).foldr (fun (r : Int × Bool) a => (r.1 :: a.1, a.2 + (if r.2 then 1 else 0))) ([], 0)

/-- Enables and exponents that M+42 gives now, for a frame under 08 R218 or not (Table 8.5). -/
def State.steps (s : State) (m : Nat) (alt : Bool) : Steps :=
  let v : Nat → Nat := fun i => s.moN m 0x42 i
  { en := v 1, mg := v 2, mo_ := v 3, ma := v 4, me := v 5, le := v 6,
    mc := if alt then max (v 7 - v 9) 10 else v 7, lc := if alt then 0 else v 8 }

/-- What M+42 gave at the start of the last frame begun at or before a position (08 R211); before any frame, what it gives now. -/
def State.stepsAt (s : State) (m k v : Nat) : Steps :=
  (((s.sail m k).pars.filter (fun p => posLe p.1 v)).getLast?.map (·.2)).getD (s.steps m false)

/-- The position that the yard's next sample of a sail has. -/
def SailSt.here (x : SailSt) (c : Nat) : Nat := (x.base + x.raw.length + 2 ^ 32 - c % 2 ^ 32) % 2 ^ 32

/-- Frames whose first positions the yard has passed keep what M+42 gives now: a write to M+42 acts from the first frame that starts
after it (08 R211). -/
def State.keepSteps (s : State) (m : Nat) : State :=
  forEach (List.range 64) (fun k a =>
    let x := a.sail m k
    let l := x.frames.filter (fun f => !f.begun && posLe f.p (x.here (a.coarse m k)) && !x.pars.any (fun p => decide (p.1 = f.p)))
    if l = [] then a else a.setSail m k { x with pars := x.pars ++ l.map (fun f => (f.p, a.steps m f.alt)) }) s

/-- One update position (08 R207, R208, Table 8.2): new long values and saturations. -/
def updateTaps (st : Steps) (asc : Int) (t : Taps) (e d : Int) (w : Nat → Int) (l r : List (Option Int)) (u : Nat) : Taps × Nat :=
  let (g, c0) := if st.en.testBit 0 then adapt t.g 22 25 e (sat (rne d 6) 8) st.mg 0 else (t.g, false)
  let g' := clampI g 0 0xFFFFFF
  let c0 := c0 || decide (g' ≠ g)
  let (o, c1) := if st.en.testBit 1 then adapt t.o 22 27 e (-1) st.mo_ 0 else (t.o, false)
  let (a, c2) := if st.en.testBit 2 then adapt t.a 23 24 e (sat (rne (d * d) 16 - asc) 8) st.ma 0 else (t.a, false)
  let xiE : List (Option Int) := (List.range 15).map (fun i => if i = 7 then none else some (w ((u + 2 ^ 32 + 7 - i) % 2 ^ 32)))
  let (eq, c3) := if st.en.testBit 3 then adaptList t.eq xiE e st.me st.le else (t.eq, 0)
  let (hm, c4) := if st.en.testBit 4 then adaptList t.hm l e st.mc st.lc else (t.hm, 0)
  let (hp, c5) := if st.en.testBit 4 then adaptList t.hp r e st.mc st.lc else (t.hp, 0)
  let n : Bool → Nat := fun b => if b then 1 else 0
  ({ g := g', o := o, a := a, eq := eq, hm := hm, hp := hp }, n c0 + n c1 + n c2 + c3 + c4 + c5)

/-- Regressors of one neighbour's canceller taps (08 Table 8.2); absent where the term is omitted. -/
def cancelXi (nb : Option SailView) (u : Nat) : List (Option Int) :=
  (List.range 5).map (fun j =>
    let p := (u + 2 ^ 32 + 2 - j) % 2 ^ 32
    match nb with
    | none => none
    | some x => if x.erased p then none else some (-(x.dw p).2))

/-- The frame a position lies in (08 R209). -/
def SailSt.frameAt (x : SailSt) (v : Nat) : Option FrameRead :=
  x.frames.find? (fun f => posLe f.p v && !posLe (f.p + f.len) v)

/-- Tentative decision at a position; 0 where none is held. -/
def SailSt.decAt (x : SailSt) (v : Nat) : Bool := match x.det[posDiff x.dbase v]? with
  | some d => d.dec
  | none => false

/-- The first 65,536 positions of a channel calibration adapt; later ones do not (08 R220). -/
def State.adaptFrozen (s : State) (m k : Nat) : Bool :=
  match (s.opt m).cal with
  | some c => decide (c.kind = .channel) && c.sails.contains k && (c.adapted || decide (65536 ≤ (s.sail m k).seen))
  | none => false

/-- Position v of a sail lies in a calibration's measuring span: a span begins with the first position of a frame and is so many
positions long (08 R220, R221). -/
def State.measuring (s : State) (m k v : Nat) : Bool :=
  match (s.opt m).cal with
  | some c => c.sails.contains k && decide (0 < (s.sail m k).span) &&
      (decide ((s.sail m k).span < c.full) || (s.sail m k).frames.any (fun f => decide (v = f.p)))
  | none => false

/-- One position of a measuring span (08 R221): it counts in the histogram; its squared error where it is not frozen. -/
def State.measureSpan (s : State) (m k v : Nat) (w : Int) (e : Option Int) : State :=
  if s.measuring m k v then
    let y := s.sail m k
    s.setSail m k { y with
      sq := match e with
        | some d => min (y.sq + (d * d).toNat) (2 ^ 64 - 1)
        | none => y.sq
      span := y.span - 1, hist := tblList y.hist (w + 16).toNat }
  else s
where
  /-- Adds one to entry i of a histogram of 32 bins. -/
  tblList (h : List Nat) (i : Nat) : List Nat :=
    (List.range 32).map (fun j => h.getD j 0 + (if j = i then 1 else 0))

/-- What follows the decisions at one position of a block (08 R205 to R209, R221). -/
def State.adaptAt (s : State) (m k : Nat) (t : Target) (v : Nat) (po : PosOut) : State :=
  let x := s.sail m k
  let self := s.view m k
  let dw := self.dw v
  let clip := match x.rawAt self.c v with
    | some r => r.clip
    | none => false
  let gap := (List.range 15).any (fun i => self.erased ((v + 2 ^ 32 + 7 - i) % 2 ^ 32))
  if (x.frameAt v).isNone then s.measureSpan m k v dw.2 none
  else if clip || gap || s.burning m k then (if clip then s.countM m 9 (k + 1) else s).measureSpan m k v dw.2 none
  else
    let sigma := (List.range (t.len - 1)).foldl (fun a j =>
      if x.decAt ((v + 2 ^ 32 - (j + 1)) % 2 ^ 32) then a + 2 ^ j else a) 0
    let tgt := sat (t.rhat sigma (x.decAt v) + po.c) 12
    let e := sat (po.y - tgt) 12
    let s1 := s.measureSpan m k v dw.2 (some e)
    if s.adaptFrozen m k then s1
    else
      let s2 := s1.setSail m k { s1.sail m k with seen := (s1.sail m k).seen + 1 }
      if v % 4 ≠ 0 then s2
      else
        let nb : Bool → Option SailView := fun r => (s.neighbour m k r).map (s.view m)
        let long := x.longAt self.start v 1
        let (t', n) := updateTaps (s.stepsAt m k v) (s.mo m 0x42 0x0B) long e dw.1 (fun p => (self.dw p).2) (cancelXi (nb false) v)
          (cancelXi (nb true) v) v
        (s2.setSail m k ((s2.sail m k).note ⟨v, false, t'⟩)).countN (ckey m 8 (k + 1)) n

/-- Sync metric (09 R243). -/
def syncMetric (z : Nat → Int) (q : Nat) : Int :=
  (List.range 64).foldl (fun a i => if syncBits.getD i false then a + z ((q + i) % 2 ^ 32) else a - z ((q + i) % 2 ^ 32)) 0

/-- The sync search (09 R243): the chosen offset from p, if a candidate reaches SYTH. -/
def syncSearch (z : Nat → Int) (p : Nat) (syth : Int) : Option Int :=
  let offs : List Int := (List.range 48).map (fun (i : Nat) => (i : Int) - 24)
  let met : Int → Int := fun d => syncMetric z ((p + 2 ^ 32 + d).toNat % 2 ^ 32)
  let cands := offs.filter (fun d => decide (syth ≤ met d))
  match cands with
  | [] => none
  | c :: cs => some (cs.foldl (fun b d =>
      if met d > met b ∨ (met d = met b ∧ d.natAbs < b.natAbs) then d else b) c)

/-- Polarity decoding and descrambling of raw LLRs from a frame start on (09 R236, R237): codeword LLRs and polarity LLRs. -/
def unframe (llr : Nat → Int) (n : Nat) (scr : List Bool) : List Int × List Int :=
  let pol := (List.range (n / 64)).map (fun b => llr (64 + 65 * b))
  let cw := (List.range (n / 64)).flatMap (fun b =>
    let neg := decide (pol.getD b 0 < 0)
    (List.range 64).map (fun i => (if neg then -1 else 1) * llr (65 + 65 * b + i)))
  (List.zipWith (fun v f => if f then -v else v) cw scr, pol)

/-- A calibration fails at once when fewer than 32 of the first 64 frames under a sail that it measures reach SYTH (08 R222). -/
def State.calSync (s : State) (m k : Nat) : State :=
  match (s.opt m).cal with
  | some c =>
    let x := s.sail m k
    if c.sails.contains k ∧ 32 + x.synced < min 64 x.done then s.failCalFor m [k] else s
  | none => s

/-- Hands a frame whose last LLR is formed to the pool (08 R217, 09 R243, R244). -/
def State.finishFrame (s : State) (m k : Nat) (f : FrameRead) (slot : Slot) : State :=
  let x := s.sail m k
  let at_ : Nat → Option Det := fun v => x.det[posDiff x.dbase v]?
  let z : Nat → Int := fun v => match at_ v with
    | some d => d.z
    | none => 0
  let t := (s.tableOf m).getD 0
  let found := syncSearch z f.p (s.obj (tkey t 0 6))
  let d := found.getD 0
  let q := (f.p + 2 ^ 32 + d).toNat % 2 ^ 32
  let n := codewordLen f.str
  let (cw, pol) := unframe (fun i => match at_ ((q + i) % 2 ^ 32) with
    | some y => y.llr
    | none => 0) n (frameScramble slot n)
  let s1 := if found.isNone then s.countM m 0x0C 1 else s
  let take : Bool := match (s.opt m).cal with
    | some c => c.armed && decide (x.taken < 64)
    | none => false
  let s2 := s1.setSail m k { x with
    frames := x.frames.filter (fun y => y ≠ f), done := x.done + 1
    synced := x.synced + (if found.isSome ∧ x.done < 64 then 1 else 0), taken := x.taken + (if take then 1 else 0)
    deltas := if take ∧ found.isSome then x.deltas ++ [d] else x.deltas }
  if f.sid = calSid ∧ f.pool = false then s2.calSync m k
  else (s2.updMast m (fun y => { y with ready := y.ready ++ [⟨f.sid, m, k, f.str, q, f.p, cw, pol, found.isSome, 0, slot⟩] })).calSync m k

/-- Every frame of a sail whose last position has left the detector (08 R217). -/
def State.finishFrames (s : State) (m k : Nat) : State :=
  let x := s.sail m k
  forEach (x.frames.filter (fun f => posLe (f.p + f.len + 24) (64 * x.blk))) (fun f a =>
    match a.sector f.sid with
    | some y => a.finishFrame m k f y.slot
    | none => a.finishFrame m k f f.slot) s

/-- A sail holds every sample up to a position. -/
def State.sailHas (s : State) (m k v : Nat) : Bool :=
  let x := s.sail m k
  let d := posDiff x.base (v + s.coarse m k)
  decide (d < x.raw.length)

/-- Block `blk` of sail k can be run (08 R216). -/
def State.blockReady (s : State) (m k : Nat) : Bool :=
  let i := (s.sail m k).blk
  let nb : Option Nat → Bool := fun n => match n with
    | some y => !(s.sail m y).running || s.sailHas m y (64 * i + 129)
    | none => true
  (s.sail m k).running && s.sailHas m k (64 * i + 134) && nb (s.neighbour m k false) && nb (s.neighbour m k true)

/-- Drops samples, outputs and history that nothing uses any more; the long values carry on (08 R210). -/
def SailSt.trim (x : SailSt) (c : Nat) : SailSt :=
  let keepFrom := (64 * x.blk + 2 ^ 32 - 1024) % 2 ^ 32
  let n := posDiff x.base (keepFrom + c)
  let n := if n < x.raw.length then n else 0
  let here := (64 * x.blk + 2 ^ 32 - 128) % 2 ^ 32
  let dFrom := x.frames.foldl (fun a f => if posLe ((f.p + 2 ^ 32 - 64) % 2 ^ 32) a then (f.p + 2 ^ 32 - 64) % 2 ^ 32 else a) here
  let gone := (x.events.takeWhile (fun e => posLe (e.from_ 512) keepFrom)).length
  let k := posDiff x.dbase dFrom
  let k := if k < x.det.length then k else 0
  { x with
    base := (x.base + n) % 2 ^ 32, raw := x.raw.drop n
    dbase := (x.dbase + k) % 2 ^ 32, det := x.det.drop k
    carry := match (x.events.take gone).getLast? with
      | some e => some e.taps
      | none => x.carry
    events := x.events.drop gone
    pars := ((x.pars.filter (fun p => posLe p.1 keepFrom)).getLast?.map (fun p => (keepFrom, p.2))).toList ++
      x.pars.filter (fun p => !posLe p.1 keepFrom) }

/-- A frame's first position comes into reach of the block about to run: the sail loads its start set there where R210 or R218 asks
for it, and takes M+42 as it stands (08 R211). -/
def State.frameBegins (s : State) (m k : Nat) (f : FrameRead) : State :=
  let x := s.sail m k
  let load := x.reload || f.alt || x.lastAlt
  let ev : List TapEvent := if load then [⟨f.p, true, s.startSet m k (if f.alt then s.moN m 0x42 0x0A else 0)⟩] else []
  s.setSail m k { x with
    frames := x.frames.map (fun y => if y = f then { y with begun := true } else y), events := x.events ++ ev
    pars := if x.pars.any (fun p => decide (p.1 = f.p)) then x.pars else x.pars ++ [(f.p, s.steps m f.alt)]
    reload := false, lastAlt := f.alt }

/-- The frames whose first positions block `blk` reaches, in position order. -/
def State.framesBegin (s : State) (m k : Nat) : State :=
  let x := s.sail m k
  forEach (x.frames.filter (fun f => !f.begun && posLe f.p (64 * x.blk + 127))) (fun f a => a.frameBegins m k f) s

/-- Runs one detector block of sail k and its adaptation (08 R203 to R214). -/
def State.runBlock (s0 : State) (m k : Nat) : State :=
  let s := s0.framesBegin m k
  let x := s.sail m k
  let calOff := match (s.opt m).cal with
    | some c => decide (c.kind = CalKind.channel ∧ c.code = 2)
    | none => false
  let on : Nat → Bool := fun v => (s.stepsAt m k v).en.testBit 5 && !calOff
  let self := s.view m k
  let l := (s.neighbour m k false).map (s.view m)
  let r := (s.neighbour m k true).map (s.view m)
  let pos : Nat → Nat := fun j => (64 * x.blk + 2 ^ 32 - 64 + j) % 2 ^ 32
  let outs := (List.range 192).map (fun j => positionOut (on (pos j)) self l r (pos j))
  let zs : List (Option Int) := outs.mapIdx (fun j o => if self.erased (pos j) then none else some o.z)
  let t := s.targetOf m
  let lsc : Int := s.mo m 0x43 7
  let ds := detectBlock t zs
  let det : List Det := ds.mapIdx (fun j d =>
    let o := outs.getD (64 + j) ⟨0, 0, 0, 0⟩
    ⟨o.z, if self.erased (pos (64 + j)) then 0 else symsat (rne (d * lsc) 16) 31, decide (d < 0)⟩)
  let s1 := s.setSail m k { x with
    det := x.det ++ det, dbase := if x.det = [] then pos 64 else x.dbase, blk := (x.blk + 1) % 2 ^ 26 }
  let s2 := (List.range 64).foldl (fun a j =>
    let o := outs.getD (64 + j) ⟨0, 0, 0, 0⟩
    (a.adaptAt m k t (pos (64 + j)) o).countN (ckey m 0x0B 1) o.omitted) s1
  let s3 := s2.finishFrames m k
  s3.setSail m k ((s3.sail m k).trim self.c)

/-- Runs the blocks of a sail that can be run, at most `n`. -/
def State.runSail (s : State) (m k : Nat) : Nat → State
  | 0 => s
  | n + 1 => if s.blockReady m k then (s.runBlock m k).runSail m k n else s

/-- Runs every sail of a mast as far as its samples allow. -/
def State.runChannels (s : State) (m : Nat) : State :=
  forEach (List.range 64) (fun k a => a.runSail m k ((a.sail m k).raw.length / 64 + 1)) s

/-- A sample that a discarded frame lost: its value is undefined (03 R104; notes/assumptions/1.md). -/
def State.erasedRaw (s : State) : Raw × State :=
  let (v, s1) := s.takeFree
  (⟨toSigned (v.toNat % 32) 5, true, false⟩, s1)

/-- `n` erased samples. -/
def State.erasedRaws (s : State) : Nat → List Raw × State
  | 0 => ([], s)
  | n + 1 =>
    let (r, s1) := s.erasedRaw
    let (l, s2) := s1.erasedRaws n
    (r :: l, s2)

/-- A sail keeps its samples: V0 and V1 while the link is up, a healthy data sail that does not burn while its mast is on track or
a frame read on it is under way (08 R196, 05 R139). -/
def State.sailKeeps (s : State) (m k : Nat) : Bool :=
  if k ≥ 64 then true
  else ((s.mast m).st.onTrack || decide ((s.sail m k).frames ≠ [])) && s.sailHealthy m k && !s.burning m k

/-- A sail's samples end: its frames under way are finished with what has come (03 R104). -/
def State.endSail (s : State) (m k : Nat) : State :=
  let s1 := forEach (s.sail m k).frames (fun f a => a.finishFrame m k f (((a.sector f.sid).map (·.slot)).getD f.slot)) s
  let x := s1.sail m k
  s1.setSail m k { x with
    running := false, raw := [], det := [], frames := [], events := [], pars := x.pars.getLast?.toList, lastAlt := false
    carry := match x.events.getLast? with
      | some e => some e.taps
      | none => x.carry
    reload := x.reload || x.lastAlt }

/-- A sail whose samples begin anew at index `n`. -/
def SailSt.startAt (x : SailSt) (n coarse : Nat) (news : List Raw) : SailSt :=
  let p := (n + 2 ^ 32 - coarse % 2 ^ 32) % 2 ^ 32
  { x with base := n % 2 ^ 32, raw := news, running := true, det := [], blk := (p + 71 + 63) / 64 % 2 ^ 26
           pars := x.pars.map (fun q => (p, q.2)) }

/-- How many instants are missing between the held samples of a sail and index `n`, and the samples `news` from `n` on that are
not held yet. -/
def SailSt.gapTo (x : SailSt) (n : Nat) (news : List Raw) : Nat × List Raw :=
  let next := (x.base + x.raw.length) % 2 ^ 32
  (if posLe next n then posDiff next n else 0, if posLe next n then news else news.drop (posDiff n next))

/-- A sail with `more` samples after the held ones; a preview or servo sail keeps its last 16,384. -/
def SailSt.extend (x : SailSt) (k : Nat) (more : List Raw) : SailSt :=
  let all := x.raw ++ more
  let cut := if k ≥ 64 then all.length - 16384 else 0
  { x with base := (x.base + cut) % 2 ^ 32, raw := all.drop cut, running := true }

/-- Samples of one frame for sail k, from index `n` on: the instants missing before it are erased, samples already held are not
taken twice (03 R86, R104; 08 R195). -/
def State.pushSamples (s : State) (m k n : Nat) (vals : List Int) (clip : Bool) : State :=
  let x := s.sail m k
  let news : List Raw := vals.map (fun v => ⟨v, false, clip⟩)
  if !s.sailKeeps m k then s.endSail m k
  else if x.raw = [] then s.setSail m k (x.startAt n (s.coarse m k) news)
  else
    let g := x.gapTo n news
    let er := (if k < 64 then s.countN (ckey m 0x0A (k + 1)) g.1 else s).erasedRaws g.1
    er.2.setSail m k (x.extend k (er.1 ++ g.2))

/-- A frame to be read on sail k, put among the sail's frames in position order. -/
def State.beginFrame (s : State) (m k : Nat) (f : FrameRead) : State :=
  let x := s.sail m k
  s.setSail m k { x with frames := x.frames.filter (fun y => posLe y.p f.p) ++ f :: x.frames.filter (fun y => !posLe y.p f.p) }

end Sys2Proof.Machine
end

