-- ==== Sys2Proof/Machine/Servo.lean ====
section
/-! DEFINITION. The yard servo engine (chapter 4): filtered PID, biquad chains, rotation, override selector, commits, flags and the
trace buffer. -/
namespace Sys2Proof.Machine

/-- Parameters of a filtered PID (04 R116). -/
structure PidPar where
  en : Bool
  aw : Nat
  kp : Int
  ep : Nat
  ki : Int
  ei : Nat
  kd : Int
  ed : Nat
  alpha : Int
  umin : Int
  umax : Int
  hold : Int
  deriving DecidableEq, Repr

/-- One evaluation of a filtered PID (04 R116 to R118): new states, saturation in steps 1 to 3 and in all four, limit. -/
def pidStep (p : PidPar) (s : Pid) (e ff : Int) : Pid × Bool × Bool × Bool :=
  let (p40, f) := postShift (prod p.kp e) p.ep false
  let (a40, f) := accAdd (prod p.kd e) (-(prod p.kd s.ePrev)) f
  let (a41, f) := postShift a40 p.ed f
  let (r16, f) := wb15 a41 f
  let (dh, f) := wb15 s.d f
  let (acc, f) := accAdd s.d (prod p.alpha r16) f
  let (acc, f) := accAdd acc (-(prod p.alpha dh)) f
  let (d', f) := wb31 acc f
  let (acc, f) := accAdd p40 s.i f
  let (acc, f) := accAdd acc d' f
  let (acc, f) := accAdd acc (align15 ff) f
  let (uRaw, f) := wb15 acc f
  let u := if uRaw > p.umax then p.umax else if uRaw < p.umin then p.umin else uRaw
  let (inc, f0) := postShift (prod p.ki e) p.ei f
  let holdI := decide (p.aw ≠ 0) && (decide (uRaw ≥ p.umax ∧ inc > 0) || decide (uRaw ≤ p.umin ∧ inc < 0))
  let (i1, f1) := accAdd s.i inc f0
  let (i2, f2) := wb31 i1 f1
  ({ i := if holdI then s.i else i2, d := d', ePrev := e, u := u, p40 := p40, ff := ff, e := e },
    f, if holdI then f0 else f2, decide (u ≠ uRaw))

/-- Coefficients of a biquad section (04 R119). -/
structure SecPar where
  b0 : Int
  b1 : Int
  b2 : Int
  na1 : Int
  na2 : Int
  es : Nat
  deriving DecidableEq, Repr

/-- One evaluation of an enabled section (04 R119): (s1, s2), output, saturation. -/
def sectionStep (p : SecPar) (st : Int × Int) (x : Int) : (Int × Int) × Int × Bool :=
  let (acc, f) := postShift (prod p.b0 x) p.es false
  let (acc, f) := accAdd acc st.1 f
  let (y, f) := wb15 acc f
  let (acc, f) := accAdd (prod p.b1 x) (prod p.na1 y) f
  let (acc, f) := postShift acc p.es f
  let (acc, f) := accAdd acc st.2 f
  let (s1, f) := wb31 acc f
  let (acc, f) := accAdd (prod p.b2 x) (prod p.na2 y) f
  let (acc, f) := postShift acc p.es f
  let (s2, f) := wb31 acc f
  ((s1, s2), y, f)

/-- The rotation by an angle (04 R121). It belongs to no block of Table 4.2, so its saturation raises no block's flag
(notes/assumptions/143.md). -/
def rotate (th a b : Int) : Int × Int :=
  let c := cosine th
  let s := sine th
  (sat (rne (sat (prod c a + prod s b) 40) 16) 16, sat (rne (sat (prod c b - prod s a) 40) 16) 16)

/-- The correction of a Q1.31 state by a residual (04 R120), and whether it saturated. -/
def correctF (x l : Int) (e : Nat) (res : Int) (f : Bool) : Int × Bool :=
  let (g, f) := postShift (prod l res) e f
  let (acc, f) := accAdd x g f
  wb31 acc f

/-- Index of a block's record: M+20 + b (04 R115). -/
def blockIx (b : Nat) : Nat := 0x20 + b

/-- Default of an active parameter of mast m. -/
def parDefault (m k : Nat) : Int := objDefault (mkey m (k / 256) (k % 256))
/-- An active parameter (04 R126, R128). -/
def State.par (s : State) (m ii ss : Nat) : Int := tblGet (parDefault m) (s.servo m).act (ii * 256 + ss)
def State.parN (s : State) (m ii ss : Nat) : Nat := (s.par m ii ss).toNat
def State.setPar (s : State) (m k : Nat) (v : Int) : State :=
  s.updServo m (fun x => { x with act := tblPut (parDefault m) k v x.act })

/-- Sub-indices of a block's record that a commit carries (04 Tables 4.4 to 4.6, 06 Table 6.5). -/
def recordSubs (b : Nat) : List Nat :=
  if b = 2 ∨ b = 4 then [2, 3] ++ (List.range 8).flatMap (fun s => (List.range 6).map (fun i => 0x10 + 8 * s + i))
  else if b = 7 then (List.range 8).map (· + 2) ++ (List.range 6).map (fun i => 0x81 + 2 * (i + 2))
  else if b = 10 then [2, 3]
  else (List.range 11).map (· + 2)

/-- CTRL's sub-index: M+2x:03 of a chain, else M+2x:02. -/
def ctrlSub (b : Nat) : Nat := if b = 2 ∨ b = 4 then 3 else 2

def State.pid (s : State) (m b : Nat) : Pid := tblGet (fun _ => ({} : Pid)) (s.servo m).pids b
def State.setPid (s : State) (m b : Nat) (p : Pid) : State :=
  s.updServo m (fun x => { x with pids := tblPut (fun _ => ({} : Pid)) b p x.pids })

/-- Zeroes every state of a block (04 R128). -/
def State.clearBlock (s : State) (m b : Nat) : State :=
  s.updServo m (fun x =>
    if b = 2 ∨ b = 4 then { x with secs := tblDrop (fun k => decide (k / 16 = b)) x.secs }
    else if b = 7 then { x with obs := {} }
    else { x with pids := tblPut (fun _ => ({} : Pid)) b { (tblGet (fun _ => ({} : Pid)) x.pids b) with i := 0, d := 0, ePrev := 0 } x.pids })

/-- The sequence enables a loop's block with CLR, or opens it: EN of the active and of the shadow record (05 Table 5.4;
notes/assumptions/11.md). -/
def State.enableBlock (s : State) (m b : Nat) (on : Bool) : State :=
  if b = 2 ∨ b = 4 then s.clearBlock m b
  else
    let k := blockIx b * 256 + 2
    let setEn : Nat → Nat := fun v => v / 2 * 2 + (if on then 1 else 0)
    let s1 := (s.setPar m k (setEn (s.parN m (blockIx b) 2) : Nat)).setMo m (blockIx b) 2 (setEn (s.moN m (blockIx b) 2) : Nat)
    s1.clearBlock m b

/-- M+20:03 shows the blocks with a commit pending (04 R128). -/
def State.showPend (s : State) (m : Nat) : State :=
  let v := (s.servo m).commits.foldl (fun a c => a ||| 2 ^ (c.block - 1)) 0
  s.setMo m 0x20 3 (v : Nat)

/-- A commit of blocks reaches the yard at the mast clock's present tick (04 R126, R128). -/
def State.commitBlocks (s : State) (m mask : Nat) : State :=
  let t := s.tickNow m
  let news := ((List.range 13).filter (fun i => mask.testBit i)).map (fun i =>
    let ii := blockIx (i + 1)
    (⟨i + 1, t, (recordSubs (i + 1)).map (fun ss => (ii * 256 + ss, s.mo m ii ss))⟩ : Commit))
  (s.updServo m (fun x => { x with commits := x.commits ++ news })).showPend m

/-- A commit that 04 R127 refuses: UMIN above UMAX of a PID record, or the selector's candidate 0 off. -/
def State.commitBad (s : State) (m mask : Nat) : Bool :=
  (List.range 13).any (fun i => mask.testBit i &&
    (let b := i + 1
     let ii := blockIx b
     if b = 10 then !(s.moN m ii 2).testBit 0
     else if b = 2 ∨ b = 4 ∨ b = 7 then false
     else decide (s.mo m ii 0x0B < s.mo m ii 0x0A)))

/-- Takes the commits of a block that are due at strobe T (04 R128). An evaluation that holds (R113) changes no state, so a commit due
at it waits for the loop's next evaluation that does not hold (notes/assumptions/140.md). -/
def State.takeCommits (s : State) (m b T : Nat) : State :=
  let due := (s.servo m).commits.filter (fun c => decide (c.block = b ∧ c.tick + 400 ≤ T))
  if due = [] then s
  else
    let s1 := forEach due (fun c a =>
      let a1 := forEach c.vals (fun kv x => x.setPar m kv.1 kv.2) a
      let ck := blockIx b * 256 + ctrlSub b
      let ctrl := (tblGet (fun _ => 0) c.vals ck).toNat
      if b ≠ 7 ∧ b ≠ 10 ∧ ctrl.testBit 1 then
        ((a1.setPar m ck (ctrl - 2 : Nat)).setMo m (blockIx b) (ctrlSub b)
          (let v := a1.moN m (blockIx b) (ctrlSub b); if v.testBit 1 then (v - 2 : Nat) else (v : Nat))).clearBlock m b
      else a1) s
    (s1.updServo m (fun x => { x with commits := x.commits.filter (fun c => !(decide (c.block = b ∧ c.tick + 400 ≤ T))) })).showPend m

/-- Active parameters of a PID block. -/
def State.pidPar (s : State) (m b : Nat) : PidPar :=
  let p : Nat → Int := s.par m (blockIx b)
  let c := (p 2).toNat
  { en := c.testBit 0, aw := fld c 3 2, kp := p 3, ep := (p 4).toNat, ki := p 5, ei := (p 6).toNat, kd := p 7,
    ed := (p 8).toNat, alpha := p 9, umin := p 0x0A, umax := p 0x0B, hold := p 0x0C }

/-- Raises flag `b - 1` of M+20:04 or :05; a clear that reaches the yard before the evaluation's window ends leaves it 1 (04 R130): the
foreground window is 128 ticks long (R111), block 13's background window 272 (R112). -/
def State.raiseFlag (s : State) (m sub b : Nat) : State :=
  let now := s.tickNow m
  (s.setMaskBit (mkey m 0x20 sub) (b - 1)).updServo m (fun x => { x with
    raised := (sub, b - 1, now + if b = 13 then 272 else 128) :: x.raised.filter (fun r => decide (now < r.2.2)) })

/-- A write to M+20:04 or :05 clears the flags whose bits are 1 in it, but for those of the present evaluation (04 R130). -/
def State.clearFlags (s : State) (m sub v : Nat) : State :=
  forEach ((List.range 13).filter (fun i => v.testBit i &&
    !(s.servo m).raised.any (fun r => decide (r.1 = sub ∧ r.2.1 = i ∧ s.tickNow m < r.2.2)))) (fun i a => a.clearMaskBit (mkey m 0x20 sub) i) s

/-- Sets the flags that one evaluation of a block raised, and counts its saturation (04 R130). -/
def State.blockFlags (s : State) (m b : Nat) (satd lim : Bool) : State :=
  let s1 := if satd then ((s.raiseFlag m 4 b).countM m 4 1).traceEvent m 0 else s
  if lim then (s1.raiseFlag m 5 b).traceEvent m 1 else s1

/-- Evaluates a PID block on an error (04 R116, R129): a disabled block outputs HOLD with its states at zero. For a selector
candidate under AW 2 step 4 and the saturation flag await the choice (R117). -/
def State.evalPid (s : State) (m b : Nat) (e : Int) : State :=
  let p := s.pidPar m b
  if p.en then
    let old := s.pid m b
    let (q, sat3, sat4, lim) := pidStep p old e (s.feed m b)
    if (b = 8 ∨ b = 9) ∧ p.aw = 2 then (s.setPid m b { q with i := old.i, late := some (q.i, sat3, sat4) }).blockFlags m b false lim
    else (s.setPid m b q).blockFlags m b sat4 lim
  else s.setPid m b { u := p.hold, e := e }

/-- Step 4 of a selector candidate whose choice is made (04 R117): the winner, or one that does not compete, integrates. -/
def State.settleWinner (s : State) (m b : Nat) : State :=
  let p := s.pid m b
  match p.late with
  | some (i, _, sat4) => (s.setPid m b { p with i := i, late := none }).blockFlags m b sat4 false
  | none => s

/-- A loser under AW 2 is tracked to w (04 R123); the sums are the selector's: the state, and whether one saturated. -/
def State.settleLoser (s : State) (m b : Nat) (w : Int) : State × Bool :=
  let p := s.pid m b
  match p.late with
  | some (_, sat3, _) =>
    let (acc, f) := accAdd (align15 w) (-p.p40) false
    let (acc, f) := accAdd acc (-p.d) f
    let (acc, f) := accAdd acc (-(align15 p.ff)) f
    let (i, f) := wb31 acc f
    ((s.setPid m b { p with i := i, late := none }).blockFlags m b sat3 false, f)
  | none => (s, false)

/-- Evaluates the sections of a chain from `i` on. -/
def State.evalSections (s : State) (m b : Nat) : Nat → Nat → Int → Bool → State × Int × Bool
  | 0, _, x, f => (s, x, f)
  | n + 1, i, x, f =>
    let ii := blockIx b
    let key := 16 * b + i
    if (s.parN m ii 2).testBit i then
      let q : Nat → Int := fun j => s.par m ii (0x10 + 8 * i + j)
      let (st, y, g) := sectionStep ⟨q 0, q 1, q 2, q 3, q 4, (q 5).toNat⟩ (tblGet (fun _ => (0, 0)) (s.servo m).secs key) x
      (s.updServo m (fun z => { z with secs := tblPut (fun _ => (0, 0)) key st z.secs })).evalSections m b n (i + 1) y (f || g)
    else
      (s.updServo m (fun z => { z with secs := tblPut (fun _ => (0, 0)) key (0, 0) z.secs })).evalSections m b n (i + 1) x f

/-- Evaluates a biquad chain (04 R119). -/
def State.evalChain (s : State) (m b : Nat) (x : Int) : State :=
  let (s1, y, f) := s.evalSections m b 8 0 x false
  (s1.updServo m (fun z => { z with chainOut := tblPut (fun _ => 0) b y z.chainOut })).blockFlags m b f false
def State.chainOut (s : State) (m b : Nat) : Int := tblGet (fun _ => 0) (s.servo m).chainOut b

/-- The override selector (04 R122 to R125). A candidate 1 that CTRL does not enable does not compete and so never loses; the first
evaluation after reset is compared with the default winner 0 of M+20:06 (notes/assumptions/140.md). -/
def State.evalSelector (s : State) (m : Nat) : State :=
  let ctrl := s.parN m 0x2A 2
  let pol := ctrl.testBit 4
  let cands : List (Nat × Int) := [(0, (s.pid m 8).u)] ++ (if ctrl.testBit 1 then [(1, (s.pid m 9).u)] else []) ++
    (if ctrl.testBit 2 then [(2, s.par m 0x2A 3)] else [])
  let eff : Int → Int := fun u => if pol then -u else u
  let best := cands.foldl (fun (b : Nat × Int) c => if eff c.2 < eff b.2 then c else b) (0, (s.pid m 8).u)
  let w := best.2
  let (s1, f1) := if best.1 = 0 then (s.settleWinner m 8, false) else s.settleLoser m 8 w
  let (s2, f2) := if best.1 = 1 ∨ ctrl.testBit 1 = false then (s1.settleWinner m 9, false) else s1.settleLoser m 9 w
  let s3 := s2.blockFlags m 10 (f1 || f2) false
  let old := s3.moN m 0x20 6
  let s4 := if old ≠ best.1 then ((s3.setMo m 0x20 6 (best.1 : Nat)).countM m 4 2).traceEvent m 2 else s3
  s4.updServo m (fun x => { x with w := w })

/-- A loop's evaluation holds (04 R113): the set in use has the TSN of the loop's previous evaluation. Before the engine holds any set
it holds too, and is counted (notes/assumptions/140.md). -/
def State.loopHolds (s : State) (m loop : Nat) : Bool :=
  decide ((s.link m).tel = []) || decide (tblGet (fun _ => 0) (s.servo m).used loop = s.tw m 0 + 1)
/-- Notes the TSN a loop used. -/
def State.loopUsed (s : State) (m loop : Nat) : State :=
  s.updServo m (fun x => { x with used := tblPut (fun _ => 0) loop (s.tw m 0 + 1) x.used })

/-- Target of block 11 in the drive's present step: the alignment current, 0 in the ramp, else M+38:0B (06 Table 6.3, R159). -/
def State.target11 (s : State) (m : Nat) : Int :=
  if s.moN m 0x38 1 = 2 then s.mo m 0x38 0x0C else if s.moN m 0x38 1 = 3 then 0 else s.mo m 0x38 0x0B
/-- Target of block 12: 0 while aligning, the start current in the ramp, else the selector's output (06 Table 6.3, 04 Table 4.2). -/
def State.target12 (s : State) (m : Nat) : Int :=
  if s.moN m 0x38 1 = 2 then 0 else if s.moN m 0x38 1 = 3 then s.mo m 0x38 0x99 else (s.servo m).w
/-- Target of block 13: the calibrated timing offset while V1 drives (05 R150, M+34:02). -/
def State.target13 (s : State) (m : Nat) : Int := if s.v1Active m then s.mo m 0x34 2 else 0

/-- Target in use of a block (04 Table 4.2). -/
def State.blockTarget (s : State) (m b : Nat) : Int := match b with
  | 8 => (s.drive m).sUse
  | 9 => s.mo m 0x39 1
  | 11 => s.target11 m
  | 12 => s.target12 m
  | 13 => s.target13 m
  | _ => s.target m b

/-- Value of a trace node (04 Table 4.7), as 16 bits. Blocks 7 and 10 have no input e: the spec states no value for it, and `free` is
recorded. The observer's angle state, which is not a long state, is recorded as its word, and its output as the angle's word
(notes/assumptions/140.md). -/
def State.traceNode (s : State) (m sel : Nat) (free : Int) : Int :=
  let kind := sel / 4096
  let b0 := fld sel 11 8
  let b := if b0 = 0 then 13 else b0
  let item := sel % 256
  let long : Int → Int := fun x => sat (rne x 16) 16
  match kind with
  | 1 => s.tq m item
  | 2 => if b = 2 then (s.pid m 1).u else if b = 4 then (s.pid m 3).u else if b = 7 ∨ b = 10 then free else (s.pid m b).e
  | 3 => if b = 2 ∨ b = 4 then s.chainOut m b else if b = 10 then (s.servo m).w
      else if b = 7 then toSigned (s.servo m).obs.th.toNat 16 else (s.pid m b).u
  | 4 =>
    if b = 2 ∨ b = 4 then
      let st := tblGet (fun _ => ((0 : Int), (0 : Int))) (s.servo m).secs (16 * b + (item - 2) / 2)
      long (if item % 2 = 0 then st.1 else st.2)
    else if b = 7 then
      let o := (s.servo m).obs
      match item with
      | 0 => long o.ia | 1 => long o.ib | 2 => long o.ea | 3 => long o.eb | 4 => long o.w | _ => toSigned o.th.toNat 16
    else if item = 0 then long (s.pid m b).i else long (s.pid m b).d
  | 5 => (s.moN m 0x20 6 : Nat)
  | 6 => if item = 0 then sat (s.blockTarget m b0) 16 else s.feed m b0
  | _ => 0

/-- A trigger condition of 04 R133 between the previous entry's node 0 and the present one. -/
def trigMet (tsrc : Nat) (lvl prev cur : Int) (ev tev : Nat) : Bool :=
  let rise := decide (prev < lvl ∧ lvl ≤ cur)
  let fall := decide (prev > lvl ∧ cur ≤ lvl)
  match tsrc with
  | 1 => rise
  | 2 => fall
  | 3 => rise || fall
  | 4 => decide (ev &&& tev ≠ 0)
  | _ => false

/-- The trace buffer at an evaluation of the loop of TBASE that runs `late` ns after its strobe (04 R132, R133). -/
def State.traceStep (s0 : State) (m late : Nat) : State :=
  let st := s0.moN m 0x2E 1
  if st = 0 ∨ st = 4 then s0
  else
    let tr := (s0.mast m).trace
    let dec := tr.decim + 1
    if dec < s0.moN m 0x2E 4 then s0.updMast m (fun x => { x with trace := { tr with decim := dec } })
    else
      let (v, s) := s0.takeFree
      let nodes := (List.range 4).map (fun i => toBits (s.traceNode m (s.moN m 0x2E (5 + i)) (toSigned (v.toNat / 2 ^ (16 * i)) 16)) 16)
      let pre := s.moN m 0x2E 9
      let cur := toSigned (nodes.getD 0 0) 16
      let st0 := if st = 1 ∧ pre ≤ tr.entries.length then 2 else st
      let cond := match tr.prev with
        | some p => trigMet (s.moN m 0x2E 0x0A) (s.mo m 0x2E 0x0B) (toSigned p 16) cur tr.before (s.moN m 0x2E 0x0C)
        | none => false
      let hit := decide (st0 = 2) && (tr.fire || cond)
      let st1 := if hit then 3 else st0
      let all := tr.entries ++ [nodes]
      -- before the trigger the buffer holds the newest PRE entries; at the trigger entry they are kept ahead of it
      let keep := if hit then all.drop (all.length - (pre + 1)) else if st1 = 3 then all else all.drop (all.length - pre)
      let st2 := if st1 = 3 ∧ 8192 ≤ keep.length then 4 else if st1 = 1 ∧ pre ≤ keep.length then 2 else st1
      (s.updMast m (fun x => { x with trace := {
        entries := keep, prev := some (nodes.getD 0 0), decim := 0, fire := if hit then false else tr.fire
        before := tr.events, events := 0, trigAt := if hit then s.now - late else tr.trigAt } })).setMo m 0x2E 1 (st2 : Nat)

/-- Loop whose evaluation block TBASE belongs to (04 Table 4.1): 1 focus, 2 tracking, 3 brace, 4 halyard, 5 spindle, 6 speed,
7 clock track. -/
def loopOf (b : Nat) : Nat := match b with
  | 1 => 1 | 2 => 1 | 3 => 2 | 4 => 2 | 5 => 3 | 6 => 4 | 8 => 6 | 13 => 7 | _ => 5

/-- An evaluation of a loop begins: events of the trace buffer from here on lie in it (04 R133). -/
def State.traceOpen (s : State) (m loop : Nat) : State :=
  if loopOf (s.moN m 0x2E 3) = loop then
    s.updMast m (fun x => { x with trace := { x.trace with before := x.trace.before ||| x.trace.events, events := 0 } })
  else s

/-- Records a trace entry when the loop just evaluated is TBASE's (04 R132). A strobe's evaluation runs 256 ticks after it, the
clock track's 384. For TBASE 8 it is recorded once blocks 7 to 12 of its strobe have run (notes/assumptions/160.md). -/
def State.traceLoop (s : State) (m loop : Nat) : State :=
  if loopOf (s.moN m 0x2E 3) = loop then s.traceStep m (if loop = 7 then 600 else 400) else s

/-- A loop's evaluation that holds (04 R113): counted, and an entry recorded where the loop is TBASE's (R132). -/
def State.holdLoop (s : State) (m loop : Nat) : State := ((s.countM m 3 6).traceEvent m 4).traceLoop m loop

/-- The trace data object M+2F:01 (04 R134). The header shows the present objects of M+2E, also when they were rewritten in DONE
(notes/assumptions/160.md). -/
def State.traceData (s : State) (m : Nat) : List Byte :=
  let tr := (s.mast m).trace
  let st := s.moN m 0x2E 1
  let head := leBytes 8 tr.trigAt ++ leBytes 2 (s.moN m 0x2E 9) ++ leBytes 2 tr.entries.length ++ leBytes 1 st ++
    leBytes 1 (s.moN m 0x2E 3) ++ leBytes 2 (s.moN m 0x2E 4) ++
    (List.range 4).flatMap (fun i => leBytes 2 (s.moN m 0x2E (5 + i))) ++ leBytes 8 0
  if st = 4 then head ++ tr.entries.flatMap (fun e => e.flatMap (leBytes 2)) else head

/-- A trace command (04 R132). -/
def State.traceArm (s : State) (m : Nat) : State :=
  (s.updMast m (fun x => { x with trace := {} })).setMo m 0x2E 1 1
def State.traceStop (s : State) (m : Nat) : State := s.setMo m 0x2E 1 0
def State.traceFire (s : State) (m : Nat) : State :=
  s.updMast m (fun x => { x with trace := { x.trace with fire := true } })

end Sys2Proof.Machine
end

