-- ==== Sys2Proof/Machine/Sled.lean ====
section
/-! DEFINITION. Sled motion (chapter 7): planning, the step recursion, reference, homing, parking, deviation and stall. -/
namespace Sys2Proof.Machine

/-- The park target (07 R188). -/
def State.parkTarget (s : State) (m : Nat) : Int := (s.sled m).nIdx + s.countsToSteps m (s.sp m 0x11)

/-- The greatest speed of the present move: HOMEV while homing searches the index, else VMAX (07 Table 7.1). -/
def State.sledVmax (s : State) (m : Nat) : Int :=
  match (s.opt m).seqn with
  | .homing leg _ _ => if leg = 3 then s.sp m 4 else s.sp m 0x0D
  | _ => s.sp m 4

/-- Braking from speed u stops within |d| (07 R179). -/
def admissible (acc u d : Int) : Bool :=
  let m := (u + acc - 1).fdiv acc
  decide (m * u - acc * ((m * (m - 1)).fdiv 2) ≤ 25000 * d)

def signI (x : Int) : Int := if x > 0 then 1 else if x < 0 then -1 else 0

/-- The planner's velocity under R179 (and R180's admission with a jerk limit). -/
def planV (acc vmax vmin jrk v d : Int) : Int :=
  let sd := signI d
  let vs := v * sd
  let adm : Int → Bool := fun u => admissible acc (if jrk > 0 then u + (acc * (acc + jrk)).fdiv (2 * jrk) else u) d.natAbs
  if d = 0 ∨ vs < 0 then
    let a : Int := v.natAbs
    signI v * (if a > acc then a - acc else 0)
  else
    let u1 := min (vs + acc) vmax
    let u2 := min vs vmax
    let u3 := if vs > acc then vs - acc else 0
    let u := if adm u1 then u1 else if adm u2 then u2 else u3
    sd * (if u < vmin then vmin else u)

/-- The jerk limit (07 R180): the new velocity and speed change. -/
def jerkLimit (acc jrk v a vnew : Int) : Int × Int :=
  if jrk = 0 then (vnew, vnew - v)
  else
    let areq := vnew - v
    let an := a + clampI (areq - a) (-jrk) jrk
    let an := clampI an (-acc) acc
    let an := if (areq ≥ 0 ∧ an > areq) ∨ (areq < 0 ∧ an < areq) then areq else an
    (v + an, an)

/-- Sled state code (07 Table 7.3, R189): off while SLD_EN is 0; code 5 stays until the next homing order. -/
def State.showSled (s : State) (m : Nat) (stalled : Bool) : State :=
  let x := s.sled m
  let o := s.opt m
  let code : Nat := if !o.sldEn then 0 else match o.seqn with
    | .homing .. => 2
    | _ => if stalled || decide (s.mo m 0x3E 1 = 5) then 5 else if !x.referenced then 1 else if s.sledV m ≠ 0 ∨ s.sledN m ≠ s.sledX m then 4 else 3
  (s.setMo m 0x3E 1 (code : Nat)).setMo m 0x3E 6
    (if x.referenced then wrapS ((s.enc m : Int) - x.eIdx) 32 else s.mo m 0x3E 6)

/-- The sled becomes unreferenced and stops at the next boundary (07 R189); `off` also clears SLD_EN until homing. An order that drives
the sled ends: a seek fails, homing fails. -/
def State.unreference (s : State) (m : Nat) (stalled off : Bool) : State :=
  let s1 := s.updSled m (fun x => { x with referenced := false, stop := true, xNext := none, tripped := x.tripped || off })
  let s2 := if off then s1.updOpt m (fun x => { x with sldEn := false }) else s1
  let s3 := match (s2.opt m).seqn with
    | .seek .. => (s2.endOrder m 2).seekFails m
    | .homing .. => (s2.endOrder m 2).countM m 7 4
    | _ => s2
  s3.showSled m stalled

/-- The first boundary of a planning period at or after a tick (04 Table 4.1, 07 R178). -/
def nextBoundary (t : Nat) : Nat := t + (1584 + 25600 - t % 25600) % 25600

/-- SLD_EN is 0 because the link ended (07 R189): the sled is unreferenced and stops at the next boundary, and the state reads off. -/
def State.sledOff (s : State) (m : Nat) : State :=
  let s1 := s.updOpt m (fun x => { x with sldEn := false })
  let s2 := s1.updSled m (fun x => { x with
    refSet := false, hasNext := true, vnext := 0, tb := if x.hasNext then x.tb else nextBoundary (s.tickNow m) })
  s2.unreference m false false

/-- A stall (07 R191): the running order ends as failed. -/
def State.sledStall (s : State) (m : Nat) : State :=
  let s1 := ((s.unreference m true false).setMo m 0x3E 7 (s.sp m 8)).updSled m (fun x => { x with lowered := false })
  let s2 := match (s1.opt m).seqn with
    | .jump .. => (s1.endOrder m 2).seekFails m
    | .layer .. => (s1.endOrder m 2).failPositioning m
    | .acquire .. => (s1.endOrder m 2).countM m 5 11
    | _ => s1
  let s3 := s2.updSled m (fun x => { x with settled := true })
  (((s3.countM m 7 1).condition 0x0011 2 m m).failSled m)

/-- Phase of the sled after every step issued at or before a tick (07 R190). -/
def State.nAt (s : State) (m T : Nat) : Int :=
  let r := (s.sled m).recent
  match r.find? (fun p => p.1 ≤ T) with
  | some p => p.2
  | none => match r.getLast? with
    | some p => p.2 - signI (s.sledV m)
    | none => s.sledN m

/-- The deviation test at a planning evaluation (07 R190, R191), from the first homing on. A run that has reached NDEV tests is a stall;
it goes on without a further one. -/
def State.deviationTest (s : State) (m T : Nat) : State :=
  let x := s.sled m
  if (s.link m).stale ∨ (s.link m).tel = [] then s.countM m 3 6
  else if !x.refSet then s
  else
    let e := x.eRef + s.sp m 3 * quot ((s.nAt m T - x.nRef) * s.sp m 2) (256 * s.encp m)
    let dev := wrapS ((s.enc m : Int) - e) 32
    let s1 := s.setMo m 0x3E 5 dev
    if (dev.natAbs : Int) ≤ s.sp m 0x0B then
      let s2 := if 0 < x.outRun ∧ x.runStalled = false then s1.countM m 7 2 else s1
      s2.updSled m (fun y => { y with outRun := 0, runStalled := false })
    else
      let n := x.outRun + 1
      let stall := !x.runStalled && decide ((s.sp m 0x0C).toNat ≤ n)
      let s2 := s1.updSled m (fun y => { y with outRun := n, runStalled := y.runStalled || stall })
      if stall then s2.sledStall m else s2

/-- Steps issued from the last event to tick tb at the velocity in force (07 R183). -/
def stepsBy (num w : Int) (dt : Nat) : Int :=
  if w = 0 then 0 else
  let p := (dt + 1 : Int) * w - num
  if p ≤ 0 then 0 else (p + sledU - 1).fdiv sledU

/-- The generator projected from its last event to a tick at the velocity in force (07 R178, R184): n, v and the numerator owed at
that tick. -/
def State.sledAt (s : State) (m t : Nat) : Int × Int × Int :=
  let x := s.sled m
  let v := s.sledV m
  let n := s.sledN m
  let w : Int := v.natAbs
  let k := stepsBy x.num w (t - x.te)
  let n' := n + signI v * k
  let tgt := s.sledX m
  let passes := decide (0 < signI v * (tgt - n)) && decide (signI v * (tgt - n') ≤ 0)
  if passes && decide (w ≤ max (s.sp m 6) (s.sp m 5)) then (tgt, 0, sledU)
  else (n', v, x.num + k * sledU - (t - x.te : Nat) * w)

/-- The numerator at a boundary (07 R183): `owed` is what the old velocity left. -/
def boundaryNum (v vn owed : Int) : Int := if vn = 0 ∨ signI vn ≠ signI v then sledU else owed

/-- A planning evaluation at strobe T (07 R178 to R182, R190, R193). -/
def State.planSled (s : State) (m T : Nat) : State :=
  let s1 := s.deviationTest m T
  let s0 := match (s1.sled m).xNext with
    | some x => (s1.setMo m 0x3E 3 x).updSled m (fun y => { y with xNext := none })
    | none => s1
  let x := s0.sled m
  let v := s0.sledV m
  let tgt := s0.sledX m
  let tb := T + 384
  let (nb, vf, _) := s0.sledAt m tb
  let acc := s0.sp m 6
  let jrk := s0.sp m 7
  let raw := planV acc (s0.sledVmax m) (s0.sp m 5) jrk vf (tgt - nb)
  let raw := if (s0.opt m).sldEn ∧ !x.tripped then raw else 0
  let (vn, an) := jerkLimit acc jrk vf (if vf = 0 ∧ v ≠ 0 then 0 else x.a) raw
  let s2 := s0.updSled m (fun y => { y with vnext := vn, hasNext := true, tb := tb, a := an })
  let thold := s0.sp m 0x0A
  let s3 := if v = 0 ∧ thold > 0 ∧ thold * 640000 ≤ (T : Int) - x.lastStep ∧ x.settled = false then
      (s2.setMo m 0x3E 7 (s0.sp m 9)).updSled m (fun y => { y with settled := true, lowered := true })
    else s2
  s3.showSled m false

/-- Homing searches on, or fails, when a leg ends without the index (07 Table 7.1, steps 4 and 5). -/
def State.homingLegEnd (s : State) (m : Nat) : State :=
  match (s.opt m).seqn with
  | .homing 2 _ t0 =>
    let x := s.sledN m + 2 * s.sp m 0x0E
    (s.sledTo m x).setSeqn m (.homing 4 x t0)
  | .homing 4 _ _ => s.unreference m false false
  | .homing 3 _ _ => (s.endOrder m 0).showSled m false
  | _ => s

/-- The velocity of the period that begins at the pending boundary (07 R183, R189). -/
def State.sledNextV (s : State) (m : Nat) : Int := if (s.sled m).stop then 0 else (s.sled m).vnext

/-- A planning period's boundary at its tick (07 R183, R193). A sled that stops there, unreferenced, keeps its phase as its target. -/
def State.sledBoundary (s : State) (m tb : Nat) : State :=
  let x := s.sled m
  let v := s.sledV m
  if !x.hasNext ∨ tb ≠ x.tb then s
  else
    let vn := s.sledNextV m
    let num := boundaryNum v vn (x.num - (tb - x.te : Nat) * v.natAbs)
    let s0 := if x.stop then s.setMo m 0x3E 3 (s.sledN m) else s
    let s1 := (s0.updSled m (fun y => { y with
      num := num, te := tb, hasNext := false, stop := false, a := if x.stop then 0 else y.a
      settled := y.settled && decide (vn = 0) })).setMo m 0x3E 4 vn
    let s2 := if vn ≠ 0 then (s1.setMo m 0x3E 7 (s.sp m 8)).updSled m (fun y => { y with lowered := false }) else s1
    let s3 := if vn = 0 ∧ s2.sledN m = s2.sledX m ∧ (s2.sled m).xNext = none then s2.homingLegEnd m else s2
    s3.showSled m false

/-- The tick at which the next step is due (07 R183). -/
def State.stepDue (s : State) (m : Nat) : Option Nat :=
  let x := s.sled m
  let w : Int := (s.sledV m).natAbs
  if w = 0 then none else some (x.te + (x.num.fdiv w).toNat)

/-- One step at a tick (07 R183, R184). A step that leaves the target behind is an overshoot (R179). -/
def State.sledStep (s : State) (m tick : Nat) : State :=
  if s.stepDue m ≠ some tick then s
  else
    let x := s.sled m
    let v := s.sledV m
    let w : Int := v.natAbs
    let r := x.num.fmod w
    let n := s.sledN m + signI v
    let s0 := if s.sledN m = s.sledX m then s.countM m 7 3 else s
    let s1 := (s0.setMo m 0x3E 2 n).updSled m (fun y => { y with
      num := sledU + r, te := tick, lastStep := tick, recent := ((tick, n) :: y.recent).take 12 })
    if n = s.sledX m ∧ w ≤ max (s.sp m 6) (s.sp m 5) then
      let s2 := (s1.updSled m (fun y => { y with num := sledU, a := 0 })).setMo m 0x3E 4 0
      (s2.homingLegEnd m).showSled m false
    else s1

/-- The homing order (07 Table 7.1, step 1). -/
def State.homingStart (s : State) (m : Nat) : State :=
  let s1 := s.updOpt m (fun x => { x with sldEn := true })
  let s2 := s1.updSled m (fun x => { x with
    tripped := false, stop := x.hasNext || decide (s.sledV m ≠ 0), xNext := some (s.sledN m), eRef := (s.enc m : Nat), nRef := s.sledN m
    refSet := true, referenced := false, settled := true, lowered := false })
  ((s2.setMo m 0x3E 7 (s.sp m 8)).setSeqn m (.homing 1 0 (s.tickNow m))).showSled m false

/-- Ten milliseconds into homing (07 Table 7.1, step 2). -/
def State.homingSeek (s : State) (m : Nat) : State :=
  match (s.opt m).seqn with
  | .homing 1 _ t0 =>
    let x := s.sledN m - s.sp m 0x0E
    (s.sledTo m x).setSeqn m (.homing 2 x t0)
  | _ => s

/-- The index mark in a telemetry set of strobe T (07 Table 7.1, step 3). -/
def State.homingIndex (s : State) (m T : Nat) : State :=
  match (s.opt m).seqn with
  | .homing leg _ t0 =>
    if leg ≠ 3 ∧ (s.tw m 26).testBit 1 then
      let n := s.nAt m T
      let s1 := s.updSled m (fun x => { x with
        referenced := true, eIdx := (s.enc m : Nat), nIdx := n, eRef := (s.enc m : Nat), nRef := n })
      let x := s1.parkTarget m
      let s2 := (s1.sledTo m x).setSeqn m (.homing 3 x t0)
      if s2.sledN m = x ∧ s2.sledV m = 0 then s2.homingLegEnd m else s2
    else s
  | _ => s

/-- The sled stands at its park target, or cannot move to it (06 R173; notes/assumptions/12.md). -/
def State.sledParked (s : State) (m : Nat) : Bool :=
  let x := s.sled m
  !x.referenced || decide (s.sledV m = 0 ∧ s.sledN m = s.parkTarget m)

/-- Orders the sled to park (07 R189). -/
def State.orderPark (s : State) (m : Nat) : State :=
  if (s.sled m).referenced then s.sledTo m (s.parkTarget m) else s

/-- The phase n and amplitude A in force at a tick (07 R177, R193): every step issued by then, across the boundary that lies
before it. -/
def State.sledForce (s : State) (m t : Nat) : Int × Int :=
  let x := s.sled m
  let a := s.mo m 0x3E 7
  if x.hasNext ∧ x.tb ≤ t then
    let (n, v, owed) := s.sledAt m x.tb
    let vn := s.sledNextV m
    let k := stepsBy (boundaryNum v vn owed) vn.natAbs (t - x.tb)
    let left := signI vn * ((if x.stop then n else s.sledX m) - n)
    let stops := decide (0 < left ∧ left ≤ k ∧ (vn.natAbs : Int) ≤ max (s.sp m 6) (s.sp m 5))
    (n + signI vn * (if stops then left else k), if vn ≠ 0 then s.sp m 8 else a)
  else ((s.sledAt m t).1, a)

/-- The bridge duties SLA and SLB of a frame that acts at a tick (07 R177). -/
def State.bridge (s : State) (m atick : Nat) : Int × Int :=
  let (n, a) := s.sledForce m atick
  let th := wrapU (n * (16384 / s.sp m 1)) 16
  (sat (rne (prod a (cosine th)) 16) 16, sat (rne (prod a (sine th)) 16) 16)

/-- What a telemetry set tells of the sled (07 R189, R192): FFLT[3] retires it when it is newly set, and every set without the encoder
leaves the sled unreferenced; the loss of the encoder is one failure. -/
def State.sledTelemetry (s : State) (m T : Nat) : State :=
  let encOk := (s.tw m 26).testBit 0
  let flt := s.tw m 33
  let safe := (s.tw m 32).testBit 7
  let active := (s.opt m).sldEn
  let s0 := if flt.testBit 3 ∧ (s.sled m).fltSeen = false then (s.unreference m false true).retireSled m
    else if (safe ∨ flt.testBit 0 ∨ flt.testBit 1) ∧ active then s.unreference m false true
    else s
  let s1 := if encOk then s0
    else
      let a := s0.unreference m false false
      if (s.sled m).encLost then a else a.failSled m
  (s1.updSled m (fun x => { x with encLost := !encOk, fltSeen := flt.testBit 3 })).homingIndex m T

end Sys2Proof.Machine
end

