-- ==== Sys2Proof/Machine/Optical.lean ====
section
/-! DEFINITION. The optical loops (chapter 5): lock and loss, acquisition, track jumps, seeks, layer jumps, the clock-track loop with
the clock-mark detector and guide addresses of chapter 9. -/
namespace Sys2Proof.Machine

/-- Ticks of the mast clock in n microseconds. -/
def ticksUs (n : Nat) : Nat := n * 640

/-- FE, TE, SUM of the active servo sail (05 R138). -/
def State.sigFe (s : State) (m : Nat) : Int := s.tq m (if s.v1Active m then 4 else 1)
def State.sigTe (s : State) (m : Nat) : Int := s.tq m (if s.v1Active m then 5 else 2)
def State.sigSum (s : State) (m : Nat) : Int := s.tq m (if s.v1Active m then 6 else 3)

/-- A loop is locked: bit b of M+30:01 (0 focus, 1 tracking, 2 brace, 3 halyard, 4 clock track). -/
def State.locked (s : State) (m b : Nat) : Bool := s.maskBit (mkey m 0x30 1) b
/-- All five loops are locked (05 R139). -/
def State.allLocked (s : State) (m : Nat) : Bool := (List.range 5).all (s.locked m)

/-- A loop ceases to be locked, without a loss counted. -/
def State.unlock (s : State) (m b : Nat) : State :=
  (s.clearMaskBit (mkey m 0x30 1) b).updOpt m (fun x => { x with
    lockRun := tblPut (fun _ => 0) b 0 x.lockRun, lossRun := tblPut (fun _ => 0) b 0 x.lossRun })

/-- The block that closes a loop. -/
def loopBlock (b : Nat) : Nat := match b with
  | 0 => 1 | 1 => 3 | 2 => 5 | 3 => 6 | _ => 13

/-- A loop's block is enabled (04 R129). -/
def State.closedLoop (s : State) (m b : Nat) : Bool := (s.pidPar m (loopBlock b)).en

/-- Opens a loop: its block outputs HOLD with its states at zero (04 R129). -/
def State.openLoop (s : State) (m b : Nat) : State :=
  let s1 := (s.unlock m b).enableBlock m (loopBlock b) false
  if b = 0 then s1.clearBlock m 2
  else if b = 1 then s1.clearBlock m 4
  else if b = 4 then s1.updOpt m (fun x => { x with clockPh := 0, chi0 := none, unit := none })
  else s1

/-- Opens every optical loop (05 R141). -/
def State.openOptical (s : State) (m : Nat) : State := forEach (List.range 5) (fun b a => a.openLoop m b) s

/-- Sectors that were scheduled and not yet in the pool wait again (05 R139, R152). -/
def State.unschedule (s : State) (m : Nat) : State :=
  let s1 := s.setSectors (s.media.sectors.map (fun x =>
    if x.mast = m ∧ x.phase = .scheduled then x.unread else x))
  s1.updMast m (fun x => { x with sails := x.sails.map (fun p => (p.1, { p.2 with frames := [] })) })

/-- The zone that holds a guide track, with N(z) and K(z). -/
def State.zoneNK (s : State) (m g : Nat) : Nat × Nat × Nat :=
  let t := (s.tableOf m).getD 0
  let z := s.zoneOf t g
  (z, s.zoneN t z, s.zoneK t z)

/-- The guide track under the radius that the sled position gives (05 R149; notes/assumptions/13.md). -/
def State.trackOfSled (s : State) (m : Nat) : Nat :=
  let pm := Config.sledOrigin m + s.mo m 0x3E 6 * s.encp m
  (clampI ((pm.fdiv 1000 - 23952000).fdiv 240) 0 141999).toNat

/-- The active servo sail's guide track: the address read, else the track that the sled position gives (05 R149). -/
def State.trackNow (s : State) (m : Nat) : Nat := if (s.opt m).chi0.isSome then s.moN m 0x30 3 else s.trackOfSled m

/-- SFW of a frequency word (05 R150). -/
def sfwOf (f k : Nat) : Nat := f * k / 2 ^ 40

/-- Shows F and SFW in use. -/
def State.showClock (s : State) (m : Nat) : State :=
  let x := s.opt m
  (s.setMo m 0x34 4 (x.f : Nat)).setMo m 0x34 5 (sfwOf x.f x.k : Nat)

/-- Starts the clock-track loop on a guide track's zone: F0 (05 R149), phase to be snapped (R151). Its fraction is that of the phase
that the front-end holds, so that no frame's SPF moves P beyond R93; its integer part, and with it the index of the sample where a
mark is first sought, is open (notes/assumptions/14.md). -/
def State.clockStart (s : State) (m g : Nat) : State :=
  let (z, n, k) := s.zoneNK m g
  let prev := (s.drive m).revTgt
  let f0 := if prev = 0 then 0 else n * 2 ^ 48 / prev
  let v := s.sail m (if s.v1Active m then 65 else 64)
  let (fr, s1) := s.takeFree
  let tick := (s.tickNow m)
  let x := s.opt m
  let frac := (x.pf + (tick - x.pfAt) * x.pfW) % 2 ^ 24
  let whole := fr.toNat % 2 ^ 24
  let phi := if k = 0 then 0 else (whole * 2 ^ 24 + frac) * 2 ^ 40 / k
  let off := (v.base + v.raw.length + 2 ^ 32 - whole + fr.toNat / 2 ^ 24 % 919) % 2 ^ 32
  let s2 := (s1.unlock m 4).enableBlock m 13 false
  let s3 := s2.updOpt m (fun y => { y with
    f0 := f0 % 2 ^ 48, f := f0 % 2 ^ 48, k := k, nz := n, phi := phi, phiAt := tick, clkOld := none, off := off, clockPh := 1
    flyRuns := 0, snap := 0, chi0 := none, unit := none, mark := phi / 2 ^ 48 + 1 })
  (s3.setMo m 0x50 2 (z : Nat)).showClock m

/-- Seeks, jumps and layer jumps of the mast drive tracking; which sequence runs. -/
def State.seqn (s : State) (m : Nat) : Seqn := (s.opt m).seqn

/-- Actions of one step of Table 5.4 (05 R141). -/
def State.acqAction (s : State) (m step : Nat) : State :=
  let t := (s.tableOf m).getD 0
  match step with
  | 1 =>
    let s1 := (s.updOpt m (fun x => { x with lsrEn := true })).setTarget m 5 (s.mo m 0x30 6)
    if s1.locked m 2 then s1 else s1.enableBlock m 5 true
  | 3 =>
    let s1 := s.setTarget m 1 (if s.v1Active m then s.mo m 0x30 9 else s.mo m 0x30 7)
    (s1.enableBlock m 1 true).clearBlock m 2
  | 4 => (s.openLoop m 1).updOpt m (fun x => { x with peaks := [], peak := 0, sinceX := 0 })
  | 5 => ((s.setTarget m 3 0).enableBlock m 3 true).clearBlock m 4
  | 6 => s.clockStart m (s.trackNow m)
  | 7 => s.updOpt m (fun x => { x with chi0 := none, unit := none })
  | 8 => (s.openLoop m 3).updOpt m (fun x => { x with lobe := false, hlf := s.obj (tkey t 0 0x0B), resumed := none })
  | 9 =>
    if s.locked m 3 then s
    else
      let s1 := ((s.enableBlock m 6 true).setFeed m 6 (s.mo m 0x33 0x21)).setTarget m 6 (s.mo m 0x33 1)
      (s1.setMo m 0x30 4 0).updOpt m (fun x => { x with slew := none, hsa := if s1.maskBit (mkey m 9 0x0A) 1 then s1.mo m 0x33 0x11 else 0 })
  | _ => s

/-- The step that follows `k` for loops already locked (05 R139). -/
def State.acqNext (s : State) (m : Nat) (k : Nat) : Nat :=
  let k := if (k = 2 ∨ k = 3) ∧ s.locked m 0 = true then 4 else k
  let k := if (k = 4 ∨ k = 5) ∧ s.locked m 1 = true then 6 else k
  let k := if k = 6 ∧ s.locked m 4 = true then 7 else k
  let k := if k = 7 ∧ (s.opt m).chi0.isSome = true then 8 else k
  if k = 8 ∧ s.locked m 3 = true then 9 else k

/-- A positioning order begins (05 R140, R154): the gate closes and a calibration ends as a fail. -/
def State.beginOrder (s : State) (m : Nat) : State := (s.closeGate m).failCal m

/-- Enters a step of the acquisition. -/
def State.acqEnter (s : State) (m step tick t0 : Nat) : State :=
  let k := s.acqNext m step
  (s.acqAction m k).setSeqn m (.acquire k tick t0)

/-- The attempt fails (05 R141): loops open, beams dark; the third failure of an order makes the mast faulted. -/
def State.acqFail (s : State) (m tick : Nat) : State :=
  let s1 := ((s.openOptical m).updOpt m (fun x => { x with lsrEn := false, fails := x.fails + 1 })).countM m 5 11
  if (s1.opt m).fails ≥ 3 then ((s1.endOrder m 1).updOpt m (fun x => { x with fails := 0 })).faultMast m
  else s1.setSeqn m (.acquire 0 tick tick)

/-- The acquisition has not reached tracking 100 ms after its order (05 R141). -/
def State.acqTimeout (s : State) (m : Nat) : State :=
  match s.seqn m with
  | .acquire (k + 1) _ t0 => if t0 + ticksUs 100000 ≤ s.tickNow m then s.acqFail m (s.tickNow m) else s
  | _ => s

/-- The mast enters the tracking state when all five loops are locked (05 R139), and the acquisition ends; at or after its time-out
it has failed (00 R22). -/
def State.acqDone (s0 : State) (m : Nat) : State :=
  if !s0.allLocked m then s0
  else
    let s := s0.acqTimeout m
    match s.seqn m with
    | .acquire 9 _ _ =>
      let s1 := (s.endOrder m 0).updOpt m (fun x => { x with fails := 0 })
      if (s1.mast m).st = .spinning then (s1.setMastState m .tracking).showWindow m else s1
    | _ => s

/-- A layer jump fails (05 R147): step 8 of Table 5.4 is repeated, which lands on L0, and the Mast level orders the jump again; the
third failure ends the order as failed, with the result of its cause. -/
def State.layerFail (s : State) (m tick result : Nat) : State :=
  let n := (s.opt m).layerFails + 1
  let s1 := (s.updOpt m (fun x => { x with layerFails := n, resumed := none, slew := none })).failPositioning m
  let s2 := if n ≥ 3 then (s1.endOrder m result).updOpt m (fun x => { x with layerFails := 0, layerGoal := none }) else s1
  let again := match (s2.opt m).layerGoal with
    | some b => [Seqn.layer 0 b 0 0 0 none false]
    | none => []
  ((s2.updOpt m (fun x => { x with queued := again ++ x.queued })).openLoop m 3).acqEnter m 8 tick tick

/-- A layer jump has not brought block 6 back in time, or its halyard has not locked again 10 ms after block 6 resumed (05 R147;
notes/assumptions/165.md). -/
def State.layerTimeout (s : State) (m : Nat) : State :=
  match s.seqn m, (s.opt m).resumed with
  | .layer x y _ _ t0 _ _, none =>
    if t0 + ticksUs (1000 + 500 * ((y : Int) - x).natAbs) ≤ s.tickNow m then s.layerFail m (s.tickNow m) 1 else s
  | .layer .., some r => if r + ticksUs 10000 ≤ s.tickNow m then s.layerFail m (s.tickNow m) 2 else s
  | _, _ => s

/-- The final crossing of a track jump has not been seen in time (05 Table 5.5). -/
def State.jumpTimeout (s : State) (m : Nat) : State :=
  match s.seqn m with
  | .jump d seen _ t0 =>
    if seen < 2 * d.natAbs ∧ t0 + ticksUs (50 + 25 * d.natAbs) ≤ s.tickNow m then ((s.endOrder m 1).seekFails m).shiftFailed m d else s
  | _ => s

/-- What the loss of a loop does to the order that runs (05 R139, R145, R147). A seek that loses focus, or a loop that its steps 5 to 7
had closed, is over: the Mast level re-acquires. -/
def State.orderLost (s : State) (m b tick : Nat) : State :=
  match s.seqn m with
  | .jump d _ _ _ => ((s.endOrder m 2).seekFails m).shiftFailed m d
  | .seek .. => if b = 0 ∨ b = 1 ∨ b = 4 then (s.endOrder m 2).seekFails m else s
  | .layer .. => s.endOrder m 2
  | .none =>
    match (s.opt m).resumed with
    | some r => if b = 3 ∧ tick < r + ticksUs 10000 then s.layerFail m tick 2 else s
    | none => s
  | _ => s

/-- A locked loop loses lock (05 R137, R139, R140). Sectors in flight go on: those that fail decoding enter the ladder. -/
def State.loopLost (s : State) (m b tick : Nat) : State :=
  let acq := match s.seqn m with
    | .acquire .. => true
    | _ => false
  let v := if s.v1Active m then 1 else 0
  let s1 := (((s.unlock m b).countM m 5 (b + 1)).closeGate m).failCal m
  let s2 := if b = 0 then (s1.openLoop m 1).openLoop m 4 else if b = 1 then s1.openLoop m 4 else s1
  let s3 := if (s2.mast m).st.onTrack then s2.setMastState m .spinning else s2
  let s4 := s3.orderLost m b tick
  let auto := decide (s4.moN m 0x30 5 = 0) && s4.maskBit (mkey m 9 0x0A) 0 && decide (v = 0 ∧ b ≤ 1) &&
    decide (s4.tq m 6 ≥ s4.mo m 0x31 1) && !s4.maskBit (mkey m 0x58 2) 1
  let s5 := if auto then s4.switchSail m true else s4
  if b ≤ 1 ∧ acq = false then s5.failServoSail m v else s5

/-- A loop gains lock (05 R138): its bit, and the acquisition's next step. -/
def State.loopGained (s : State) (m b tick : Nat) : State :=
  let s1 := s.setMaskBit (mkey m 0x30 1) b
  let s2 := match s1.seqn m with
    | .acquire k _ t0 =>
      if (b = 0 ∧ k = 3) ∨ (b = 1 ∧ k = 5) ∨ (b = 4 ∧ k = 6) then s1.acqEnter m (k + 1) tick t0 else s1
    | .seek g c k _ t0 =>
      if b = 1 ∧ k = 5 then (s1.clockStart m g).setSeqn m (.seek g c 6 tick t0)
      else if b = 4 ∧ k = 6 then (s1.updOpt m (fun x => { x with chi0 := none, unit := none })).setSeqn m (.seek g c 7 tick t0)
      else s1
    | .jump d seen h t0 =>
      if b = 1 ∧ seen ≥ 2 * d.natAbs then
        let g := ((s1.moN m 0x30 3 : Int) + d).toNat
        let goal := (s1.opt m).within.getD (g, 0)
        if (s1.zoneNK m g).1 ≠ s1.moN m 0x50 2 then
          ((s1.updOpt m (fun x => { x with within := none })).clockStart m g).setSeqn m (.seek goal.1 goal.2 6 tick t0)
        else (s1.updOpt m (fun x => { x with unit := none })).setSeqn m (.jump d seen h t0)
      else s1
    | .layer _ _ _ _ _ _ true =>
      if b = 3 then s1.endOrder m 0 else s1
    | _ => s1
  s2.acqDone m

/-- One lock or loss test of a loop at an evaluation (05 R138). -/
def State.lockTest (s : State) (m b tick : Nat) (ok bad : Bool) (nOk nBad : Nat) : State :=
  let x := s.opt m
  if !s.closedLoop m b then s.unlock m b
  else if s.locked m b then
    let r := if bad then tblGet (fun _ => 0) x.lossRun b + 1 else 0
    if r ≥ nBad then s.loopLost m b tick
    else s.updOpt m (fun y => { y with lossRun := tblPut (fun _ => 0) b r y.lossRun })
  else
    let r := if ok then tblGet (fun _ => 0) x.lockRun b + 1 else 0
    let s1 := s.updOpt m (fun y => { y with
      lockRun := tblPut (fun _ => 0) b (if r ≥ nOk then 0 else r) y.lockRun, lossRun := tblPut (fun _ => 0) b 0 y.lossRun })
    if r ≥ nOk then s1.loopGained m b tick else s1

/-- The sign of a signal changed between two evaluations; a sample of exactly 0 counts as positive (notes/assumptions/140.md). -/
def crossed (a b : Int) : Bool := decide ((a < 0) ≠ (b < 0))

/-- A linear ramp from a to b over n ticks, at elapsed tick e (notes/assumptions/15.md). -/
def ramp (a b : Int) (n e : Nat) : Int := if e ≥ n then b else a + ((b - a) * e).fdiv n

/-- FOC while the focus sweeps (05 Table 5.4, step 2). -/
def sweepFoc (fsw : Int) (e : Nat) : Int :=
  if e < 12800000 then ramp (-fsw) fsw 12800000 e else ramp fsw (-fsw) 12800000 (e - 12800000)

/-- A focus evaluation from strobe T (04 R109, 05 R136 to R141). -/
def State.evalFocus (s : State) (m T : Nat) : State :=
  if s.loopHolds m 1 then (s.traceOpen m 1).holdLoop m 1
  else
    let s0 := ((((s.traceOpen m 1).loopUsed m 1).takeCommits m 1 T).takeCommits m 2 T)
    let fe := s0.sigFe m
    let sum := s0.sigSum m
    let s1 := s0.evalPid m 1 (sat (s0.target m 1 - fe) 16)
    let s2 := s1.evalChain m 2 (s1.pid m 1).u
    let prev := (s2.opt m).prevFe
    let fsummin := s2.mo m 0x31 1
    let furl := (s2.drive m).furlAt
    let foc := match furl, s2.seqn m with
      | some t, _ => ramp (s2.drive m).furlFoc 0 (ticksUs 1000) (T - t)
      | none, .acquire 2 since _ => sweepFoc (s2.mo m 0x31 0x0A) (T - since)
      | none, _ => s2.chainOut m 2
    let s3 := s2.updOpt m (fun x => { x with foc := foc, prevFe := fe })
    let s4 := match s3.seqn m with
      | .acquire 1 since t0 => if since + ticksUs 200 ≤ T then s3.acqEnter m 2 T t0 else s3
      | .acquire 2 since t0 =>
        if sum ≥ fsummin ∧ crossed prev fe = true then s3.acqEnter m 3 T t0
        else if since + 25600000 ≤ T then s3.acqFail m T else s3
      | _ => s3
    let ok := decide ((fe.natAbs : Int) ≤ s4.mo m 0x31 3 ∧ sum ≥ fsummin)
    let bad := decide (sum < s4.mo m 0x31 2 ∨ (fe.natAbs : Int) > s4.mo m 0x31 0x87)
    let s5 := match (s4.opt m).cal with
      | some c => if c.kind = CalKind.loop ∧ c.code = 1 ∧ c.armed = true ∧ c.n < 4096 then
          -- in the uint64 sum a negative SUM counts as 0 (notes/assumptions/159.md)
          s4.updOpt m (fun x => { x with cal := some { c with acc := c.acc + sum.toNat, n := c.n + 1 } }) else s4
      | none => s4
    (s5.lockTest m 0 T ok bad 256 16).traceLoop m 1

/-- Jump sequencing at a tracking evaluation (05 Table 5.5): the state after a crossing. For |delta| = 1 the crossing of the brake is also
that of the held value, which is put out (notes/assumptions/162.md). -/
def State.jumpCross (s : State) (m : Nat) : State :=
  match s.seqn m with
  | .jump d seen h t0 =>
    let n := d.natAbs
    let seen' := seen + 1
    let kick := s.mo m 0x31 0x0C
    let trk := if seen' ≥ 2 * n - 1 then h else if seen' ≥ n then sat (h - signI d * kick) 16 else (s.opt m).trk
    (s.updOpt m (fun x => { x with trk := trk })).setSeqn m (.jump d seen' h t0)
  | _ => s

/-- A jump has not yet landed: blocks 3 and 4 hold (05 Table 5.5). -/
def State.jumping (s : State) (m : Nat) : Bool :=
  match s.seqn m with
  | .jump d seen _ _ => decide (seen < 2 * d.natAbs)
  | _ => false

/-- A tracking evaluation from strobe T. -/
def State.evalTracking (s : State) (m T : Nat) : State :=
  if s.loopHolds m 2 then (s.traceOpen m 2).holdLoop m 2
  else
    let s0 := ((((s.traceOpen m 2).loopUsed m 2).takeCommits m 3 T).takeCommits m 4 T)
    let te := s0.sigTe m
    let x := s0.opt m
    let cross := crossed x.prevTe te
    let fall := decide (x.prevTe > 0 ∧ te ≤ 0)
    let since := x.sinceX + 1
    let peak := max x.peak te.natAbs
    let peaks := if cross then (peak :: x.peaks).take 64 else x.peaks
    let s1 := s0.updOpt m (fun y => { y with
      prevTe := te, sinceX := if fall then 0 else since, peak := if cross then 0 else peak, peaks := peaks })
    let s2 := if s1.jumping m then (let a := s1.jumpTimeout m; if cross && a.jumping m then a.jumpCross m else a)
      else
        let a := s1.evalPid m 3 (sat (s1.target m 3 - te) 16)
        let b := a.evalChain m 4 (a.pid m 3).u
        b.updOpt m (fun y => { y with trk := b.chainOut m 4 })
    let s3 := match s2.seqn m with
      | .acquire 4 _ t0 =>
        let a := s2.setMo m 0x30 0x0A (min (peaks.foldl max 0) 32767 : Nat)
        if fall ∧ since ≥ a.moN m 0x31 0x0B then a.acqEnter m 5 T t0 else a
      | .seek g c 4 _ t0 =>
        let a := s2.setMo m 0x30 0x0A (min (peaks.foldl max 0) 32767 : Nat)
        if fall ∧ since ≥ a.moN m 0x31 0x0B then
          (((a.setTarget m 3 0).enableBlock m 3 true).clearBlock m 4).setSeqn m (.seek g c 5 T t0)
        else a
      | _ => s2
    let s4 := if (te.natAbs : Int) > s3.mo m 0x31 5 ∧ s3.locked m 1 = true then s3.closeGate m else s3
    let s5 := if s4.jumping m then s4
      else s4.lockTest m 1 T (decide ((te.natAbs : Int) ≤ s4.mo m 0x31 4)) (decide ((te.natAbs : Int) > s4.mo m 0x31 0x89)) 256 8
    s5.traceLoop m 2

/-- A brace evaluation from strobe T. -/
def State.evalBrace (s : State) (m T : Nat) : State :=
  if s.loopHolds m 3 then (s.traceOpen m 3).holdLoop m 3
  else
    let s0 := ((s.traceOpen m 3).loopUsed m 3).takeCommits m 5 T
    let e := sat (s0.target m 5 - s0.tq m 8) 16
    let s1 := s0.evalPid m 5 e
    let s2 := s1.updOpt m (fun x => { x with brc := (s1.pid m 5).u })
    (s2.lockTest m 2 T (decide ((e.natAbs : Int) ≤ s2.mo m 0x31 6)) (decide ((e.natAbs : Int) > s2.mo m 0x31 0x8D)) 64 4).traceLoop m 3

/-- HLF of a layer jump at tick T (05 Table 5.6). -/
def State.layerOut (s : State) (m : Nat) (a b : Nat) (h : Int) (t0 T : Nat) (brake : Option Nat) (ended : Bool) : Int :=
  let d : Int := if b > a then 1 else -1
  let base := h + s.mo m 0x33 (b + 0x21) - s.mo m 0x33 (a + 0x21)
  let hk := s.mo m 0x31 0x99
  let htk := ticksUs (s.moN m 0x31 0x0D)
  sat (match brake with
    | some _ => if ended then base else base - d * hk
    | none => if T < t0 + htk then h + d * hk else base) 16

/-- HSA slews linearly over 400 us, whatever block 6 does meanwhile (05 Table 5.6). -/
def State.slewHsa (s : State) (m T : Nat) : State :=
  match (s.opt m).slew with
  | some (t0, a, b) => s.updOpt m (fun x => { x with
      hsa := ramp a b (ticksUs 400) (T - t0), slew := if t0 + ticksUs 400 ≤ T then none else x.slew })
  | none => s

/-- 10 ms after block 6 resumed without a loss the layer-jump order has succeeded (05 R147). -/
def State.layerSettled (s : State) (m T : Nat) : State :=
  match (s.opt m).resumed, s.seqn m with
  | some r, .none => if r + ticksUs 10000 ≤ T then
      s.updOpt m (fun x => { x with resumed := none, layerFails := 0, layerGoal := none }) else s
  | _, _ => s

/-- A halyard evaluation from strobe T. -/
def State.evalHalyard (s : State) (m T : Nat) : State :=
  if s.loopHolds m 4 then (s.traceOpen m 4).holdLoop m 4
  else
    let s0 := (((((s.traceOpen m 4).loopUsed m 4).takeCommits m 6 T).slewHsa m T).layerSettled m T).layerTimeout m
    let hfe := s0.tq m 7
    let hsc := s0.mo m 0x31 8
    let x := s0.opt m
    let zero := crossed x.prevHfe hfe
    let inLobe := decide ((hfe.natAbs : Int) ≥ hsc)
    let s1 := s0.updOpt m (fun y => { y with prevHfe := hfe, lobe := inLobe })
    let s2 := match s1.seqn m with
      | .acquire 8 since t0 =>
        let near := s1.obj (tkey ((s1.tableOf m).getD 0) 0 0x0B)
        let deep := near + 1 + (Config.halyardSweepEnd m).toNat % (max 1 (32767 - near).toNat)
        let seen := x.lobe || inLobe
        let a := s1.updOpt m (fun y => { y with lobe := seen, hlf := ramp near (min deep 32767) 6400000 (T - since) })
        if x.lobe ∧ zero = true then a.acqEnter m 9 T t0 else a
      | .layer la lb lobes h t0 brake ended =>
        if (s1.opt m).resumed.isSome then
          let a := s1.evalPid m 6 (sat (s1.target m 6 - hfe) 16)
          a.updOpt m (fun y => { y with hlf := (a.pid m 6).u })
        else
          let n := (lb : Int) - la
          let lobes' := if inLobe ∧ x.lobe = false then lobes + 1 else lobes
          let brake' := if brake.isNone ∧ lobes' ≥ 2 * n.natAbs then some T else brake
          let cross := brake.isSome && zero
          let excess := match brake' with
            | some t => decide (t + ticksUs (s1.moN m 0x31 0x9B) ≤ T)
            | none => false
          let ended' := ended || excess || cross
          if cross then
            let a := ((s1.setFeed m 6 (s1.mo m 0x33 (lb + 0x21))).setTarget m 6 (s1.mo m 0x33 (lb + 1))).setMo m 0x30 4 (lb : Nat)
            let b := a.evalPid m 6 (sat (a.target m 6 - hfe) 16)
            (b.updOpt m (fun y => { y with hlf := (b.pid m 6).u, resumed := some T })).setSeqn m
              (.layer la lb lobes' h t0 brake' true)
          else
            (s1.updOpt m (fun y => { y with hlf := s1.layerOut m la lb h t0 T brake' ended' })).setSeqn m
              (.layer la lb lobes' h t0 brake' ended')
      | _ =>
        let a := s1.evalPid m 6 (sat (s1.target m 6 - hfe) 16)
        a.updOpt m (fun y => { y with hlf := (a.pid m 6).u })
    let held := match s2.seqn m with
      | .layer .. => !(s2.opt m).resumed.isSome
      | _ => false
    let d : Int := (sat (hfe - s2.target m 6) 16).natAbs
    let s3 := if held then s2
      else s2.lockTest m 3 T (decide (d ≤ s2.mo m 0x31 7)) (decide (d > s2.mo m 0x31 0x8F)) 64 4
    (s3.acqDone m).traceLoop m 4

/-- The clock-mark detector at a mark of NCO cycle count chi (09 R228): whether it passes, its bit and q_m. -/
def markOf (v : Int → Int) (k kq : Int) (cmin : Nat) (chi : Int) : Bool × Bool × Int :=
  let x := chi * k
  let n0 := rne x 16
  let fr := asr (x - n0 * 65536) 8
  let c := (List.range 17).foldl (fun (a : Int) (i : Nat) =>
    let j : Int := (i : Int) - 8
    a + (if -4 ≤ j ∧ j ≤ 4 then 16 else -16) * v (n0 + j)) 0
  let qd := 16 * (v (n0 - 5) + v (n0 - 4) - v (n0 + 4) - v (n0 + 5))
  let cm := c.natAbs
  if cmin ≤ cm ∧ cm ≠ 0 then (true, decide (c < 0), sat (((if c < 0 then -qd else qd) * kq).fdiv cm + fr) 16)
  else (false, decide (c < 0), 0)

/-- A servo sail's sample at an NCO index; servo samples are used as taken (notes/assumptions/16.md). -/
def SailSt.servoAt (x : SailSt) (off : Nat) (n : Int) : Int :=
  match x.raw[posDiff x.base (wrapU (n + off) 32).toNat]? with
  | some r => r.x
  | none => 0

/-- A servo sail holds the detector's span of every mark from chi on, n of them; `off` as in OptSt. -/
def SailSt.holdsMarks (x : SailSt) (off : Nat) (k : Int) (chi : Int) (n : Nat) : Bool :=
  let lo := rne (chi * k) 16 - 8 + off
  let hi := rne ((chi + n - 1) * k) 16 + 8 + off
  decide (posDiff x.base (wrapU lo 32).toNat ≤ posDiff x.base (wrapU hi 32).toNat ∧
    posDiff x.base (wrapU hi 32).toNat < x.raw.length)

/-- Clamps F so that SFW stays within R93: the word and whether the clamp acted (05 R150). -/
def clampF (f : Int) (k : Nat) : Nat × Bool :=
  if k = 0 then (0, true)
  else
    let lo : Int := (6553600 * 2 ^ 40 + k - 1) / k
    let hi : Int := (53477377 * 2 ^ 40 - 1) / k
    let g := clampI f lo hi
    (g.toNat, decide (g ≠ f))

/-- A calibration of code 4 takes V1's timing errors (05 Table 5.7). -/
def State.calMarks (s : State) (m : Nat) (qs : List Int) : State :=
  match (s.opt m).cal with
  | some c =>
    if c.kind = .loop ∧ c.code = 4 ∧ c.armed = true ∧ c.n < 4096 then
      let sum := qs.foldl (· + ·) 0
      let gs := if c.n % 256 = 0 then c.groups ++ [sum] else c.groups.dropLast ++ [c.groups.getLastD 0 + sum]
      s.updOpt m (fun x => { x with cal := some { c with groups := gs, n := c.n + qs.length } })
    else s
  | none => s

/-- An order makes the clock-track loop flywheel: a track jump until it lands, a seek until its step 6 (05 R144, R145). -/
def State.flywheels (s : State) (m : Nat) : Bool :=
  match s.seqn m with
  | .jump d seen _ _ => decide (seen < 2 * d.natAbs)
  | .seek _ _ k _ _ => decide (k < 6)
  | _ => false

/-- A run of 16 clock marks after strobe T (05 R148 to R152): its outputs are in force from the end of its window, T + 656 (04 R112;
notes/assumptions/139.md). A calibration of code 4 takes no samples while V1 drives (notes/assumptions/161.md). -/
def State.clockRun (s : State) (m T : Nat) : State :=
  let x := s.opt m
  let vi := if s.v1Active m then 65 else 64
  let v := s.sail m vi
  if T % 400 ≠ 0 ∨ x.clockPh = 0 ∨ !v.holdsMarks x.off x.k x.mark 16 then s
  else
    let due := T + 656
    let kq : Int := s.obj (tkey ((s.tableOf m).getD 0) 0 7)
    let cmin := s.moN m 0x34 3
    let marks := (List.range 16).map (fun i => markOf (v.servoAt x.off) x.k kq cmin ((x.mark + i : Nat) : Int))
    let passes := (marks.filter (fun r => r.1)).length
    let y13 := sat (rne (marks.foldl (fun a r => a + (if r.1 then r.2.2 else 0)) 0) 3) 16
    let e13 := sat (s.target13 m - y13) 16
    let few := decide (passes < 8)
    let fly := few || s.flywheels m
    let s0 := (s.traceOpen m 7).updOpt m (fun z => { z with
      mark := z.mark + 16, clkOld := some (due, z.phi, z.phiAt, z.f), phi := z.phaseAt due, phiAt := max due z.phiAt
      flyRuns := if few then z.flyRuns + 1 else 0 })
    let other := s0.sail m 65
    let s1 := if vi = 64 then
        s0.calMarks m ((List.range 16).map (fun i => (markOf (other.servoAt x.off) x.k kq cmin ((x.mark + i : Nat) : Int)).2.2))
      else s0
    let s2 := if few then (s1.countM m 5 7).closeGate m else s1
    let run : State → State := fun a =>
      if fly then a
      else
        let b := (a.takeCommits m 13 T).evalPid m 13 e13
        let u := (b.pid m 13).u
        let (f, lim) := clampF ((x.f0 : Int) + u * 2 ^ b.moN m 0x34 1) x.k
        (b.updOpt m (fun z => { z with f := f })).blockFlags m 13 false lim
    let s3 := match x.clockPh with
      | 1 =>
        if passes = 16 then
          let delta : Int := if x.k = 0 then 0 else (-(y13 * 2 ^ 55)).fdiv x.k
          s2.updOpt m (fun z => { z with snap := delta, clockPh := 2 })
        else s2
      | 2 => if x.snap = 0 then run ((s2.enableBlock m 13 true).updOpt m (fun z => { z with clockPh := 3 })) else s2
      | _ => run s2
    let s4 := (s3.showClock m).lockTest m 4 T (!fly && decide ((e13.natAbs : Int) ≤ s3.mo m 0x31 9))
      (fly || decide ((e13.natAbs : Int) > s3.mo m 0x31 0x93)) 16 4
    s4.traceLoop m 7

/-- Starts a track jump (05 Table 5.5, t0). -/
def State.jumpStart (s : State) (m : Nat) (d : Int) : State :=
  let h := (s.opt m).trk
  let s1 := ((s.beginOrder m).unlock m 1).unlock m 4
  (s1.updOpt m (fun x => { x with trk := sat (h + signI d * s.mo m 0x31 0x0C) 16 })).setSeqn m (.jump d 0 h (s.tickNow m))

/-- Sled move of a seek (05 R145, step 2; 07 R182). -/
def State.seekMove (s : State) (m target corr : Nat) (t0 : Nat) : State :=
  let tick := (s.tickNow m)
  let q := quot (((target : Int) - s.trackNow m) * 240000) (s.encp m)
  let x := s.sledX m + s.countsToSteps m q
  if !s.inTravel m x then (s.endOrder m 1).seekFails m
  else (s.sledTo m x).setSeqn m (.seek target corr 1 tick t0)

/-- Starts a seek (05 R145, step 1): tracking open, clock track flywheeling; the sled waits for the spindle (06 R162). -/
def State.seekStart (s : State) (m target corr : Nat) : State :=
  let s1 := ((s.beginOrder m).openLoop m 1).unlock m 4
  let tick := (s.tickNow m)
  let s2 := s1.setSeqn m (.seek target corr 0 tick tick)
  if (s.sled m).referenced then s2 else (s2.endOrder m 1).seekFails m

/-- Starts a layer jump (05 Table 5.6, t0). A jump to the present layer has nothing to pass: it ends at once with result 0 and the
halyard locks again (notes/assumptions/140.md). -/
def State.layerStart (s : State) (m b : Nat) : State :=
  let a := s.moN m 0x30 4
  let tick := (s.tickNow m)
  let s0 := if (s.opt m).layerGoal = some b then s else s.updOpt m (fun x => { x with layerFails := 0, layerGoal := some b })
  let s1 := (s0.beginOrder m).unlock m 3
  let h := (s1.opt m).hlf
  if a = b then s1.endOrder m 0
  else
    let slew := if s1.maskBit (mkey m 9 0x0A) 1 then some (tick, s1.mo m 0x33 (a + 0x11), s1.mo m 0x33 (b + 0x11)) else none
    (s1.updOpt m (fun x => { x with
      hlf := s1.layerOut m a b h tick tick none false, slew := slew, resumed := none, lobe := false })).setSeqn m
      (.layer a b 0 h tick none false)

/-- An order's landing is judged by the address read (05 R144, R145): done, corrected, or failed. -/
def State.arrivedAt (s : State) (m : Nat) (target corr : Nat) (seek : Bool) : State :=
  let off : Int := (target : Int) - s.moN m 0x30 3
  let s0 := s.updOpt m (fun x => { x with within := none })
  if off = 0 then s0.endOrder m 0
  else if seek ∧ corr ≥ 3 then (s0.endOrder m 1).seekFails m
  else if off.natAbs ≤ 16 then
    let s1 := (s0.countM m 5 8).updOpt m (fun x => { x with within := if seek then some (target, corr + 1) else none })
    s1.jumpStart m off
  else if seek then s0.seekStart m target (corr + 1)
  else (s0.endOrder m 1).seekFails m

/-- A seek on its way (05 R145, R162): the sled moves once the spindle is at target, and the acquisition steps follow its arrival. -/
def State.seekProgress (s : State) (m T : Nat) (atTarget : Bool) : State :=
  match s.seqn m with
  | .seek g c 0 _ t0 => if atTarget then s.seekMove m g c t0 else s
  | .seek g c 1 _ t0 =>
    if s.sledV m = 0 ∧ s.sledN m = s.sledX m ∧ (s.sled m).xNext = none then (s.acqAction m 4).setSeqn m (.seek g c 4 T t0) else s
  | _ => s

/-- Starts an acquisition at a step of Table 5.4 (05 R141). In automatic selection the yard returns to V0 (R137). -/
def State.acquireStart (s : State) (m step : Nat) : State :=
  let tick := (s.tickNow m)
  let s1 := (s.beginOrder m).updOpt m (fun x => { x with fails := 0 })
  let s2 := if s1.moN m 0x30 5 = 0 ∧ s1.maskBit (mkey m 0x58 2) 0 = false then s1.switchSail m false else s1
  s2.acqEnter m step tick tick

/-- Starts an order that waited (05 R143). -/
def State.startQueued (s : State) (m : Nat) : State :=
  match s.seqn m, (s.opt m).queued with
  | .none, q :: rest =>
    let s1 := s.updOpt m (fun x => { x with queued := rest })
    match q with
    | .acquire k _ _ => s1.acquireStart m k
    | .jump d _ _ _ => s1.jumpStart m d
    | .seek g _ _ _ _ => s1.seekStart m g 0
    | .layer _ b _ _ _ _ _ => s1.layerStart m b
    | .homing .. => (s1.beginOrder m).homingStart m
    | .none => s1
  | _, _ => s

/-- An order, started now or queued while another runs (05 R143). -/
def State.order (s : State) (m : Nat) (q : Seqn) : State :=
  (s.updOpt m (fun x => { x with queued := x.queued ++ [q] })).startQueued m

/-- One address unit's bits and whether all its marks pass (09 R229). -/
def State.readUnit (s : State) (m chi : Nat) : Bool × Nat :=
  let x := s.opt m
  let v := s.sail m (if s.v1Active m then 65 else 64)
  let kq : Int := s.obj (tkey ((s.tableOf m).getD 0) 0 7)
  let marks := (List.range 64).map (fun i => markOf (v.servoAt x.off) x.k kq (s.moN m 0x34 3) ((chi + i : Nat) : Int))
  let bits := natOfBits (marks.map (fun r => r.2.1))
  (marks.all (fun r => r.1) && decide (fld bits 7 0 = 0x72) && decide (crc16 (bitsOf (bits / 256) 40) = fld bits 63 48), bits)

/-- The address that this unit completes is the one an acquisition takes (05 Table 5.4, step 7; R145). -/
def Seqn.takesAddress : Seqn → Bool
  | .acquire k _ _ => decide (k = 7)
  | .seek _ _ k _ _ => decide (k = 7)
  | _ => false

/-- The media type that an acquisition reads is compared with the table's (09 R230): the state, and whether a MOUNT ended. -/
def State.checkTag (s : State) (m ttag : Nat) : State × Bool :=
  let t := (s.tableOf m).getD 0
  if ttag = s.objN (tkey t 0 2) ∨ (s.seqn m).takesAddress = false then (s, false)
  else
    let s1 := s.countM m 0x0C 3
    if s1.mounting m then ((((s1.openOptical m).endOrder m 3).updOpt m (fun x => { x with lsrEn := false })).mountFails m
      stMediaMismatch, true)
    else ((s1.updOpt m (fun x => { x with mismatch := true })).failDisc m stMediaMismatch, false)

/-- The guide-track address is read (05 R144, R145, R149; 09 R230). M+30:03 shows the active servo sail's track, V1's while it drives
(notes/assumptions/162.md). -/
def State.addressTaken (s : State) (m track ttag : Nat) : State :=
  let (s0, ended) := s.checkTag m ttag
  let tick := (s.tickNow m)
  let z := (s0.zoneNK m track).1
  let other := decide (z ≠ s0.moN m 0x50 2)
  if ended then s0
  else match s0.seqn m with
    | .acquire 7 _ t0 =>
      let s1 := s0.setMo m 0x30 3 (track : Nat)
      if other then ((s1.countM m 5 11).clockStart m track).setSeqn m (.acquire 6 tick t0)
      else s1.acqEnter m 8 tick t0
    | .seek g c 7 _ t0 =>
      let s1 := s0.setMo m 0x30 3 (track : Nat)
      if other then ((s1.countM m 5 11).clockStart m track).setSeqn m (.seek g c 6 tick t0)
      else s1.arrivedAt m g c true
    | .jump d seen _ _ =>
      if seen ≥ 2 * d.natAbs ∧ s0.locked m 1 = true ∧ s0.locked m 4 = true then
        let g := ((s0.moN m 0x30 3 : Int) + d).toNat
        let s1 := s0.setMo m 0x30 3 (track : Nat)
        match (s0.opt m).within with
        | some (goal, c) => s1.arrivedAt m goal c true
        | none => s1.arrivedAt m g 0 false
      else s0
    | .none => s0.setMo m 0x30 3 (track : Nat)
    | _ => s0

/-- An address unit whose first mark has NCO cycle count chi (09 R229, R230). -/
def State.addressUnit (s : State) (m chi : Nat) : State :=
  let x := s.opt m
  let v := s.sail m (if s.v1Active m then 65 else 64)
  if x.clockPh = 0 ∨ !v.holdsMarks x.off x.k chi 64 then s
  else
    let (ok, bits) := s.readUnit m chi
    if !ok then (s.countM m 0x0C 2).updOpt m (fun y => { y with unit := none })
    else
      let track := fld bits 25 8
      let u := fld bits 37 26
      let agree := match x.unit with
        | some (g, w) => decide (g = track ∧ u = (w + 1) % max 1 (x.nz / 64))
        | none => false
      let s1 := s.updOpt m (fun y => { y with
        unit := some (track, u), chi0 := if agree || y.chi0.isSome then some ((chi : Int) - 64 * u) else none })
      if agree then s1.addressTaken m track (fld bits 41 38) else s1

end Sys2Proof.Machine
end

