-- ==== Sys2Proof/Machine/Spindle.lean ====
section
/-! DEFINITION. The spindle drive (chapter 6): observer, current loops, speed set-point, start, braking, chopper and furl. -/
namespace Sys2Proof.Machine

/-- Write-back to Q1.15 (02 R62). -/
def wq (acc : Int) : Int := (wb15 acc false).1

/-- Gains of the observer (06 Table 6.5). -/
structure ObsPar where
  gv : Int
  ev : Nat
  gr : Int
  er : Nat
  l1 : Int
  e1 : Nat
  l2 : Int
  e2 : Nat
  kw : Int
  ew : Nat
  ka : Int
  ea : Nat
  deriving DecidableEq, Repr

/-- Prediction and correction of one axis (06 R157): new current and back-EMF estimates, and whether anything saturated. -/
def obsAxis (p : ObsPar) (ihx ehx i v : Int) (f : Bool) : (Int × Int) × Bool :=
  let (ih, f) := wb15 ihx f
  let (eh, f) := wb15 ehx f
  let (acc, f) := accAdd (prod p.gv v) (-(prod p.gv eh)) f
  let (gain, f) := postShift acc p.ev f
  let (acc, f) := accAdd ihx gain f
  let (drop, f) := postShift (prod p.gr ih) p.er f
  let (acc, f) := accAdd acc (-drop) f
  let (x, f) := wb31 acc f
  let (xh, f) := wb15 x f
  let (res, f) := satF (i - xh) 16 f
  let (ih', f) := correctF x p.l1 p.e1 res f
  let (eh', f) := correctF ehx p.l2 p.e2 res f
  ((ih', eh'), f)

/-- One evaluation of the observer (06 R157), and whether anything saturated in it (02 R60). -/
def observerStep (p : ObsPar) (o : Observer) (ia ib va vb : Int) : Observer × Bool :=
  let ((ia', ea'), f) := obsAxis p o.ia o.ea ia va false
  let ((ib', eb'), f) := obsAxis p o.ib o.eb ib vb f
  let (ea, f) := wb15 ea' f
  let (eb, f) := wb15 eb' f
  let (acc, f) := accAdd (-(prod (cosine o.th) ea)) (-(prod (sine o.th) eb)) f
  let (eps, f) := wb15 acc f
  let (eps, f) := if o.w < 0 then satF (-eps) 16 f else (eps, f)
  let (g, f) := postShift (prod p.kw eps) p.ew f
  let (acc, f) := accAdd o.w g f
  let (w, f) := wb31 acc f
  let (acc, f) := accAdd (o.th * 32768) w f
  let (g, f) := postShift (prod p.ka eps) p.ea f
  let (acc, f) := accAdd acc g f
  ({ ia := ia', ib := ib', ea := ea', eb := eb', w := w, th := wrapU (rne acc 15) 16 }, f)

/-- The observer's committed gains. -/
def State.obsPar (s : State) (m : Nat) : ObsPar :=
  let g : Nat → Int := s.par m 0x27
  let e : Nat → Nat := fun i => s.parN m 0x27 (0x81 + 2 * i)
  ⟨g 2, e 2, g 3, e 3, g 4, e 4, g 5, e 5, g 6, e 6, g 7, e 7⟩

/-- Pole pairs and WS. -/
def State.poles (s : State) (m : Nat) : Nat := s.moN m 0x38 5
def State.wsExp (s : State) (m : Nat) : Nat := s.parN m 0x27 9

/-- Speed word of n rpm (06 R158). -/
def State.speedWord (s : State) (m n : Nat) : Int := (n * s.poles m * 2 ^ (15 + s.wsExp m) / 2400000 : Nat)

/-- Speed as block 8 measures it (06 R158). -/
def State.omega16 (s : State) (m : Nat) (w : Int) : Int := sat (rne (w * 2 ^ s.wsExp m) 16) 16

/-- An exact quotient rounded half to even. -/
def rneDiv (n d : Int) : Int :=
  if d ≤ 0 then 0 else
  let q := n.fdiv d
  let r := n.fmod d
  if 2 * r > d ∨ (2 * r = d ∧ q % 2 = 1) then q + 1 else q

/-- The speed estimate exceeds an rpm threshold, exactly (06 R158). -/
def State.fasterThan (s : State) (m : Nat) (w : Int) (rpm : Int) : Bool :=
  decide (w * 2400000 > rpm * (s.poles m : Int) * 2 ^ 31)

/-- Drive state M+38:01. -/
def State.driveState (s : State) (m : Nat) : Nat := s.moN m 0x38 1
def State.setDriveState (s : State) (m v : Nat) : State := s.setMo m 0x38 1 (v : Nat)

/-- A telemetry word of phase b or c, exchanged by the phase mirror (06 Table 6.3, 3B). -/
def State.phaseWord (s : State) (m a : Nat) (i : Nat) : Int :=
  s.tq m (a + (if (s.drive m).mirror then (match i with | 1 => 2 | 2 => 1 | x => x) else i))

/-- Stationary-frame currents and voltages (06 R156). They are formed ahead of block 7 and belong to no block: their saturation raises no
flag (notes/assumptions/143.md). -/
def State.frameAB (s : State) (m : Nat) : Int × Int × Int × Int :=
  let i : Nat → Int := s.phaseWord m 14
  let v : Nat → Int := s.phaseWord m 17
  let ib := wq (sat (prod 18919 (i 1) - prod 18919 (i 2)) 40)
  if (s.opt m).spnEn then
    let d := s.drive m
    (i 0, ib, wq (prod d.va (s.tq m 20)), wq (prod d.vb (s.tq m 20)))
  else
    (i 0, ib, wq (sat (sat (prod 21845 (v 0) - prod 10923 (v 1)) 40 - prod 10923 (v 2)) 40),
      wq (sat (prod 18919 (v 1) - prod 18919 (v 2)) 40))

/-- Radius of guide track g in nm (09 R225). -/
def radiusNm (g : Nat) : Nat := 23952000 + 240 * g

/-- Demand d (06 R163): wanted sectors and unburned slots of pending writes, in percent of DFULL (notes/assumptions/17.md). -/
def State.demandOf (s : State) (m : Nat) : Nat :=
  let n := (s.media.sectors.filter (fun x => decide (x.mast = m ∧ x.phase = .wanted))).length +
    (s.media.writes.filter (fun w => decide (w.mast = m) && w.accepted)).foldl (fun a w =>
      a + (if w.slots = [] then totalSlots w.len w.xpe else (w.slots.filter (fun x => decide (x.state = .placed))).length)) 0
  min 100 (100 * n / max 1 (s.moN m 0x3A 4))

/-- The demand term (06 Table 6.1). -/
def State.demandTerm (s : State) (m d : Nat) (on : Bool) : Nat :=
  let n := s.moN m 0x3A 1
  let x : Nat → Nat := fun i => s.moN m 0x3A (0x10 + i)
  let y : Nat → Int := fun i => s.mo m 0x3A (0x18 + i)
  if !on then s.moN m 0x3A 3
  else if d < x 0 then (y 0).toNat
  else if d ≥ x (n - 1) then (y (n - 1)).toNat
  else match (List.range (n - 1)).find? (fun i => decide (x i ≤ d ∧ d < x (i + 1))) with
    | some i => (y i + ((y (i + 1) - y i) * ((d - x i : Nat) : Int)).fdiv ((x (i + 1) - x i : Nat) : Int)).toNat
    | none => (y (n - 1)).toNat

/-- The radius term (06 R164); the greater of the present and the target radius during a seek. -/
def State.radiusTerm (s : State) (m : Nat) : Nat :=
  let g := match s.seqn m with
    | .seek goal _ _ _ _ => max (s.trackNow m) goal
    | _ => s.trackNow m
  let n := s.moN m 0x3B 1
  match (List.range n).find? (fun j => decide (radiusNm g + 16000 ≤ 1000 * s.moN m 0x3B (0x10 + j))) with
  | some j => s.moN m 0x3B (0x20 + j)
  | none => s.moN m 0x3B (0x20 + (n - 1))

/-- The speed target in rpm (06 R161). -/
def State.speedTarget (s : State) (m d : Nat) (on : Bool) : Nat :=
  let a := min (s.demandTerm m d on) (s.radiusTerm m)
  if s.moN m 0x3C 1 = 1 ∧ s.objN (okey 0x2130 1) ≠ 0 then min a (s.moN m 0x3C 3) else a

/-- The drive is driven with the spindle at target (06 R162). -/
def State.atTarget (s : State) (m : Nat) : Bool := decide (s.driveState m = 4 ∧ (s.drive m).atTarget ≥ 40)

/-- The radius curve is legal (06 R164): points n, radius and rpm by number, bit length b in pm. -/
def radiusCurveOk (n : Nat) (r rpm : Nat → Nat) (b : Nat) : Bool :=
  (List.range (n - 1)).all (fun j => decide (r j < r (j + 1) ∧ rpm (j + 1) ≤ rpm j)) &&
  decide (1 ≤ n ∧ 60000 ≤ r (n - 1)) &&
  (List.range n).all (fun j => decide (rpm j ≤ 15000 ∧ rpm j * r j * 0x6487ED511 ≤ 120000 * b * 2 ^ 32))

/-- A start order is refused (06 R163, R164, R167, R174). Without a disc the bit length b is media table 0's
(notes/assumptions/166.md). -/
def State.startRefused (s : State) (m : Nat) : Option Nat :=
  let p8 := s.pidPar m 8
  let p9 := s.pidPar m 9
  let lim := (s.parN m 0x2A 2).testBit 2
  let n := s.moN m 0x3A 1
  let curve := (List.range (n - 1)).all (fun i => decide (s.mo m 0x3A (0x10 + i) < s.mo m 0x3A (0x11 + i)))
  let b := s.objN (tkey ((s.tableOf m).getD 0) 0 4)
  if s.pins.furlN || s.pins.thermalFurl then some stMastFurled
  else if p9.umax ≠ 0 ∨ p8.aw ≠ 2 ∨ p9.aw ≠ 2 ∨ (lim = true ∧ s.par m 0x2A 3 > 0) ∨
      ¬(s.mo m 0x39 3 < s.mo m 0x39 2 ∧ s.mo m 0x39 2 < s.mo m 0x39 1 ∧ 2 * s.mo m 0x39 1 < s.mo m 0x39 4) ∨ curve = false ∨
      radiusCurveOk (s.moN m 0x3B 1) (fun j => s.moN m 0x3B (0x10 + j)) (fun j => s.moN m 0x3B (0x20 + j)) b = false
    then some stInvalidField
  else none

/-- A start order that fails (06 R163, R164, R167, R174): what waits for the disc completes with its status. -/
def State.startFails (s : State) (m st : Nat) : State :=
  let hit := s.host.cmds.filter (fun c => decide (c.mast = some m ∧ c.stage = .reading) && c.need ≠ [])
  let s1 := forEach hit (fun c a =>
    a.stopRead c st) s
  (s1.dropOrphans m).mountFails m st

/-- CTRL of the selector with every commit that waits. -/
def State.selectorCtrl (s : State) (m : Nat) : Nat :=
  (s.servo m).commits.foldl (fun a c => if c.block = 10 then (tblGet (fun _ => (a : Int)) c.vals 0x2A02).toNat else a) (s.parN m 0x2A 2)

/-- The drive commits candidate 1 and POL 1 of the selector (06 Table 6.2); the commit applies as any other (04 R125, R128). -/
def State.driveCommit (s : State) (m : Nat) : State :=
  let c := s.selectorCtrl m ||| 0x12
  let s1 := s.setMo m 0x2A 2 (s.moN m 0x2A 2 ||| 0x12 : Nat)
  (s1.updServo m (fun x => { x with commits := x.commits ++ [⟨10, s.tickNow m, [(0x2A02, (c : Int))]⟩] })).showPend m

/-- A homing order. -/
def Seqn.homes : Seqn → Bool
  | .homing .. => true
  | _ => false

/-- The Mast level orders homing, one at a time: not while a homing order runs or waits, nor on a retired sled (07 R188, R192;
notes/assumptions/173.md). -/
def State.orderHoming (s : State) (m : Nat) : State :=
  if s.moN m 0x58 3 ≠ 0 ∨ (s.seqn m).homes = true ∨ (s.opt m).queued.any Seqn.homes = true then s else s.order m (.homing 0 0 0)

/-- The first start of a mast whose sled is not referenced orders homing (07 R188). -/
def State.homeFirst (s : State) (m : Nat) : State := if (s.sled m).referenced then s else s.orderHoming m

/-- A start order (06 Table 6.3, step 1; R169). -/
def State.spindleStart (s : State) (m : Nat) : State :=
  if (s.opt m).spnEn ∨ s.driveState m ≠ 0 ∨ (s.mast m).st ≠ .present then s
  else match s.startRefused m with
  | some st => s.startFails m st
  | none =>
    let s2 := ((s.driveCommit m).clearBlock m 7).updDrive m (fun x => { x with
      t0 := (s.tickNow m), mirror := false, handRun := 0, va := 0, vb := 0, furlAt := none, quietAt := none, atTarget := 0
      startDue := false })
    (s2.setDriveState m 1).homeFirst m

/-- Step 3F (06 Table 6.3): the current loops take the back-EMF over, the stage is driven. A bus voltage that is not positive leaves
the quotient open (notes/assumptions/1.md). -/
def State.driveOn (s : State) (m st : Nat) : State :=
  let o := (s.servo m).obs
  let (ed, eq) := rotate o.th (wq o.ea) (wq o.eb)
  let vbus := s.tq m 20
  let ist : State → Int → Int × State := fun a e =>
    if vbus > 0 then (sat ((e * 2 ^ 32).fdiv vbus) 32, a)
    else let (v, b) := a.takeFree; (toSigned (v.toNat % 2 ^ 32) 32, b)
  let (id, s1) := ist s ed
  let (iq, s2) := ist s1 eq
  let s3 := (s2.setPid m 11 { s2.pid m 11 with i := id }).setPid m 12 { s2.pid m 12 with i := iq }
  let s4 := s3.updDrive m (fun x => { x with sUse := s3.omega16 m o.w, atTarget := 0, falling := false })
  (s4.updOpt m (fun x => { x with spnEn := true })).setDriveState m st

/-- The drive becomes driven: the mast is spinning (06 R169). -/
def State.becomeDriven (s : State) (m : Nat) : State :=
  let s1 := s.updDrive m (fun x => { x with fails := 0 })
  if (s1.mast m).st = .present then s1.setMastState m .spinning else s1

/-- Step 3S: the stage drives a fixed angle from a tick on (06 Table 6.3). -/
def State.alignStart (s : State) (m since : Nat) : State :=
  let s1 := s.updDrive m (fun x => { x with alignAt := since, thc := 0, wc := 0, wcRem := 0, handRun := 0, mirror := false })
  (s1.updOpt m (fun x => { x with spnEn := true })).setDriveState m 2

/-- The stage floats. -/
def State.floatStage (s : State) (m st : Nat) : State :=
  ((s.updOpt m (fun x => { x with spnEn := false })).updDrive m (fun x => { x with
    chp := 0, chpAt := none, chpHigh := none, chpBad := 0, atTarget := 0 })).setDriveState m st

/-- Classification 2 ms into a start (06 Table 6.3, step 2). -/
def State.classify (s : State) (m : Nat) : State :=
  let o := (s.servo m).obs
  let amp := max (wq o.ea).natAbs (wq o.eb).natAbs
  let since := (s.drive m).t0 + ticksUs 2000
  if (amp : Int) < s.par m 0x27 8 then s.alignStart m since
  else if s.fasterThan m o.w 50 then (s.driveOn m 4).becomeDriven m
  else if s.fasterThan m (-o.w) 50 then
    let s1 := (s.updServo m (fun x => { x with obs := { o with
      th := wrapU (-o.th) 16, w := sat (-o.w) 32, ib := sat (-o.ib) 32, eb := sat (-o.eb) 32 } })).updDrive m
      (fun x => { x with mirror := true })
    s1.driveOn m 6
  else s.alignStart m since

/-- The alignment time has passed: the ramp begins (06 Table 6.3, step 4S). -/
def State.alignEnd (s : State) (m : Nat) : State :=
  (s.updDrive m (fun x => { x with rampAt := (s.tickNow m), wc := 0, wcRem := 0, handRun := 0 })).setDriveState m 3

/-- A start that does not hand over (06 Table 6.3, step 6). -/
def State.startTimeout (s : State) (m : Nat) : State :=
  let s1 := ((s.floatStage m 0).countM m 6 1).updDrive m (fun x => { x with fails := x.fails + 1, rampAt := (s.tickNow m) })
  if (s1.drive m).fails ≥ 3 then (s1.updDrive m (fun x => { x with fails := 0 })).faultMast m else s1

/-- The chopper is declared failed (06 R171). -/
def State.chopperFails (s : State) (m : Nat) : State :=
  if s.moN m 0x38 8 = 1 then s
  else (((s.setMo m 0x38 8 1).countM m 6 2).condition 0x000B 3 m m).requestSave []

/-- The chopper has been commanded on for TCH without VBUS falling below VCHON (06 R171). -/
def State.chopperTimeout (s : State) (m : Nat) : State :=
  match (s.drive m).chpHigh with
  | some a => if a + s.moN m 0x39 8 * 640000 ≤ s.tickNow m ∧ (s.drive m).chp ≠ 0 then s.chopperFails m else s
  | none => s

/-- The chopper at a 40 kHz strobe (06 R170, R171). -/
def State.chopper (s0 : State) (m T : Nat) : State :=
  let s := s0.chopperTimeout m
  if !(s.opt m).spnEn then s.updDrive m (fun x => { x with chp := 0, chpAt := none, chpHigh := none, chpBad := 0 })
  else
    let v := s.tq m 20
    let x := s.drive m
    let hi := decide (v ≥ s.mo m 0x39 2)
    let chp := if hi then s.moN m 0x39 5 else if v < s.mo m 0x39 3 then 0 else x.chp
    let on := decide (chp ≠ 0)
    let counted := match x.chpAt with
      | some a => on && decide (a < T)
      | none => false
    let bad := if counted = true ∧ s.tq m 21 ≤ s.mo m 0x39 6 then x.chpBad + 1 else 0
    let s1 := s.updDrive m (fun y => { y with
      chp := chp
      chpAt := if on then some (y.chpAt.getD T) else none
      chpHigh := if on && hi then some (y.chpHigh.getD T) else none
      chpBad := bad })
    if bad ≥ s.moN m 0x39 7 then s1.chopperFails m else s1

/-- A condition under which the spindle decelerates by coasting (06 R172). A mast without an up link is training. -/
def State.coastCond (s : State) (m : Nat) : Bool :=
  !s.boot.ready || !s.linkUp m || decide (s.moN m 0x38 7 = 1 ∨ s.moN m 0x38 8 = 1 ∨ (s.mast m).st = .faulted ∨
    (s.mast m).st = .retired) || (s.tw m 32).testBit 7

/-- Coasting begins or ends at a 40 kHz strobe (06 R172; notes/assumptions/18.md). -/
def State.coast (s : State) (m : Nat) : State :=
  let x := s.drive m
  let w := s.omega16 m (s.servo m).obs.w
  let st := s.driveState m
  let slow := x.falling || decide (w - x.sUse > s.speedWord m (s.moN m 0x38 9))
  let gone := !s.linkUp m || decide ((s.mast m).st = .faulted ∨ (s.mast m).st = .retired) || (s.tw m 32).testBit 7
  if (st = 4 ∨ st = 6) ∧ s.coastCond m = true ∧ (slow = true ∨ gone = true) then (s.floatStage m 5).countM m 6 3
  else if (st = 2 ∨ st = 3) ∧ gone = true then s.floatStage m 0
  else if st = 5 ∧ w ≤ x.sUse ∧ gone = false then
    if x.mirror then s.driveOn m 6 else (s.driveOn m 4).becomeDriven m
  else s

/-- The front-end no longer hears the rig, or is taken in afresh (03 R106, R107; 06 R172): orders end, the loops open, the beams go
dark, the stage floats and the sled is off. A spindle that was driven coasts. -/
def State.yardSafe (s : State) (m : Nat) : State :=
  let st := s.driveState m
  let s1 := if s.seqn m = .none then s else s.endOrder m 3
  let s2 := ((s1.failCal m).openOptical m).updOpt m (fun x => { x with
    lsrEn := false, wrEn := false, queued := [], fails := 0, layerFails := 0, within := none })
  (s2.floatStage m (if st = 4 ∨ st = 5 ∨ st = 6 then 5 else 0)).sledOff m

/-- Clamps a duty, counting a clip (06 R159). -/
def clipDuty (v : Int) : Nat × Nat := ((clampI v 0 65535).toNat, if v < 0 ∨ v > 65535 then 1 else 0)

/-- Current loops and modulation (06 R159). -/
def State.currentLoops (s : State) (m : Nat) (ia ib : Int) : State :=
  let st := s.driveState m
  let x := s.drive m
  let o := (s.servo m).obs
  let fixed := decide (st = 2 ∨ st = 3)
  let th := if fixed then x.thc else o.th
  let (id, iq) := rotate th ia ib
  let s1 := (s.evalPid m 11 (sat (s.target11 m - id) 16)).evalPid m 12 (sat (s.target12 m - iq) 16)
  let a := (o.w * (s.mo m 0x38 6 + 8000)).fdiv 16000
  let thm := if fixed then th else wrapU (rne (th * 32768 + a) 15) 16
  let (va, vb) := rotate (wrapU (-thm) 16) (s1.pid m 11).u (s1.pid m 12).u
  let pb := wq (sat (-(va * 32768) + prod 28378 vb) 40)
  let pc := wq (sat (-(va * 32768) - prod 28378 vb) 40)
  let off := -(asr (max va (max pb pc) + min va (min pb pc)) 1)
  let (da, ca) := clipDuty (32768 + va + off)
  let (db, cb) := clipDuty (32768 + pb + off)
  let (dc, cc) := clipDuty (32768 + pc + off)
  let s2 := s1.updDrive m (fun y => { y with
    va := va, vb := vb, pwa := da, pwb := if y.mirror then dc else db, pwc := if y.mirror then db else dc })
  s2.countN (ckey m 4 3) (ca + cb + cc)

/-- The ramp and the handover of a start at a 40 kHz strobe (06 Table 6.3, 4S and 5S); at or after 5 s it has timed out (00 R22). -/
def State.rampStep (s : State) (m : Nat) : State :=
  if s.driveState m ≠ 3 then s
  else
    let x := s.drive m
    let o := (s.servo m).obs
    let (inc, rem) := divf (s.mo m 0x38 0x0E * s.poles m * 2 ^ 31 + x.wcRem) 96000000000
    let wc := sat (x.wc + inc) 32
    let th := wrapU (rne (x.thc * 32768 + wc) 15) 16
    let near := decide (s.omega16 m wc ≥ s.speedWord m (s.moN m 0x38 0x0F)) && decide ((angleDiff o.th th).natAbs ≤ 5461)
    let run := if near then x.handRun + 1 else 0
    let s1 := s.updDrive m (fun y => { y with thc := th, wc := wc, wcRem := rem, handRun := run })
    if x.rampAt + ticksUs 5000000 ≤ s.tickNow m then s.startTimeout m
    else if run ≥ 400 then
      let s2 := (s1.clearBlock m 8).updDrive m (fun y => { y with sUse := s.speedWord m (s.moN m 0x38 0x0F), atTarget := 0 })
      (s2.setDriveState m 4).becomeDriven m
    else s1

/-- Mirrored braking ends at low speed (06 Table 6.3, 3B). -/
def State.mirrorEnd (s : State) (m : Nat) : State :=
  if (s.driveState m = 6 ∨ (s.driveState m = 5 ∧ (s.drive m).mirror = true)) ∧
      s.fasterThan m (s.servo m).obs.w 50 = false then
    if (s.mast m).st = .furling then (s.floatStage m 0).updDrive m (fun x => { x with mirror := false })
    else (s.floatStage m 6).alignStart m (s.tickNow m)
  else s

/-- Shows speed and P_rev (06 R158). The spec gives no result where a value does not fit its object: M+38:02 is saturated to INTEGER16
(02 R54), M+38:04 is kept whole here and read modulo 2^32 (02 R75) (notes/assumptions/142.md). -/
def State.showSpeed (s : State) (m : Nat) : State :=
  let w := (s.servo m).obs.w
  let p : Int := s.poles m
  let rpm := rneDiv (w * 2400000) (p * 2 ^ 31)
  let s1 := s.setMo m 0x38 2 (sat (if (s.drive m).mirror then -rpm else rpm) 16)
  let s2 := s1.setMo m 0x38 4 (if w > 0 then (p * 16000 * 2 ^ 31).fdiv w else 0)
  (s2.setMo m 0x27 0x0A (s.servo m).obs.th).setMo m 0x27 0x0B w

/-- A positioning order ends by a furl (05 R143): a sled that was homing holds where it is. -/
def State.endByFurl (s : State) (m : Nat) : State :=
  if s.seqn m = .none then s
  else
    let s1 := s.endOrder m 3
    if (s1.sled m).referenced then s1 else s1.sledTo m (s1.sledN m)

/-- A furl order to one mast, or the registration of FURL_N (06 R173; 11 Table 11.3; 05 R143, R154). A mast with no disc turning does not
furl, but an order that runs on it ends at the next evaluation. -/
def State.furlMast (s : State) (m : Nat) : State :=
  let st := (s.mast m).st
  let running := decide (st = .spinning) || st.onTrack || (decide (st = .present) && decide (s.driveState m ≠ 0))
  if !running then s.updOpt m (fun x => { x with queued := [], endDue := decide (x.seqn ≠ .none) })
  else
    let s1 := (s.closeGate m).failCal m
    let s3 := s1.updOpt m (fun x => { x with queued := [], fails := 0, layerFails := 0, within := none })
    let s4 := (((s3.ladderOff m).unschedule m).abandonAttempts m).setMastState m .furling
    (s4.orderPark m).updDrive m (fun x => { x with furlAt := none, quietAt := none })

/-- A furl at its first evaluation (06 R173, 05 R143): the order that ran ends, beams dark, loops open, FOC ramps to zero. -/
def State.furlOpen (s : State) (m T : Nat) : State :=
  if (s.mast m).st = .furling ∧ (s.drive m).furlAt = none then
    let s1 := s.endByFurl m
    (((s1.orderPark m).openOptical m).updOpt m (fun x => { x with lsrEn := false })).updDrive m (fun x => { x with
      furlAt := some T, furlFoc := (s.opt m).foc })
  else if (s.opt m).endDue then s.endByFurl m
  else s

/-- The mast becomes present when the spindle is stopped and the sled is parked (06 R173). A start that became due while it furled is
ordered then (R163, R174). -/
def State.furlDone (s : State) (m : Nat) : State :=
  if (s.mast m).st = .furling ∧ s.driveState m = 0 ∧ s.sledParked m = true then
    let s1 := (s.setMastState m .present).updDrive m (fun x => { x with furlAt := none, quietAt := none })
    let cmds := s1.host.cmds.filter (fun c => decide (c.stage = .furling ∧ c.mast = some m))
    let s2 := forEach cmds (fun c a => a.complete c.cid 0 0) s1
    if (s2.drive m).startDue = true ∧ (s2.drive m).demand = true then s2.spindleStart m else s2
  else s

/-- A furl at a 40 kHz strobe (06 R173): the stage floats at low speed or with no back-EMF for 100 ms. -/
def State.furlStep (s : State) (m T : Nat) : State :=
  if (s.mast m).st ≠ .furling then s
  else
    let o := (s.servo m).obs
    let st := s.driveState m
    let amp := max (wq o.ea).natAbs (wq o.eb).natAbs
    let quiet := decide ((amp : Int) < s.par m 0x27 8)
    let q := if quiet then some ((s.drive m).quietAt.getD T) else none
    let s1 := s.updDrive m (fun x => { x with quietAt := q })
    let still := match q with
      | some a => decide (a + 64000000 ≤ T)
      | none => false
    if st = 6 then
      if still then (((s1.floatStage m 0).updDrive m (fun x => { x with mirror := false })).furlDone m) else s1
    else if st ≠ 0 ∧ (s1.fasterThan m o.w 50 = false ∨ still = true) then (s1.floatStage m 0).furlDone m
    else if st = 1 ∨ st = 2 ∨ st = 3 then (s1.updDrive m (fun x => { x with sUse := s1.omega16 m o.w })).driveOn m 4
    else s1.furlDone m

/-- Demand turns on or off (06 R163). -/
def State.demandStep (s : State) (m : Nat) : State :=
  let d := s.demandOf m
  let was := (s.drive m).demand
  let on := if d ≥ s.moN m 0x3A 2 then true else if d < s.moN m 0x3A 0x85 then false else was
  let s1 := (s.setMo m 0x3A 5 (d : Nat)).updDrive m (fun x => { x with
    demand := on, startDue := on && (x.startDue || (!was && decide ((s.mast m).st = .furling))) })
  if on = was then s1
  else if on then (if (s1.mast m).st = .present then s1.spindleStart m else s1)
  else if s1.moN m 0x3A 3 = 0 then s1.furlMast m else s1

/-- The SYNC term of a mast, formed at the first 4 kHz evaluation after each accepted edge (06 R165); it is kept whole here and read
modulo 2^32 where it exceeds its object (notes/assumptions/142.md). -/
def State.syncStep (s : State) (m : Nat) : State :=
  match s.pins.syncAt with
  | some e =>
    let p := s.pins.syncP
    if (s.drive m).syncSeen ≠ e + 1 ∧ p ≠ 0 then
      (s.setMo m 0x3C 3 (60000000000 * s.moN m 0x3C 2 / (p * max 1 (s.moN m 0x3C 0x85)) : Nat)).updDrive m
        (fun x => { x with syncSeen := e + 1 })
    else s
  | none => s

/-- A 4 kHz evaluation (06 R161 to R163): demand, target, set-point, block 8. -/
def State.speedStep (s : State) (m T : Nat) : State :=
  let s0 := ((((s.traceOpen m 6).loopUsed m 6).takeCommits m 8 T).demandStep m).syncStep m
  let x := s0.drive m
  let st := (s0.mast m).st
  let furl := decide (st = .furling)
  let tgt := if furl || x.mirror then 0
    else s0.speedWord m (min 15000 (s0.speedTarget m (s0.moN m 0x3A 5) x.demand))
  let frozen := !furl && decide (st = .reading ∨ st = .writing)
  let step := s0.speedWord m (s0.moN m 0x38 0x0A)
  let use := if frozen then x.sUse
    else if tgt > x.sUse then min tgt (x.sUse + step) else max tgt (x.sUse - step)
  let w := s0.omega16 m (s0.servo m).obs.w
  let inBand := decide (((w - use).natAbs : Int) ≤ s0.speedWord m (s0.moN m 0x38 9))
  let s1 := s0.updDrive m (fun y => { y with
    sUse := use, falling := decide (use < y.sUse), atTarget := if inBand then min 40 (y.atTarget + 1) else 0 })
  -- M+38:03 shows the word in rpm, rounded half to even: the spec gives no conversion (notes/assumptions/142.md)
  let rpm := rneDiv (use * 2400000) ((s0.poles m : Int) * 2 ^ (15 + s0.wsExp m))
  (s1.setMo m 0x38 3 (clampI rpm 0 65535)).evalPid m 8 (sat (use - w) 16)

/-- The speed loop at its strobe T (04 R109, R113): it holds by its own last telemetry set. -/
def State.evalSpeed (s : State) (m T : Nat) : State :=
  if s.loopHolds m 6 then (s.traceOpen m 6).holdLoop m 6 else s.speedStep m T

/-- The speed loop has run and the selector has not, because the loop of blocks 7 to 12 holds (04 R117, R123): the winner of the
latest choice integrates, a loser keeps its integrator. -/
def State.settleAlone (s : State) (m : Nat) : State :=
  if s.moN m 0x20 6 = 0 then s.settleWinner m 8
  else
    let p := s.pid m 8
    match p.late with
    | some (_, sat3, _) => (s.setPid m 8 { p with late := none }).blockFlags m 8 sat3 false
    | none => s

/-- P_rev measured at target (06 R162), of which the clock-track loop forms F0 (05 R149). -/
def State.noteTarget (s : State) (m : Nat) : State :=
  if s.atTarget m then s.updDrive m (fun x => { x with revTgt := s.moN m 0x38 4 }) else s

/-- A 40 kHz strobe T (04 R109, R110; 06 R156 to R173). `due8` says whether block 8 is due too. -/
def State.evalSpindle (s : State) (m T : Nat) (due8 : Bool) : State :=
  if s.loopHolds m 5 then
    let s1 := (s.traceOpen m 5).holdLoop m 5
    if due8 then
      let s2 := (s1.evalSpeed m T).settleAlone m
      if s1.loopHolds m 6 then s2 else s2.traceLoop m 6
    else s1
  else
    let s0 := forEach [7, 9, 10, 11, 12] (fun b a => a.takeCommits m b T) ((s.traceOpen m 5).loopUsed m 5)
    let (ia, ib, va, vb) := s0.frameAB m
    let (o, f) := observerStep (s0.obsPar m) (s0.servo m).obs ia ib va vb
    let s1 := (s0.updServo m (fun x => { x with obs := o })).blockFlags m 7 f false
    let s2 := s1.showSpeed m
    let s3 := if due8 then s2.evalSpeed m T else s2
    let s4 := (s3.evalPid m 9 (sat (s3.tq m 20 - s3.mo m 0x39 1) 16)).evalSelector m
    let s5 := ((s4.chopper m T).rampStep m).currentLoops m ia ib
    let s6 := (((s5.mirrorEnd m).coast m).furlStep m T).noteTarget m
    let s7 := if due8 && !s2.loopHolds m 6 then s6.traceLoop m 6 else s6
    s7.traceLoop m 5

/-- The seek's sled move may begin (06 R162): the spindle turns no faster than the seek's radius term, or is at a target within it. -/
def State.seekFree (s : State) (m : Nat) : Bool :=
  !s.fasterThan m (s.servo m).obs.w (s.radiusTerm m : Nat) ||
    (s.atTarget m && decide ((s.drive m).sUse ≤ s.speedWord m (s.radiusTerm m)))

/-- A seek whose radius term is below the present speed needs another set-point, which stands still while the mast reads or writes: the
mast leaves both states until the seek is over (06 R162, 01 R43; notes/assumptions/164.md). -/
def State.seekSlows (s : State) (m : Nat) : State :=
  match s.seqn m with
  | .seek _ _ 0 _ _ =>
    if ((s.mast m).st = .reading ∨ (s.mast m).st = .writing) ∧ s.seekFree m = false then s.setMastState m .tracking else s
  | _ => s

end Sys2Proof.Machine
end

