-- ==== Sys2Proof/Machine/Calibrate.lean ====
section
/-! DEFINITION. Loop and channel calibrations (05.8, 08.8). -/
namespace Sys2Proof.Machine

/-- Places in the pool's queue reserved for a mast's calibration frames (10 R258). -/
def Mast.calPlaces (x : Mast) : Nat :=
  (x.sails.map (fun p => (p.2.frames.filter (fun f => f.pool)).length)).foldl (· + ·) 0 + (x.ready.filter (fun c => c.sid = calSid)).length
/-- Frames scheduled and not yet in the pool: places reserved in the pool's queue (10 R258). -/
def State.reserved (s : State) : Nat :=
  (s.media.sectors.filter (fun x => decide (x.phase = .scheduled))).length + (s.masts.map (fun p => p.2.calPlaces)).foldl (· + ·) 0
/-- Free places of the pool's queue, 2660:05 (10 Table 10.5). -/
def State.poolFree (s : State) : Nat := 192 - (s.media.queue.length + s.reserved)

/-- Predicted position of frame slot f for sail k at its next passage (09 R233). -/
def State.framePos (s : State) (m k f str : Nat) : Nat :=
  let x := s.opt m
  let v := s.sail m (if s.v1Active m then 65 else 64)
  let now := (v.base + v.raw.length + 2 ^ 32 - s.coarse m k % 2 ^ 32) % 2 ^ 32
  let chi0 := x.chi0.getD 0
  let r0 : Int := if x.nz = 0 then 0 else (((x.phaseAt (s.tickNow m) / 2 ^ 48 : Nat) : Int) - chi0).fdiv x.nz
  let p : Int → Nat := fun r => (wrapU (rne ((chi0 + r * x.nz) * x.k) 16 + f * frameLen str + x.off) 32).toNat
  if posLe now (p r0) then p r0 else p (r0 + 1)

/-- The data track under sail k (05 R135). -/
def State.trackUnder (s : State) (m k : Nat) : Nat :=
  let g := s.moN m 0x30 3
  if s.v1Active m then g + k - 64 else g + 1 + k

/-- Strength burned on a track's stripe (09 R232): S4 in the log area (R252), S1 when none is known. -/
def State.strengthAt (s : State) (m layer track : Nat) : Nat :=
  let t := (s.tableOf m).getD 0
  let z := s.zoneOf t track
  if s.isLogStripe t layer (s.stripeLow t z ((s.tHi t z - track) / 16)) then 3
  else ((s.mast m).wr.stripeStr.find? (fun p => decide (p.1 = layer ∧ p.2.1 ≤ track ∧ track < p.2.1 + 16))).elim 0 (fun p => p.2.2)

/-- The frames of the next revolution under a sail, at most `n`, for a calibration; none where the sail may not serve the track under
it (09 R227). -/
def State.calFrames (s : State) (m k n : Nat) : List FrameRead :=
  let t := (s.tableOf m).getD 0
  let l := s.moN m 0x30 4
  let g := s.trackUnder m k
  let str := s.strengthAt m l g
  let fs := (List.range (s.slotsOf t (s.zoneOf t g) str)).map (fun f =>
    ({ sid := calSid, p := s.framePos m k f str, len := frameLen str, str := str, slot := ⟨l, g, f⟩ } : FrameRead))
  let v := s.sail m (if s.v1Active m then 65 else 64)
  let now := (v.base + v.raw.length) % 2 ^ 32
  if s.maySail m g k then (sortBy (fun a b => decide (posDiff now a.p ≤ posDiff now b.p)) fs).take n else []

/-- Sails that a calibration measures (05 Table 5.7, 08 Table 8.3). -/
def State.calSails (s : State) (m : Nat) (kind : CalKind) (code : Nat) : List Nat :=
  match kind, code with
  | .loop, 2 => [0, 1, 2, 3, 60, 61, 62, 63].filter (s.sailHealthy m)
  | .loop, 3 => (List.range 64).filter (s.sailHealthy m)
  | .loop, _ => []
  | .channel, _ => (List.range 64).filter (fun k => s.inWindow m k)

/-- Searches of a calibration: how many, and candidates of each. -/
def calSearches (kind : CalKind) (code : Nat) : Nat × Nat :=
  match kind, code with
  | .loop, 1 => (1, 33) | .loop, 2 => (1, 33) | .loop, 3 => (2, 17) | .loop, _ => (1, 1)
  | .channel, 1 => (1, 1) | .channel, 2 => (1, 65) | .channel, 3 => (1, 17) | .channel, _ => (14, 9)

/-- Positions of one measuring span. -/
def calSpan (kind : CalKind) (code : Nat) : Nat :=
  match kind, code with
  | .loop, _ => 65536 | .channel, 2 => 16384 | .channel, 3 => 65536 | .channel, 4 => 16384 | .channel, _ => 0

/-- Tap of search i of the equaliser-preset calibration: 0 to 6, then 8 to 14. -/
def calTap (i : Nat) : Nat := if i < 7 then i else i + 1

/-- Value of a candidate around a base. -/
def calValue (base : Int) (i n : Nat) (step : Int) : Int := sat (base + ((i : Int) - (n / 2 : Nat)) * step) 16

/-- The value around which a loop calibration's candidates lie: Table 5.7 gives their number and step, and the search is centred on
the result object's present value (notes/assumptions/140.md). -/
def State.calBase (s : State) (m code search layer : Nat) : Int :=
  match code with
  | 1 => if s.v1Active m then s.mo m 0x30 9 else s.mo m 0x30 7
  | 2 => s.mo m 0x30 6
  | _ => if search = 0 then s.mo m 0x33 (layer + 0x11) else s.mo m 0x33 (layer + 1)

/-- Sets a searched loop value. -/
def State.calSet (s : State) (m code search : Nat) (v : Int) : State :=
  match code with
  | 1 => s.setTarget m 1 v
  | 2 => s.setTarget m 5 v
  | _ => if search = 0 then s.updOpt m (fun x => { x with hsa := v }) else s.setTarget m 6 v

/-- Long values of a sail as they stand, with a changed part, loaded from its present position on. -/
def State.loadNow (s : State) (m k : Nat) (f : Taps → Taps) : State :=
  let x := s.sail m k
  let v := 64 * x.blk % 2 ^ 32
  let t := x.longAt (s.startSet m k 0) v 1
  s.setSail m k (x.note ⟨v, true, f t⟩)

/-- Applies the present candidate (05 R153, 08 R220). -/
def State.calApply (s : State) (m : Nat) : State :=
  match (s.opt m).cal with
  | none => s
  | some c =>
    let (_, n) := calSearches c.kind c.code
    let s0 := s.updOpt m (fun x => { x with cal := some { c with since := (s.tickNow m), armed := false, acc := 0, n := 0 } })
    match c.kind with
    | .loop =>
      let step := match c.code with
        | 1 => s.mo m 0x35 4
        | 2 => s.mo m 0x35 5
        | _ => if c.search = 0 then s.mo m 0x35 6 else s.mo m 0x35 0x8D
      if c.code = 4 then s0 else s0.calSet m c.code c.search (calValue (s.calBase m c.code c.search c.arg) c.cand n step)
    | .channel =>
      let old : Nat → Int := fun k => tblGet (fun _ => 0) c.saved k
      match c.code with
      | 2 => forEach c.sails (fun k a => a.setMo m 0x40 (k + 1)
          (clampI (old (mkey m 0x40 (k + 1)) + (c.cand : Int) - 32) 0 524287)) s0
      | 3 => forEach c.sails (fun k a =>
          let b := a.setMo m 0x48 (k + 1) (calValue (old (mkey m 0x48 (k + 1))) c.cand n (s.mo m 0x45 4))
          b.loadNow m k (fun t => { t with a := (b.startSet m k 0).a })) s0
      | 4 =>
        let key := mkey m 0x44 (16 * c.arg + calTap c.search + 1)
        let b := s0.setObj key (calValue (old key) c.cand n (s.mo m 0x45 5))
        forEach c.sails (fun k a => a.loadNow m k (fun t => { t with eq := (b.startSet m k c.arg).eq })) b
      | _ => s0

/-- A calibration command (05 R153, 08 R219): none where it fails with UNIT_BUSY. Code 3 of M+35 searches at the present layer for the
layer M+35:03, code 4 takes its samples while V0 drives (DESIGN CHOICE; notes/assumptions/161.md). -/
def State.calStart (s : State) (m : Nat) (kind : CalKind) (code : Nat) : Option State :=
  if (s.mast m).st ≠ .tracking ∨ s.moN m 0x30 2 ≠ 0 ∨ (s.opt m).cal ≠ none then none
  else
    let sails := s.calSails m kind code
    let out := if kind = .loop then mkey m 0x35 2 else mkey m 0x45 2
    let saved : List (Nat × Int) := match kind, code with
      | .channel, 2 => sails.map (fun k => (mkey m 0x40 (k + 1), s.mo m 0x40 (k + 1)))
      | .channel, 3 => sails.map (fun k => (mkey m 0x48 (k + 1), s.mo m 0x48 (k + 1)))
      | .channel, 4 => (List.range 15).map (fun i =>
          (mkey m 0x44 (16 * s.moN m 0x45 3 + i + 1), s.mo m 0x44 (16 * s.moN m 0x45 3 + i + 1)))
      | _, _ => []
    let skip := decide (kind = .loop ∧ code = 3) && !(s.maskBit (mkey m 9 0x0A) 1)
    let tgts := if kind = .loop then [1, 5, 6].map (fun b => (b, s.target m b)) else []
    let c : Calib := { kind := kind, code := code, saved := saved, tgts := tgts, hsaWas := (s.opt m).hsa, sails := sails, full := calSpan kind code,
                       search := if skip then 1 else 0, adapted := decide (kind = .loop),
                       arg := if kind = .loop then s.moN m 0x35 3 else s.moN m 0x45 3 }
    let s1 := (((s.updOpt m (fun x => { x with cal := some c })).setMo m 0x30 2 5).setObj out 1)
    let s2 := if kind = .channel then s1.setMo m 0x45 6 0 else s1
    let s3 := forEach sails (fun k a =>
      let x := a.sail m k
      a.setSail m k { x with
        frames := [], reload := x.reload || decide (kind = .channel), sq := 0, hist := [], span := 0, deltas := [], seen := 0,
        synced := 0, taken := 0, done := 0 }) s2
    if kind = .loop ∧ code = 4 ∧ s.maskBit (mkey m 9 0x0A) 0 = false then some (s3.failCal m)
    else some (if kind = .loop then s3.calApply m else s3)

/-- Sails that a calibration measures and whose last frame has begun go on with those of their next revolution, so that the frames
measured are consecutive (08 Table 8.3). A loop calibration has one frame of each decoded, where the pool has a place to reserve; a
frame left out for want of one is a deferral (05 Table 5.7, 10 R258). -/
def State.calRefill (s0 : State) (m : Nat) (c : Calib) : State :=
  let s := (forEach c.again (fun p a =>
    if a.poolFree = 0 then a.countM m 0x0C 0x0B
    else a.beginFrame m p.1 { sid := calSid, p := a.framePos m p.1 p.2.1.sect p.2.2, len := frameLen p.2.2, str := p.2.2, slot := p.2.1, pool := true })
    s0).updOpt m (fun x => { x with cal := x.cal.map (fun k => { k with again := if s0.poolFree = 0 then k.again else [] }) })
  forEach (c.sails.filter (fun k => (s.sail m k).frames.all (fun f => f.begun))) (fun k a =>
    let l := a.calFrames m k 160
    let want := decide (c.kind = .loop ∧ l ≠ [])
    let place := want && decide (0 < a.poolFree)
    let b := if want && !place then a.countM m 0x0C 0x0B else a
    b.setSail m k { b.sail m k with
      frames := (b.sail m k).frames ++ l.mapIdx (fun i f => { f with pool := place && decide (i = 0) }) }) s

/-- A calibration at a strobe (05 R153, 08 R220): the first candidate once every sail has adapted, and a candidate's metric once its
settling time has passed. -/
def State.calArm (s0 : State) (m T : Nat) : State :=
  match (s0.opt m).cal with
  | none => s0
  | some c0 =>
    let s := s0.calRefill m c0
    if c0.adapted = false then
      (if c0.sails.all (fun k => decide (65536 ≤ (s.sail m k).seen)) then
        (s.updOpt m (fun x => { x with cal := some { c0 with adapted := true } })).calApply m
      else s)
    else if c0.armed ∨ T < c0.since + ticksUs 1000 then s
    else
      let s1 := s.updOpt m (fun x => { x with cal := some { c0 with armed := true } })
      forEach c0.sails (fun k a => a.setSail m k { a.sail m k with sq := 0, hist := [], span := c0.full, taken := 0, deltas := [] }) s1

/-- Histogram asymmetry H (08 R221). -/
def asymmetry (h : List Nat) : Nat :=
  (List.range 15).foldl (fun a v => a + ((h.getD (17 + v) 0 : Int) - h.getD (15 - v) 0).natAbs) 0

/-- Metrics of the present candidate, one per sail for the codes that judge each sail (05 Table 5.7, 08 Table 8.3). -/
def State.calMetric (s : State) (m : Nat) (c : Calib) : List Int :=
  let sq : List Int := c.sails.map (fun k => ((s.sail m k).sq : Int))
  match c.kind, c.code with
  | .loop, 1 => [(c.acc : Int)]
  | .loop, 4 => []
  | .loop, _ => [sq.foldl (· + ·) 0]
  | .channel, 2 => sq
  | .channel, 3 => c.sails.map (fun k => (asymmetry (s.sail m k).hist : Int))
  | .channel, 4 => [sq.foldl (· + ·) 0]
  | .channel, _ => []

/-- The candidate's samples are all taken. -/
def State.calComplete (s : State) (m : Nat) (c : Calib) : Bool :=
  match c.kind, c.code with
  | .loop, 1 => decide (4096 ≤ c.n)
  | .loop, 4 => decide (4096 ≤ c.n)
  | .channel, 1 => c.armed && c.sails.all (fun k => decide (64 ≤ (s.sail m k).taken))
  | _, _ => c.armed && c.sails.all (fun k => decide ((s.sail m k).span = 0))

/-- Best index of a list of metrics, first of equals (02 R78). -/
def bestIx (greatest : Bool) (l : List Int) : Nat :=
  (List.range l.length).foldl (fun b i =>
    let x := l.getD i 0
    let y := l.getD b 0
    if (greatest && decide (x > y)) || (!greatest && decide (x < y)) then i else b) 0

/-- Pass test of one search (05 Table 5.7, 08 Table 8.3). -/
def calPass (greatest : Bool) (l : List Int) : Bool :=
  let b := bestIx greatest l
  let best := l.getD b 0
  let e0 := l.getD 0 0
  let e1 := l.getLastD 0
  decide (0 < b ∧ b + 1 < l.length) &&
  (if greatest then decide (8 * best ≥ 9 * min e0 e1) else decide (4 * max e0 e1 ≥ 5 * best))

/-- Ends a calibration as a pass: results written, start sets reloaded (05 R153, 08 R220). -/
def State.passCal (s : State) (m : Nat) (c : Calib) (res : List (Nat × Int)) : State :=
  let out := if c.kind = .loop then mkey m 0x35 2 else mkey m 0x45 2
  let s1 := forEach res (fun p a => a.setObj p.1 p.2) s
  let s2 := s1.updMast m (fun x => { x with
    opt := { x.opt with cal := none }, sails := x.sails.map (fun p => (p.1, p.2.dropCal)) })
  ((s2.setMo m 0x30 2 (orderCode (s2.opt m).seqn : Nat)).setObj out 2)

/-- Most frequent sync offset; ties to the smaller magnitude, then the negative (08 Table 8.3). -/
def modeDelta (l : List Int) : Int × Nat :=
  let cnt : Int → Nat := fun d => (l.filter (· = d)).length
  let cands : List Int := (List.range 48).map (fun (i : Nat) => (i : Int) - 24)
  let best := cands.foldl (fun b d =>
    if cnt d > cnt b ∨ (cnt d = cnt b ∧ (d.natAbs < b.natAbs ∨ (d.natAbs = b.natAbs ∧ d < b))) then d else b) 0
  (best, cnt best)

/-- The outcome of a finished search, or the next one (05 R153, 08 R223). -/
def State.calFinish (s : State) (m : Nat) (c : Calib) : State :=
  let col : Nat → List Int := fun i => c.metrics.map (fun r => r.getD i 0)
  let fewDecoded := decide (2 * c.decoded.eraseDups.length < c.sails.length)
  let l := c.arg
  match c.kind, c.code with
  | .loop, 1 =>
    if calPass true (col 0) then
      let v := calValue (s.calBase m 1 0 l) (bestIx true (col 0)) 33 (s.mo m 0x35 4)
      (s.passCal m c [(if s.v1Active m then mkey m 0x30 9 else mkey m 0x30 7, v)]).calSet m 1 0 v
    else s.failCal m
  | .loop, 2 =>
    let v := calValue (s.calBase m 2 0 l) (bestIx false (col 0)) 33 (s.mo m 0x35 5)
    if calPass false (col 0) ∧ fewDecoded = false then (s.passCal m c [(mkey m 0x30 6, v)]).calSet m 2 0 v else s.failCal m
  | .loop, 3 =>
    let step := if c.search = 0 then s.mo m 0x35 6 else s.mo m 0x35 0x8D
    let v := calValue (s.calBase m 3 c.search l) (bestIx false (col 0)) 17 step
    let key := if c.search = 0 then mkey m 0x33 (l + 0x11) else mkey m 0x33 (l + 1)
    if calPass false (col 0) = false ∨ fewDecoded = true then s.failCal m
    else if c.search = 0 then
      ((s.calSet m 3 0 v).updOpt m (fun x => { x with cal := some { c with
        search := 1, cand := 0, metrics := [], chosen := c.chosen ++ [(key, v)] } })).calApply m
    else (s.passCal m c (c.chosen ++ [(key, v)])).calSet m 3 1 v
  | .loop, _ =>
    let gs := c.groups
    let lo := gs.foldl min (gs.headD 0)
    let hi := gs.foldl max (gs.headD 0)
    if hi - lo ≤ 512 * 128 then s.passCal m c [(mkey m 0x34 2, sat (rne (gs.foldl (· + ·) 0) 11) 16)] else s.failCal m
  | .channel, 1 =>
    let each := c.sails.map (fun k => (k, modeDelta (s.sail m k).deltas))
    let bad := each.filter (fun p => decide (p.2.2 < 48))
    if bad = [] then s.passCal m c (each.map (fun p =>
      (mkey m 0x40 (p.1 + 1), clampI (s.mo m 0x40 (p.1 + 1) + 64 * p.2.1) 0 524287)))
    else s.failCalFor m (bad.map (·.1))
  | .channel, 4 =>
    let key := mkey m 0x44 (16 * c.arg + calTap c.search + 1)
    let b := bestIx false (col 0)
    let v := calValue (tblGet (fun _ => 0) c.saved key) b 9 (s.mo m 0x45 5)
    let start := if c.search = 0 then (col 0).getD 4 0 else (c.chosen.head?.map (·.2)).getD 0
    let inside := decide (0 < b ∧ b + 1 < 9)
    let s1 := s.setObj key v
    if !inside then s1.failCal m
    else if c.search < 13 then
      (s1.updOpt m (fun x => { x with cal := some { c with
        search := c.search + 1, cand := 0, metrics := [], chosen := if c.search = 0 then [(0, start)] else c.chosen } })).calApply m
    else if (col 0).getD b 0 ≤ start then s1.passCal m c [] else s1.failCal m
  | .channel, code =>
    let n := if code = 2 then 65 else 17
    let judged := c.sails.mapIdx (fun i k => (k, calPass false (col i), bestIx false (col i)))
    let bad := judged.filter (fun p => !p.2.1)
    if bad = [] then s.passCal m c (judged.map (fun p =>
      let key := if code = 2 then mkey m 0x40 (p.1 + 1) else mkey m 0x48 (p.1 + 1)
      let old := tblGet (fun _ => 0) c.saved key
      (key, if code = 2 then clampI (old + p.2.2 - 32) 0 524287 else calValue old p.2.2 n (s.mo m 0x45 4))))
    else s.failCalFor m (bad.map (·.1))

/-- A candidate's samples are all taken (05 R153, 08 R220): the next candidate, the next search, or the outcome. -/
def State.calDone (s : State) (m : Nat) (kind : CalKind) : State :=
  match (s.opt m).cal with
  | none => s
  | some c =>
    if c.kind ≠ kind ∨ s.calComplete m c = false then s
    else
      let c' := { c with metrics := c.metrics ++ [s.calMetric m c] }
      let (_, n) := calSearches kind c.code
      if c'.cand + 1 < n then
        (s.updOpt m (fun x => { x with cal := some { c' with cand := c.cand + 1 } })).calApply m
      else s.calFinish m c'

end Sys2Proof.Machine
end

