-- ==== Sys2Proof/Machine/MastLink.lean ====
section
/-! DEFINITION. The mast link (chapter 3): frames in and out, training, lanes, telemetry sets, presence. -/
namespace Sys2Proof.Machine

/-- Scrambler sequence of a lane code (03 R82), as a number. -/
def laneScramble (code : Nat) : Nat := natOfBits (scrambler 5140 (0x4D415300 + code))

/-- The message bits of a received frame, unscrambled (03 R82). -/
def unscramble (code : Nat) (b : FrameBits) : Nat := b.toNat ^^^ laneScramble code

/-- The CRC-16 of a frame matches (03 R83). -/
def frameCrcOk (n : Nat) : Bool := decide (crc16 (bitsOf n 5124) = fld n 5139 5124)

/-- A frame's message with its CRC-16, scrambled for a lane code (03 R82, R83). -/
def sealFrame (code n : Nat) : FrameBits :=
  let body := n % 2 ^ 5124
  BitVec.ofNat 5140 ((body + crc16 (bitsOf body 5124) * 2 ^ 5124) ^^^ laneScramble code)

/-- Link state M+08:01. -/
def State.linkSt (s : State) (m : Nat) : Nat := s.moN m 8 1
def State.setLinkSt (s : State) (m v : Nat) : State := s.setMo m 8 1 (v : Nat)

/-- Lane `l` of mast `m`; codes 8 and 9 are the outbound lanes. -/
def State.lane (s : State) (m l : Nat) : LaneRx := (s.link m).lane l
def State.setLane (s : State) (m l : Nat) (x : LaneRx) : State := s.updLink m (fun y => y.setLane l x)
/-- A lane is retired (03 R105). -/
def State.laneRetired (s : State) (m code : Nat) : Bool :=
  if code < 8 then s.maskBit (mkey m 8 4) code else s.maskBit (mkey m 8 5) (code - 8)
/-- Lane codes of 03 R82. -/
def laneCodeOk (code : Nat) : Bool := decide (code < 7 ∨ code = 8 ∨ code = 9)

/-- A lane takes part in the present link: not retired, nor cleared too late for the present training (03 R108). -/
def State.laneIn (s : State) (m code : Nat) : Bool := !s.laneRetired m code && !(s.lane m code).skip

/-- Shows the healthy lanes, M+08:02 and M+08:03. -/
def State.showLanes (s : State) (m : Nat) : State :=
  let i := (List.range 7).foldl (fun a l => if (s.lane m l).locked && s.laneIn m l then a + 2 ^ l else a) 0
  let up := decide (2 ≤ s.linkSt m)
  (s.setMo m 8 2 (i : Nat)).setMo m 8 3 (if up then s.outLanes m else 0 : Nat)

/-- Sails of inbound lane `l` (03 Table 3.1). -/
def sailsOfLane (l : Nat) : List Nat :=
  if l < 6 then (List.range 10).map (fun j => 10 * l + j) else [60, 61, 62, 63, 64, 65]

/-- Sails whose samples an inbound lane brings at present: lane 0 brings lane 6's while the front-end maps it so (03 Table 3.13). -/
def State.sailsCarried (s : State) (m l : Nat) : List Nat :=
  let mapped := (s.link m).lmapped
  if l = 0 ∧ mapped = true then sailsOfLane 6 else if l = 6 ∧ mapped = true then [] else sailsOfLane l

/-- Sails of a lane that is down: no sample comes, and what its return skips is erased (03 Table 3.13). -/
def State.stopSails (s : State) (m : Nat) (l : List Nat) : State :=
  forEach l (fun k a => a.setSail m k { a.sail m k with running := false }) s

/-- Sails that bring no more samples. -/
def State.endSails (s : State) (m : Nat) (l : List Nat) : State := forEach l (fun k a => a.endSail m k) s

/-- Every sail of a mast whose link ends: what was under way is read again (03 R107). -/
def State.dropSails (s : State) (m : Nat) : State :=
  (s.setSectors (s.media.sectors.map (fun x =>
    if x.mast = m ∧ x.phase = .scheduled then { x with phase := .wanted } else x))).updMast m (fun x => { x with
      sails := x.sails.map (fun p => (p.1, { p.2 with running := false, raw := [], det := [], frames := [] })) })

/-- The telemetry lane: lane 6, or lane 0 under LMAP (03 R103). -/
def State.telemetryLane (s : State) (m : Nat) : Nat := if s.moN m 8 6 = 1 then 0 else 6

/-- A retired lane leaves the link: its sails end (03 Table 3.13). -/
def State.laneGone (s : State) (m code : Nat) : State :=
  let s1 := if code < 8 then s.endSails m (s.sailsCarried m code) else s
  (s1.setLane m code {}).showLanes m

/-- Retires a lane that counted its last failure or was not re-acquired (03 R105). -/
def State.laneOut (s : State) (m code : Nat) : State := (s.retireLane m code).laneGone m code

/-- A lane goes down (03 R105, Table 3.13): one failure at that instant; its group is erased; lane 6 brings LMAP = 1. -/
def State.laneGoesDown (s : State) (m code : Nat) : State :=
  let x := s.lane m code
  if s.laneIn m code = false ∨ x.downAt.isSome = true then s
  else
    let s1 := s.setLane m code { x with locked := false, run := 0, bad := 0, downAt := some s.now }
    let s2 := if code = 8 then s1.updLink m (fun y => { y with outDown0 := true })
      else if code = 9 then s1.updLink m (fun y => { y with outDown1 := true })
      else
        let a := s1.stopSails m (s1.sailsCarried m code)
        if code = 6 then a.setMo m 8 6 1 else a
    let s3 := (s2.showLanes m).failLane m code
    if s3.laneRetired m code then s3.laneGone m code else s3

/-- A lane not re-acquired within 2 ms is retired, without a further failure (03 R105). -/
def State.laneNotBack (s : State) (m code : Nat) : State :=
  match (s.lane m code).downAt with
  | some d => if d + ms 2 ≤ s.now ∧ s.laneRetired m code = false then s.laneOut m code else s
  | none => s

/-- A lane is re-acquired (03 Table 3.13); at or after the end of its 2 ms it is retired instead (00 R22). -/
def State.laneReturns (s0 : State) (m code : Nat) : State :=
  let s := s0.laneNotBack m code
  let x := s.lane m code
  if x.downAt.isNone = true ∨ s.laneRetired m code = true then s
  else
    let s1 := s.setLane m code { x with locked := true, run := 0, bad := 0, downAt := none, upAt := s.now }
    let s2 := if code < 8 then s1
      else s1.updLink m (fun y =>
        if code = 8 then { y with outDown0 := false, outBad0 := 0 } else { y with outDown1 := false, outBad1 := 0 })
    s2.showLanes m

/-- Lane 6 has been clean for 1 s (03 Table 3.13): LMAP clears, or lane 6 is retired at N failures within W. -/
def State.lmapEnds (s : State) (m : Nat) : State :=
  let x := s.lane m 6
  if s.moN m 8 6 = 0 ∨ x.locked = false ∨ s.laneRetired m 6 = true ∨ s.now < x.upAt + sec 1 then s
  else
    let w := ms (s.moN m 0x0A 2)
    let recent := ((tblGet (fun _ => []) s.avail.fails (failKey .lane m 6)).filter (fun t => s.now < t + w)).length
    if recent < s.moN m 0x0A 1 then s.setMo m 8 6 0 else s.laneOut m 6

/-- Frame lock while training: 8 consecutive codewords decode (03 R101); the link then equalises (Table 3.12, step 5). -/
def State.trainLock (s : State) (m lane : Nat) (decoded : Bool) : State :=
  let x := s.lane m lane
  let run := if decoded then x.run + 1 else 0
  if run < 8 then s.setLane m lane { x with run := run }
  else
    let s1 := s.setLane m lane { x with locked := true, run := 0, bad := 0 }
    (if s1.linkSt m = 2 then s1.setLinkSt m 3 else s1).showLanes m

/-- The rig sends PRBS13Q on both outbound lanes (03 R100). -/
def State.sendPrbs (s : State) (m : Nat) : State := s.emit (.prbs (32 + m))

/-- No inbound signal for 100 ms: the mast without a link is absent (03 R107), and PRBS13Q is sent (R100, step 1). -/
def State.absentTimeout (s : State) (m : Nat) : State :=
  if (s.mast m).st = .retired ∨ (s.mast m).st = .absent ∨ s.linkSt m = 6 ∨ s.now < (s.link m).lastSig + ms 100 then s
  else
    let s1 := (s.setMastState m .absent).updLink m (fun y => { y with
      lanes := [], t0 := none, prbsAt := none, newest := [], tel := [], fails := 0 })
    let s2 := (s1.setLinkSt m 1).showLanes m
    if s.linkSt m = 1 then s2 else s2.sendPrbs m

/-- Signal arrives on an inbound lane (03 R107); at or after 100 ms without one the mast is absent first (00 R22). -/
def State.heard (s : State) (m : Nat) : State := (s.absentTimeout m).updLink m (fun y => { y with lastSig := s.now })

/-- A codeword arrives on an inbound lane (03 R84, R101): counts, lock, and the unscrambled frame when it is to be used. -/
def State.rxFrame (s0 : State) (m lane : Nat) (f : RxFrame) : State × Option Nat :=
  let s := s0.heard m
  if s.linkSt m < 2 ∨ 7 ≤ lane ∨ s.laneIn m lane = false then (s, none)
  else
    let n := unscramble lane f.bits
    let valid := f.decoded && frameCrcOk n
    let ty := n % 16
    let use := valid && (decide (ty = 1) || decide (ty = 2) || decide (ty = 3) || decide (ty = 14))
    let s1 := if f.decoded then s.countN (ckey m 0 (lane + 1)) f.corrected else s
    let s2 := if use then s1 else s1.countM m 1 (lane + 1)
    let x := s2.lane m lane
    if x.locked then
      if valid then (s2.setLane m lane { x with bad := 0 }, if use then some n else none)
      else if x.bad + 1 < 8 then (s2.setLane m lane { x with bad := x.bad + 1 }, none)
      else if s2.linkSt m = 6 then (s2.laneGoesDown m lane, none)
      else ((s2.setLane m lane { x with locked := false, run := 0, bad := 0 }).showLanes m, none)
    else if x.downAt.isSome || x.failed then (s2, none)
    else (s2.trainLock m lane f.decoded, none)

/-- A receiver has judged a TXEQ setting by its eye margin (03 Table 3.12, step 5): the best so far is kept, the first of equals,
and the next setting is tried (notes/assumptions/141.md). -/
def State.judgeEye (s : State) (m lane : Nat) (eye : Option (Nat × Nat)) : State :=
  let x := s.lane m lane
  match eye with
  | some (set_, margin) =>
    if s.linkSt m = 3 ∧ lane < 7 ∧ s.laneIn m lane = true ∧ x.locked = true ∧ x.trial < 81 ∧ set_ = txeqCode x.trial then
      let better := match x.best with
        | some b => decide (b.1 < margin)
        | none => true
      s.setLane m lane { x with trial := x.trial + 1, best := if better then some (margin, set_) else x.best }
    else s
  | none => s

/-- Samples of a frame for the sails of its lane (03 Tables 3.3, 3.4, R86, R104), then the channels they feed. -/
def State.takeSamples (s : State) (m n : Nat) (sails : List Nat) (pitch : Nat) : State :=
  let cnt := min 100 (fld n 30 24)
  let sidx := fld n 63 32
  let s1 := forEach (sails.mapIdx (fun (j k : Nat) => (j, k))) (fun p a =>
    let vals := (List.range cnt).map (fun i => toSigned (n / 2 ^ (124 + pitch * i + 5 * p.1)) 5)
    a.pushSamples m p.2 sidx vals (n.testBit (64 + p.1))) s
  s1.runChannels m

/-- Lane 0 begins or ends bringing lane 6's duties (03 Table 3.13): S0 to S9 end, or return. -/
def State.setMapped (s : State) (m : Nat) (on : Bool) : State :=
  if (s.link m).lmapped = on then s
  else (if on then s.endSails m (sailsOfLane 0) else s).updLink m (fun y => { y with lmapped := on })

/-- A sample frame (03 Table 3.3); one on lane 0 shows that the front-end maps lane 6's duties there no more. -/
def State.sampleFrame (s : State) (m lane : Nat) (f : RxFrame) : State :=
  match s.rxFrame m lane f with
  | (s1, some n) =>
    if n % 16 = 1 ∧ lane < 6 ∧ 5 ≤ s1.linkSt m then
      (if lane = 0 then s1.setMapped m false else s1).takeSamples m n (sailsOfLane lane) 50 else s1
  | (s1, none) => s1

/-- A sample-and-telemetry frame (03 Tables 3.4, 3.5), on lane 6 or, once the front-end maps it there, on lane 0. -/
def State.telemetryFrame (s : State) (m lane : Nat) (f : RxFrame) : State :=
  match s.rxFrame m lane f with
  | (s1, some n) =>
    if n % 16 = 2 ∧ (lane = 0 ∨ (lane = 6 ∧ s1.moN m 8 6 = 0)) ∧ 5 ≤ s1.linkSt m then
      let set := (List.range 39).map (fun w => fld n (3139 + 16 * w) (3124 + 16 * w))
      ((s1.setMapped m (decide (lane = 0))).updLink m (fun y => { y with newest := set })).takeSamples m n (sailsOfLane 6) 30
    else s1
  | (s1, none) => s1

/-- A mast in training goes back to PRBS13Q (03 R103). -/
def State.trainingEnds (s : State) (m : Nat) : State :=
  let s1 := (s.setLinkSt m 1).updLink m (fun y => { y with t0 := none, prbsAt := some s.now, lanes := [] })
  ((s1.showLanes m).emit (.prbs (32 + m)))

/-- An identity frame's words (03 Table 3.11): identity objects, D (03 R102), the next frames carry TSET. An LVER other than 1 makes the
mast faulted at once; it is tried again as after the third failure (R103; notes/assumptions/163.md). -/
def State.takeIdentity (s : State) (m n tick : Nat) : State :=
  let w : Nat → Nat := fun i => fld n (79 + 16 * i) (64 + 16 * i)
  let s1 := (List.range 10).foldl (fun a i => a.setMo m 9 (i + 1) (w i : Nat)) s
  if w 3 ≠ 1 then ((s1.faultMast m).updLink m (fun y => { y with fails := max y.fails 3 })).trainingEnds m
  else
    let d := ((tick : Int) - (w 10 + 65536 * w 11 : Nat) - (w 12 : Nat)).fdiv 2
    (s1.setMo m 8 7 (wrapU d 16)).updLink m (fun y => { y with idreq := false, tset := 16 })

/-- An identity frame (03 R100, step 7; R103). -/
def State.identityFrame (s : State) (m lane : Nat) (f : RxFrame) (tick : Nat) : State :=
  match s.rxFrame m lane f with
  | (s1, some n) =>
    if n % 16 = 3 ∧ lane = s1.telemetryLane m ∧ s1.linkSt m = 4 ∧ (s1.link m).tset = 0 then s1.takeIdentity m n tick else s1
  | (s1, none) => s1

/-- Changed registers, then the rotation: the writes of the next frame's 64 slots (03 R96), and the rig's image and rotation after
them. -/
def State.regSlots (s : State) (m : Nat) : List (Nat × Nat) × State :=
  let x := s.link m
  let clear := if x.fclr = 0 then [] else [(0x1F0, x.fclr)]
  let changed := (regAddrs.filter (fun a => s.regWant m a ≠ s.regSent m a)).map (fun a => (a, s.regWant m a))
  let first := (clear ++ changed).take 64
  let n := 64 - first.length
  let rot := (List.range n).map (fun i =>
    let a := regAddrs.getD ((x.rotate + i) % 200) 0
    (a, s.regWant m a))
  let all := first ++ (if changed.length + clear.length ≤ 64 then rot else [])
  let image := all.foldl (fun im p => if p.1 = 0x1F0 then im else tblPut regReset p.1 p.2 im) x.image
  (all, s.updLink m (fun y => { y with image := image, rotate := (y.rotate + n) % 200, fclr := 0 }))

/-- Register slots as frame bits (03 Table 3.8). -/
def slotBits (l : List (Nat × Nat)) : Nat :=
  (l.mapIdx (fun (i : Nat) (p : Nat × Nat) => (2 ^ 31 + (p.1 % 4096) * 2 ^ 16 + p.2 % 65536) * 2 ^ (384 + 32 * i))).foldl (· + ·) 0

/-- Drops the bits of every stream that can no longer arrive 256 sampling periods before index `lo - 256` falls due: those before
`lo` (03 R98). They stay unburned. -/
def State.lateBits (s : State) (m lo : Nat) : State :=
  s.updMast m (fun x => { x with streams := (x.streams.map (fun y =>
    let n := if posLe (y.widx % 2 ^ 32) lo then posDiff (y.widx % 2 ^ 32) lo else 0
    { y with widx := y.widx + min n y.bits.length, bits := y.bits.drop n })) })

/-- Write blocks of one outbound lane (03 Table 3.9, R97, R98): slots `ks`, bits before index `hi`. -/
def State.writeBlocks (s : State) (m : Nat) (ks : List Nat) (hi : Nat) : List (Nat × Nat × List Bool) :=
  ks.filterMap (fun k =>
    match (s.mast m).streams.find? (fun x => decide (x.slot = k) && decide (x.bits ≠ [])) with
    | none => none
    | some x =>
      let ahead := posDiff (x.widx % 2 ^ 32) hi
      let n := if ahead < 2 ^ 31 then min 100 ahead else 0
      if n = 0 then none else some (k, x.widx, x.bits.take n))

/-- Takes the sent bits off the streams; a stream stays until its last bit is burned. -/
def State.sentBlocks (s : State) (m index : Nat) (l : List (Nat × Nat × List Bool)) : State :=
  s.updMast m (fun x => { x with streams := (l.foldl (fun (st : List WStream) b =>
    st.map (fun y => if y.slot = b.1 ∧ y.widx = b.2.1 then
      { y with widx := y.widx + b.2.2.length, bits := y.bits.drop b.2.2.length } else y)) x.streams).filter (fun y => !y.over index) })

/-- Write blocks as frame bits. -/
def blockBits (l : List (Nat × Nat × List Bool)) : Nat :=
  (l.mapIdx (fun (i : Nat) (b : Nat × Nat × List Bool) =>
    (b.1 % 16 + 16 + b.2.2.length * 2 ^ 5 + (b.2.1 % 2 ^ 32) * 2 ^ 12 + natOfBits b.2.2 * 2 ^ 44) * 2 ^ (2432 + 144 * i))).foldl (· + ·) 0

/-- One frame leaves on every outbound lane that takes part in the link (03 R105, R108): the same SEQ and content, each lane its own write blocks (03 R89,
R97). -/
def State.sendFrames (s : State) (m n : Nat) (wb : Nat → Nat) : State :=
  let x := s.link m
  let s1 := forEach ([0, 1].filter (fun l => s.laneIn m (8 + l))) (fun l a =>
    a.emit (.frame m l (lineOf (sealFrame (8 + l) (n + 16 * l + x.seq * 2 ^ 8 + wb l))))) s
  s1.updLink m (fun y => { y with seq := (y.seq + 1) % 65536 })

/-- Notes the SFW and the phase fraction that the front-end holds from a tick on (03 R92). -/
def State.phaseSent (s : State) (m atick sfw spf : Nat) : State :=
  s.updOpt m (fun y => { y with pf := spf, pfAt := atick, pfW := sfw })

/-- Sampling clock of the command frame that leaves at a tick (03 R92, R93; 05 R150, R151): SFW and SPF. SPF never moves P by more
than 2^20. Before the clock track has run, SFW and the move are free (notes/assumptions/14.md). -/
def State.frameClock (s : State) (m tick : Nat) : Nat × Nat × State :=
  let x := (s.opt m).clockAt tick
  let atick := tick + 192
  let pred := (x.pf + (atick - x.pfAt) * x.pfW) % 2 ^ 24
  if x.k = 0 then
    let (v, s1) := s.takeFree
    let sfw := 6553600 + v.toNat % 46923777
    let spf := (pred + 2 ^ 24 - 2 ^ 20 + v.toNat / 2 ^ 32 % (2 ^ 21 + 1)) % 2 ^ 24
    (sfw, spf, s1.phaseSent m atick sfw spf)
  else
    let lim : Int := (2 ^ 60 / x.k : Nat)
    let held := match x.clkOld with
      | some c => decide (tick < c.1)
      | none => false
    let corr := if x.clockPh = 2 ∧ held = false then clampI x.snap (-lim) lim else 0
    let x1 := { x with snap := x.snap - corr, phi := ((x.phi : Int) + corr).toNat }
    let ps := x1.phaseAt atick * x.k
    let sfw := (clampI (sfwOf x.f x.k : Nat) 6553600 53477376).toNat
    let move := clampI (wrapS ((ps / 2 ^ 40 % 2 ^ 24 : Nat) - (pred : Int)) 24) (-(2 ^ 20)) (2 ^ 20)
    let spf := (wrapU (pred + move) 24).toNat
    let s1 := if held then s else s.updOpt m (fun _ => x1)
    (sfw, spf, s1.phaseSent m atick sfw spf)

/-- Enables of a command frame (03 Table 3.6): all 0 until the link is up; the chopper only when not failed (06 R171). -/
def State.enableBits (s : State) (m : Nat) (wrEn : Bool) : Nat :=
  let o := s.opt m
  let b : Bool → Nat → Nat := fun c i => if c then 2 ^ i else 0
  if s.linkSt m ≠ 6 then 0
  else b (wrEn && decide ((s.mast m).st = .writing)) 24 + b o.spnEn 25 + b o.sldEn 26 + b o.lsrEn 27 +
    b (o.spnEn && decide (s.moN m 0x38 8 = 0)) 28

/-- Content of the command frame that leaves at a tick, carried alike by every lane, SEQ and lane code apart (03 Table 3.6). -/
def State.commandBody (s : State) (m tick sfw spf : Nat) (slots : List (Nat × Nat)) : Nat :=
  let o := s.outAt m tick
  let atick := tick + 192
  let (sla, slb) := s.bridge m atick
  let w : Int → Nat → Nat := fun v p => toBits v 16 * 2 ^ p
  8 + s.enableBits m o.wrEn + (atick % 2 ^ 32) * 2 ^ 32 + sfw * 2 ^ 64 + spf * 2 ^ 90 +
    w o.foc 128 + w o.trk 144 + w o.brc 160 + w o.hlf 176 + w o.hsa 192 +
    (o.pwa % 65536) * 2 ^ 208 + (o.pwb % 65536) * 2 ^ 224 + (o.pwc % 65536) * 2 ^ 240 +
    w sla 256 + w slb 272 + (o.chp % 65536) * 2 ^ 288 + (Config.readPower % 65536) * 2 ^ 304 + slotBits slots

/-- Write slots that outbound lane `l` carries (03 R97). -/
def State.slotsOfLane (s : State) (m l : Nat) : List Nat :=
  if s.outLanes m = 3 then (List.range 8).map (fun i => 8 * l + i)
  else if (s.outLanes m).testBit l then List.range 8 else []

/-- A command frame leaves at a tick (03 Table 3.6, R89, R90, R98): it arrives within 32 ticks (Table 3.10). -/
def State.sendCommand (s : State) (m tick : Nat) : State :=
  let s0 := s.atTick m tick
  if s0.linkSt m < 5 then s0
  else
    let (sfw, spf, s1) := s0.frameClock m tick
    let (slots, s2) := s1.regSlots m
    let body := s2.commandBody m tick sfw spf slots
    let x := (s2.opt m).clockAt tick
    let s3 := if s2.linkSt m = 6 then s2.lateBits m ((x.indexAt (tick + 32) + 256) % 2 ^ 32) else s2
    let hi := (x.indexAt tick + 1024) % 2 ^ 32
    let wb0 := s3.writeBlocks m (s3.slotsOfLane m 0) hi
    let wb1 := s3.writeBlocks m (s3.slotsOfLane m 1) hi
    let s4 := s3.sendFrames m body (fun l => blockBits (if l = 0 then wb0 else wb1))
    if s4.linkSt m = 6 then s4.sentBlocks m (x.indexAt tick) (wb0 ++ wb1) else s4

/-- Content of an outbound idle frame, SEQ and lane code apart (03 R91, Table 3.12): T_SEND, D, IDREQ, TSET, register slots. -/
def State.idleBody (s : State) (m tick : Nat) (idreq tset : Bool) (slots : List (Nat × Nat)) : Nat :=
  9 + (tick % 2 ^ 32) * 2 ^ 32 + s.moN m 8 7 * 2 ^ 64 + (if idreq then 2 ^ 80 else 0) + (if tset then 2 ^ 81 else 0) + slotBits slots

/-- An outbound idle frame leaves at a tick (03 R91, Table 3.12): T_SEND, D, IDREQ, TSET. -/
def State.sendIdle (s : State) (m tick : Nat) : State :=
  let s0 := s.atTick m tick
  let x := s0.link m
  let due := match x.t0 with
    | some t => decide (t + ms 1 ≤ s0.now)
    | none => false
  if s0.linkSt m < 2 ∨ 5 ≤ s0.linkSt m ∨ due = false then s0
  else
    let (slots, s1) := s0.regSlots m
    let s2 := s1.sendFrames m (s1.idleBody m tick x.idreq (decide (0 < x.tset)) slots) (fun _ => 0)
    if x.tset = 0 then s2
    else
      let s3 := s2.updLink m (fun y => { y with tset := x.tset - 1 })
      if x.tset = 1 then s3.setLinkSt m 5 else s3

/-- PRBS13Q after a failed training has lasted its 10 ms, or the 10 s between tries from the third failure in a row on (03 R103). -/
def State.retryDue (s : State) (m : Nat) : Bool :=
  match (s.link m).prbsAt with
  | some p => decide (p + (if 3 ≤ (s.link m).fails then sec 10 else ms 10) ≤ s.now)
  | none => true

/-- Training starts at t0 (03 R100). -/
def State.trainingStart (s : State) (m : Nat) : State :=
  let s1 := s.updLink m (fun y => { y with
    t0 := some s.now, prbsAt := none, lanes := [], outBad0 := 0, outBad1 := 0, outDown0 := false, outDown1 := false
    newest := [], tel := [], wraps := [], rimgBad := 0, image := [], rotate := 0, fclr := 0, idreq := false, tset := 0
    rise0 := 0, rise1 := 0, lmapped := false })
  (((s1.setMo m 8 6 0).setMo m 8 7 0).setLinkSt m 2).showLanes m

/-- Signal on an inbound lane of a mast without a link: training starts at t0 (03 R100, R103). A faulted mast trains again too. -/
def State.signalDetect (s0 : State) (m : Nat) : State :=
  let s := s0.heard m
  if (s.mast m).st = .retired ∨ 2 ≤ s.linkSt m ∨ ((s.mast m).st ≠ .absent ∧ (s.mast m).st ≠ .faulted) ∨ s.retryDue m = false then s
  else s.trainingStart m

/-- t0 + 40 ms (03 Table 3.12, steps 5 and 6): unlocked lanes have failed. -/
def State.equalisationEnd (s : State) (m : Nat) : State :=
  let x := s.link m
  let due := match x.t0 with
    | some t => decide (t + ms 40 ≤ s.now)
    | none => false
  if s.linkSt m < 2 ∨ 4 ≤ s.linkSt m ∨ due = false then s
  else
    let bad := !(s.lane m 6).locked || !s.laneIn m 6
    let s1 := forEach ((List.range 7).filter (fun l => s.laneIn m l && !(s.lane m l).locked)) (fun l a =>
      a.setLane m l { a.lane m l with failed := true }) s
    ((if bad then s1.setMo m 8 6 1 else s1).updLink m (fun y => { y with idreq := true })).setLinkSt m 4

/-- The link is not up by t0 + M+0A:03 (03 R103): PRBS13Q for 10 ms; the third failure in a row makes the mast faulted. -/
def State.trainingTimeout (s : State) (m : Nat) : State :=
  let x := s.link m
  let due := match x.t0 with
    | some t => decide (t + ms (s.moN m 0x0A 3) ≤ s.now)
    | none => false
  if s.linkSt m < 2 ∨ s.linkSt m = 6 ∨ due = false then s
  else
    let s1 := ((s.countM m 3 4).updLink m (fun y => { y with fails := y.fails + 1 })).trainingEnds m
    if (s1.link m).fails ≥ 3 then s1.faultMast m else s1

/-- Training starts again (03 R103), once PRBS13Q has lasted long enough. -/
def State.trainingRetry (s : State) (m : Nat) : State :=
  if s.linkSt m = 1 ∧ (s.link m).prbsAt.isSome = true ∧ (s.mast m).st ≠ .retired ∧ s.retryDue m = true then s.trainingStart m else s

/-- The link comes up (03 R103, Table 3.12, step 10): lanes that failed training come up retired, a lane that lost lock since goes
down, the mast becomes present and its engine runs; with a retired sled it is faulted (07 R192). M+20:01 reads 1 from here until
the link is lost (notes/assumptions/140.md). -/
def State.linkComesUp (s : State) (m : Nat) : State :=
  let s1 := s.setLinkSt m 6
  let lost := (List.range 7).filter (fun l => (s1.lane m l).failed && !s1.laneRetired m l)
  let s2 := forEach lost (fun l a => a.laneOut m l) s1
  if (s2.mast m).st = .retired then s2
  else
    let s3 := (s2.updLink m (fun y => { y with fails := 0, prbsAt := none, rimgBad := 0, t0 := none, fclr := 0x1F })).updSled m
      (fun y => { y with referenced := false, encLost := false, fltSeen := false })
    let s3 := (s3.yardSafe m).setDriveState m 0
    let s4 := if (s3.mast m).st ≠ .absent ∧ (s3.mast m).st ≠ .faulted then s3
      else if s3.moN m 0x58 3 ≠ 0 then
        (s3.setMastState m .faulted).updLink m (fun y => { y with sledOnly := true })
      else s3.setMastState m .present
    let s5 := ((s4.setMo m 0x20 1 1).showLanes m).showWindow m
    forEach ((List.range 7).filter (fun l => s5.laneIn m l && !(s5.lane m l).locked)) (fun l a => a.laneGoesDown m l) s5

/-- The mast's link is lost (03 R107): faulted; the rig keeps sending PRBS13Q. The down times of its lanes end with it: an unplugged
front-end is absent after 100 ms, and its lanes are not retired at 2 ms (notes/assumptions/163.md). -/
def State.linkLost (s : State) (m : Nat) : State :=
  (((((((s.faultMast m).dropSails m).setLinkSt m 1).yardSafe m).setMo m 0x20 1 0).updLink m (fun y => { y with
    prbsAt := none, lanes := [] })).showLanes m).sendPrbs m

/-- RIMG of a telemetry set (03 R96): agreement completes training; 16 sets in a row that differ are a front-end fault. -/
def State.rimgCheck (s : State) (m : Nat) : State :=
  let same := decide (s.tw m 34 = s.ownRimg m)
  if s.linkSt m = 5 then (if same then s.linkComesUp m else s)
  else if same then s.updLink m (fun y => { y with rimgBad := 0 })
  else
    let n := (s.link m).rimgBad + 1
    if n < 16 then s.updLink m (fun y => { y with rimgBad := n })
    else ((s.updLink m (fun y => { y with rimgBad := 0 })).countM m 3 5).linkLost m

/-- Differences of the wrapping counts (03 R88) into the rig's counters; the first set only gives their start. -/
def State.wrapCounts (s : State) (m : Nat) : State :=
  let now := [35, 36, 37, 38].map (s.tw m)
  let old := (s.link m).wraps
  let d : Nat → Nat := fun i => if old = [] then 0 else (now.getD i 0 + 65536 - old.getD i 0) % 65536
  let s1 := (((s.countN (ckey m 3 1) (d 0)).countN (ckey m 1 8) (d 1)).countN (ckey m 1 9) (d 2)).countN (ckey m 3 3) (d 3)
  s1.updLink m (fun y => { y with wraps := now, rise0 := y.rise0 % 65536 * 65536 + d 1, rise1 := y.rise1 % 65536 * 65536 + d 2 })

/-- Outbound lanes judged by a telemetry set (03 R105): unlocked in two sets in a row, or 8 discarded frames over two. -/
def State.outboundCheck (s : State) (m : Nat) : State :=
  let fst := s.tw m 32
  let x := s.link m
  let b0 := if fst.testBit 0 then 0 else x.outBad0 + 1
  let b1 := if fst.testBit 1 then 0 else x.outBad1 + 1
  let excess : Nat → Bool := fun r => decide (r % 65536 + r / 65536 ≥ 8)
  let s1 := s.updLink m (fun y => { y with outBad0 := b0, outBad1 := b1 })
  let s2 := if b0 ≥ 2 ∨ excess x.rise0 = true then s1.laneGoesDown m 8 else s1
  if b1 ≥ 2 ∨ excess x.rise1 = true then s2.laneGoesDown m 9 else s2

/-- Faults that a set of an up link tells (03 R95, R106; 06 Table 6.4); `was` is FFLT of the set before. -/
def State.frontEndFaults (s : State) (m was : Nat) : State :=
  let s1 := if (s.tw m 32).testBit 7 then s.updLink m (fun y => { y with fclr := y.fclr ||| 0x80, image := [] }) else s
  if (s1.tw m 33).testBit 0 ∧ was.testBit 0 = false then s1.faultMast m else s1

/-- The yard engine takes a telemetry set for strobe T (03 R99). -/
def State.takeTelemetry (s : State) (m T : Nat) : State :=
  let s0 := (s.atStrobe m T 400).trainingTimeout m
  let new := (s0.link m).newest
  if s0.linkSt m < 5 ∨ new = [] then s0
  else if new.getD 0 0 ≠ T / 400 % 65536 then
    ((s0.updLink m (fun y => { y with tel := new, stale := true })).countM m 3 2).traceEvent m 3
  else
    let s1 := (s0.updLink m (fun y => { y with tel := new, stale := false })).wrapCounts m
    let up := decide (s1.linkSt m = 6)
    let s2 := s1.rimgCheck m
    if up = false ∨ s2.linkSt m ≠ 6 then s2
    else (((s2.outboundCheck m).frontEndFaults m (s0.tw m 33)).sledTelemetry m T)

/-- Every inbound lane of a present mast has been down for 10 us (03 R107). -/
def State.linkLostTimeout (s : State) (m : Nat) : State :=
  let ls := (List.range 7).filter (fun l => s.laneIn m l)
  let down := ls.all (fun l => match (s.lane m l).downAt with
    | some d => decide (d + us 10 ≤ s.now)
    | none => false)
  if s.linkUp m ∧ down = true then s.linkLost m else s

end Sys2Proof.Machine
end

