-- ==== Sys2Proof/Machine/Loop.lean ====
section
/-! DEFINITION. The yard's schedule and its commands (04.1, 18 R484): what runs from one strobe, and what a shroud's command does. -/
namespace Sys2Proof.Machine

/-- Every block scheduled from strobe T, in ascending order (04 R109, R110). A strobe falls on T mod 400 = 0, while the link is up. -/
def State.evalStrobe (s : State) (m T : Nat) : State :=
  let s0 := s.atStrobe m T 400
  if s0.linkUp m = false ∨ T % 400 ≠ 0 then s0
  else
    let k := T / 400 % 1600
    let s1 := ((s0.holdOut m T).furlOpen m T).startQueued m
    let s2 := if k % 4 = 0 then (s1.evalFocus m T).evalTracking m T else s1
    let s3 := if k % 16 = 1 then (s2.evalBrace m T).evalHalyard m T else s2
    let s4 := if k % 40 = 0 then s3.evalSpindle m T (decide (k % 400 = 0)) else s3
    ((s4.seekSlows m).seekProgress m T (s4.seekFree m)).calArm m T

/-- The sled planner's strobe (04 Table 4.1: D = 64, phase 3). -/
def State.planStrobe (s : State) (m T : Nat) : State :=
  let s0 := s.atStrobe m T 400
  if s0.linkUp m = true ∧ T % 400 = 0 ∧ T / 400 % 64 = 3 then s0.planSled m T else s0

/-- Loops that a running order drives: their target writes are held until it ends (05 R143). -/
def State.orderDrives (s : State) (m : Nat) (c : YardCmd) : Bool :=
  let b? : Option Nat := match c with
    | .target b _ => some b
    | .feedForward b _ => some b
    | .sledTarget _ => some 0
    | .writeGate _ => none
  match b?, s.seqn m with
  | none, _ => false
  | some _, .none => false
  | some b, .acquire .. => [1, 2, 3, 4, 5, 6, 13].contains b
  | some b, .jump .. => [3, 4, 13].contains b || (decide (b = 0) && (s.opt m).within.isSome)
  | some b, .seek .. => [0, 3, 4, 13].contains b
  | some b, .layer .. => decide (b = 6)
  | some b, .homing .. => decide (b = 0)

/-- A shroud's command at the yard (04 R114, 18 R484): commands of an older generation are discarded and counted. -/
def State.yardCmd (s : State) (m gen : Nat) (c : YardCmd) : State :=
  let old := (s.servo m).gen
  if 1 ≤ (old + 2 ^ 32 - gen % 2 ^ 32) % 2 ^ 32 ∧ (old + 2 ^ 32 - gen % 2 ^ 32) % 2 ^ 32 < 2 ^ 31 then s.count (okey 0x5431 5)
  else
    let s1 := s.updServo m (fun x => { x with gen := gen % 2 ^ 32 })
    if s1.orderDrives m c then s1.updServo m (fun x => { x with held := x.held ++ [⟨c⟩] })
    else match c with
      | .writeGate false => s1.closeGate m
      | .writeGate true =>
        if s1.allLocked m ∧ (s1.mast m).st = .writing ∧ s1.seqn m = .none then s1.applyTarget m c else s1
      | _ => s1.applyTarget m c

/-- The write of M+30:05 (05 R137): 0 lets the rig choose, at the next acquisition; 1 and 2 make V0 or V1 active, but with V0 retired
V1 stays active for good. -/
def State.servoSailMode (s : State) (m v : Nat) : State :=
  if v = 1 then (if s.maskBit (mkey m 0x58 2) 0 then s else s.switchSail m false)
  else if v = 2 then s.switchSail m true else s

end Sys2Proof.Machine
end

