-- ==== Sys2Proof/Machine/MastRows.lean ====
section
/-! DEFINITION. Meanings of the mast-link, servo, loop, spindle and sled rows that no access path commands (chapters 3 to 7). -/
namespace Sys2Proof.Machine

/-- The outcome of a command: its next state. -/
abbrev Res := Host.Outcome State Fault Refusal

/-- Masts are numbered 0 to 31 (01 R33). -/
def onMast (m : Nat) (s : State) (f : State → State) : State := if m < 32 then f s else s

/-- SAMPLE_FRAME (03 R84 to R86, R104). -/
def execSampleFrame (t m lane : Nat) (frame : RxFrame) (s : State) : Res :=
  .next (onMast m (s.at_ t) (fun a => a.sampleFrame m lane frame))

/-- SAMPLE_TELEMETRY_FRAME (03 R87). -/
def execSampleTelemetryFrame (t m lane : Nat) (frame : RxFrame) (s : State) : Res :=
  .next (onMast m (s.at_ t) (fun a => a.telemetryFrame m lane frame))

/-- IDENTITY_FRAME (03 R102, R103); `tick` is the tick at which its first bit arrived. -/
def execIdentityFrame (t m lane : Nat) (frame : RxFrame) (tick : Nat) (s : State) : Res :=
  .next (onMast m (s.at_ t) (fun a => (a.atTick m tick).identityFrame m lane frame tick))

/-- INBOUND_IDLE_FRAME (03 R100, R101): it keeps the lane; a TXEQ setting may have been judged on it. -/
def execInboundIdleFrame (t m lane : Nat) (frame : IdleFrame) (s : State) : Res :=
  .next (onMast m (s.at_ t) (fun a => (a.rxFrame m lane frame.codeword).1.judgeEye m lane frame.eye))

/-- COMMAND_FRAME_SEND (03 R89, R90, R96 to R98). -/
def execCommandFrameSend (t m tick : Nat) (s : State) : Res := .next (onMast m (s.at_ t) (fun a => a.sendCommand m tick))

/-- OUTBOUND_IDLE_FRAME_SEND (03 R91, R100). -/
def execOutboundIdleFrameSend (t m tick : Nat) (s : State) : Res := .next (onMast m (s.at_ t) (fun a => a.sendIdle m tick))

/-- TELEMETRY_TAKE (03 R99, R88, R96, R105, R106); `tick` is the strobe. -/
def execTelemetryTake (t m tick : Nat) (s : State) : Res := .next (onMast m (s.at_ t) (fun a => a.takeTelemetry m tick))

/-- MAST_LINK_SIGNAL_DETECT (03 R100, R107). -/
def execMastLinkSignalDetect (t m : Nat) (s : State) : Res := .next (onMast m (s.at_ t) (fun a => a.signalDetect m))

/-- TRAINING_EQUALISATION_END (03 Table 3.12, steps 5 and 6). -/
def execTrainingEqualisationEnd (t m : Nat) (s : State) : Res := .next (onMast m (s.at_ t) (fun a => a.equalisationEnd m))

/-- TRAINING_TIMEOUT (03 R103). -/
def execTrainingTimeout (t m : Nat) (s : State) : Res := .next (onMast m (s.at_ t) (fun a => a.trainingTimeout m))

/-- TRAINING_RETRY (03 R103). -/
def execTrainingRetry (t m : Nat) (s : State) : Res := .next (onMast m (s.at_ t) (fun a => a.trainingRetry m))

/-- LANE_DOWN (03 R105): the lane loses lock, or an outbound lane fails. -/
def execLaneDown (t m lane : Nat) (s : State) : Res :=
  .next (onMast m (s.at_ t) (fun a => if a.linkUp m ∧ laneCodeOk lane = true then a.laneGoesDown m lane else a))

/-- LANE_REACQUIRED (03 Table 3.13); a link whose lanes have all been down for 10 us is lost by then (R107, 00 R22). -/
def execLaneReacquired (t m lane : Nat) (s : State) : Res :=
  .next (onMast m (s.at_ t) (fun a => if laneCodeOk lane then (a.linkLostTimeout m).laneReturns m lane else a))

/-- LANE_REACQUIRE_TIMEOUT (03 R105). -/
def execLaneReacquireTimeout (t m lane : Nat) (s : State) : Res :=
  .next (onMast m (s.at_ t) (fun a => if laneCodeOk lane then a.laneNotBack m lane else a))

/-- LMAP_CLEAR (03 Table 3.13). -/
def execLmapClear (t m : Nat) (s : State) : Res := .next (onMast m (s.at_ t) (fun a => a.lmapEnds m))

/-- MAST_LINK_LOST_TIMEOUT (03 R107). -/
def execMastLinkLostTimeout (t m : Nat) (s : State) : Res := .next (onMast m (s.at_ t) (fun a => a.linkLostTimeout m))

/-- MAST_ABSENT_TIMEOUT (03 R107). -/
def execMastAbsentTimeout (t m : Nat) (s : State) : Res := .next (onMast m (s.at_ t) (fun a => a.absentTimeout m))

/-- LOOP_EVALUATION (04 R109 to R113). -/
def execLoopEvaluation (t m tick : Nat) (s : State) : Res := .next (onMast m (s.at_ t) (fun a => a.evalStrobe m tick))

/-- CHOPPER_ON_TIMEOUT (06 R171). -/
def execChopperOnTimeout (t m : Nat) (s : State) : Res := .next (onMast m (s.at_ t) (fun a => a.chopperTimeout m))

/-- YARD_COMMAND (04 R114, 18 R483, R484). -/
def execYardCommand (t m gen : Nat) (cmd : YardCmd) (s : State) : Res :=
  .next (onMast m (s.at_ t) (fun a => a.yardCmd m gen cmd))

/-- CLOCK_TRACK_RUN (05 R148 to R152). -/
def execClockTrackRun (t m tick : Nat) (s : State) : Res :=
  .next (onMast m (s.at_ t) (fun a => (a.atStrobe m tick 600).clockRun m tick))

/-- ADDRESS_UNIT (09 R229, R230). -/
def execAddressUnit (t m chi : Nat) (s : State) : Res := .next (onMast m (s.at_ t) (fun a => a.addressUnit m chi))

/-- ACQUISITION (05 R139, R141; 06 R162): ordered on a spinning mast at target, at a step of Table 5.4. -/
def execAcquisition (t m step : Nat) (s : State) : Res :=
  .next (onMast m (s.at_ t) (fun a =>
    if a.linkUp m ∧ (a.mast m).st = .spinning ∧ a.atTarget m = true ∧ 1 ≤ step ∧ step ≤ 9 then a.order m (.acquire step 0 0) else a))

/-- ACQUISITION_TIMEOUT (05 R141): not tracking 100 ms after the order. -/
def execAcquisitionTimeout (t m : Nat) (s : State) : Res :=
  .next (onMast m (s.at_ t) (fun a => a.acqTimeout m))

/-- ACQUISITION_RESTART (05 R141): 10 ms after the failure. -/
def execAcquisitionRestart (t m : Nat) (s : State) : Res :=
  .next (onMast m (s.at_ t) (fun a => match a.seqn m with
    | .acquire 0 since _ =>
      if since + ticksUs 10000 ≤ (a.tickNow m) then a.acqEnter m 1 (a.tickNow m) (a.tickNow m) else a
    | _ => a))

/-- TRACK_JUMP (05 R144): 1 to 16 guide tracks, with focus and tracking locked. -/
def execTrackJump (t m : Nat) (delta : Int) (s : State) : Res :=
  .next (onMast m (s.at_ t) (fun a =>
    if a.locked m 0 = true ∧ a.locked m 1 = true ∧ 1 ≤ delta.natAbs ∧ delta.natAbs ≤ 16 then a.order m (.jump delta 0 0 0) else a))

/-- TRACK_JUMP_TIMEOUT (05 Table 5.5). -/
def execTrackJumpTimeout (t m : Nat) (s : State) : Res :=
  .next (onMast m (s.at_ t) (fun a => a.jumpTimeout m))

/-- SEEK (05 R145): more than 16 tracks, with focus locked; a nearer target is a track jump. -/
def execSeek (t m target : Nat) (s : State) : Res :=
  .next (onMast m (s.at_ t) (fun a =>
    let d : Int := (target : Int) - a.moN m 0x30 3
    if a.locked m 0 = false ∨ 141999 < target ∨ d = 0 then a
    else if d.natAbs ≤ 16 then a.order m (.jump d 0 0 0) else a.order m (.seek target 0 0 0 0)))

/-- LAYER_JUMP (05 R146): to a layer of the media table, with the halyard locked. -/
def execLayerJump (t m layer : Nat) (s : State) : Res :=
  .next (onMast m (s.at_ t) (fun a =>
    if a.locked m 3 = true ∧ layer < a.objN (tkey ((a.tableOf m).getD 0) 0 3) then a.order m (.layer 0 layer 0 0 0 none false) else a))

/-- LAYER_JUMP_TIMEOUT (05 R147). -/
def execLayerJumpTimeout (t m : Nat) (s : State) : Res :=
  .next (onMast m (s.at_ t) (fun a => a.layerTimeout m))

/-- CALIBRATION_CANDIDATE_DONE (05 R153, 08 R222). -/
def execCalibrationCandidateDone (t m : Nat) (kind : CalKind) (s : State) : Res :=
  .next (onMast m (s.at_ t) (fun a => a.calDone m kind))

/-- SPINDLE_START (06 R163, R167 to R169). -/
def execSpindleStart (t m : Nat) (s : State) : Res :=
  .next (onMast m (s.at_ t) (fun a => if a.linkUp m then a.spindleStart m else a))

/-- START_CLASSIFY (06 Table 6.3, step 2): 2 ms after the start order. -/
def execStartClassify (t m : Nat) (s : State) : Res :=
  .next (onMast m (s.at_ t) (fun a =>
    if a.driveState m = 1 ∧ (a.drive m).t0 + ticksUs 2000 ≤ (a.tickNow m) then a.classify m else a))

/-- ALIGN_END (06 Table 6.3, step 4S). -/
def execAlignEnd (t m : Nat) (s : State) : Res :=
  .next (onMast m (s.at_ t) (fun a =>
    if a.driveState m = 2 ∧ (a.drive m).alignAt + ticksUs (1000 * a.moN m 0x38 0x0D) ≤ (a.tickNow m) then a.alignEnd m else a))

/-- START_TIMEOUT (06 Table 6.3, step 6): 5 s of ramp without handover. -/
def execStartTimeout (t m : Nat) (s : State) : Res :=
  .next (onMast m (s.at_ t) (fun a =>
    if a.driveState m = 3 ∧ (a.drive m).rampAt + ticksUs 5000000 ≤ a.tickNow m then a.startTimeout m else a))

/-- START_RETRY (06 Table 6.3, step 6): 10 s after the failure. -/
def execStartRetry (t m : Nat) (s : State) : Res :=
  .next (onMast m (s.at_ t) (fun a =>
    if 0 < (a.drive m).fails ∧ (a.drive m).rampAt + ticksUs 10000000 ≤ (a.tickNow m) then a.spindleStart m else a))

/-- SLED_PLANNING (07 R178 to R182, R190). -/
def execSledPlanning (t m tick : Nat) (s : State) : Res := .next (onMast m (s.at_ t) (fun a => a.planStrobe m tick))

/-- SLED_PERIOD_BOUNDARY (07 R183). -/
def execSledPeriodBoundary (t m tick : Nat) (s : State) : Res :=
  .next (onMast m (s.at_ t) (fun a => (a.atTick m tick).sledBoundary m tick))

/-- SLED_STEP (07 R183, R184). -/
def execSledStep (t m tick : Nat) (s : State) : Res :=
  .next (onMast m (s.at_ t) (fun a => (a.atTick m tick).sledStep m tick))

/-- HOMING (07 R188, Table 7.1, step 1): a positioning order like any other (05 R143). -/
def execHoming (t m : Nat) (s : State) : Res :=
  .next (onMast m (s.at_ t) (fun a =>
    let st := (a.mast m).st
    if a.linkUp m = true ∧ st ≠ .furling ∧ st ≠ .faulted ∧ st ≠ .retired then a.orderHoming m else a))

/-- HOMING_SEEK_START (07 Table 7.1, step 2): 10 ms after the order. -/
def execHomingSeekStart (t m : Nat) (s : State) : Res :=
  .next (onMast m (s.at_ t) (fun a => match a.seqn m with
    | .homing 1 _ t0 => if t0 + ticksUs 10000 ≤ (a.tickNow m) then a.homingSeek m else a
    | _ => a))

/-- No edge was accepted within STO of the last accepted one by a rig time (06 R166): the state is lost, and two accepted edges are
awaited again. A stuck input stays stuck until it is re-armed (notes/assumptions/167.md). -/
def State.syncLost (s : State) (ts : Nat) : State :=
  match s.pins.syncAt with
  | some e =>
    if s.objN (okey 0x2130 1) = 2 ∨ ts < e + ms (s.objN (okey 0x2130 3)) then s
    else
      let s1 : State := { s with pins := { s.pins with syncEdges := 0 } }
      if s.objN (okey 0x2130 1) = 1 then (s1.setObj (okey 0x2130 1) 0).count (okey 0x5430 3) else s1
  | none => s

/-- An edge at or beyond 1,000 ns of the last accepted one is accepted (06 R165). P beyond 2130:02 reads as the greatest value
(notes/assumptions/142.md). -/
def State.syncAccept (s : State) (ts : Nat) : State :=
  let n := s.pins.syncEdges + 1
  let s1 := match s.pins.syncAt with
    | some e => ({ s with pins := { s.pins with syncP := ts - e } }).setObj (okey 0x2130 2) (min (ts - e) (2 ^ 32 - 1) : Nat)
    | none => s
  let s2 : State := { s1 with pins := { s1.pins with syncAt := some ts, syncEdges := n } }
  if n ≥ 2 then s2.setObj (okey 0x2130 1) 1 else s2

/-- SYNC_IN_EDGE (06 R165, R166): a pulse rises, timestamped to 25 ns; an edge less than 1,000 ns after the last accepted
one is dropped, and one at or after the end of STO finds the state lost (00 R22). -/
def execSyncInEdge (pulse : Pulse) (s : State) : Res :=
  let s0 := s.at_ pulse.rise
  let ts := s0.now / 25 * 25
  let s1 : State := ({ s0 with pins := { s0.pins with syncRise := ts, syncFall := pulse.fall } }).syncLost ts
  .next (if s1.objN (okey 0x2130 1) = 2 then s1
    else match s1.pins.syncAt with
      | some e => if ts < e + 1000 then s1.count (okey 0x5430 1) else s1.syncAccept ts
      | none => s1.syncAccept ts)

/-- SYNC_IN_STUCK (06 R166): held high for more than 2130:05. -/
def execSyncInStuck (t : Nat) (s : State) : Res :=
  let s0 := s.at_ t
  let due := s0.pins.syncRise + us (s0.objN (okey 0x2130 5))
  if s0.objN (okey 0x2130 1) = 2 ∨ s0.now ≤ due ∨ s0.pins.syncFall ≤ due then .next s0
  else .next (((s0.setObj (okey 0x2130 1) 2).count (okey 0x5430 2)).condition 0x000A 4 0 0)

/-- SYNC_IN_LOST (06 R166): no accepted edge within STO of the last one. -/
def execSyncInLost (t : Nat) (s : State) : Res :=
  let s0 := s.at_ t
  .next (s0.syncLost s0.now)

/-- FURL_N_ASSERT (06 R174): every mast furls. -/
def execFurlNAssert (t : Nat) (s : State) : Res :=
  let s0 := s.at_ t
  if s0.pins.furlN then .next s0
  else
    let s1 := (({ s0 with pins := { s0.pins with furlN := true } }).setObj (okey 0x2131 1) 1).count (okey 0x5430 4)
    .next (forEach (List.range 32) (fun m a => a.furlMast m) s1)

end Sys2Proof.Machine
end

