-- ==== Sys2Proof/Machine/Decoder.lean ====
section
/-! DEFINITION. The LDPC decoder (10.2), alternative alignments (10 R269), acceptance of a sector (10 R264), rebuild from cross parity
(09 R250). -/
namespace Sys2Proof.Machine

/-- Outgoing messages of one check by offset min-sum (02 R73). -/
def checkOut (beta : Nat) (l : List Int) : List Int :=
  let mags := l.map (fun v => v.natAbs)
  let m1 := mags.foldl min (mags.headD 0)
  let i1 := mags.findIdx (fun v => decide (v = m1))
  let rest := mags.eraseIdx i1
  let m2 := rest.foldl min (rest.headD m1)
  let odd := (l.filter (fun v => decide (v < 0))).length % 2 = 1
  l.mapIdx (fun i v =>
    let mag : Int := if i = i1 then ((m2 - beta : Nat) : Int) else ((m1 - beta : Nat) : Int)
    if odd ≠ (v < 0) then -mag else mag)

/-- Bit number of edge (column block, shift) at check n of a row block (09 R240). -/
def edgeBit (n : Nat) (e : Nat × Nat) : Nat := 256 * e.1 + (n + e.2) % 256

/-- The checks of a strength: the bits of each, in ascending column block (10 R260). -/
def codeChecks (str : Nat) : List (List Nat) :=
  (List.range (ldpcM str)).flatMap (fun r =>
    let edges := ldpcRow str r
    (List.range 256).map (fun n => edges.map (edgeBit n)))

/-- One iteration (10 R260): the checks with the messages they sent last, totals before; new messages and totals. -/
def decodeIter (beta : Nat) (llr : Array Int) (checks : List (List Nat × List Int)) (tot : Array Int) :
    List (List Nat × List Int) × Array Int :=
  let sent := checks.map (fun c =>
    (c.1, checkOut beta (List.zipWith (fun b r => symsat (tot.getD b 0 - r) 15) c.1 c.2)))
  let sums := sent.foldl (fun (a : Array Int) c =>
    (List.zip c.1 c.2).foldl (fun (x : Array Int) p => x.setIfInBounds p.1 (x.getD p.1 0 + p.2)) a) llr
  (sent, sums.map (fun v => symsat v 255))

/-- Every check is satisfied by the hard decisions (10 R260, 02 R74). -/
def satisfied (checks : List (List Nat × List Int)) (tot : Array Int) : Bool :=
  checks.all (fun c => decide ((c.1.filter (fun b => decide (tot.getD b 0 < 0))).length % 2 = 0))

/-- Iterations from `i` on, at most `n`: the iteration at which the codeword converged, and the totals. -/
def decodeRun (beta : Nat) (llr : Array Int) : Nat → Nat → List (List Nat × List Int) → Array Int → Option Nat × Array Int
  | 0, _, _, tot => (none, tot)
  | n + 1, i, checks, tot =>
    let (c, t) := decodeIter beta llr checks tot
    if satisfied c t then (some i, t) else decodeRun beta llr n (i + 1) c t

/-- A decode of n LLRs at iteration limit `limit` (10 R260, R261): iteration of convergence, and the 4,128 info bytes. -/
def decodeCodeword (str limit : Nat) (llr : List Int) : Option Nat × List Byte :=
  let a := llr.toArray
  let beta := if str = 3 then 2 else 1
  let start := (codeChecks str).map (fun bs => (bs, bs.map (fun _ => (0 : Int))))
  let (it, tot) := decodeRun beta a limit 1 start a
  (it, bitsToBytes 4128 ((tot.toList.take 33024).map (fun v => decide (v < 0))))

/-- More than half of the LLRs are 0 (10 R259). -/
def Codeword.erased (c : Codeword) : Bool :=
  decide (c.llr.length < 2 * (c.llr.filter (fun v => decide (v = 0))).length)

/-- Codeword LLRs at the alternative alignment q' (10 R269). -/
def Codeword.shifted (c : Codeword) (slot : Slot) (q' : Nat) : List Int :=
  let n := codewordLen c.str
  let scr := frameScramble slot n
  let plain := List.zipWith (fun (v : Int) f => if f then -v else v) c.llr scr
  let raw : Array Int := (((List.range (n / 64)).flatMap (fun b =>
    let p := c.pol.getD b 0
    p :: ((plain.drop (64 * b)).take 64).map (fun v => if p < 0 then -v else v)))).toArray
  let d : Int := (((q' + 2 ^ 32 - c.q) % 2 ^ 32 : Nat) : Int)
  let d := if d ≥ 2 ^ 31 then d - 2 ^ 32 else d
  let at_ : Nat → Int := fun i =>
    let j := (i : Int) + d - 64
    if j < 0 then 0 else raw.getD j.toNat 0
  (unframe at_ n scr).1

/-- Alternatives of step 2, in order, leaving out q (10 Table 10.2). -/
def Codeword.alternatives (c : Codeword) : List Nat :=
  ([0, -1, 1, -2, 2].map (fun (d : Int) => (wrapU ((c.p : Int) + d) 32).toNat)).filter (fun v => v ≠ c.q)

/-- Outcome of one decode for a sector (10 R264, R265). -/
inductive Verdict where
  | accepted | notConverged | miscorrected | misplaced (layer : Nat)
  deriving DecidableEq, Repr

/-- Judges a decoded info block against what the map and the placement say of the slot (10 R264). -/
def judge (x : Sector) (converged : Bool) (info : List Byte) : Verdict :=
  if !converged then .notConverged
  else if !infoCrcOk info then .miscorrected
  else
    let h := parseHeader (leNat (info.take 24))
    if h.str = x.str ∧ h.track = x.slot.track ∧ h.layer = x.slot.layer ∧ h.sect = x.slot.sect ∧ h.kind = x.kind ∧
        h.ext = x.ext ∧ h.eidx = x.eidx ∧ h.xpos = x.xpos ∧ h.reloc = x.reloc then .accepted
    else .misplaced h.layer

end Sys2Proof.Machine
end

