-- ==== Sys2Proof/Machine/ReadPath.lean ====
section
/-! DEFINITION. Reading a disc (chapter 10): the schedule of a revolution, the decoder pool, acceptance and delivery of sectors, and
the rows of the decoder pool. -/
namespace Sys2Proof.Machine

def State.showPoolQueue (s : State) : State := s.setObj (okey 0x2660 5) (s.poolFree : Nat)

/-- A healthy decoder with a free input buffer that has passed its self-test since it was cleared (10 R257, R282). -/
def State.decoderFree (s : State) (d : Nat) : Bool :=
  !s.decoderRetired d && decide ((s.decoder d).bufs.length < 2) && !(s.decoder d).untested

/-- The head of the pool's queue goes to the lowest free healthy decoder (10 R257). -/
def State.dispatchHead (s : State) : State :=
  match s.media.queue, (List.range 128).find? s.decoderFree with
  | c :: rest, some d =>
    let x := s.decoder d
    let s1 := s.setDecoder d { x with bufs := x.bufs ++ [c] }
    ({ s1 with media := { s1.media with queue := rest } }).showPoolQueue
  | _, _ => s

/-- The decoder gives up its present codeword. -/
def State.popDecoder (s : State) (d : Nat) : State :=
  let x := s.decoder d
  let rest := x.bufs.drop 1
  s.setDecoder d { x with bufs := rest, idleSince := if rest = [] then s.now else x.idleSince }

/-- Counts an acceptance on the ladder and reports a weak sector (10 R270, R278, R280). -/
def State.ladderAccepted (s : State) (x : Sector) : State :=
  let k := x.step
  if k = 0 ∨ 8 < k then s
  else
    let s1 := s.countM x.mast 0x0E k
    let s2 := if 4 ≤ k then (s1.countM x.mast 0x0C 9).sectorEvent x 0x10 0 else s1
    if k = 6 then s2.failSail x.mast x.sail else s2

/-- Rebuilds what a group's members now allow (10 R274, 09 R250). -/
def State.tryRebuild (s : State) (x : Sector) : State :=
  forEach (s.rebuilding x) (fun z a => match a.rebuildNow z with
    | some (some b) => b
    | some none => a.enterStep 40 z.sid 8
    | none => a) s

/-- An accepted sector's info block is at hand for a rebuild of its group while a sector of the group is still read (10 R274). -/
def State.groupTake (s : State) (x : Sector) (info : List Byte) : State :=
  if x.xpe = false then s
  else
    let y := s.groupOf x.mast x.ext x.group
    ((s.setGroup { y with members := (y.members.filter (fun p => p.1 ≠ x.xpos)) ++ [(x.xpos, info)] }).tryRebuild x).groupDone x

/-- A sector is accepted (10 R264, R266). -/
def State.acceptSector (s : State) (x : Sector) (info : List Byte) : State :=
  ((s.ladderAccepted x).acceptData x info).groupTake x info

/-- What a failed decode counts (10 R265), for the slot of mast m that was addressed; a header of another layer has the Mast level order
a corrective jump, with result 4 shown (05 R147, Table 5.8). -/
def State.badDecode (s : State) (m layer : Nat) (v : Verdict) : State :=
  match v with
  | .miscorrected => s.countM m 0x0C 5
  | .misplaced l =>
    let s1 := s.countM m 0x0C 6
    if l ≠ layer ∧ s1.locked m 3 = true ∧ s1.moN m 0x30 4 = layer then
      (((s1.countM m 5 10).setMo m 0x30 4 (l : Nat)).setMo m 0x30 8 4).order m (.layer 0 layer 0 0 0 none false)
    else s1
  | _ => s
/-- What a failed decode of a sector counts (10 R265). -/
def State.countVerdict (s : State) (x : Sector) (v : Verdict) : State := s.badDecode x.mast x.slot.layer v

/-- The sail over a data track, when the yard's address is known (05 R135). -/
def State.sailOver (s : State) (m track : Nat) : Option Nat :=
  let k : Int := (track : Int) - s.trackUnder m 0
  if 0 ≤ k ∧ k < 64 then some k.toNat else none

/-- The sail that step 6 places over a sector's track next (10 R273): the one before the sail that failed, then the one after. -/
def State.shiftSail (s : State) (x : Sector) : Int :=
  if s.shiftNow x = some 0 then (x.sail : Int) - 1 else (x.sail : Int) + 1

/-- The sail that reads a wanted sector where the yard stands (10 R258, R272, R273), if it can be read there. -/
def State.readerOf (s : State) (x : Sector) (laterSteps : Bool) : Option Nat :=
  match s.sailOver x.mast x.slot.track with
  | none => none
  | some k =>
    if x.slot.layer ≠ s.moN x.mast 0x30 4 ∨ s.maySail x.mast x.slot.track k = false then none
    else if x.step = 6 then (if laterSteps = false ∧ (k : Int) = s.shiftSail x then some k else none)
    else some k

/-- Sets a ladder offset, or clears it (05 R142, 10 R272). -/
def State.setOffset (s : State) (m : Nat) (o : Option Nat) : State :=
  let atr := s.mo m 0x30 0x0A
  let r3 := sat (rne (atr * sine (s.mo m 0x31 0x0E)) 15) 16
  let hofs := s.mo m 0x33 (s.moN m 0x30 4 + 1)
  let h := s.mo m 0x31 0x0F
  let t3 : Int := match o with
    | some 0 => r3
    | some 1 => sat (-r3) 16
    | _ => 0
  let t6 : Int := match o with
    | some 2 => sat (hofs + h) 16
    | some 3 => sat (hofs - h) 16
    | _ => hofs
  ((s.setTarget m 3 t3).setTarget m 6 t6).updOpt m (fun x => { x with offset := o })

/-- The offset of the next revolution (10 R272): the four in turn while a sector of the placement stands at step 5. -/
def State.offsetFor (s : State) (m : Nat) (need : Bool) : State :=
  match need, (s.opt m).offset with
  | true, none => s.setOffset m (some 0)
  | true, some i => s.setOffset m (some ((i + 1) % 4))
  | false, some _ => s.setOffset m none
  | false, none => s

/-- Sectors whose reader was retired in their revolution are scheduled again later, and the deferral counted (18 R493). -/
def State.rescheduleRetired (s : State) (m : Nat) : State :=
  let lost := s.media.sectors.filter (fun x => decide (x.mast = m ∧ x.phase = .scheduled) && !s.sailHealthy m x.reader)
  if lost = [] then s
  else (forEach lost (fun x a =>
    if x.use.isVerify then a.dropSector x.sid else a.updSector x.sid Sector.unread) s).countM m 0x0C 0x0B

/-- Write work is due on a mast (11 R301). -/
def State.writeDue (s : State) (m : Nat) : Bool :=
  let w := (s.mast m).wr
  !w.closedForWriting && (s.media.writes.any (fun x => decide (x.mast = m) && (match x.phase with
    | .pending => true
    | .burning => true
    | .verified => false
    | _ => false)) || decide (w.closed ≠ []))

/-- A read waits for the mast's disc (11 R301). -/
def State.readWaits (s : State) (m : Nat) : Bool :=
  s.media.sectors.any (fun x => decide (x.mast = m ∧ x.phase ≠ .fetch ∧ x.phase ≠ .rebuild) && !x.use.isVerify) ||
  s.host.cmds.any (fun c => decide (c.stage = .heldWriting ∧ c.mast = some m))

/-- The reading period has lasted RSLICE with write work due: no new sector is scheduled (11 R301). -/
def State.readSliceOver (s : State) (m : Nat) : Bool :=
  decide ((s.mast m).st = .reading ∧ (s.mast m).wr.periodAt + ms (s.moN m 0x54 0x0E) ≤ s.now) && s.writeDue m

/-- Schedules one sector's frame on a sail (10 R258). -/
def State.scheduleOne (s : State) (m : Nat) (x : Sector) (k : Nat) : State :=
  let f : FrameRead := { sid := x.sid, p := s.framePos m k x.slot.sect x.str, len := frameLen x.str, str := x.str,
                         alt := decide (x.step = 4), slot := x.slot }
  (s.updSector x.sid (fun z => { z with
    phase := .scheduled, reader := k, sail := if z.step = 0 then k else z.sail
    offs := if z.step = 5 then z.offs ++ (s.opt m).offset.toList else z.offs })).beginFrame m k f

/-! ## Where the yard goes (09 R248; 10 R272, R273) -/

/-- The Mast level orders the yard to a layer and a guide track of its active servo sail: a layer jump first, then a track jump of up
to 16 tracks or a seek (09 R248; 05 R144 to R146). -/
def State.moveTo (s : State) (m layer g : Nat) : State :=
  let d : Int := (g : Int) - s.moN m 0x30 3
  if layer ≠ s.moN m 0x30 4 then s.order m (.layer 0 layer 0 0 0 none false)
  else if d = 0 then s
  else if d.natAbs ≤ 16 then s.order m (.jump d 0 0 0) else s.order m (.seek g 0 0 0 0)

/-- Guide track of the active servo sail that puts a data track under the window's first sail; V1 stays in the track's zone
(09 R227). -/
def State.guideFor (s : State) (m track : Nat) : Nat :=
  let t := (s.tableOf m).getD 0
  let a := (s.window m).1
  if s.v1Active m then min (track + 64 - a) (s.zoneG t (s.zoneOf t track + 1) - 1) else track - 1 - a

/-- Lower track of the stripe that holds a data track (09 R245). -/
def State.lowOf (s : State) (t track : Nat) : Nat :=
  let z := s.zoneOf t track
  s.stripeLow t z ((s.tHi t z - track) / 16)

/-- Lowest track of the placement for a sector (09 R248): as many consecutive stripes of its extent as fit in the window, from the
sector's own inward; where not one stripe fits, the window begins at the sector's track. -/
def State.groupLow (s : State) (m : Nat) (x : Sector) (wanted : List Sector) : Nat :=
  let t := (s.tableOf m).getD 0
  let n := (s.window m).2 / 16
  let low := s.lowOf t x.slot.track
  if n = 0 then x.slot.track
  else
    let lows := (wanted.filter (fun y => decide (y.ext = x.ext ∧ y.slot.layer = x.slot.layer ∧
      s.zoneOf t y.slot.track = s.zoneOf t x.slot.track))).map (fun y => s.lowOf t y.slot.track)
    (lows.filter (fun l => decide (l ≤ low ∧ low < l + 16 * n))).foldl min low

/-- The Mast level moves the yard for what cannot be read where it stands: the one-track shift of step 6 before the placement is left
(10 R273), else the placement of the sector that waits longest (09 R248, 11 R301). -/
def State.moveYard (s0 : State) (m : Nat) (open_ : List Sector) (later : Bool) : State :=
  let s := s0.showWindow m
  match open_.find? (fun x => decide (x.step = 6) && !later), open_.find? (fun x => decide (x.step ≠ 6)) with
  | some x, _ =>
    let d := s.servoOver m x.slot.track (s.shiftSail x) - s.moN m 0x30 3
    if x.slot.layer = s.moN m 0x30 4 ∧ d.natAbs ≤ 2 ∧ d ≠ 0 then s.order m (.jump (signI d) 0 0 0)
    else s.moveTo m x.slot.layer (s.servoOver m x.slot.track (s.shiftSail x)).toNat
  | none, some x => s.moveTo m x.slot.layer (s.guideFor m (s.groupLow m x open_))
  | none, none => s

/-- A destination of a command takes data more slowly than the yards produce it (01 R40; notes/assumptions/145.md): an endpoint in a
hold, a port whose packets wait for credit, an engine that has a whole sector of its input untaken. -/
def State.slowDest (s : State) (c : Cmd) : Bool :=
  if c.opc = 0x05 then
    match (s.engine (c.pf 77 72)).seg with
    | some g => decide (g.cid = c.cid ∧ 4096 ≤ g.input.length)
    | none => false
  else if c.pkt.getLsbD 9 then
    match s.route 2 2 (s.mkHeader 0x20 0 (c.pf 266 256) 0 0 0) with
    | some (p, _) => decide ((s.port p).stalled ≠ [])
    | none => false
  else match c.owner with
    | .fn f => s.fnHeld f
    | _ => false

/-- Some wanted sector of a mast has a slow destination: no new sector read is issued on the mast (01 R40). -/
def State.slowMast (s : State) (m : Nat) : Bool :=
  s.media.sectors.any (fun x => decide (x.mast = m ∧ x.phase = .wanted ∧ x.step = 0 ∧ x.use = .data) && (s.waitersOf x).any s.slowDest)

/-- Sectors of a mast in flight: their frames or codewords are under way, at any step up to `k`. -/
def State.inFlight (s : State) (m k : Nat) : List Sector :=
  s.media.sectors.filter (fun x => decide (x.mast = m ∧ x.step ≤ k ∧ (x.phase = .scheduled ∨ x.phase = .pool)) && !x.use.isVerify)

/-- A frame of step 5 is still to be read: its offset stays in force. -/
def State.offsetHeld (s : State) (m : Nat) : Bool := (s.inFlight m 5).any (fun x => decide (x.step = 5 ∧ x.phase = .scheduled))

/-- Wanted sectors over whose tracks a sail that may read them stands, with that sail (10 R272, R273). -/
def State.readable (s : State) (open_ : List Sector) (later : Bool) : List (Sector × Nat) :=
  open_.filterMap (fun x => (s.readerOf x later).map (fun k => (x, k)))

/-- Those of them that the coming revolution reads with the offset in force: at step 5 a sector that has not been read with it, at steps 3
and 4 none while an offset is set (10 R272). -/
def State.offsetReads (s : State) (m : Nat) (here : List (Sector × Nat)) : List (Sector × Nat) :=
  here.filter (fun p => match (s.opt m).offset with
    | some o => if p.1.step = 5 then !p.1.offs.contains o else !(decide (p.1.step = 3 ∨ p.1.step = 4))
    | none => decide (p.1.step ≠ 5))

/-- The offset of the coming revolution (10 R272): the next in turn when step 5 has a sector to read, kept while a frame is still to be
read with it. -/
def State.offsetNow (s : State) (m : Nat) (here : List (Sector × Nat)) : State :=
  if s.offsetHeld m then s else s.offsetFor m (here.any (fun p => decide (p.1.step = 5)))

/-- The Mast level enters the reading state, and its period begins (11 R301). -/
def State.beginReading (s : State) (m : Nat) : State :=
  if (s.mast m).st = .tracking then
    (s.setMastState m .reading).updMast m (fun x => { x with wr := { x.wr with periodAt := s.now } })
  else s

/-- The Mast level may schedule reads (05 R139, R143, R152; 08 R219; 09 R230; 18 R488). -/
def State.mayRead (s : State) (m : Nat) : Bool :=
  decide (((s.mast m).st = .tracking ∨ (s.mast m).st = .reading) ∧ s.allLocked m = true ∧ s.seqn m = .none ∧ (s.opt m).cal = none ∧
    (s.opt m).chi0.isSome = true ∧ (s.opt m).mismatch = false ∧ s.hasHolder = true)

/-- The next log slot of a mast whose log is being read becomes a wanted sector, once the one before is done (11 R310); the MOUNT waits
on it. -/
def State.nextLog (s : State) (m : Nat) : State :=
  let t := (s.tableOf m).getD 0
  if s.logOpen m = false ∨ s.logDone m t = true ∨ s.mayRead m = false ∨
      s.media.sectors.any (fun x => decide (x.mast = m ∧ x.use = SecUse.log)) = true then s
  else match s.logSlot t (s.mast m).wr.log.length with
    | some sl => s.addSector { logSector m sl .log with waiters := (s.mountCmds m).map (·.cid) }
    | none => s

/-- The Mast level schedules a revolution's frames (10 R258, R272, R273; 01 R40; 11 R301, R310). -/
def State.schedule (s : State) (m : Nat) : State :=
  let s0 := (((s.dropOrphans m).nextLog m).rescheduleRetired m).skipShifts m
  if !s0.mayRead m then s0
  else
    let wanted := s0.media.sectors.filter (fun x => decide (x.mast = m ∧ x.phase = .wanted))
    let slow := s0.slowMast m
    let open_ := wanted.filter (fun x => !(s0.readSliceOver m || slow) || decide (1 ≤ x.step))
    let flight := s0.inFlight m 5
    let later := flight ≠ [] || wanted.any (fun x => decide (3 ≤ x.step ∧ x.step ≤ 5))
    let able := s0.readable open_ later
    let s1 := s0.offsetNow m able
    let here := s1.offsetReads m able
    if wanted = [] then
      (if (s1.mast m).st = .reading ∧ s1.readWaits m = false then s1.setMastState m .tracking else s1)
    else
      let s2 := s1.beginReading m
      let free := s2.poolFree
      let s3 := if free < here.length ∨ slow = true then s2.countM m 0x0C 0x0B else s2
      if able = [] ∧ s0.inFlight m 6 = [] then s3.moveYard m open_ later
      else (forEach (here.take free) (fun p a => a.scheduleOne m p.1 p.2) s3).showPoolQueue

/-- MAST_REVOLUTION_SCHEDULE (10 R258, R272, R273). -/
def execMastRevolutionSchedule (t m : Nat) (s : State) : Res := .next (onMast m (s.at_ t) (fun a => a.schedule m))

/-- CODEWORD_DISPATCH (10 R257): decoder d has become free and takes the codeword that waits longest. -/
def execCodewordDispatch (t d : Nat) (s : State) : Res :=
  let s0 := s.at_ t
  .next (if d < 128 ∧ s0.decoderFree d = true then s0.dispatchHead else s0)

/-- DECODER_MEMORY_ERROR (10 R281). -/
def execDecoderMemoryError (t d : Nat) (s : State) : Res :=
  let s0 := s.at_ t
  match (s0.decoder d).bufs with
  | [] => .next s0
  | c :: _ =>
    let s1 := s0.failDecoder d
    .next (if s1.decoderRetired d then s1 else (s1.popDecoder d).restartCodeword c).showPoolQueue

/-- A decoder's self-test is due (10 R282): cleared and untested, idle for 1 ms, or a period after the last one; at a free slot. -/
def State.selfTestDue (s : State) (d : Nat) : Bool :=
  let x := s.decoder d
  decide (x.bufs.length < 2) && (x.untested ||
    (decide (x.bufs = []) && decide (x.testedAt < x.idleSince + ms 1 ∧ x.idleSince + ms 1 ≤ s.now)) ||
    decide (x.testedAt + ms (s.objN (okey 0x2660 4)) ≤ s.now))

/-- DECODER_SELF_TEST (10 R282): a wrong answer retires the decoder at once. -/
def execDecoderSelfTest (t d : Nat) (ok : Bool) (s : State) : Res :=
  let s0 := s.at_ t
  if 128 ≤ d ∨ s0.decoderRetired d = true ∨ s0.selfTestDue d = false then .next s0
  else
    let s1 := s0.setDecoder d { s0.decoder d with testedAt := s0.now, untested := false }
    .next (if ok then s1 else (s1.retireDecoder d).showPoolQueue)

/-- PEER_FETCH_TIMEOUT (10 R275). -/
def execPeerFetchTimeout (t sid : Nat) (s : State) : Res :=
  let s0 := s.at_ t
  match s0.sector sid with
  | some x =>
    .next (if x.phase = .fetch ∧ x.fetchAt + ms (s0.moN x.mast 0x52 4) ≤ s0.now then s0.stepFailed sid else s0)
  | none => .next s0

end Sys2Proof.Machine
end

