-- ==== Sys2Proof/Machine/Lease.lean ====
section
/-! DEFINITION. Media leases (14.8) and the end of everything that uses a mast's disc. -/
namespace Sys2Proof.Machine

/-- A lease entry beats the rig's claim (E, own address) on a disc (14 R392). -/
def leaseBeats (x : Lease) (disc e me : Nat) : Bool :=
  decide (x.disc = disc ∧ (e < x.epoch ∨ (x.epoch = e ∧ x.holder < me)))

/-- A better claim on the mast's disc is known (14 R392). -/
def State.leaseBeaten (s : State) (m : Nat) : Bool :=
  s.fabric.leases.any (fun x => leaseBeats x (s.moN m 0x56 1) (s.moN m 0x56 2) s.addr)

/-- The lease of the mast's disc went stale at this lease epoch or a greater one (14 R394). -/
def State.staleHere (s : State) (m : Nat) : Bool :=
  (s.mast m).staleOf.any (fun p => decide (p.1 = s.moN m 0x56 1 ∧ s.moN m 0x56 2 ≤ p.2))

/-- Shows the lease state of a mast, M+56:03 (14 R392, R394): a stale lease returns only with a greater E. -/
def State.showLease (s : State) (m : Nat) : State :=
  s.setMo m 0x56 3 (if s.moN m 0x56 2 = 0 then 0 else if s.leaseBeaten m || s.staleHere m then 2 else 1)

/-- Records burned and not judged are followed no more: the next record's SEQ follows theirs (11 R307). -/
def WriteSide.forget (w : WriteSide) : WriteSide := { w with closed := [] }

/-- The rig's lease of a mast's disc becomes stale (14 R394). -/
def State.leaseStale (s : State) (m : Nat) : State :=
  let s0 := s.updMast m (fun x => { x with staleOf := some (s.moN m 0x56 1, s.moN m 0x56 2) })
  let s1 := ((s0.setMo m 0x56 3 2).count (okey 0x5428 23)).fabricEvent s.addr 0 none
  let s2 := s1.dropSectors m stLeaseLost
  let s3 := (s2.endReads m stLeaseLost).mountFails m stLeaseLost
  let s4 := forEach (s3.host.cmds.filter (fun c => decide (c.mast = some m ∧ (c.stage = .flush ∨
    (c.opc = 0x02 ∨ c.opc = 0x03) ∧ (c.stage = .heldFurl ∨ c.stage = .heldMap))))) (fun c a =>
    a.complete c.cid stLeaseLost 0) s3
  let s5 := (s4.failPending m stLeaseLost).failUnaccepted m stLeaseLost
  s5.updMast m (fun x => { x with
    streams := x.streams.filter (fun z => !(decide (z.serial = none ∧ z.bits.length = frameLen 3)))
    wr := (WriteSide.renumber { x.wr with openRec := none, closed := x.wr.closed.filter (fun r => r.header.isSome) } (s.moN m 0x50 4)).forget })

end Sys2Proof.Machine
end

