-- ==== Sys2Proof/Machine/WritePath.lean ====
section
/-! DEFINITION. Writing a disc (chapter 11): acceptance, placement, burning, verification, relocation, commit records, pass boundaries,
the log read of a mount, and their rows. -/
namespace Sys2Proof.Machine

/-! ## Staged data and formatting (11 R288, R290, R297, R298) -/

/-- User field of data sector `e`: staged bytes, zero beyond LEN (11 R288). -/
def Write.user (w : Write) (e : Nat) : List Byte := padTo 4096 (bytesAt w.data (4096 * e) (min 4096 (w.len - 4096 * e)))

/-- The content digest (11 R290). -/
def digest (len : Nat) (bytes : List Byte) : Nat := crc64 (leBytes 8 len ++ bytes)

/-- Planned slots of a placed write (09 R246). -/
def State.planned (s : State) (w : Write) : List Slot :=
  match s.tableOf w.mast, w.place with
  | some t, some p => s.walk t w.str (totalSlots w.len w.xpe) p.1 p.2.1 p.2.2 0
  | _, _ => []

/-- A data sector's info block at a slot (11 R297, R298). -/
def Write.dataInfo (w : Write) (eidx xpos : Nat) (sl : Slot) (reloc : Bool) : List Byte :=
  let p := w.place.getD (0, 0, 0)
  infoBlock {
    ext := w.ext, aux := writeSerial w.dig p.1 p.2.1 p.2.2, track := sl.track, layer := sl.layer, sect := sl.sect,
    eidx := eidx, xpos := xpos, kind := 1, str := w.str, reloc := reloc, xpe := w.xpe
  } (w.user eidx)

/-- The info block that the encoder forms for slot ordinal n at slot `sl` (11 R297, 09 R249). -/
def State.writeInfo (s : State) (w : Write) (n : Nat) (sl : Slot) (reloc : Bool) : List Byte :=
  let (kind, eidx, xpos) := secOfSlot w.len w.xpe n
  if kind = 1 then w.dataInfo eidx xpos sl reloc
  else
    let plan := s.planned w
    let mem := List.range (min 15 (dataSectors w.len - 15 * eidx))
    let user := mem.foldl (fun a i => xorBytes a (w.user (15 * eidx + i))) (List.replicate 4096 0)
    let aux := mem.foldl (fun a i =>
      a ^^^ infoCrc (w.dataInfo (15 * eidx + i) i (plan.getD (16 * eidx + i) ⟨0, 0, 0⟩) false)) 0
    infoBlock {
      ext := w.ext, aux := aux, track := sl.track, layer := sl.layer, sect := sl.sect, eidx := eidx, xpos := 15, kind := 2,
      str := w.str, reloc := reloc, xpe := true
    } user

/-! ## Space (11 R293 to R296) -/

/-- Stripes without log tracks that follow (layer, low) in placement order, by zone: (zone, how many) (09 R245, 11 R293). -/
def State.stripesAfter (s : State) (t layer low : Nat) : List (Nat × Nat) :=
  let z := s.zoneOf t low
  let layers := s.objN (tkey t 0 3)
  let q := (s.tHi t z + 1 - low) / 16 - 1
  let lz := s.logZone t
  let ll := s.objN (tkey t 0 8)
  let logs := (s.logLows t).filter (fun x => decide (lz < z ∨ (lz = z ∧ (layer < ll ∨ (layer = ll ∧ x < low)))))
  let drop : Nat → Nat := fun y => if y = lz then logs.length else 0
  (z, (s.stripes t z - q - 1) + (layers - layer - 1) * s.stripes t z - drop z) ::
    (List.range z).map (fun y => (y, layers * s.stripes t y - drop y))

/-- Free placement slots beyond the frontier at a strength (11 R296; notes/assumptions/20.md). -/
def State.freeSlots (s : State) (m t str : Nat) : Nat :=
  let f := (s.mast m).wr.frontier
  16 * (s.columns t (s.zoneOf t f.2.1) str - f.2.2) +
    ((s.stripesAfter t f.1 f.2.1).map (fun p => 16 * p.2 * s.columns t p.1 str)).foldl (· + ·) 0

/-- Slots reserved by pending writes whose slots are not fixed (11 R296). -/
def State.reservedSlots (s : State) (m : Nat) : Nat :=
  (((s.pendingOn m).filter (fun w => w.place.isNone)).map (fun w => totalSlots w.len w.xpe)).foldl (· + ·) 0

/-- Entries reserved by pending writes or held in records not yet burned (11 R296; notes/assumptions/20.md). -/
def State.reservedEntries (s : State) (m : Nat) : Nat :=
  let w := (s.mast m).wr
  let recs := w.openRec.toList ++ w.closed.filter (fun r => r.burnedAt.isNone)
  (s.pendingOn m).length + (recs.map (fun r => (r.entries.filter (fun e => e.2.isSome)).length)).foldl (· + ·) 0

/-- Log space exists for one more write (11 R296). -/
def State.logSpace (s : State) (m : Nat) : Bool :=
  decide (s.reservedEntries m < 63 * (s.moN m 0x54 9 - s.moN m 0x54 0x0B))

/-! ## Write width (09 R247, 11 R299) -/

/-- Beams lit: every beam not retired (11 R299). -/
def State.beams (s : State) (m : Nat) : Nat := 66 - popCount (s.moN m 0x58 1) 64 - popCount (s.moN m 0x58 2) 2

/-- The yard's power budget holds for w burning sails on a layer (11 R299). -/
def State.budgetOk (s : State) (m layer w : Nat) : Bool :=
  decide ((w * s.moN m 0x55 (layer + 1) + (s.beams m - w) * Config.readPower) * s.moN m 9 8 ≤ s.moN m 0x54 2 * 6553600)

/-- The write width on a layer (09 R247, 11 R299). -/
def State.writeWidth (s : State) (m layer : Nat) : Nat :=
  let half := (s.window m).2 / 2
  let lanes := popCount (s.outLanes m) 2
  let fits : Nat → Bool := fun w => decide (w ≤ half) && (decide (w ≤ 8) || decide (lanes ≥ 2)) && s.budgetOk m layer w
  if lanes = 0 then 0 else ([16, 8, 4, 2, 1].find? fits).getD 0

/-- Shows the width in force on the present layer. -/
def State.showWidth (s : State) (m : Nat) : State := s.setMo m 0x50 3 (s.writeWidth m (s.moN m 0x30 4) : Nat)

/-! ## Acceptance (11.2, 11.3) -/

/-- The rig holds the lease of a mast's disc (14 R392), as M+56:03 shows. -/
def State.holdsLease (s : State) (m : Nat) : Bool := decide (s.moN m 0x56 3 = 1)

/-- The refusals of 11 R296 that need no data. -/
def State.writeRefused (s : State) (m : Nat) : Option Nat :=
  let layer := (s.mast m).wr.frontier.1
  if (s.opt m).mismatch then some stMediaMismatch
  else if (s.mast m).wr.closedForWriting then some stMediaReadOnly
  else if !s.holdsLease m then some stLeaseLost
  else if s.moN m 0x55 (layer + 1) = 0 ∨ s.writeWidth m layer = 0 then some stWriteFailed
  else none

/-- The accepted point is reached: the write takes its place in the order; without DUR it completes (11 R286). -/
def State.accept (s : State) (serial : Nat) (ph : WPhase) : State :=
  let o := s.media.nextOrder
  let s1 := { s with media := { s.media with nextOrder := o + 1 } }
  let s2 := s1.updWrite serial (fun w => { w with phase := ph, acceptedAt := s.now, order := o })
  match s2.write serial with
  | none => s2
  | some w =>
    let s3 := s2.showPending w.mast
    if w.dur then s3 else (s3.updWrite serial (fun x => { x with completed := true })).complete w.cid 0 0

/-- Slots lie on a layer whose WPW is 0 (11 R316). -/
def State.darkSlots (s : State) (m : Nat) (l : List Slot) : Bool := l.any (fun x => decide (s.moN m 0x55 (x.layer + 1) = 0))

/-- The slots that a new write reaches after those reserved by the pending ones lie, in part, on a layer whose WPW is 0 (11 R296,
R316). -/
def State.landsDark (s : State) (w : Write) (t : Nat) : Bool :=
  let f := (s.mast w.mast).wr.frontier
  let n := s.reservedSlots w.mast
  s.darkSlots w.mast ((s.walk t w.str (n + totalSlots w.len w.xpe) f.1 f.2.1 f.2.2 0).drop n)

/-- The last byte is staged: DIG is formed and the write settled by Table 11.1 (11 R290, R291, R296; 12 R332). While the mast's entries
of the Extent Map are being built afresh it waits (16 R439). -/
def State.acceptPoint (s : State) (serial : Nat) : State :=
  match s.write serial with
  | none => s
  | some w => if s.media.mapLost.contains w.mast then s else
    let dig := digest w.len (bytesAt w.data 0 w.len)
    let s0 := s.updWrite serial (fun x => { x with dig := dig })
    let twin := (s0.pendingOn w.mast).find? (fun x => decide (x.ext = w.ext))
    match s0.writeRefused w.mast, s0.extentOf w.mast w.ext, twin with
    | some st, _, _ => s0.failOne st { w with dig := dig }
    | none, some e, _ =>
      if meDig e = dig then ((s0.accept serial .pending).count (ckey w.mast 0x0F 6)).durableWrite serial
      else s0.failOne stExtentExists { w with dig := dig }
    | none, none, some x =>
      if x.dig = dig then s0.accept serial (.attached x.serial) else s0.failOne stExtentExists { w with dig := dig }
    | none, none, none =>
      let t := (s0.tableOf w.mast).getD 0
      if s0.freeSlots w.mast t w.str < s0.reservedSlots w.mast + totalSlots w.len w.xpe then
        s0.failOne stMediaFull { w with dig := dig }
      else if !s0.logSpace w.mast then s0.failOne stLogFull { w with dig := dig }
      else if s0.landsDark w t then s0.failOne stWriteFailed { w with dig := dig }
      else s0.accept serial .pending

/-! ## Placement (11 R293, R294) -/

/-- Stripe of a placement slot with ordinal n. -/
def slotStripe (n : Nat) (sl : Slot) : Nat × Nat := (sl.layer, sl.track - n % 16)

/-- Strength given to a stripe (09 R232). -/
def WriteSide.strengthOf (w : WriteSide) (st : Nat × Nat) : Option Nat :=
  (w.stripeStr.find? (fun p => decide (p.1 = st.1 ∧ p.2.1 = st.2))).map (fun p => p.2.2)

/-- Gives a stripe a strength, once. -/
def WriteSide.giveStrength (w : WriteSide) (st : Nat × Nat) (str : Nat) : WriteSide :=
  if (w.strengthOf st).isSome then w else { w with stripeStr := (st.1, st.2, str) :: w.stripeStr }

/-- The strength that a stripe has by its burns, or that writes placed in it and not yet burned give it (09 R232, 11 R294). -/
def State.stripeFor (s : State) (m : Nat) (st : Nat × Nat) : Option Nat :=
  match (s.mast m).wr.strengthOf st with
  | some y => some y
  | none => ((s.pendingOn m).find? (fun w => w.slots.any (fun x => decide (x.relocs = 0 ∧ slotStripe x.n x.slot = st)))).map (·.str)

/-- The next stripe in placement order without a strength, from the one after (layer, low) (11 R294). -/
def State.freshStripe (s : State) (m t : Nat) : Nat → Nat → Nat → Option (Nat × Nat)
  | 0, _, _ => none
  | n + 1, layer, low =>
    match s.nextPlace t 10000 layer low with
    | none => none
    | some st => if (s.stripeFor m st).isNone then some st else s.freshStripe m t n st.1 st.2

/-- Slots of an extent of `k` slots from a column on, passing to a fresh stripe where a stripe of another strength lies in the way
(11 R293, R294; notes/assumptions/21.md). -/
def State.findPlace (s : State) (m t str k : Nat) : Nat → Nat × Nat × Nat → Option (List Slot)
  | 0, _ => none
  | n + 1, (layer, low, col) =>
    let l := s.walk t str k layer low col 0
    if l.length < k then none
    else
      let stripes := (l.mapIdx (fun (i : Nat) (x : Slot) => slotStripe i x)).eraseDups
      match stripes.find? (fun st => match s.stripeFor m st with
        | some y => decide (y ≠ str)
        | none => false) with
      | none => some l
      | some bad =>
        match s.freshStripe m t 10000 bad.1 bad.2 with
        | none => none
        | some st => s.findPlace m t str k n (st.1, st.2, 0)

/-- Shows the frontier in M+54:08. -/
def State.showFrontier (s : State) (m : Nat) : State :=
  let f := (s.mast m).wr.frontier
  s.setMo m 0x54 8 (f.1 + f.2.1 * 2 ^ 4 + min f.2.2 511 * 2 ^ 22 : Nat)

/-- Fixes the slots of a write: the frontier stands after its last column (11 R293). -/
def State.fixSlots (s : State) (w : Write) (l : List Slot) : State :=
  match l.head?, l.getLast? with
  | some a, some z =>
    let s1 := s.updWrite w.serial (fun x => { x with
      phase := .burning, place := some (a.layer, a.track, a.sect)
      slots := l.mapIdx (fun (i : Nat) (y : Slot) => ({ n := i, slot := y } : WSlot)) })
    (s1.updMast w.mast (fun x => { x with wr :=
      { x.wr with frontier := (z.layer, z.track - (l.length - 1) % 16, z.sect + 1) } })).showFrontier w.mast
  | _, _ => s

/-- Lowest track of the group of w tracks that a track's stripe is burned in with it (09 R247). -/
def State.groupOfTrack (s : State) (m track : Nat) : Nat :=
  let low := s.lowOf ((s.tableOf m).getD 0) track
  let w := max 1 (s.moN m 0x50 3)
  low + (track - low) / w * w

/-- The sail of the window's `i`-th group of w sails over a slot now, counted from that group's first (09 R247): group 0 burns, group 1
verifies. The group stands on whole groups of a stripe's tracks. -/
def State.writerOf (s : State) (m i : Nat) (sl : Slot) : Option Nat :=
  match s.sailOver m sl.track with
  | none => none
  | some k =>
    let w := s.moN m 0x50 3
    let first := (s.window m).1 + i * w
    if sl.layer = s.moN m 0x30 4 ∧ first ≤ k ∧ k < first + w ∧ s.maySail m sl.track k = true ∧
        s.trackUnder m first = s.groupOfTrack m sl.track then some (k - first) else none

/-- Burning sail over a slot now: its index among the burning sails (09 R247, 03 R97). -/
def State.burnerOf (s : State) (m : Nat) (sl : Slot) : Option Nat := s.writerOf m 0 sl

/-- Slots placed and not yet burned, with their writes, in accepted order. -/
def State.placedSlots (s : State) (m : Nat) : List (Write × WSlot) :=
  (s.pendingOn m).flatMap (fun w => (w.slots.filter (fun x => decide (x.state = .placed))).map (fun x => (w, x)))

/-- Places the pending writes whose first burn revolution is planned, in accepted order: the first when no placed slot is left, and
those that land under the burning sails; a write that finds no room fails, and one that lands on a layer whose WPW is 0 (11 R293, R296,
R305, R316). -/
def State.placeDue (s : State) (m : Nat) : List Write → State
  | [] => s
  | w :: rest =>
    if w.phase ≠ .pending then s.placeDue m rest
    else
      match s.findPlace m ((s.tableOf m).getD 0) w.str (totalSlots w.len w.xpe) 10000 (s.mast m).wr.frontier with
      | none => (s.failWrite w.serial stMediaFull).placeDue m rest
      | some l =>
        if s.darkSlots m l then (s.failWrite w.serial stWriteFailed).placeDue m rest
        else if s.placedSlots m = [] ∨ l.any (fun x => (s.burnerOf m x).isSome) = true then (s.fixSlots w l).placeDue m rest else s

/-! ## Burning (11 R300, R304) -/

/-- The mast may burn now (11 R300, R301; 05 R142; 18 R480, R488). -/
def State.mayBurn (s : State) (m : Nat) : Bool :=
  decide ((s.mast m).st = .writing ∧ s.allLocked m = true ∧ s.seqn m = .none ∧ (s.opt m).offset = none ∧
    (s.opt m).chi0.isSome = true ∧ (s.opt m).mismatch = false ∧ s.hasHolder = true ∧ s.holdsLease m = true ∧ s.decodersHealthy ≠ 0)

/-- The writing period has lasted WSLICE with a read waiting (11 R301). -/
def State.writeSliceOver (s : State) (m : Nat) : Bool :=
  decide ((s.mast m).wr.periodAt + ms (s.moN m 0x54 0x0D) ≤ s.now) && s.readWaits m

/-- Starts one frame on write slot k: its first bit has write index wrap(p + c_k, 32) (09 R233). -/
def State.burnFrame (s : State) (m k : Nat) (serial : Option Nat) (n str : Nat) (sl : Slot) (info : List Byte) : State :=
  let sail := (s.window m).1 + k
  s.updMast m (fun x => { x with streams :=
    x.streams ++ [⟨k, serial, n, (s.framePos m sail sl.sect str + s.coarse m sail) % 2 ^ 32, frameBits str sl info⟩] })

/-- Burns slot x of a write, at its planned place or in a spare; the first burn on a stripe gives it its strength (09 R232). -/
def State.burnSlot (s0 : State) (m : Nat) (w : Write) (x : WSlot) (k : Nat) : State :=
  let reloc := decide (x.relocs > 0)
  let s := if reloc then s0 else s0.updMast m (fun y => { y with wr := y.wr.giveStrength (slotStripe x.n x.slot) w.str })
  (s.burnFrame m k (some w.serial) x.n w.str x.slot (s.writeInfo w x.n x.slot reloc)).updWrite w.serial
    (fun y => { y with slots := y.slots.map (fun z => if z.n = x.n then { x with state := .burned } else z) })

/-- The write state of M+54:01; 5 stays. -/
def State.showWriteState (s : State) (m v : Nat) : State :=
  s.setMo m 0x54 1 (if (s.mast m).wr.closedForWriting then 5 else v : Nat)

/-- A slot's group is the highest of its stripe that still has a slot to burn: a stripe's groups are burned in descending order
(09 R247). -/
def State.descends (s : State) (m : Nat) (all : List (Write × WSlot)) (sl : Slot) : Bool :=
  let t := (s.tableOf m).getD 0
  all.all (fun p => !(decide (p.2.slot.layer = sl.layer ∧ s.lowOf t p.2.slot.track = s.lowOf t sl.track ∧
    s.groupOfTrack m sl.track < s.groupOfTrack m p.2.slot.track)))

/-- Verification reads of a mast whose frames are under way. -/
def State.verifying (s : State) (m : Nat) : Bool :=
  s.media.sectors.any (fun x => decide (x.mast = m ∧ x.phase = .scheduled) && x.use.isVerify)

/-- The Mast level moves a writing mast's yard (09 R247): a slot's group comes under the window's i-th group of sails. Nothing moves
while a burn or a verification read is under way. -/
def State.moveWrite (s : State) (m i : Nat) (sl : Slot) : State :=
  if s.verifying m ∨ s.burnsLeft m ≠ [] then s
  else s.moveTo m sl.layer (s.guideFor m (s.groupOfTrack m sl.track) - i * s.moN m 0x50 3)

/-- A burn revolution (11 R300): every placed slot under the burning sails; the yard moves to the next group when none is there. -/
def State.burnRevolution (s : State) (m : Nat) : State :=
  if !s.mayBurn m || s.writeSliceOver m then s
  else
    let s1 := s.showWidth m
    let s2 := s1.placeDue m (s1.pendingOn m)
    let all := s2.placedSlots m
    let here := all.filterMap (fun p => if s2.descends m all p.2.slot then (s2.burnerOf m p.2.slot).map (fun k => (p.1, p.2, k)) else none)
    let due := sortBy (fun a b => decide (a.2.1.slot.sect ≤ b.2.1.slot.sect)) here
    if due = [] then
      match all.find? (fun p => s2.descends m all p.2.slot) with
      | some p => s2.moveWrite m 0 p.2.slot
      | none => s2
    else
      let s3 := forEach due (fun d a => a.burnSlot m d.1 d.2.1 d.2.2) s2
      (s3.updOpt m (fun x => { x with wrEn := true })).showWriteState m 1

/-- First free spare of a stripe: columns ascending, tracks ascending in each (11 R304). -/
def State.spareIn (s : State) (m t str : Nat) (st : Nat × Nat) : Option Slot :=
  let z := s.zoneOf t st.2
  let w := (s.mast m).wr
  let other := match s.stripeFor m st with
    | some y => decide (y ≠ str)
    | none => false
  if other || s.isLogStripe t st.1 st.2 then none
  else
    let cols := (List.range (s.slotsOf t z str - s.columns t z str)).map (· + s.columns t z str)
    (cols.flatMap (fun c => (List.range 16).map (fun i => (⟨st.1, st.2 + i, c⟩ : Slot)))).find? (fun x => !w.spares.contains x)

/-- The spare for a slot of stripe `st` (11 R304, 09 R253). -/
def State.spareFor (s : State) (m t str : Nat) (st : Nat × Nat) : Option Slot :=
  match s.spareIn m t str st with
  | some x => some x
  | none =>
    let z := s.zoneOf t st.2
    let q := (s.tHi t z + 1 - st.2) / 16 - 1
    if q + 1 < s.stripes t z then s.spareIn m t str (st.1, st.2 - 16) else none

/-- A relocation pass over what the yard stands on (11 R304, R305). -/
def State.relocateSlot (s : State) (m : Nat) (w : Write) (x : WSlot) : State :=
  let t := (s.tableOf m).getD 0
  let st := slotStripe x.n ((s.planned w).getD x.n ⟨0, 0, 0⟩)
  match s.write w.serial with
  | none => s
  | some w' =>
    if w'.phase ≠ .burning then s
    else if s.moN m 0x54 4 ≤ x.relocs then s.abandonWrite w'
    else match s.spareFor m t w.str st with
      | none => s.abandonWrite w'
      | some sp =>
        match s.burnerOf m sp with
        | none => s.moveWrite m 0 sp
        | some k =>
          let q := (sp.layer, if sp.track < st.2 then st.2 - 16 else st.2)
          let s1 := s.updMast m (fun y => { y with wr := { y.wr.giveStrength q w.str with spares := y.wr.spares ++ [sp] } })
          let s2 := (s1.setMo m 0x54 0x0A (s1.mo m 0x54 0x0A - 1)).countM m 0x0F 2
          s2.burnSlot m w' { x with slot := sp, relocs := x.relocs + 1 } k

/-- RELOCATION_PASS: every failed slot whose stripe has no slot still awaiting verification (11 R304); the yard moves to the first
spare that it does not stand over. -/
def State.relocationPass (s : State) (m : Nat) : State :=
  if !s.mayBurn m || s.writeSliceOver m then s
  else
    let s1 := s.showWidth m
    let all := (s1.pendingOn m).flatMap (fun w => w.slots.map (fun x => (w, x, slotStripe x.n ((s1.planned w).getD x.n ⟨0, 0, 0⟩))))
    let busy := (all.filter (fun p => decide (p.2.1.state = .burned))).map (fun p => p.2.2)
    let due := all.filter (fun p => decide (p.2.1.state = .failed) && !busy.contains p.2.2)
    if due = [] then s1
    else
      let s2 := forEach due (fun p a => a.relocateSlot m p.1 p.2.1) s1
      if s2.burnsLeft m = [] then s2
      else (s2.updOpt m (fun x => { x with wrEn := true })).showWriteState m 3

/-! ## Commit records (11.6) -/

/-- A 64-byte extent entry (09 Table 9.5). -/
def recExtent (w : Write) (nrel : Nat) : Nat :=
  let p := w.place.getD (0, 0, 0)
  1 + nrel * 2 ^ 302 + (if w.xpe then 2 ^ 318 else 0) + w.str * 2 ^ 319 + p.2.2 * 2 ^ 321 + p.1 * 2 ^ 330 + p.2.1 * 2 ^ 334 +
  w.len * 2 ^ 352 + w.dig * 2 ^ 384 + w.ext * 2 ^ 448

/-- A 64-byte relocation entry (09 Table 9.5). -/
def recReloc (ext n : Nat) (sp : Slot) : Nat :=
  2 + sp.sect * 2 ^ 401 + sp.layer * 2 ^ 410 + sp.track * 2 ^ 414 + n * 2 ^ 432 + ext * 2 ^ 448

/-- Relocated slots of a write, in slot order. -/
def Write.relocated (w : Write) : List WSlot := w.slots.filter (fun x => decide (x.relocs > 0))

/-- The 64-byte entry that an open record's entry stands for. -/
def State.recEntry (s : State) (e : Nat × Option Nat) : Nat :=
  match s.write e.1 with
  | none => 0
  | some w =>
    match e.2 with
    | none => recExtent w w.relocated.length
    | some o => (w.relocated[o]?).elim 0 (fun x => recReloc w.ext x.n x.slot)

/-- The open record closes (11 R307). -/
def State.closeRec (s : State) (m : Nat) : State :=
  match (s.mast m).wr.openRec with
  | none => s
  | some r =>
    if r.entries = [] then s.updMast m (fun x => { x with wr := { x.wr with openRec := none } })
    else
      let seq := (s.mast m).wr.lastSeq + 1
      let r' := { r with seq := seq, body := r.entries.map s.recEntry }
      let s1 := s.updMast m (fun x => { x with wr := { x.wr with openRec := none, closed := x.wr.closed ++ [r'], lastSeq := seq } })
      forEach (r.entries.filter (fun e => e.2.isNone)) (fun e a => a.updWrite e.1 (fun w => { w with phase := .recorded })) s1

/-- One entry enters the open record, which closes at 63 (11 R306, R307). -/
def State.addEntry (s : State) (m : Nat) (e : Nat × Option Nat) : State :=
  let old := (s.mast m).wr.openRec.getD ⟨0, [], s.now, 0, none, [], none⟩
  let r := { old with entries := old.entries ++ [e], firstAt := if old.entries = [] then s.now else old.firstAt }
  let s1 := s.updMast m (fun x => { x with wr := { x.wr with openRec := some r } })
  let s2 := if e.2.isNone then s1.updWrite e.1 (fun w => { w with phase := .entered }) else s1
  if r.entries.length ≥ 63 then s2.closeRec m else s2

/-- A wholly verified extent enters the open record, its map entry reserved first (11 R306). Where a record burned before its write
failed has committed the EXT meanwhile, it is not committed twice (R292): the write is durable when the digests agree, else it fails
(DESIGN CHOICE; notes/assumptions/168.md). -/
def State.enterRecord (s : State) (m : Nat) (w : Write) : State :=
  let p := w.place.getD (0, 0, 0)
  let n := w.relocated.length
  match s.mapInsert (extentEntry w.ext w.dig w.len p.2.1 p.1 p.2.2 w.str w.xpe n m 1) with
  | (s1, .inserted) =>
    let s2 := forEach (List.range n) (fun o a => a.addEntry m (w.serial, some o)) s1
    s2.addEntry m (w.serial, none)
  | (s1, .duplicate) =>
    if (s1.extentOf m w.ext).any (fun e => decide (meDig e = w.dig)) then (s1.count (ckey m 0x0F 6)).durableWrite w.serial
    else s1.failWrite w.serial stWriteFailed
  | (s1, .full) => s1.failWrite w.serial stMapFull

/-- Notes the relocation entries of a passed record (09 R252). -/
def State.poolRelocs (s : State) (m : Nat) (entries : List Nat) : State :=
  s.updMast m (fun x => { x with wr := { x.wr with relocPool := x.wr.relocPool ++ entries.filter (fun e => decide (fld e 7 0 = 2)) } })

/-- A passed record's extent entry goes into the Extent Map with its relocations (11 R309, R310; 16 R443), if it is committed: NREL
relocation entries with its EXT lie in this record or earlier ones (09 R252). Where an attempt never committed left more, the last NREL
are the entry's own (notes/assumptions/146.md). A second committed entry of an EXT is ignored and counted. -/
def State.commitEntry (s : State) (m e : Nat) : State :=
  let ext := fld e 511 448
  let nrel := fld e 317 302
  let all := (s.mast m).wr.relocPool.filter (fun r => decide (fld r 511 448 = ext))
  if fld e 7 0 ≠ 1 ∨ all.length < nrel then s
  else if (s.extentOf m ext).isSome then s.countM m 0x0F 5
  else
    let mine := all.drop (all.length - nrel)
    let s0 := s.updMast m (fun x => { x with wr := { x.wr with
      relocPool := x.wr.relocPool.filter (fun r => decide (fld r 511 448 ≠ ext)) } })
    let s1 := forEach (mine.mapIdx (fun (o : Nat) (r : Nat) =>
      relocEntry ext o (fld r 447 432) ⟨fld r 413 410, fld r 431 414, fld r 409 401⟩ m 2)) (fun v a => (a.mapInsert v).1) s0
    let v := extentEntry ext (fld e 447 384) (fld e 383 352) (fld e 351 334) (fld e 333 330) (fld e 329 321) (fld e 320 319)
      (e.testBit 318) nrel m 2
    match s1.mapReserved m ext with
    | some i => s1.mapPut i v
    | none => (s1.mapInsert v).1

/-- The record's 4,096-byte user field: header entry, entries, zeros (09 R251). -/
def CommitRec.user (r : CommitRec) : List Byte :=
  padTo 4096 (leBytes 64 (r.header.getD 0) ++ r.body.flatMap (leBytes 64))

/-- A record's info block at a log slot (09 Table 9.3). -/
def CommitRec.info (r : CommitRec) (sl : Slot) : List Byte :=
  infoBlock {
    ext := 0, aux := 0, track := sl.track, layer := sl.layer, sect := sl.sect, eidx := 0, xpos := 0, kind := 3, str := 3,
    reloc := false, xpe := false
  } r.user

/-- The header of a record that is burned for the first time (11 R307, 09 Table 9.5). -/
def State.recHeader (s : State) (m : Nat) (r : CommitRec) : Nat :=
  0x80 + r.body.length * 2 ^ 8 + s.addr * 2 ^ 16 + r.seq * 2 ^ 64 + (s.now % 2 ^ 64) * 2 ^ 128 + s.moN m 0x56 2 * 2 ^ 192

/-- Changes the record with a SEQ. -/
def State.updRec (s : State) (m seq : Nat) (f : CommitRec → CommitRec) : State :=
  s.updMast m (fun x => { x with wr := { x.wr with closed := x.wr.closed.map (fun r => if r.seq = seq then f r else r) } })

/-- Record r is burned at log slot i, slot sl of the disc, by burner k (11 R307, R308). -/
def State.burnRecord (s : State) (m : Nat) (r : CommitRec) (i : Nat) (sl : Slot) (k : Nat) : State :=
  let x := { r with burnedAt := some i, header := some (r.header.getD (s.recHeader m r)) }
  let s1 := (s.updRec m r.seq (fun _ => x)).updMast m (fun y => { y with wr := { y.wr with logNext := i + 1 } })
  let s2 := s1.setMo m 0x54 9 (s1.mo m 0x54 9 - 1)
  ((s2.burnFrame m k none r.seq 3 sl (x.info sl)).updOpt m (fun y => { y with wrEn := true })).showWriteState m 4

/-- RECORD_BURN: the first closed record is burned at the next free log slot (11 R307, R308), once the yard stands there. -/
def State.recordBurn (s : State) (m : Nat) : State :=
  let s1 := s.showWidth m
  match (s.mast m).wr.closed with
  | [] => s
  | r :: _ =>
    if !s.mayBurn m || r.burnedAt.isSome || s.writeSliceOver m && r.header.isNone || s1.burnsLeft m ≠ [] then s
    else match s1.logSlot ((s.tableOf m).getD 0) (s.mast m).wr.logNext with
      | none => s
      | some sl => match s1.burnerOf m sl with
        | none => s1.moveWrite m 0 sl
        | some k => s1.burnRecord m r (s.mast m).wr.logNext sl k

/-- A record passes (11 R309): its extents become durable in entry order. -/
def State.recordPasses (s : State) (m : Nat) (r : CommitRec) : State :=
  let s1 := (s.updMast m (fun x => { x with wr := { x.wr with closed := x.wr.closed.filter (fun y => y.seq ≠ r.seq) } })).setMo m
    0x50 4 (r.seq : Nat)
  forEach (List.zip r.entries r.body) (fun e a =>
    let b := a.commitEntry m e.2
    match e.1.2 with
    | none => if (b.extentOf m (fld e.2 511 448)).isSome then b.durableWrite e.1.1 else b
    | some _ => b) (s1.poolRelocs m r.body)

/-- The disc is closed for writing (11 R308, R310). -/
def State.closeDisc (s : State) (m : Nat) : State :=
  ((s.updMast m (fun x => { x with wr := { x.wr with closedForWriting := true } })).showWriteState m 5).condition 0x000F 3 m m

/-- A record fails verification (11 R308). -/
def State.recordFails (s : State) (m : Nat) (r : CommitRec) : State :=
  let s1 := (s.updRec m r.seq (fun x => { x with fails := x.fails + 1, burnedAt := none })).countM m 0x0F 3
  if r.fails + 1 < 3 then s1
  else
    let s2 := (s1.closeDisc m).failPending m stWriteFailed
    s2.updMast m (fun x => { x with wr := { x.wr with closed := [], openRec := none } })

/-! ## Verification (11.5) -/

/-- A completed verification read passes (11 R302): its sync search chose a candidate, its decode converged within the limit, it is
accepted, and its info block is the one formed. -/
def verifyPasses (x : Sector) (limit : Nat) (want : List Byte) (found : Bool) (it : Option Nat) (info : List Byte) : Bool :=
  found && (match it with
    | some n => decide (n ≤ limit)
    | none => false) && decide (judge x it.isSome info = .accepted) && decide (info = want)

/-- Some of a frame is still to be burned: it cannot be read yet. -/
def State.stillBurning (s : State) (m : Nat) (serial : Option Nat) (n : Nat) : Bool :=
  (s.burnsLeft m).any (fun x => decide (x.serial = serial ∧ x.n = n))

/-- A verification read of slot ordinal or record `n` is under way. -/
def State.readBack (s : State) (m : Nat) (serial : Option Nat) (n : Nat) : Bool :=
  s.media.sectors.any (fun x => decide (x.mast = m ∧ x.use = .verify serial n))

/-- The read-back of a burned slot of a write (11 R302, R264). -/
def Write.readOf (w : Write) (x : WSlot) : Sector :=
  let (kind, eidx, xpos) := secOfSlot w.len w.xpe x.n
  { sid := 0, mast := w.mast, slot := x.slot, sail := 0, reader := 0, str := w.str, xpe := w.xpe, ext := w.ext, eidx := eidx, xpos := xpos,
    kind := kind, reloc := decide (x.relocs > 0), use := .verify (some w.serial) x.n }

/-- Everything burned that awaits verification and is not being read back: slots in accepted order, then a record (11 R302). -/
def State.verifyDue (s : State) (m : Nat) : List Sector :=
  let slots := (s.pendingOn m).flatMap (fun w => (w.slots.filter (fun x => decide (x.state = .burned) &&
    !s.stillBurning m (some w.serial) x.n && !s.readBack m (some w.serial) x.n)).map w.readOf)
  let recs := (s.mast m).wr.closed.filterMap (fun r =>
    if s.stillBurning m none r.seq || s.readBack m none r.seq then none
    else (r.burnedAt.bind (s.logSlot ((s.tableOf m).getD 0))).map (fun sl => logSector m sl (.verify none r.seq)))
  slots ++ recs

/-- Verification reads run on a writing mast on track (11 R302, 01 R34). -/
def State.mayVerify (s : State) (m : Nat) : Bool :=
  decide ((s.mast m).st = .writing ∧ s.allLocked m = true ∧ s.seqn m = .none ∧ (s.opt m).chi0.isSome = true ∧
    (s.opt m).mismatch = false ∧ s.hasHolder = true)

/-- VERIFY_REVOLUTION (11 R302, 09 R247): the verifying sails read what was burned under them, with places reserved in the pool
(10 R258); the yard moves when nothing that awaits verification lies under them. -/
def State.verifyRevolution (s : State) (m : Nat) : State :=
  if !s.mayVerify m then s
  else
    let s1 := s.showWidth m
    let due := s1.verifyDue m
    let first := (s1.window m).1 + s1.moN m 0x50 3
    let here := due.filterMap (fun x => (s1.writerOf m 1 x.slot).map (fun k => { x with sail := first + k, reader := first + k }))
    match due.head?, here with
    | none, _ => s1
    | some x, [] => s1.moveWrite m 1 x.slot
    | some _, _ =>
      let free := s1.poolFree
      let s2 := if free < here.length then s1.countM m 0x0C 0x0B else s1
      let s3 := forEach (here.take free) (fun x a =>
        let sid := a.media.nextSid
        (a.addSector x).scheduleOne m { x with sid := sid } x.sail) s2
      s3.showPoolQueue.showWriteState m 2

/-- The verdict on a burned slot of a write (11 R302, R305). -/
def State.slotVerified (s : State) (w : Write) (n : Nat) (sl : Slot) (pass : Bool) : State :=
  match w.slots.find? (fun z => decide (z.n = n ∧ z.state = .burned ∧ z.slot = sl)) with
  | none => s
  | some z =>
    if pass = false ∧ s.moN w.mast 0x54 4 ≤ z.relocs then s.abandonWrite w
    else s.updWrite w.serial (fun y => { y with slots := y.slots.map (fun u =>
      if u.n = n then { u with state := if pass then .passed else .failed } else u) })

/-- Every write of a mast now wholly verified enters the open record, in accepted order (11 R306). -/
def State.enterVerified (s : State) (m : Nat) : State :=
  forEach ((s.pendingOn m).filter (fun w => decide (w.phase = .burning ∧ w.slots ≠ []) &&
    w.slots.all (fun x => decide (x.state = .passed)))) (fun w a => a.enterRecord m w) s

/-- A verification read ends with the decoder's outcome (11 R302, R305, R308, R309). -/
def State.verifyEnds (s0 : State) (x : Sector) (found : Bool) (it : Option Nat) (info : List Byte) : State :=
  let s := s0.dropSector x.sid
  let limit := s.moN x.mast 0x54 3
  match x.use with
  | .verify none seq =>
    match (s.mast x.mast).wr.closed.find? (fun r => decide (r.seq = seq)) with
    | some r => if verifyPasses x limit (r.info x.slot) found it info then s.recordPasses x.mast r else s.recordFails x.mast r
    | none => s
  | .verify (some serial) n =>
    match s.write serial with
    | some w => (s.slotVerified w n x.slot (verifyPasses x limit (s.writeInfo w n x.slot x.reloc) found it info)).enterVerified x.mast
    | none => s
  | _ => s

/-! ## Pass boundaries (11 R301) -/

/-- Nothing burned awaits verification and no relocation pass or record burn is in progress. -/
def State.nothingBurned (s : State) (m : Nat) : Bool :=
  (s.pendingOn m).all (fun w => w.slots.all (fun x => decide (x.state ≠ .burned))) &&
  (s.mast m).wr.closed.all (fun r => r.burnedAt.isNone) && decide (s.burnsLeft m = [])

/-- A pass boundary (11 R301). A mast that does not write has no burn in progress; what awaits verification since a loss of lock or a
furl is then write work due, and no bar to entering the writing state (R302, R303, R312; notes/assumptions/147.md). -/
def State.atPassBoundary (s : State) (m : Nat) : Bool :=
  s.allLocked m && decide (s.seqn m = .none) && (decide ((s.mast m).st ≠ .writing) || s.nothingBurned m) && (s.mast m).st.onTrack

/-- A sector of the disc is in flight: scheduled, or on the ladder's steps 1 to 6 (11 R301). -/
def State.readsInFlight (s : State) (m : Nat) : Bool :=
  s.media.sectors.any (fun x => decide (x.mast = m) && !x.use.isVerify && (decide (x.phase = .scheduled ∨ x.phase = .pool) ||
    decide (1 ≤ x.step ∧ x.step ≤ 6)))

/-- Enters a state and begins its period. -/
def State.enterPeriod (s : State) (m : Nat) (st : MastState) : State :=
  (s.setMastState m st).updMast m (fun x => { x with wr := { x.wr with periodAt := s.now } })

/-- PASS_BOUNDARY (11 R301). -/
def State.passBoundary (s : State) (m : Nat) : State :=
  if !s.atPassBoundary m || !s.hasHolder then s
  else match (s.mast m).st with
    | .writing =>
      if s.writeDue m = false ∨ s.writeSliceOver m = true then
        (s.closeGate m).enterPeriod m (if s.readWaits m then .reading else .tracking)
      else s
    | _ =>
      if s.writeDue m = true ∧ (s.opt m).cal = none ∧ (s.opt m).mismatch = false ∧ s.readsInFlight m = false ∧
          (s.readWaits m = false ∨ s.readSliceOver m = true) then
        ((s.offsetFor m false).enterPeriod m .writing).showWidth m
      else s

/-- SLICE_EXPIRY (11 R301): WSLICE or RSLICE has passed while the other work waits. No new burn or no new sector read begins from here
on, and the state is left at once where this instant is a pass boundary. -/
def State.sliceExpiry (s : State) (m : Nat) : State :=
  if s.writeSliceOver m ∨ s.readSliceOver m = true then s.passBoundary m else s

/-! ## Mount (11 R295, R310; 14 R394) -/

/-- What the log reading has found so far: log slots read, records applied, stopped. -/
structure LogRead where
  s : State
  last : Nat
  next : Nat
  stopped : Bool := false
  blank : Bool := false
  stale : Bool := false
  /-- greatest SEQ that is applied: that of the last record passed, where the map is built afresh (16 R439) -/
  upTo : Option Nat := none

/-- One log slot, by what was read of it (11 R310). -/
def logStep (m : Nat) (a : LogRead) (i : Nat) (f : LogFound) : LogRead :=
  if a.stopped || a.blank then a
  else match f with
    | .blank => { a with blank := true }
    | .unreadable => { a with next := i + 1 }
    | .record user =>
      let entry : Nat → Nat := fun j => leNat ((user.drop (64 * j)).take 64)
      let h := entry 0
      let seq := logSeq user
      let stale := a.stale || decide (a.s.moN m 0x56 2 < fld h 255 192)
      let l := (List.range (fld h 15 8)).map (fun j => entry (j + 1))
      if seq = a.last + 1 ∧ a.upTo.all (fun n => decide (seq ≤ n)) = true then
        { a with
          s := forEach l (fun e b => b.commitEntry m e) (a.s.poolRelocs m l)
          last := seq, next := i + 1, stale := stale }
      else if seq = a.last then { a with next := i + 1, stale := stale }
      else { a with next := i + 1, stopped := true, stale := stale }

/-- The log slots of a mast as they were read, applied in placement order (11 R310). -/
def State.applyLog (s : State) (m : Nat) (upTo : Option Nat) (log : List LogFound) : LogRead :=
  log.zipIdx.foldl (fun (a : LogRead) p => logStep m a p.2 p.1) { s := s, last := 0, next := 0, upTo := upTo }

/-- Place of a stripe in placement order (09 R246). -/
def State.placeKey (s : State) (t : Nat) (st : Nat × Nat) : Nat :=
  let z := s.zoneOf t st.2
  ((s.zones t - z) * 16 + st.1) * 2 ^ 20 + (s.tHi t z + 1 - st.2) / 16

/-- Stripes of the mast's committed extents with their strength. -/
def State.committedStripes (s : State) (m t : Nat) : List (Nat × Nat × Nat) :=
  ((s.media.map.filter (fun p => decide (meState p.2 = 2 ∧ meKind p.2 = 0 ∧ meMast p.2 = m))).flatMap (fun p =>
    let e := p.2
    (s.walk t (meStr e) (totalSlots (meLen e) (meXpe e)) (meLayer e) (meTrack e) (meCol e) 0).mapIdx (fun (i : Nat) (x : Slot) =>
      let st := slotStripe i x
      (st.1, st.2, meStr e)))).eraseDups

/-- The stripe `n` places after a stripe. -/
def State.stripeOn (s : State) (t : Nat) : Nat → Nat × Nat → Option (Nat × Nat)
  | 0, st => some st
  | n + 1, st =>
    match s.nextPlace t 10000 st.1 st.2 with
    | some st' => s.stripeOn t n st'
    | none => none

/-- The frontier (11 R295): column 0 of the first blank stripe, where the scan's greatest sync metric stays below SYTH; `scan` holds that
metric of each stripe read, from the one where the scan begins. -/
def State.setFrontier (s : State) (m t : Nat) (scan : List Int) : State :=
  let l := s.committedStripes m t
  let first := (s.firstStripe t).bind (fun a => if s.isLogStripe t a.1 a.2 then s.nextPlace t 10000 a.1 a.2 else some a)
  let from_ := match l.map (fun p => (p.1, p.2.1)) with
    | [] => first
    | a :: rest => some (rest.foldl (fun b x => if s.placeKey t b < s.placeKey t x then x else b) a)
  let at_ := scan.findIdx (fun v => decide (v < s.obj (tkey t 0 6)))
  let f : Nat × Nat × Nat := match if at_ < scan.length then from_.bind (s.stripeOn t at_) else none with
    | some st => (st.1, st.2, 0)
    | none => match from_ with
      | some st => (s.objN (tkey t 0 3) - 1, st.2 % 16, 512)
      | none => (0, 0, 512)
  let s1 := (s.updMast m (fun x => { x with wr := { x.wr with frontier := f, stripeStr := l, spares := [] } })).showFrontier m
  let n := 1 + ((s1.stripesAfter t f.1 f.2.1).map (fun p => p.2)).foldl (· + ·) 0
  s1.setMo m 0x54 0x0A (if f.2.2 = 512 then 0 else (16 * s.objN (tkey t 0 10) * n : Nat))

/-- The log slots read by a MOUNT are applied, the frontier is found, and the MOUNT completes (11 R310, R295; 12 Table 12.2). -/
def State.mountLogRead (s : State) (m : Nat) (scan : List Int) : State :=
  match s.mounting m, s.tableOf m with
  | true, some t =>
    let l := (s.updMast m (fun x => { x with wr := { periodAt := x.wr.periodAt } })).applyLog m none (s.mast m).wr.log
    let s1 := l.s.updMast m (fun x => { x with
      wr := { x.wr with lastSeq := l.last, logNext := l.next, relocPool := [] }, mountSaved := [] })
    let s2 := (s1.setMo m 0x50 4 (l.last : Nat)).setMo m 0x54 9 (s1.logSlots t - l.next : Nat)
    let s3 := (s2.setFrontier m t scan).showWriteState m 0
    let s4 := if l.stopped then (s3.countM m 0x0F 4).closeDisc m else s3
    if l.stale then s4.leaseStale m
    else forEach (s4.mountCmds m) (fun c a => a.complete c.cid 0 0) s4
  | _, _ => s

/-- A mast's entries are built afresh from its log (16 R439, 11 R310): those of the records passed so far, beside whatever is
pending. -/
def State.mapRebuilt (s : State) (m : Nat) : State :=
  let pool := (s.mast m).wr.relocPool
  let set : List Nat → State → State := fun l a => a.updMast m (fun x => { x with wr := { x.wr with relocPool := l } })
  set pool ((set [] s).applyLog m (some (s.mast m).wr.logTo) (s.mast m).wr.log).s

/-- The log of a mast's disc has been read to its end: for a MOUNT (11 R310), or for entries that are built afresh (16 R439). -/
def State.logRead (s : State) (m : Nat) (scan : List Int) : State :=
  match s.tableOf m with
  | none => s
  | some t =>
    if s.logOpen m = false ∨ s.logDone m t = false then s
    else
      let s1 := if s.mounting m then s.mountLogRead m scan else s.mapRebuilt m
      ({ s1 with media := { s1.media with mapLost := s1.media.mapLost.filter (· ≠ m) } } : State).logAnew m

/-! ## Rows -/

/-- PASS_BOUNDARY (11 R301). -/
def execPassBoundary (t m : Nat) (s : State) : Res := .next (onMast m (s.at_ t) (fun a => a.passBoundary m))

/-- SLICE_EXPIRY (11 R301). -/
def execSliceExpiry (t m : Nat) (s : State) : Res := .next (onMast m (s.at_ t) (fun a => a.sliceExpiry m))

/-- BURN_REVOLUTION (11 R300). -/
def execBurnRevolution (t m : Nat) (s : State) : Res := .next (onMast m (s.at_ t) (fun a => a.burnRevolution m))

/-- VERIFY_REVOLUTION (11 R302). -/
def execVerifyRevolution (t m tick : Nat) (s : State) : Res :=
  .next (onMast m (s.at_ t) (fun a => (a.atTick m tick).verifyRevolution m))

/-- RELOCATION_PASS (11 R304). -/
def execRelocationPass (t m : Nat) (s : State) : Res := .next (onMast m (s.at_ t) (fun a => a.relocationPass m))

/-- RECORD_DELAY_EXPIRY (11 R307). -/
def execRecordDelayExpiry (t m : Nat) (s : State) : Res :=
  .next (onMast m (s.at_ t) (fun a =>
    match (a.mast m).wr.openRec with
    | some r => if r.firstAt + ms (a.moN m 0x54 6) ≤ a.now then a.closeRec m else a
    | none => a))

/-- RECORD_BURN (11 R307). -/
def execRecordBurn (t m : Nat) (s : State) : Res := .next (onMast m (s.at_ t) (fun a => a.recordBurn m))

/-- DURABLE_LIMIT_EXPIRY (11 R312). -/
def execDurableLimitExpiry (t serial : Nat) (s : State) : Res :=
  let s0 := s.at_ t
  match s0.write serial with
  | some w =>
    .next (if s0.durableDue w then s0.failWrite serial stWriteTimeout else s0)
  | none => .next s0

end Sys2Proof.Machine
end

