-- ==== Sys2Proof/Machine/Memory.lean ====
section
/-! DEFINITION. LPDDR6 faults, remapping and channels (16.2 to 16.4), the locator cache and its maintenance (16.6, 16.7), and their
rows. -/
namespace Sys2Proof.Machine

/-! ## Channel layout (16 Table 16.2) -/

/-- Where each structure's part of a share begins (16 R432, in the order of its share table; notes/assumptions/22.md). -/
def shareBase (st : Nat) : Nat := match st with
  | 1 => 0 | 2 => 16777216 | 3 => 51904512 | 4 => 52166656 | _ => 52314112

/-- Share and local address of line (st, ln) (16 R432). -/
def lineHome (st ln : Nat) : Nat × Nat :=
  if st = 1 then (ln / 8 % 8, ln / 64 * 512 + ln % 8 * 64)
  else if st = 2 then (ln / 1024 % 8, shareBase 2 + ln / 8192 * 65536 + ln % 1024 * 64)
  else (ln / 64 % 8, shareBase st + ln / 512 * 4096 + ln % 64 * 64)

/-- Granules of a channel at the density in force. -/
def State.granules (s : State) : Nat := s.objN (okey 0x2400 4) * 33554432

/-! ## Memory faults (16.4) -/

/-- Part of a share whose two copies are both lost, at local offset `off` (16 R439). A control store's shadow is missed at a word that needs it
(R437, 15 R420). -/
def State.partLost (s : State) (k off : Nat) : State :=
  if off < shareBase 2 then s.loseMap
  else if off < 50331648 then s.dupsLost k ((off - shareBase 2) / 65536) 1
  else if off < shareBase 3 then s
  else if off < shareBase 4 then s.leasesLost
  else if off < shareBase 5 then s.tableLost ((8 * ((off - shareBase 4) / 4096) + k) / 18)
  else s

/-- Read `i` of granule g of channel c: what it holds, with the bits that this read gives wrongly; true when check bits disagree. -/
def State.readBad (s : State) (c g : Nat) (flips : List Granule) (i : Nat) : Bool :=
  badGranule (s.placed c g) (flipGranule (s.granule c g) (flips.getD i ⟨0, 0⟩))

/-- A failed granule of share k in group g (16 R434, R437, R439): its data come from the other copy, unless that is not held or its granule
fails too, at reads 3 and 4 of the fault operand. -/
def State.shareGranule (s : State) (g k off : Nat) (flips : List Granule) : State :=
  match s.copyPlace (1 - g) k with
  | none => s.partLost k off
  | some (c, base) =>
    let o := (base + off) / 32
    if !s.readBad c o flips 3 then s
    else if !s.readBad c o flips 4 then s.count (okey 0x5429 (c + 1))
    else ((s.count (okey 0x542A (c + 1))).setGranule c o 0).partLost k off

/-- What a channel's page holds: a page of engine e's window, of a staged write, or of the read cache (16 R433;
notes/assumptions/22.md). -/
inductive PageUse where
  | window (e j : Nat)
  | staged (serial : Nat)
  | cached (r : Retained)
  deriving DecidableEq, Repr

/-- Pages of a channel that windows hold, in order: page, engine, page of the window. -/
def State.windowPagesOn (s : State) (c : Nat) : List (Nat × Nat × Nat) :=
  s.eng.engines.flatMap (fun x => (x.2.pages.zipIdx.filter (fun p => p.1.1 = c)).map (fun p => (p.1.2, x.1, p.2)))

/-- What page p of a channel holds: a window's page by the window page table, else the staged and cached sectors of the channel in order
(16 R433; notes/assumptions/22.md). -/
def State.pageUse (s : State) (c p : Nat) : Option PageUse :=
  let win := s.windowPagesOn c
  match win.find? (fun x => x.1 = p) with
  | some x => some (.window x.2.1 x.2.2)
  | none =>
    let n := max 1 s.channels.length
    let others := (s.media.writes.filter (fun w => w.chans.contains c)).flatMap (fun w =>
        List.replicate ((w.pages + n - 1) / n) (PageUse.staged w.serial)) ++
      (s.media.retained.filter (fun r => r.chan = c)).map PageUse.cached
    others[p - (win.filter (fun x => x.1 < p)).length]?

/-- A failed granule of a page (16 Table 16.3). -/
def State.pageGranule (s : State) (c page : Nat) : State :=
  match s.pageUse c page with
  | some (.window e j) => s.zeroWindowPage e j
  | some (.staged w) => s.failWrite w stMemoryError
  | some (.cached r) => ({ s with media := { s.media with retained := s.media.retained.filter (fun x => x ≠ r) } } : State).showFree
  | none => s

/-- Consequences of a failed granule by region (16 R434, Table 16.2). -/
def State.granuleLost (s : State) (c g : Nat) (flips : List Granule) : State :=
  let a := 32 * g
  if a < 67108864 then
    if s.media.homeCopy.contains c then s else s.shareGranule (c / 8) (c % 8) a flips
  else if a < 134217216 then
    match s.media.rebuilds.find? (fun r => r.1 = c && r.2.2) with
    | some r => s.shareGranule (c / 8) r.2.1 (a - 67108864) flips
    | none => s
  else if a < 134217728 then s
  else s.pageGranule c ((a - 134217728) / 4096)

/-- A permanently faulty granule takes a remap entry, or is a hard indicator when all 16 are in use (16 R435, R436). -/
def State.remap (s : State) (c g : Nat) : State :=
  let k : Nat → Nat := fun i => okey (0x2440 + c) (i + 1)
  if (List.range 16).any (fun i => s.objN (k i) = g) then s
  else match (List.range 16).find? (fun i => s.objN (k i) = 0xFFFFFFFF) with
    | some i =>
      (((s.setObj (k i) g).setObj (okey (0x2440 + c) 0x11) (s.obj (okey (0x2440 + c) 0x11) + 1)).count (okey 0x542B (c + 1))).requestSave []
    | none => s.retireChannel c

/-- What the rewrite of a failed granule writes (16 R434): in a share the data of the other copy, elsewhere zeros. -/
def State.rewriteData (s : State) (c g : Nat) : BitVec 256 :=
  let a := 32 * g
  if a < 67108864 then s.shareData (c % 8) a
  else if a < 134217216 then
    match s.media.rebuilds.find? (fun r => r.1 = c && r.2.2) with
    | some r => s.shareData r.2.1 (a - 67108864)
    | none => 0
  else 0

/-- The granule has failed: the read and the second read both show an error (16 R434). -/
def State.granuleFails (s : State) (c g : Nat) (flips : List Granule) : Bool := s.readBad c g flips 0 && s.readBad c g flips 1

/-- A read of granule g of channel c, with what the read, the second read and the read-back give wrongly, and the two reads of the other copy
(16 R434, R435, R436; notes/assumptions/175.md). Nothing is read before the fill of its channel is complete (R430). -/
def State.memoryRead (s : State) (c g : Nat) (flips : List Granule) : State :=
  if s.boot.filling || s.media.filling.contains c || !s.readBad c g flips 0 then s
  else if !s.readBad c g flips 1 then s.count (okey 0x5429 (c + 1))
  else
    let data := s.rewriteData c g
    let s1 := ((s.count (okey 0x542A (c + 1))).granuleLost c g flips).setGranule c g data
    let s2 := if s1.readBad c g flips 2 then (s1.remap c g).setGranule c g data else s1
    if s2.maskBit (okey 0x2400 2) c then s2.failChannel c else s2

/-- Channel and granule of address a of an engine's shared window, by the window page table (16 R433). -/
def State.windowGranule (s : State) (e a : Nat) : Nat × Nat :=
  let p := (s.engine e).pages.getD (a / 4096) (0, 0)
  (p.1, 4194304 + p.2 * 128 + a % 4096 / 32)

/-- Writes bytes of an engine's shared window: each byte with its check bit in its granule, nothing else of it (16 R429). -/
def State.writeWindow (s : State) (e a : Nat) (l : List Byte) : State :=
  let en := s.engine e
  let s1 := forEach l.zipIdx (fun p x =>
    let g := x.windowGranule e (a + p.2)
    x.writeLocal g.1 (32 * g.2 + (a + p.2) % 32) [p.1]) s
  s1.setEngine e { en with window := putBytes en.window a l }

/-- SCRUB_READ (16 R431): the next granule of a healthy channel. -/
def State.scrubRead (s : State) (c : Nat) (flips : List Granule) : State :=
  if !s.maskBit (okey 0x2400 2) c then s
  else
    let g := tblGet (fun _ => 0) s.media.scrub c
    let s1 := { s with media := { s.media with scrub := tblPut (fun _ => 0) c ((g + 1) % max 1 s.granules) s.media.scrub } }
    s1.memoryRead c g flips

/-- LOSS_OF_TRAINING (16 R436; by its row: a loss of training, or a burst of command or data errors that the controller cannot
retry): a failure; a channel being trained after a clear is retired again at once. -/
def State.trainingLost (s : State) (c : Nat) : State :=
  if s.media.filling.contains c then (s.failChannel c).retireChannel c
  else if s.maskBit (okey 0x2400 2) c then s.failChannel c
  else s

/-- CHANNEL_FILL_DONE (16 R436). -/
def State.channelFilled (s : State) (c : Nat) : State :=
  if !s.media.filling.contains c then s
  else
    let s1 := { s with media := { s.media with
      filling := s.media.filling.filter (· ≠ c), homeCopy := s.media.homeCopy ++ [c]
      cells := tblDrop (fun i => decide (i / 2 ^ 29 = c)) s.media.cells } }
    (s1.setMaskBit (okey 0x2400 2) c).showPool.showShares

/-- SHARE_COPY_DONE (16 R436, R438): a share is complete in a rebuild area, or again at its home channel, whose group's rebuild area
it leaves. -/
def State.shareCopied (s : State) (c k : Nat) : State :=
  if s.media.rebuilds.contains (c, k, false) then
    (({ s.copyShare c 67108864 k with media := { (s.copyShare c 67108864 k).media with
      rebuilds := s.media.rebuilds.map (fun r => if r = (c, k, false) then (c, k, true) else r) } }).count (okey 0x542C 1)).showShares
  else if s.media.homeCopy.contains c ∧ c % 8 = k then
    ({ s.copyShare c 0 k with media := { (s.copyShare c 0 k).media with
      homeCopy := s.media.homeCopy.filter (· ≠ c)
      rebuilds := s.media.rebuilds.filter (fun r => !(decide (r.1 / 8 = c / 8 ∧ r.2.1 = k))) } }).showShares
  else s

/-- A write that clears retired channels has each trained and filled (16 R436). -/
def State.channelsCleared (s : State) (mask : Nat) : State :=
  forEach ((List.range 16).filter (fun c => mask.testBit c)) (fun c a =>
    let b := a.forgetFailures .channel 0 c
    { b with media := { b.media with filling := b.media.filling ++ [c] } }) s

/-- One remap entry is cleared (16 R435): the spare's data is copied to the remapped granule, and the entry freed unless the granule
reads back with an error; `flips` holds what the read-back of an entry's granule gives wrongly. -/
def State.remapFree (s : State) (c : Nat) (flips : List (Nat × Granule)) (i : Nat) : State :=
  let k := okey (0x2440 + c) (i + 1)
  let g := s.objN k
  if g = 0xFFFFFFFF then s
  else
    let s1 := s.setCell c g (sealGranule g (s.cellAt c (4194288 + i)).data)
    if badGranule g (flipGranule (s1.cellAt c g) (tblGet (fun _ => ⟨0, 0⟩) flips i)) then s1 else s1.setObj k 0xFFFFFFFF

/-- The remap entries of a channel are cleared, all but those whose granule reads back with an error (16 R435). -/
def State.remapCleared (s : State) (c : Nat) (flips : List (Nat × Granule)) : State :=
  let s1 := forEach (List.range 16) (fun i a => a.remapFree c flips i) s
  let left := (List.range 16).filter (fun i => decide (s1.objN (okey (0x2440 + c) (i + 1)) ≠ 0xFFFFFFFF))
  (s1.setObj (okey (0x2440 + c) 0x11) (left.length : Nat)).requestSave []

/-! ## The locator cache (16.6) -/

/-- Starts a fill of a line into (set, way); a valid victim moves to the eviction buffer (16 R450). -/
def State.startFill (s : State) (st ln way : Nat) (demand : Bool) (wait : List CacheReq) : State :=
  let set := cacheSet st ln
  let old := s.lineAt set way
  let ev := if old.st = 0 then s.media.evicted else s.media.evicted ++ [⟨old.st, old.ln, st, ln⟩]
  let s1 := s.setLine set way ⟨0, 0, false⟩
  { s1 with media := { s1.media with evicted := ev, fills := s1.media.fills ++ [⟨st, ln, set, way, demand, false, wait⟩] } }

/-- A line is prefetched (16 R447): dropped and counted without a way; with the eviction buffer full it waits (R450). -/
def State.prefetchLine (s : State) (st l : Nat) : State :=
  let set := cacheSet st l
  let known := (s.wayOf st l).isSome || s.media.fills.any (fun f => decide (f.st = st ∧ f.ln = l)) ||
    s.media.evicted.any (fun e => decide (e.st = st ∧ e.ln = l))
  if s.objN (okey 0x2410 4) = 0 ∨ structLines st ≤ l ∨ known = true then s
  else
    let ws := s.waysInUse.filter (fun w => !(s.media.fills.any (fun f => decide (f.set = set ∧ f.way = w))))
    let pick := match ws.find? (fun w => (s.lineAt set w).st = 0) with
      | some w => some w
      | none => ws.find? (fun w => !(s.lineAt set w).nru)
    match pick with
    | some w =>
      if (s.lineAt set w).st ≠ 0 ∧ s.media.evicted.length ≥ 16 then s.cacheDefer ⟨.streamRead, st, l, true⟩
      else s.startFill st l w false []
    | none => s.count (okey 0x542C 3)

/-- A demand miss prefetches the next line (16 R447). -/
def State.prefetch (s : State) (st ln : Nat) : State := s.prefetchLine st (ln + 1)

/-- Channel and granule that a read of a line from memory uses (16 R432, R438, R444): of the Extent Map copy A when b >> 3 is even and
copy B otherwise, of other structures copy A; the other copy where that one is not held. -/
def State.lineGranule (s : State) (st ln : Nat) : Nat × Nat :=
  let home := lineHome st ln
  let g := if st = 1 then home.2 / 512 % 2 else 0
  let at_ := ((s.copyPlace g home.1).orElse (fun _ => s.copyPlace (1 - g) home.1)).getD (8 * g + home.1, 0)
  (at_.1, (at_.2 + home.2) / 32)

/-- A read miss reads the line's two granules, five reads of the fault operand each, and starts a fill (16 R434, R446 to R450). -/
def State.cacheFetch (s : State) (r : CacheReq) (flips : List Granule) : State :=
  let set := cacheSet r.st r.ln
  let g := s.lineGranule r.st r.ln
  let s2 := (s.memoryRead g.1 g.2 (flips.take 5)).memoryRead g.1 (g.2 + 1) (flips.drop 5)
  match s2.victim set with
  | (none, s3) => s3.cacheDefer r
  | (some w, s3) =>
    if (s3.lineAt set w).st ≠ 0 ∧ s3.media.evicted.length ≥ 16 then s3.cacheDefer r
    else
      let s4 := s3.startFill r.st r.ln w (decide (r.kind = .demandRead)) [r]
      if r.kind = .demandRead then s4.prefetch r.st r.ln else s4

/-- An access that no way serves (16 R446 to R450). -/
def State.cacheMiss (s : State) (r : CacheReq) (flips : List Granule) : State :=
  match s.media.evicted.find? (fun e => decide (e.st = r.st ∧ e.ln = r.ln)) with
  | some e => s.cacheReclaim r e
  | none =>
    let s1 := s.count (okey 0x542D 2)
    if r.kind = .write then s1 else s1.cacheFetch r flips

/-- An access looks its line up (16 R446, R451). -/
def State.cacheLookup (s : State) (r : CacheReq) (lineErr : Bool) (flips : List Granule) : State :=
  let set := cacheSet r.st r.ln
  match s.wayOf r.st r.ln with
  | none => s.cacheMiss r flips
  | some w =>
    if lineErr then ((s.setLine set w ⟨0, 0, false⟩).failWay w).cacheMiss r flips
    else (if r.kind = .streamRead then s else s.setLine set w { s.lineAt set w with nru := true }).count (okey 0x542D 1)

/-- One access takes effect (16 R446 to R451). -/
def State.cacheAccess (s : State) (r : CacheReq) (lineErr : Bool) (flips : List Granule) : State :=
  if structLines r.st ≤ r.ln ∨ s.boot.filling = true then s
  else if s.waysInUse = [] then
    let g := s.lineGranule r.st r.ln
    if r.kind = .write then s else (s.memoryRead g.1 g.2 (flips.take 5)).memoryRead g.1 (g.2 + 1) (flips.drop 5)
  else if s.maintHolds r.st r.ln then s.maintWait r
  else if s.cacheBehind r.st r.ln then s.cacheDefer r
  else if s.filling_ r.st r.ln then s.fillWait r
  else s.cacheLookup r lineErr flips

/-- A request that waited runs again, behind those of its line that still wait. -/
def State.cacheAgain (s : State) (r : CacheReq) : State :=
  if s.cacheBehind r.st r.ln then s.cacheDefer r
  else if r.pre then s.prefetchLine r.st r.ln
  else if s.filling_ r.st r.ln then s.fillWait r
  else s.cacheLookup r false []

/-- Requests that waited run again, in order. -/
def State.cacheRetry (s : State) (l : List CacheReq) : State := forEach l (fun r a => a.cacheAgain r) s

/-- A maintenance operation whose fills have all returned completes, and requests that waited for it run; the next starts once no request
before it waits (16 R449, R452 to R454). -/
def State.maintGo (s : State) : Nat → State
  | 0 => s
  | n + 1 =>
    match s.media.maint, s.media.maintNext with
    | some x, _ =>
      if !s.maintOver x then s
      else (({ s with media := { s.media with maint := none } } : State).cacheRetry x.waiters).maintGo n
    | none, [] => s.setObj (okey 0x2410 8) 0
    | none, x :: rest =>
      if s.media.cacheWait.any (fun r => x.covers r.st r.ln) then s
      else (({ s with media := { s.media with maintNext := rest } } : State).startMaint x).maintGo n

/-- Maintenance goes on as far as it can. -/
def State.maintDone (s : State) : State :=
  if s.maintQueue = [] then s else s.maintGo (2 * s.maintQueue.length + 1)

/-- The bit of the line a fill installs: 1 for a demand fill or where any waiter but a stream read uses it (16 R446, R449). -/
def fillNru (demand : Bool) (l : List CacheReq) : Bool := demand || l.any (fun r => decide (r.kind ≠ .streamRead))

/-- CACHE_FILL_RETURN (16 R446, R449 to R451, R453): `ok` false when the line just installed reads back in error. -/
def State.fillReturn (s : State) (st ln : Nat) (ok : Bool) : State :=
  match s.media.fills.find? (fun f => decide (f.st = st ∧ f.ln = ln)) with
  | none => s
  | some f =>
    let s1 := { s with media := { s.media with
      fills := s.media.fills.erase f
      evicted := s.media.evicted.filter (fun e => !(decide (e.byStruct = st ∧ e.byLine = ln))) } }
    let s2 :=
      if f.cancelled || !(s1.waysInUse.contains f.way) then s1
      else
        let a := s1.setLine f.set f.way ⟨st, ln, fillNru f.demand f.waiters⟩
        if ok then a else ((a.count (okey 0x542E (f.way + 1))).setLine f.set f.way ⟨0, 0, false⟩).retireWay f.way
    let waiting := s2.media.cacheWait
    (({ s2 with media := { s2.media with cacheWait := [] } }).cacheRetry waiting).maintDone

/-- CACHE_AGEING (16 R446). -/
def State.cacheAge (s : State) : State :=
  if s.objN (okey 0x2410 3) = 0 then s
  else
    let set := s.media.agePointer
    let s1 := forEach s.waysInUse (fun w a => a.setLine set w { a.lineAt set w with nru := false }) s
    { s1 with media := { s1.media with agePointer := (set + 1) % 4096 } }

/-- A write of 2410:05 (16 R452 to R454). -/
def State.maintain (s : State) (op st ln : Nat) : State := (s.issueMaint op st ln).maintDone

/-! ## Rows -/

/-- SCRUB_READ (16 R431). -/
def execScrubRead (t c : Nat) (flips : List Granule) (s : State) : Res :=
  let s0 := s.at_ t
  .next (if c < 16 then s0.scrubRead c flips else s0)

/-- SHARE_COPY_DONE (16 R438). -/
def execShareCopyDone (t c k : Nat) (s : State) : Res := .next ((s.at_ t).shareCopied c k)

/-- CHANNEL_FILL_DONE (16 R436). -/
def execChannelFillDone (t c : Nat) (s : State) : Res := .next ((s.at_ t).channelFilled c)

/-- LOSS_OF_TRAINING (16 R436): the row of both a loss of training and an error burst past retry. -/
def execLossOfTraining (t c : Nat) (s : State) : Res :=
  let s0 := s.at_ t
  .next (if c < 16 then s0.trainingLost c else s0)

/-- CACHE_ACCESS (16 R449). -/
def execCacheAccess (t : Nat) (kind : CacheKind) (st ln : Nat) (lineErr : Bool) (flips : List Granule) (s : State) : Res :=
  .next ((s.at_ t).cacheAccess ⟨kind, st, ln, false⟩ lineErr flips)

/-- CACHE_FILL_RETURN (16 R450). -/
def execCacheFillReturn (t st ln : Nat) (ok : Bool) (s : State) : Res := .next ((s.at_ t).fillReturn st ln ok)

/-- CACHE_AGEING (16 R446). -/
def execCacheAgeing (t : Nat) (s : State) : Res := .next (s.at_ t).cacheAge

end Sys2Proof.Machine
end

