-- ==== Sys2Proof/Machine/Reads.lean ====
section
/-! DEFINITION. What a READ or a JOB reads, and where each of its sectors comes from (12 R327, 01 R39, 16 R433, R444, 10 R267). -/
namespace Sys2Proof.Machine

/-- Adds a command to a sector being read, or has the sector read (10 R267). -/
def State.wantSector (s : State) (m ext e eidx cid : Nat) (planned : List Slot) (rel : List (Nat × Slot)) : State :=
  match s.media.sectors.find? (fun x => decide (x.mast = m ∧ x.ext = ext ∧ x.eidx = eidx ∧ x.use = .data)) with
  | some x => s.updSector x.sid (fun y => { y with waiters := y.waiters ++ [cid] })
  | none =>
    let n := slotOfEidx (meXpe e) eidx
    let sp := (rel.find? (fun r => r.1 = n)).map (·.2)
    s.addSector {
      sid := 0, mast := m, slot := sp.getD (planned.getD n ⟨0, 0, 0⟩), sail := 0, reader := 0, str := meStr e, xpe := meXpe e,
      ext := ext, eidx := eidx, xpos := (secOfSlot (meLen e) (meXpe e) n).2.2, kind := 1, reloc := sp.isSome, use := .data,
      waiters := [cid] }

/-- The sectors of a command's range are delivered from staging or the read cache, or read (12 R327, 01 R36, R39). Where
the disc is read, the pairs of sails that omit each other are counted (08 R200; notes/assumptions/149.md). -/
def State.startReads (s : State) (cid : Nat) : State :=
  match s.cmd cid with
  | none => s
  | some c => if s.media.mapLost.contains (c.pf 68 64) then s.updCmd cid (fun x => { x with mapWait := true }) else
    let m := c.pf 68 64
    let ext := c.pf 191 128
    let l := sectorRange (c.pf 223 192) (c.pf 255 224)
    let s0 := s.updCmd cid (fun x => { x with need := l })
    match s0.stagedWrite m ext, s0.extentOf m ext, s0.tableOf m with
    | some w, _, _ => forEach l (fun e a => a.deliver m ext e (w.user e) cid) s0
    | none, some e, some t =>
      let planned := s0.walk t (meStr e) (totalSlots (meLen e) (meXpe e)) (meLayer e) (meTrack e) (meCol e) 0
      let rel := s0.relocsOf m ext (meNrel e)
      let disc := l.any (fun i => (s0.cached m ext i).isNone)
      let s1 := if disc then s0.countN (ckey m 0x0B 2) (s0.spacingOmitted m) else s0
      if disc ∧ s0.decodersHealthy = 0 then s0.stopRead c stMediaUnavailable
      else forEach l (fun i a =>
        match a.cached m ext i with
        | some u => a.deliver m ext i u cid
        | none => a.wantSector m ext e i cid planned rel) s1
    | _, _, _ => s0.complete cid stExtentAbsent 0

end Sys2Proof.Machine
end

