-- ==== Sys2Proof/Machine/Engine.lean ====
section
/-! DEFINITION. The stream engines (15.1 to 15.5): one microword of an engine, segments, jobs; and the rows of the microwords. -/
namespace Sys2Proof.Machine

/-! ## The check-value unit of a context (15.9) -/

/-- Width, and whether input and output are reflected (15 Table 15.7). -/
def CvUnit.width (u : CvUnit) : Nat := u.cfg % 128
def CvUnit.refin (u : CvUnit) : Bool := u.cfg.testBit 8
def CvUnit.refout (u : CvUnit) : Bool := u.cfg.testBit 9
/-- Keeps the low w bits. -/
def CvUnit.cut (u : CvUnit) (v : Nat) : Nat := v % 2 ^ u.width
/-- A configuration is valid (15 Table 15.7). -/
def cvcValid (v : Nat) : Bool := decide (1 ≤ v % 128 ∧ v % 128 ≤ 64 ∧ v % 256 / 128 = 0 ∧ v < 1024)
/-- Writes the configuration: every value is reduced to the new width (15 R423). -/
def CvUnit.setCfg (u : CvUnit) (v : Nat) : CvUnit :=
  let u' := { u with cfg := v }
  { u' with poly := u'.cut u.poly, init := u'.cut u.init, xorout := u'.cut u.xorout, cvv := u'.cut u.cvv }
/-- Feeds bytes (15 R423). -/
def CvUnit.feed (u : CvUnit) (l : List Byte) : CvUnit := { u with cvv := cvFeed u.width u.poly u.refin u.cvv l }
/-- The result (15 R423). -/
def CvUnit.result (u : CvUnit) : Nat := cvResult u.width u.refout u.xorout u.cvv

/-! ## One word (15 R406 to R408) -/

/-- The engine, its context and segment as a word finds them. -/
structure WordCtx where
  s : State
  e : Nat
  x : EngCtx
  g : Segment
  w : Mw

/-- Outcome of an operation: the state, context and segment after it, or a fault code (15 R415). -/
inductive OpOut where
  | ok (s : State) (x : EngCtx) (g : Segment)
  | fault (code : Nat)

/-- Width, operands A and B (15 R407), and whether the condition holds. -/
def WordCtx.width (k : WordCtx) : Nat := mwWidth k.w.sz
def WordCtx.a (k : WordCtx) : Nat := k.x.get k.w.ra k.width
def WordCtx.b (k : WordCtx) : Nat := if k.w.im then k.w.imm % 2 ^ k.width else k.x.get k.w.rb k.width
def WordCtx.hold (k : WordCtx) : Bool := ccHolds k.x k.g k.w.cc

/-- Replaces the context. -/
def WordCtx.done (k : WordCtx) (x : EngCtx) : OpOut := .ok k.s x k.g

/-- Writes a w-bit result to RD and sets the flags. -/
def WordCtx.result (k : WordCtx) (r : Nat) (c v : Bool) : OpOut :=
  k.done ((k.x.put k.w.rd k.width r k.w.sg).flags k.w.sf k.width r c v)

/-- A as a signed value, and B. -/
def WordCtx.sa (k : WordCtx) : Int := toSigned k.a k.width
def WordCtx.sb (k : WordCtx) : Int := toSigned k.b k.width
/-- An exact signed result lies outside w bits. -/
def WordCtx.excess (k : WordCtx) (e : Int) : Bool := decide (e < -(2 ^ (k.width - 1)) ∨ 2 ^ (k.width - 1) ≤ e)
/-- The carry flag as 0 or 1. -/
def WordCtx.cin (k : WordCtx) : Nat := if k.x.c then 1 else 0

/-- A + B + carry in (15 Table 15.3). -/
def WordCtx.addWith (k : WordCtx) (cin : Nat) : OpOut :=
  let r := k.a + k.b + cin
  k.result (r % 2 ^ k.width) (decide (2 ^ k.width ≤ r)) (k.excess (k.sa + k.sb + cin))

/-- A − B − borrow in. -/
def WordCtx.diff (k : WordCtx) (bin : Nat) : Nat := (k.a + 2 * 2 ^ k.width - k.b - bin) % 2 ^ k.width
def WordCtx.subWith (k : WordCtx) (bin : Nat) : OpOut :=
  k.result (k.diff bin) (decide (k.a < k.b + bin)) (k.excess (k.sa - k.sb - bin))

/-- A logical result: C and V are 0. -/
def WordCtx.logic (k : WordCtx) (r : Nat) : OpOut := k.result r false false

/-- The exact product, signed when SG (15 Table 15.3). -/
def WordCtx.product (k : WordCtx) : Int := if k.w.sg then k.sa * k.sb else ((k.a * k.b : Nat) : Int)

/-- Least and greatest of the signed or unsigned range. -/
def WordCtx.range (k : WordCtx) : Int × Int :=
  if k.w.sg then (-(2 ^ (k.width - 1)), 2 ^ (k.width - 1) - 1) else (0, 2 ^ k.width - 1)

/-- A precedes or equals B in the order that SG names. -/
def WordCtx.aLeB (k : WordCtx) : Bool := if k.w.sg then decide (k.sa ≤ k.sb) else decide (k.a ≤ k.b)

def opNop (k : WordCtx) : OpOut := k.done k.x
def opAdd (k : WordCtx) : OpOut := k.addWith 0
def opAddc (k : WordCtx) : OpOut := k.addWith k.cin
def opSub (k : WordCtx) : OpOut := k.subWith 0
def opSubb (k : WordCtx) : OpOut := k.subWith k.cin
def opAnd (k : WordCtx) : OpOut := k.logic (k.a &&& k.b)
def opOr (k : WordCtx) : OpOut := k.logic (k.a ||| k.b)
def opXor (k : WordCtx) : OpOut := k.logic (k.a ^^^ k.b)
def opAndn (k : WordCtx) : OpOut := k.logic (k.a &&& (2 ^ k.width - 1 - k.b))
/-- A << s; C is the last bit out. -/
def opShl (k : WordCtx) : OpOut :=
  let s := k.b % k.width
  k.result (k.a * 2 ^ s % 2 ^ k.width) (decide (s ≠ 0) && k.a.testBit (k.width - s)) false
def opShr (k : WordCtx) : OpOut :=
  let s := k.b % k.width
  k.result (k.a / 2 ^ s) (decide (s ≠ 0) && k.a.testBit (s - 1)) false
def opSar (k : WordCtx) : OpOut :=
  let s := k.b % k.width
  k.result (toBits (asr k.sa s) k.width) (decide (s ≠ 0) && k.a.testBit (s - 1)) false
def opRol (k : WordCtx) : OpOut :=
  let s := k.b % k.width
  k.logic (k.a * 2 ^ s % 2 ^ k.width + k.a / 2 ^ (k.width - s))
def opMul (k : WordCtx) : OpOut :=
  let p := k.product
  let bad := decide (p < k.range.1 ∨ k.range.2 < p)
  k.result (toBits p k.width) bad bad
def opMulh (k : WordCtx) : OpOut := k.logic (toBits (asr k.product k.width) k.width)
def opSadd (k : WordCtx) : OpOut :=
  let e : Int := if k.w.sg then k.sa + k.sb else ((k.a + k.b : Nat) : Int)
  let r := clampI e k.range.1 k.range.2
  k.result (toBits r k.width) false (decide (r ≠ e))
def opMin (k : WordCtx) : OpOut := k.logic (if k.aLeB then k.a else k.b)
def opMax (k : WordCtx) : OpOut := k.logic (if k.aLeB then k.b else k.a)
/-- SEL leaves the flags (15 R407). -/
def opSel (k : WordCtx) : OpOut := k.done (k.x.put k.w.rd k.width (if k.hold then k.a else k.b) k.w.sg)
def opMov (k : WordCtx) : OpOut := k.logic k.b
/-- Field position and length of BFX and BFI. -/
def Mw.fieldP (w : Mw) : Nat := w.aux % 64
def Mw.fieldN (w : Mw) : Nat := if w.aux / 256 % 64 = 0 then 64 else w.aux / 256 % 64
def opBfx (k : WordCtx) : OpOut := k.logic (k.a / 2 ^ k.w.fieldP % 2 ^ k.w.fieldN)
def opBfi (k : WordCtx) : OpOut :=
  let d := k.x.reg k.w.rd
  let p := k.w.fieldP
  let n := k.w.fieldN
  k.logic ((d - d / 2 ^ p % 2 ^ n * 2 ^ p) + k.a % 2 ^ n * 2 ^ p)
def opPopc (k : WordCtx) : OpOut := k.logic (popCount k.a k.width)
/-- Leading zeros of A. -/
def opClz (k : WordCtx) : OpOut := k.logic (((List.range k.width).find? (fun i => k.a.testBit (k.width - 1 - i))).getD k.width)
def opCtz (k : WordCtx) : OpOut := k.logic (((List.range k.width).find? (fun i => k.a.testBit i)).getD k.width)
def opBswap (k : WordCtx) : OpOut := k.logic (leNat (leBytes (k.width / 8) k.a).reverse)
/-- Mask of the bytes of pair A in [lo, hi] (15 Table 15.3): a 16-bit result in RD. -/
def WordCtx.byteMask (k : WordCtx) (lo hi : Nat) : OpOut :=
  let m := ((k.x.bytes k.w.ra 16).mapIdx (fun (i : Nat) (b : Byte) => if lo ≤ b.toNat ∧ b.toNat ≤ hi then 2 ^ i else 0)).foldl (· + ·) 0
  k.done ((k.x.setReg k.w.rd m).flags k.w.sf 128 m false false)
def opMatch8 (k : WordCtx) : OpOut := k.byteMask (k.w.imm % 256) (k.w.imm % 256)
def opRange8 (k : WordCtx) : OpOut := k.byteMask (k.w.imm % 256) (k.w.imm / 256 % 256)
/-- Flags of A − B only. -/
def opCmp (k : WordCtx) : OpOut :=
  k.done (k.x.flags k.w.sf k.width (k.diff 0) (decide (k.a < k.b)) (k.excess (k.sa - k.sb)))

/-- Bytes that the next IN takes (15 Table 15.3). -/
def Segment.inCount (g : Segment) : Nat := min 16 (g.len - g.ipos)

/-- IN (15 R412): LOST, and LOSTN once for each lost sector of the job. -/
def opIn (k : WordCtx) : OpOut :=
  let n := k.g.inCount
  let l := k.g.input.take n
  let lost := (l.zipIdx.filter (fun p => p.1.2)).map (fun p => (k.g.mast, k.g.ext, (k.g.off + k.g.ipos + p.2) / 4096))
  let fresh := (lost.filter (fun i => !(k.x.lostSeen.contains i))).eraseDups
  let r := leNat (l.map (fun p => BitVec.ofNat 8 p.1))
  let x := (k.x.put k.w.rd 128 r false).flags k.w.sf 128 r false false
  let x := if k.w.sf then { x with z := decide (n = 0) } else x
  .ok k.s { x with icnt := n, lostFlag := decide (lost ≠ []), lostSeen := k.x.lostSeen ++ fresh, lostN := x.lostN + fresh.length }
    { k.g with input := k.g.input.drop n, ipos := k.g.ipos + n }

/-- n of OUT and CVF (15 R407). -/
def WordCtx.n (k : WordCtx) : Nat := if k.w.im then k.w.imm % 32 else k.x.reg k.w.rb % 32

/-- OUT (15 R412). -/
def opOut (k : WordCtx) : OpOut :=
  if 16 < k.n ∨ k.g.ocap < k.g.opos + k.n then .fault 0x8005
  else .ok (k.s.place k.g.cid k.g.opos (k.x.bytes k.w.ra k.n)) k.x { k.g with opos := k.g.opos + k.n }

/-- Address of a scratch or window operation (15 R408). -/
def WordCtx.addr (k : WordCtx) : Nat := (k.x.reg k.w.ra + k.w.aux) % 2 ^ 64
/-- The address is aligned and its bytes lie below `size`. -/
def WordCtx.addrOk (k : WordCtx) (size : Nat) : Bool :=
  decide (k.addr % (k.width / 8) = 0 ∧ k.addr + k.width / 8 ≤ size)

def opLds (k : WordCtx) : OpOut :=
  if k.addrOk 262144 then
    let r := leNat (bytesAt k.x.scratch k.addr (k.width / 8))
    k.done (k.x.put k.w.rd k.width r k.w.sg)
  else .fault 0x8003
def opSts (k : WordCtx) : OpOut :=
  if k.addrOk 262144 then k.done { k.x with scratch := putBytes k.x.scratch k.addr (leBytes (k.width / 8) k.b) } else .fault 0x8003
/-- Bytes of the engine's shared window. -/
def State.windowSize (s : State) (e : Nat) : Nat := s.objN (ekey e 3) * 1048576
def opLdw (k : WordCtx) : OpOut :=
  if k.addrOk (k.s.windowSize k.e) then
    k.done (k.x.put k.w.rd k.width (leNat (bytesAt (k.s.engine k.e).window k.addr (k.width / 8))) k.w.sg)
  else .fault 0x8004
def opStw (k : WordCtx) : OpOut :=
  if k.addrOk (k.s.windowSize k.e) then
    .ok (k.s.writeWindow k.e k.addr (leBytes (k.width / 8) k.b)) k.x k.g
  else .fault 0x8004
def opCvf (k : WordCtx) : OpOut :=
  if 16 < k.n then .fault 0x8005 else k.done { k.x with cv := k.x.cv.feed (k.x.bytes k.w.ra k.n) }

/-- A special register (15 Table 15.4); a reserved index reads 0 (00 R25). -/
def WordCtx.special (k : WordCtx) (i : Nat) : Nat := match i with
  | 0 => k.x.icnt | 1 => k.g.ipos | 2 => k.g.len | 3 => k.g.opos | 4 => k.g.ocap | 5 => k.x.lostN | 6 => k.x.cv.cvv
  | 7 => k.x.cv.cfg | 8 => k.x.cv.poly | 9 => k.x.cv.init | 10 => k.x.cv.xorout | 11 => k.x.cv.result | 12 => k.x.segN
  | 13 => k.s.windowSize k.e | _ => 0
def opGets (k : WordCtx) : OpOut := k.done (k.x.put k.w.rd 64 (k.special (k.w.imm % 16)) false)
/-- PUTS: a refused configuration leaves the unit unchanged (15 Tables 15.4, 15.7; notes/assumptions/24.md). -/
def opPuts (k : WordCtx) : OpOut :=
  let u := k.x.cv
  let v := k.a
  let u' := match k.w.imm % 16 with
    | 6 => { u with cvv := u.cut v }
    | 7 => if cvcValid v then u.setCfg v else u
    | 8 => { u with poly := u.cut v }
    | 9 => { u with init := u.cut v }
    | 10 => { u with xorout := u.cut v }
    | _ => u
  k.done { k.x with cv := u' }

/-! ## Segments and jobs (15 R411 to R415) -/

/-- The job on an engine closes with a normal end: the engine is released and its save slot freed (15 R413); segments that still wait find
no job open (R410). -/
def State.releaseJob (s : State) (e q : Nat) : State :=
  let en := s.engine e
  let s1 := (s.setEngine e { en with
    seg := none, holder := none, ctx := {}, openJobs := en.openJobs.filter (· ≠ q)
    saves := en.saves.filter (fun r => r.1 ≠ q) }).showEngine e
  let s2 := s1.setCmds (s1.host.cmds.map (fun c => if c.opc = 0x05 ∧ c.sq = q ∧ c.pf 77 72 = e then { c with jobOver := true } else c))
  forEach (en.waiting.filterMap s.cmd) (fun c a => if c.sq = q then a.failCmd c stInvalidField else a) s2

/-- A segment ends at NX 4 with a resume word (15 R413, R414). -/
def State.endSegment (s : State) (e : Nat) (x : EngCtx) (g : Segment) (resume : Nat) : State :=
  let en := s.engine e
  let q := en.holder.getD 0
  let x' := { x with pc := BitVec.ofNat 13 resume }
  let s1 := (s.setObj (ekey e 0x0B) (x.cv.cvv : Nat)).setObj (ekey e 0x0C) (x.cv.result : Nat)
  let s2 :=
    if g.last then s1.releaseJob e q
    else if g.save ∧ en.saves.length < s1.objN (okey 0x2542 3) then
      ((s1.setEngine e { en with seg := none, holder := none, ctx := {}, saves := en.saves ++ [(q, x')] }).count (okey 0x5426 3)).showEngine e
    else (s1.setEngine e { en with seg := none, ctx := x' }).showEngine e
  let lost := ((s2.cmd g.cid).map (·.lost)).getD false
  let s3 := s2.finishData g.cid (if lost then stMediaUnrecovered else 0)
  forEach (List.range 32) (fun m a => a.dropOrphans m) s3

/-- Writes the context and segment back after a word. -/
def State.setRun (s : State) (e : Nat) (x : EngCtx) (g : Segment) : State :=
  s.setEngine e { s.engine e with ctx := x, seg := some g }

/-- Takes the next address after a word whose operation gave (x, g) (15 R406). -/
def State.takeNext (s0 s : State) (e : Nat) (w : Mw) (hold : Bool) (x : EngCtx) (g : Segment) : State :=
  let next := x.pc + 1
  let go : BitVec 13 → EngCtx → State := fun pc y => s.setRun e { y with pc := pc } { g with words := g.words + 1 }
  let tgt := BitVec.ofNat 13 w.tgt
  if !hold then go next x
  else match w.nx with
    | 0 => go next x
    | 1 => go tgt x
    | 2 => if x.stack.length ≥ 8 then s0.jobFault e 0x8001 else go tgt { x with stack := next :: x.stack }
    | 3 => match x.stack with
      | [] => s0.jobFault e 0x8002
      | a :: rest => go a { x with stack := rest }
    | 4 => s.endSegment e x g w.tgt
    | 5 => s0.jobFault e (if w.res = 1 then 0x800A else w.aux % 2 ^ 15)
    | _ => go next x

/-- The word that an engine carries out next. -/
def State.nextWord (s : State) (e : Nat) : Mw :=
  decodeMw (tblGet startWord (s.engine e).store (s.engine e).ctx.pc.toNat)

/-- A word met a check-bit error (15 R415, R420; 16 Table 16.3): the state after it, and whether the word is still carried out. -/
def State.wordCheck (s : State) (e op : Nat) : WordCheck → State × Bool
  | .clean => (s, true)
  | .corrected => (s.count (okey 0x5426 1), true)
  | .shadowBad => ((s.jobFault e 0x8008).failEngine e, false)
  | .registers => ((s.jobFault e 0x8007).failEngine e, false)
  | .window flips =>
    if op = 0x24 then
      let w := s.nextWord e
      let a := ((s.engine e).ctx.reg w.ra + w.aux) % 2 ^ 64
      let g := s.windowGranule e a
      if a % (mwWidth w.sz / 8) ≠ 0 ∨ s.windowSize e < a + mwWidth w.sz / 8 then (s, true)
      else if s.granuleFails g.1 g.2 flips then ((s.jobFault e 0x8006).memoryRead g.1 g.2 flips, false)
      else (s.memoryRead g.1 g.2 flips, true)
    else (s, true)

/-- A word that was corrected counts one failure of the engine, once it has been carried out as read (15 R420). -/
def State.wordFailure (s : State) (e : Nat) : WordCheck → State
  | .corrected => s.failEngine e
  | _ => s

/-- One microword with operation `op` on engine e (15 R404, R406, R415): nothing happens when that engine runs no segment or its
next word is another. -/
def State.runWord (s : State) (op : Nat) (f : WordCtx → OpOut) (e : Nat) (chk : WordCheck) : State :=
  match (s.engine e).seg with
  | none => s
  | some _ =>
    if (s.nextWord e).op ≠ op then s
    else
      let (s1, run) := s.wordCheck e op chk
      match (s1.engine e).seg with
      | none => s1
      | some g =>
        if !run then s1
        else if s1.objN (okey 0x2542 6) ≤ g.words then (s1.jobFault e 0x8009).wordFailure e chk
        else
          let w := s1.nextWord e
          let k : WordCtx := ⟨s1, e, (s1.engine e).ctx, g, w⟩
          match f k with
          | .fault code => (s1.jobFault e code).wordFailure e chk
          | .ok s2 x g' => (s1.takeNext s2 e w k.hold x g').wordFailure e chk

/-- Bytes of the next IN have all been delivered (15 R409, R404). -/
def State.inReady (s : State) (e : Nat) : Bool :=
  match (s.engine e).seg with
  | some g => decide (g.inCount ≤ g.input.length)
  | none => true

/-- Start parameters of an engine's check-value unit (15 R411, Table 15.8). -/
def State.startCv (s : State) (e : Nat) : CvUnit :=
  let u : CvUnit := { cfg := s.objN (ekey e 7), poly := s.objN (ekey e 8), init := s.objN (ekey e 9), xorout := s.objN (ekey e 0x0A), cvv := 0 }
  let v := u.setCfg u.cfg
  { v with cvv := v.init }

/-- Output capacity of a JOB (15 R412). -/
def Cmd.ocap (c : Cmd) : Nat :=
  if c.pkt.getLsbD 8 then (c.scatter.map (fun p => p.2)).foldl (· + ·) 0 else c.pf 255 224

/-- The waiting JOB that may start on an engine (15 R410, R411, R414): the holder's next segment, else the one that arrived first. -/
def State.nextSegment (s : State) (e : Nat) : Option Cmd :=
  let en := s.engine e
  let cmds := en.waiting.filterMap s.cmd
  match en.holder with
  | some q => cmds.find? (fun c => decide (c.sq = q))
  | none => cmds.head?

/-- JOB_SEGMENT_START (15 R411, R414): a FIRST takes the state of R411, a saved job its context. -/
def State.segmentStart (s : State) (e : Nat) : State :=
  let en := s.engine e
  match s.nextSegment e with
  | none => s
  | some c =>
    if en.seg.isSome || en.loading || s.maskBit (okey 0x2542 2) e || (c.stage ≠ .job) then s
    else
      if c.pkt.getLsbD 10 = false ∧ en.openJobs.contains c.sq = false then s.failCmd c stInvalidField else
      let first := c.pkt.getLsbD 10
      let saved := (en.saves.find? (fun r => r.1 = c.sq)).map (·.2)
      let x : EngCtx :=
        if first then { pc := BitVec.ofNat 13 (c.pf 92 80), cv := s.startCv e, segN := 1 }
        else match saved with
          | some y => { y with segN := y.segN + 1 }
          | none => { en.ctx with segN := en.ctx.segN + 1 }
      let off := c.pf 223 192
      let len := c.pf 255 224
      let g : Segment :=
        { cid := c.cid, mast := c.pf 68 64, ext := c.pf 191 128, len := len, ocap := c.ocap, last := c.pkt.getLsbD 11, save := c.pkt.getLsbD 12, off := off,
          due := sectorRange off len }
      let s1 := if !first ∧ saved.isSome then s.count (okey 0x5426 4) else s
      let s2 := s1.setEngine e
        { en with
          ctx := x, seg := some g, holder := some c.sq, waiting := en.waiting.filter (fun i => i ≠ c.cid),
          saves := en.saves.filter (fun r => r.1 ≠ c.sq) }
      (s2.showEngine e).startReads c.cid

/-- JOB_SEGMENT_START (15 R411). -/
def execJobSegmentStart (t e : Nat) (s : State) : Res :=
  let s0 := s.at_ t
  .next (if e < 64 then s0.segmentStart e else s0)

/-- One microword of engine e at rig time t. -/
def wordRow (op : Nat) (f : WordCtx → OpOut) (t e : Nat) (chk : WordCheck) (s : State) : Res :=
  .next ((s.at_ t).runWord op f e chk)

/-- NOP (15 R407). -/
def execWNop (t e : Nat) (chk : WordCheck) (s : State) : Res := wordRow 0x00 opNop t e chk s
/-- ADD (15 R407). -/
def execWAdd (t e : Nat) (chk : WordCheck) (s : State) : Res := wordRow 0x01 opAdd t e chk s
/-- ADDC (15 R407). -/
def execWAddc (t e : Nat) (chk : WordCheck) (s : State) : Res := wordRow 0x02 opAddc t e chk s
/-- SUB (15 R407). -/
def execWSub (t e : Nat) (chk : WordCheck) (s : State) : Res := wordRow 0x03 opSub t e chk s
/-- SUBB (15 R407). -/
def execWSubb (t e : Nat) (chk : WordCheck) (s : State) : Res := wordRow 0x04 opSubb t e chk s
/-- AND (15 R407). -/
def execWAnd (t e : Nat) (chk : WordCheck) (s : State) : Res := wordRow 0x05 opAnd t e chk s
/-- OR (15 R407). -/
def execWOr (t e : Nat) (chk : WordCheck) (s : State) : Res := wordRow 0x06 opOr t e chk s
/-- XOR (15 R407). -/
def execWXor (t e : Nat) (chk : WordCheck) (s : State) : Res := wordRow 0x07 opXor t e chk s
/-- ANDN (15 R407). -/
def execWAndn (t e : Nat) (chk : WordCheck) (s : State) : Res := wordRow 0x08 opAndn t e chk s
/-- SHL (15 R407). -/
def execWShl (t e : Nat) (chk : WordCheck) (s : State) : Res := wordRow 0x09 opShl t e chk s
/-- SHR (15 R407). -/
def execWShr (t e : Nat) (chk : WordCheck) (s : State) : Res := wordRow 0x0A opShr t e chk s
/-- SAR (15 R407). -/
def execWSar (t e : Nat) (chk : WordCheck) (s : State) : Res := wordRow 0x0B opSar t e chk s
/-- ROL (15 R407). -/
def execWRol (t e : Nat) (chk : WordCheck) (s : State) : Res := wordRow 0x0C opRol t e chk s
/-- MUL (15 R407). -/
def execWMul (t e : Nat) (chk : WordCheck) (s : State) : Res := wordRow 0x0D opMul t e chk s
/-- MULH (15 R407). -/
def execWMulh (t e : Nat) (chk : WordCheck) (s : State) : Res := wordRow 0x0E opMulh t e chk s
/-- SADD (15 R407). -/
def execWSadd (t e : Nat) (chk : WordCheck) (s : State) : Res := wordRow 0x0F opSadd t e chk s
/-- MIN (15 R407). -/
def execWMin (t e : Nat) (chk : WordCheck) (s : State) : Res := wordRow 0x10 opMin t e chk s
/-- MAX (15 R407). -/
def execWMax (t e : Nat) (chk : WordCheck) (s : State) : Res := wordRow 0x11 opMax t e chk s
/-- SEL (15 R407). -/
def execWSel (t e : Nat) (chk : WordCheck) (s : State) : Res := wordRow 0x12 opSel t e chk s
/-- MOV (15 R407). -/
def execWMov (t e : Nat) (chk : WordCheck) (s : State) : Res := wordRow 0x13 opMov t e chk s
/-- BFX (15 R407). -/
def execWBfx (t e : Nat) (chk : WordCheck) (s : State) : Res := wordRow 0x14 opBfx t e chk s
/-- BFI (15 R407). -/
def execWBfi (t e : Nat) (chk : WordCheck) (s : State) : Res := wordRow 0x15 opBfi t e chk s
/-- POPC (15 R407). -/
def execWPopc (t e : Nat) (chk : WordCheck) (s : State) : Res := wordRow 0x16 opPopc t e chk s
/-- CLZ (15 R407). -/
def execWClz (t e : Nat) (chk : WordCheck) (s : State) : Res := wordRow 0x17 opClz t e chk s
/-- CTZ (15 R407). -/
def execWCtz (t e : Nat) (chk : WordCheck) (s : State) : Res := wordRow 0x18 opCtz t e chk s
/-- BSWAP (15 R407). -/
def execWBswap (t e : Nat) (chk : WordCheck) (s : State) : Res := wordRow 0x19 opBswap t e chk s
/-- MATCH8 (15 R407). -/
def execWMatch8 (t e : Nat) (chk : WordCheck) (s : State) : Res := wordRow 0x1A opMatch8 t e chk s
/-- RANGE8 (15 R407). -/
def execWRange8 (t e : Nat) (chk : WordCheck) (s : State) : Res := wordRow 0x1B opRange8 t e chk s
/-- CMP (15 R407). -/
def execWCmp (t e : Nat) (chk : WordCheck) (s : State) : Res := wordRow 0x1C opCmp t e chk s
/-- OUT (15 R412). -/
def execWOut (t e : Nat) (chk : WordCheck) (s : State) : Res := wordRow 0x21 opOut t e chk s
/-- LDS (15 R408). -/
def execWLds (t e : Nat) (chk : WordCheck) (s : State) : Res := wordRow 0x22 opLds t e chk s
/-- STS (15 R408). -/
def execWSts (t e : Nat) (chk : WordCheck) (s : State) : Res := wordRow 0x23 opSts t e chk s
/-- LDW (15 R408). -/
def execWLdw (t e : Nat) (chk : WordCheck) (s : State) : Res := wordRow 0x24 opLdw t e chk s
/-- STW (15 R408). -/
def execWStw (t e : Nat) (chk : WordCheck) (s : State) : Res := wordRow 0x25 opStw t e chk s
/-- CVF (15 R423). -/
def execWCvf (t e : Nat) (chk : WordCheck) (s : State) : Res := wordRow 0x26 opCvf t e chk s
/-- GETS (15 R407). -/
def execWGets (t e : Nat) (chk : WordCheck) (s : State) : Res := wordRow 0x27 opGets t e chk s
/-- PUTS (15 R407). -/
def execWPuts (t e : Nat) (chk : WordCheck) (s : State) : Res := wordRow 0x28 opPuts t e chk s

/-- IN (15 R412): waits until its bytes have been delivered (15 R409). -/
def execWIn (t e : Nat) (chk : WordCheck) (s : State) : Res :=
  if s.inReady e then wordRow 0x20 opIn t e chk s else .next (s.at_ t)

end Sys2Proof.Machine
end

