-- ==== Sys2Proof/Machine/Signature.lean ====
section
/-! DEFINITION. The hash and the signature the rig checks images with (15 R418, 19 R509): SHA-384 as FIPS 180-4 defines it, ML-DSA-65
as FIPS 204 does. The spec names the two standards and repeats neither: their text is the source here (notes/assumptions/130.md). -/
namespace Sys2Proof.Machine

/-! ## SHA-384 (FIPS 180-4) -/

/-- Round constants 0 to 15: the first 64 bits of the fractions of the cube roots of the first primes. -/
def shaK0 : List (BitVec 64) := [0x428a2f98d728ae22, 0x7137449123ef65cd, 0xb5c0fbcfec4d3b2f, 0xe9b5dba58189dbbc, 0x3956c25bf348b538, 0x59f111f1b605d019, 0x923f82a4af194f9b, 0xab1c5ed5da6d8118, 0xd807aa98a3030242, 0x12835b0145706fbe, 0x243185be4ee4b28c, 0x550c7dc3d5ffb4e2, 0x72be5d74f27b896f, 0x80deb1fe3b1696b1, 0x9bdc06a725c71235, 0xc19bf174cf692694]

/-- Round constants 16 to 31: the first 64 bits of the fractions of the cube roots of the first primes. -/
def shaK1 : List (BitVec 64) := [0xe49b69c19ef14ad2, 0xefbe4786384f25e3, 0x0fc19dc68b8cd5b5, 0x240ca1cc77ac9c65, 0x2de92c6f592b0275, 0x4a7484aa6ea6e483, 0x5cb0a9dcbd41fbd4, 0x76f988da831153b5, 0x983e5152ee66dfab, 0xa831c66d2db43210, 0xb00327c898fb213f, 0xbf597fc7beef0ee4, 0xc6e00bf33da88fc2, 0xd5a79147930aa725, 0x06ca6351e003826f, 0x142929670a0e6e70]

/-- Round constants 32 to 47: the first 64 bits of the fractions of the cube roots of the first primes. -/
def shaK2 : List (BitVec 64) := [0x27b70a8546d22ffc, 0x2e1b21385c26c926, 0x4d2c6dfc5ac42aed, 0x53380d139d95b3df, 0x650a73548baf63de, 0x766a0abb3c77b2a8, 0x81c2c92e47edaee6, 0x92722c851482353b, 0xa2bfe8a14cf10364, 0xa81a664bbc423001, 0xc24b8b70d0f89791, 0xc76c51a30654be30, 0xd192e819d6ef5218, 0xd69906245565a910, 0xf40e35855771202a, 0x106aa07032bbd1b8]

/-- Round constants 48 to 63: the first 64 bits of the fractions of the cube roots of the first primes. -/
def shaK3 : List (BitVec 64) := [0x19a4c116b8d2d0c8, 0x1e376c085141ab53, 0x2748774cdf8eeb99, 0x34b0bcb5e19b48a8, 0x391c0cb3c5c95a63, 0x4ed8aa4ae3418acb, 0x5b9cca4f7763e373, 0x682e6ff3d6b2b8a3, 0x748f82ee5defb2fc, 0x78a5636f43172f60, 0x84c87814a1f0ab72, 0x8cc702081a6439ec, 0x90befffa23631e28, 0xa4506cebde82bde9, 0xbef9a3f7b2c67915, 0xc67178f2e372532b]

/-- Round constants 64 to 79: the first 64 bits of the fractions of the cube roots of the first primes. -/
def shaK4 : List (BitVec 64) := [0xca273eceea26619c, 0xd186b8c721c0c207, 0xeada7dd6cde0eb1e, 0xf57d4f7fee6ed178, 0x06f067aa72176fba, 0x0a637dc5a2c898a6, 0x113f9804bef90dae, 0x1b710b35131c471b, 0x28db77f523047d84, 0x32caab7b40c72493, 0x3c9ebe0a15c9bebc, 0x431d67c49c100d4c, 0x4cc5d4becb3e42b6, 0x597f299cfc657e2a, 0x5fcb6fab3ad6faec, 0x6c44198c4a475817]

/-- The 80 round constants. -/
def shaK : List (BitVec 64) := shaK0 ++ shaK1 ++ shaK2 ++ shaK3 ++ shaK4

/-- The initial hash value of SHA-384. -/
def shaInit : List (BitVec 64) := [0xcbbb9d5dc1059ed8, 0x629a292a367cd507, 0x9159015a3070dd17, 0x152fecd8f70e5939, 0x67332667ffc00b31, 0x8eb44a8768581511, 0xdb0c2e0d64f98fa7, 0x47b5481dbefa4fa4]

/-- The four functions of one word. -/
def shaSigma0 (x : BitVec 64) : BitVec 64 := x.rotateRight 28 ^^^ x.rotateRight 34 ^^^ x.rotateRight 39
def shaSigma1 (x : BitVec 64) : BitVec 64 := x.rotateRight 14 ^^^ x.rotateRight 18 ^^^ x.rotateRight 41
def shaSmall0 (x : BitVec 64) : BitVec 64 := x.rotateRight 1 ^^^ x.rotateRight 8 ^^^ x >>> 7
def shaSmall1 (x : BitVec 64) : BitVec 64 := x.rotateRight 19 ^^^ x.rotateRight 61 ^^^ x >>> 6

/-- A number from bytes, the most significant first; and back. -/
def beNat (bs : List Byte) : Nat := bs.foldl (fun n b => n * 256 + b.toNat) 0
def beBytes (k v : Nat) : List Byte := (List.range k).map (fun i => BitVec.ofNat 8 (v / 256 ^ (k - 1 - i)))

/-- `k` pieces of `n` elements. -/
def piecesOf {α : Type} (n : Nat) : Nat → List α → List (List α)
  | 0, _ => []
  | k + 1, l => l.take n :: piecesOf n k (l.drop n)

/-- The message schedule of one block, the last word first: words 16 to 79 from the 16 of the block. -/
def shaSchedule (block : List (BitVec 64)) : List (BitVec 64) :=
  (List.range 64).foldl (fun w _ =>
    (shaSmall1 (w.getD 1 0) + w.getD 6 0 + shaSmall0 (w.getD 14 0) + w.getD 15 0) :: w) block.reverse

/-- One round on the eight working variables a to h. -/
def shaRound (v : List (BitVec 64)) (k : BitVec 64 × BitVec 64) : List (BitVec 64) :=
  match v with
  | [a, b, c, d, e, f, g, h] =>
    let t1 := h + shaSigma1 e + ((e &&& f) ^^^ (~~~e &&& g)) + k.1 + k.2
    let t2 := shaSigma0 a + ((a &&& b) ^^^ (a &&& c) ^^^ (b &&& c))
    [t1 + t2, a, b, c, d + t1, e, f, g]
  | _ => v

/-- The hash value after one block of 128 bytes. -/
def shaBlock (h : List (BitVec 64)) (block : List Byte) : List (BitVec 64) :=
  let w := shaSchedule ((piecesOf 8 16 block).map (fun b => BitVec.ofNat 64 (beNat b)))
  List.zipWith (· + ·) h ((shaK.zip w.reverse).foldl shaRound h)

/-- A message padded to whole blocks: a one bit, zeros and its length in bits. -/
def shaPad (m : List Byte) : List Byte :=
  m ++ 0x80 :: List.replicate ((239 - m.length % 128) % 128) 0 ++ beBytes 16 (8 * m.length)

/-- SHA-384: the first six words of the hash value. -/
@[irreducible] def sha384 (m : List Byte) : List Byte :=
  let p := shaPad m
  (((piecesOf 128 (p.length / 128) p).foldl shaBlock shaInit).take 6).flatMap (fun x => beBytes 8 x.toNat)

/-! ## SHAKE128 and SHAKE256 (FIPS 202) -/

/-- Round constants of Keccak-f[1600]. -/
def keccakRC : List (BitVec 64) := [0x0000000000000001, 0x0000000000008082, 0x800000000000808a, 0x8000000080008000, 0x000000000000808b, 0x0000000080000001, 0x8000000080008081, 0x8000000000008009, 0x000000000000008a, 0x0000000000000088, 0x0000000080008009, 0x000000008000000a, 0x000000008000808b, 0x800000000000008b, 0x8000000000008089, 0x8000000000008003, 0x8000000000008002, 0x8000000000000080, 0x000000000000800a, 0x800000008000000a, 0x8000000080008081, 0x8000000000008080, 0x0000000080000001, 0x8000000080008008]

/-- Rotations of the 25 lanes, lane (x, y) at 5 y + x. -/
def keccakRot : List Nat := [0, 1, 62, 28, 27, 36, 44, 6, 55, 20, 3, 10, 43, 25, 39, 41, 45, 15, 21, 8, 18, 2, 61, 56, 14]

/-- One round on the 25 lanes. -/
def keccakRound (a : List (BitVec 64)) (rc : BitVec 64) : List (BitVec 64) :=
  let par := (List.range 5).map (fun x => (List.range 5).foldl (fun v y => v ^^^ a.getD (5 * y + x) 0) 0)
  let th := (List.range 25).map (fun i => a.getD i 0 ^^^ par.getD ((i + 4) % 5) 0 ^^^ (par.getD ((i + 1) % 5) 0).rotateLeft 1)
  let b := (List.range 25).map (fun i =>
    let x := i % 5
    let y := i / 5
    let j := 5 * x + (x + 3 * y) % 5
    (th.getD j 0).rotateLeft (keccakRot.getD j 0))
  let c := (List.range 25).map (fun i =>
    b.getD i 0 ^^^ (~~~(b.getD (i / 5 * 5 + (i + 1) % 5) 0) &&& b.getD (i / 5 * 5 + (i + 2) % 5) 0))
  (c.getD 0 0 ^^^ rc) :: c.drop 1

/-- Keccak-f[1600]. -/
def keccakF (a : List (BitVec 64)) : List (BitVec 64) := keccakRC.foldl keccakRound a

/-- The state after one block of input of the rate. -/
def spongeIn (a : List (BitVec 64)) (block : List Byte) : List (BitVec 64) :=
  let w := (piecesOf 8 ((block.length + 7) / 8) block).map (fun b => BitVec.ofNat 64 (leNat b))
  keccakF ((List.range 25).map (fun i => a.getD i 0 ^^^ w.getD i 0))

/-- `n` blocks of output of `rate` bytes. -/
def spongeOut (rate : Nat) : Nat → List (BitVec 64) → List Byte
  | 0, _ => []
  | n + 1, a => (a.flatMap (fun x => leBytes 8 x.toNat)).take rate ++ spongeOut rate n (keccakF a)

/-- Input padded to whole blocks of the rate: the bits 1111 of an extendable output, a one bit, zeros and a one bit. -/
def spongePad (rate : Nat) (m : List Byte) : List Byte :=
  let k := rate - m.length % rate
  if k = 1 then m ++ [0x9F] else m ++ 0x1F :: List.replicate (k - 2) 0 ++ [0x80]

/-- `n` blocks of the extendable output of a rate. -/
def shake (rate : Nat) (m : List Byte) (n : Nat) : List Byte :=
  let p := spongePad rate m
  spongeOut rate n ((piecesOf rate (p.length / rate) p).foldl spongeIn (List.replicate 25 0))

/-- H of FIPS 204: `n` bytes of SHAKE256. -/
def hashH (m : List Byte) (n : Nat) : List Byte := (shake 136 m ((n + 135) / 136)).take n

/-! ## ML-DSA-65 (FIPS 204) -/

/-- The prime q. -/
def dsaQ : Nat := 8380417

/-- A power modulo q, by `n` squarings. -/
def dsaPow (b : Nat) : Nat → Nat → Nat
  | 0, _ => 1
  | n + 1, e => (if e % 2 = 1 then b else 1) * dsaPow (b * b % dsaQ) n (e / 2) % dsaQ

/-- The root that node `m` of the number-theoretic transform multiplies by: 1753 to the bits of `m` reversed. -/
def dsaZeta (m : Nat) : Nat := dsaPow 1753 8 (reflectBits m 8)

/-- Polynomials by their coefficients modulo q, element by element. -/
def polyPlus (a b : List Nat) : List Nat := List.zipWith (fun x y => (x + y) % dsaQ) a b
def polyMinus (a b : List Nat) : List Nat := List.zipWith (fun x y => (x + dsaQ - y) % dsaQ) a b
def polyTimes (a b : List Nat) : List Nat := List.zipWith (fun x y => x * y % dsaQ) a b
def polyScale (z : Nat) (a : List Nat) : List Nat := a.map (fun x => z * x % dsaQ)

/-- The number-theoretic transform of 2^k coefficients, from node `m` down. -/
def ntt : Nat → Nat → List Nat → List Nat
  | 0, _, a => a
  | k + 1, m, a =>
    let lo := a.take (2 ^ k)
    let t := polyScale (dsaZeta m) (a.drop (2 ^ k))
    ntt k (2 * m) (polyPlus lo t) ++ ntt k (2 * m + 1) (polyMinus lo t)

/-- Its inverse: 4190209 is a half, 1753 to the 512 is 1. -/
def nttInv : Nat → Nat → List Nat → List Nat
  | 0, _, a => a
  | k + 1, m, a =>
    let x := nttInv k (2 * m) (a.take (2 ^ k))
    let y := nttInv k (2 * m + 1) (a.drop (2 ^ k))
    polyScale 4190209 (polyPlus x y) ++ polyScale (4190209 * dsaPow 1753 10 (512 - reflectBits m 8) % dsaQ) (polyMinus x y)

/-- `n` values of `w` bits each, packed with the least significant bit first. -/
def bitUnpack (w n : Nat) (bs : List Byte) : List Nat :=
  let v := leNat bs
  (List.range n).map (fun i => v / 2 ^ (w * i) % 2 ^ w)

/-- A polynomial of the matrix, sampled from the output of SHAKE128: 23-bit values below q (RejNTTPoly, 560 tries; FIPS 204
Appendix C bounds them at 298 or more). -/
def sampleNtt (seed : List Byte) : List Nat :=
  (((piecesOf 3 560 (shake 168 seed 10)).map (fun b => leNat b % 2 ^ 23)).filter (fun x => decide (x < dsaQ))).take 256

/-- One step of SampleInBall: a byte not above `i` puts coefficient `j` at `i` and a sign at `j`. -/
def ballStep (acc : List Nat × Nat × Nat) (b : Byte) : List Nat × Nat × Nat :=
  let (c, i, h) := acc
  if decide (256 ≤ i) || decide (i < b.toNat) then acc
  else ((c.set i (c.getD b.toNat 0)).set b.toNat (if h % 2 = 1 then dsaQ - 1 else 1), i + 1, h / 2)

/-- SampleInBall: the challenge of 49 signs. -/
def sampleBall (seed : List Byte) : List Nat :=
  let x := shake 136 seed 4
  ((x.drop 8).foldl ballStep (List.replicate 256 0, 207, leNat (x.take 8))).1

/-- HintBitUnpack: 55 places and 6 ends; none where the places of a polynomial do not rise or a spare place is not 0. -/
def hintUnpack (y : List Byte) : Option (List (List Nat)) :=
  let place : Nat → Nat := fun i => (y.getD i 0).toNat
  let ends := (List.range 6).map (fun i => place (55 + i))
  let starts := 0 :: ends.take 5
  if (starts.zip ends).all (fun r => decide (r.1 ≤ r.2 ∧ r.2 ≤ 55) &&
      (List.range (r.2 - r.1 - 1)).all (fun i => decide (place (r.1 + i) < place (r.1 + i + 1)))) &&
    (List.range 55).all (fun i => decide (i < ends.getD 5 0 ∨ place i = 0))
  then some ((starts.zip ends).map (fun r => (List.range (r.2 - r.1)).map (fun i => place (r.1 + i))))
  else none

/-- Decompose and UseHint at 2 γ2 = 523776: the high part of a coefficient, corrected where the hint says. -/
def useHint (hint : Bool) (r : Nat) : Nat :=
  let low := r % 523776
  let up := decide (261888 < low)
  let high := if up then r / 523776 + 1 else r / 523776
  let wraps := decide (high = 16)
  let r1 := if wraps then 0 else high
  if hint = false then r1
  else if up = false && decide (0 < low) then (r1 + 1) % 16
  else (r1 + 15) % 16

/-- A polynomial of 4-bit values as bytes (w1Encode). -/
def w1Bytes (a : List Nat) : List Byte := leBytes 128 (a.reverse.foldl (fun n x => n * 16 + x) 0)

/-- A coefficient of z from its 20 bits: γ1 less the value, modulo q; and its distance from 0 below γ1 − β. -/
def zCoeff (v : Nat) : Nat := (524288 + dsaQ - v) % dsaQ
def zSmall (v : Nat) : Bool := decide (v < 524288 + 524092 ∧ 524288 < v + 524092)

/-- Row `i` of the matrix by the transformed vector, less the transformed challenge by the row's part of the key. -/
def dsaRow (rho : List Byte) (zs : List (List Nat)) (c : List Nat) (i : Nat) (t1 : List Nat) : List Nat :=
  let sum := (zs.zip (List.range 5)).foldl
    (fun acc x => polyPlus acc (polyTimes (sampleNtt (rho ++ [BitVec.ofNat 8 x.2, BitVec.ofNat 8 i])) x.1)) (List.replicate 256 0)
  nttInv 8 1 (polyMinus sum (polyTimes c (ntt 8 1 (polyScale 8192 t1))))

/-- ML-DSA-65 verification with an empty context (FIPS 204, ML-DSA.Verify): public key, message, signature. -/
@[irreducible] def mldsaVerify (pk msg sig : List Byte) : Bool :=
  match decide (pk.length = 1952 ∧ sig.length = 3309), hintUnpack (sig.drop 3248) with
  | true, some hints =>
    let zv := (piecesOf 640 5 ((sig.drop 48).take 3200)).map (bitUnpack 20 256)
    let mu := hashH (hashH pk 64 ++ [0, 0] ++ msg) 64
    let c := ntt 8 1 (sampleBall (sig.take 48))
    let zs := zv.map (fun p => ntt 8 1 (p.map zCoeff))
    let rows := ((piecesOf 320 6 (pk.drop 32)).map (bitUnpack 10 256)).zip (hints.zip (List.range 6))
    let w1 := rows.map (fun x =>
      (List.zipWith (fun j r => useHint (x.2.1.contains j) r) (List.range 256) (dsaRow (pk.take 32) zs c x.2.2 x.1)))
    zv.all (fun p => p.all zSmall) && decide (hashH (mu ++ w1.flatMap w1Bytes) 48 = sig.take 48)
  | _, _ => false

end Sys2Proof.Machine
end

