-- ==== Sys2Proof/Machine/Image.lean ====
section
/-! DEFINITION. Engine images (15 Table 15.5), their checks and their load (15 R418, R419). -/
namespace Sys2Proof.Machine

/-- An image's fields (15 Table 15.5). -/
structure Image where
  region : Nat
  key : Nat
  firstw : Nat
  clvl : Nat
  id : Nat
  words : List Microword
  /-- every byte that precedes SIG, and SIG -/
  signed : List Byte
  sig : List Byte

/-- n bytes from a on as a number. -/
def byteField (b : List Byte) (a n : Nat) : Nat := leNat ((b.drop a).take n)

/-- Reads an image (15 Table 15.5); none where its header, its reserved bytes or its length is wrong. -/
def parseImage (b : List Byte) : Option Image :=
  let n := byteField b 10 2
  let region := byteField b 6 1
  let key := byteField b 7 1
  if b.length ≠ 64 + 24 * n + 3309 ∨ byteField b 0 4 ≠ 0x4D494553 ∨ byteField b 4 2 ≠ 1 ∨ 1 < region ∨ (region = 0 ∧ key ≠ 0) ∨
      3 < key ∨ byteField b 14 2 ≠ 0 ∨ byteField b 24 40 ≠ 0 then none
  else some
    { region := region, key := key, firstw := byteField b 8 2, clvl := byteField b 12 2, id := byteField b 16 8
      words := (List.range n).map (fun i => BitVec.ofNat 192 (byteField b (64 + 24 * i) 24))
      signed := b.take (64 + 24 * n), sig := b.drop (64 + 24 * n) }

/-- SZ values of an operation and its Min (15 Table 15.3); none for a reserved opcode. -/
def opRule (op : Nat) : Option (Nat × Nat × Nat) :=
  if op = 0 then some (0, 4, 1)
  else if op ≤ 4 then some (0, 3, 1)
  else if op ≤ 8 then some (0, 4, 1)
  else if op = 0x0D ∨ op = 0x0E then some (0, 3, 2)
  else if op ≤ 0x11 then some (0, 3, 1)
  else if op ≤ 0x13 then some (0, 4, 1)
  else if op ≤ 0x15 then some (3, 3, 1)
  else if op ≤ 0x18 then some (0, 3, 1)
  else if op = 0x19 then some (1, 3, 1)
  else if op ≤ 0x1B then some (4, 4, 1)
  else if op = 0x1C then some (0, 3, 1)
  else if op = 0x20 ∨ op = 0x21 ∨ op = 0x26 then some (4, 4, 1)
  else if op = 0x22 ∨ op = 0x23 then some (0, 4, 2)
  else if op = 0x24 ∨ op = 0x25 then some (0, 4, 4)
  else if op = 0x27 ∨ op = 0x28 then some (3, 3, 1)
  else none

/-- Registers that a word of SZ 4 names as pairs (15 R407, Table 15.3). -/
def Mw.pairs (w : Mw) : List Nat :=
  let b := if w.im then [] else [w.rb]
  if w.sz ≠ 4 ∨ w.op = 0 then []
  else if w.op = 0x13 then w.rd :: b
  else if w.op = 0x1A ∨ w.op = 0x1B ∨ w.op = 0x21 ∨ w.op = 0x26 then [w.ra]
  else if w.op = 0x20 ∨ w.op = 0x22 ∨ w.op = 0x24 then [w.rd]
  else if w.op = 0x23 ∨ w.op = 0x25 then b
  else w.rd :: w.ra :: b

/-- A word passes the checks of R419 step 1 at address `a` of its region. -/
def Mw.loadable (w : Mw) (region a : Nat) : Bool :=
  match opRule w.op with
  | none => false
  | some (lo, hi, least) =>
    decide (w.res = 0 ∧ w.nx ≤ 5 ∧ w.cc ≠ 15 ∧ lo ≤ w.sz ∧ w.sz ≤ hi ∧ least ≤ w.cyc + 1) &&
    w.pairs.all (fun r => decide (r % 2 = 0)) &&
    (decide (w.op ≠ 0x28) || decide (6 ≤ w.imm % 16 ∧ w.imm % 16 ≤ 10)) &&
    (decide (w.op ≠ 0x14 ∧ w.op ≠ 0x15) || decide (w.fieldP + w.fieldN ≤ 64)) &&
    (decide (region = 0) || !(decide (0x40 ≤ w.tgt ∧ w.tgt ≤ 0x5FF))) &&
    !(decide (a = 0x1FFF) && (decide (w.nx = 0) || decide (w.cc ≠ 0)))

/-- First word of a region and the first word after it (15.7). -/
def regionSpan (region : Nat) : Nat × Nat := if region = 0 then (0, 0x600) else (0x600, 0x2000)

/-- The signature verifies with the key that R418 names. -/
def State.imageSigned (s : State) (i : Image) : Bool :=
  let k := if i.region = 0 then Config.vendorKey else s.blob (okey 0x2540 (i.key + 1))
  (decide (i.region = 0) || s.maskBit (okey 0x2540 5) i.key) && mldsaVerify k (sha384 i.signed) i.sig

/-- Engines that 2541:02 names. -/
def State.loadMask (s : State) : List Nat := (List.range 64).filter (fun e => s.maskBit (okey 0x2541 2) e)

/-- An engine is idle with no job open or saved: its State is 0 (15 R419, R421; RWI of Table 15.8). -/
def State.engineFree (s : State) (e : Nat) : Bool :=
  let en := s.engine e
  en.seg.isNone && en.holder.isNone && en.openJobs.isEmpty && en.saves.isEmpty && !en.loading && !s.maskBit (okey 0x2542 2) e

/-- Outcome of a load that is refused: 3 signature, 4 word or header, 5 busy (15 R419, Table 15.9). -/
def State.loadRefused (s : State) : Option Nat :=
  match parseImage s.eng.image with
  | none => some 4
  | some i =>
    let (lo, hi) := regionSpan i.region
    if s.imageSigned i = false then some 3
    else if s.objN (okey 0x2300 4) < i.clvl ∨ i.firstw < lo ∨ hi < i.firstw + i.words.length ∨
        (i.words.zipIdx.all (fun p => (decodeMw p.1).loadable i.region (i.firstw + p.2))) = false then some 4
    else if s.loadMask.all s.engineFree = false then some 5
    else none

/-- A refused load leaves its outcome and its count (15 R419). -/
def State.refuseLoad (s : State) (o : Nat) : State := (s.setObj (okey 0x2541 4) o).count (okey 0x5426 (o + 3))

/-- An accepted load begins: its engines load until IMAGE_LOAD_COMPLETE. -/
def State.beginLoad (s : State) : State :=
  let s1 := { (s.setObj (okey 0x2541 4) 1) with
    eng := { s.eng with loads := s.eng.loads ++ [(s.objN (okey 0x2541 2), s.eng.image)] } }
  forEach s.loadMask (fun e a => (a.setEngine e { a.engine e with loading := true }).showEngine e) s1

/-- The words of a region after a load: the image's, trap words elsewhere (15 R419 step 3). -/
def Image.store (i : Image) (st : List (Nat × Microword)) : List (Nat × Microword) :=
  let (lo, hi) := regionSpan i.region
  let kept := tblDrop (fun a => decide (lo ≤ a ∧ a < hi)) st
  (List.range (hi - lo)).foldl (fun t j =>
    let a := lo + j
    let w := if i.firstw ≤ a then i.words.getD (a - i.firstw) trapWord else trapWord
    tblPut startWord a w t) kept

/-- A load ends (15 R419 step 4): the region is in every control store named. -/
def State.endLoad (s : State) (mask : Nat) (image : List Byte) : State :=
  match parseImage image with
  | none => s
  | some i =>
    let es := (List.range 64).filter (fun e => mask.testBit e)
    let s1 := forEach es (fun e a =>
      let en := a.engine e
      let b := (a.setEngine e { en with loading := false, store := i.store en.store }).showEngine e
      if i.region = 1 then b.setObj (ekey e 4) i.id else b) s
    let s2 := if i.region = 0 then s1.setObj (okey 0x2542 4) i.id else s1
    (s2.setObj (okey 0x2541 4) 2).count (okey 0x5426 5)

/-- IMAGE_LOAD_COMPLETE (15 R419): the load begun first ends. -/
def execImageLoadComplete (t : Nat) (s : State) : Res :=
  let s0 := s.at_ t
  .next (match s0.eng.loads with
    | [] => s0
    | l :: rest => ({ s0 with eng := { s0.eng with loads := rest } } : State).endLoad l.1 l.2)

end Sys2Proof.Machine
end

