-- ==== Sys2Proof/Machine/Grants.lean ====
section
/-! DEFINITION. Staging grants (12.4, 11 R289) and peer windows (13.8): granting, matching, granules, closing and ending. -/
namespace Sys2Proof.Machine

/-! ## Windows -/

/-- Size of a function's BAR2 (13 Table 13.3). -/
def bar2Size (f : Fn) : Nat := if f.fn = 0 then 2 ^ 36 else 2 ^ 30
/-- Peer windows of a function (13.8). -/
def winCount (f : Fn) : Nat := if f.fn = 0 then 16 else 4
/-- MSI-X vectors of a function (13 Table 13.2). -/
def vecCount (f : Fn) : Nat := if f.fn = 0 then 2048 else 64

/-- Reset value of window w (13 Table 13.8). -/
def winReset (f : Fn) (w : Nat) : PeerWin := if w = 0 then { en := true, size := bar2Size f } else {}
/-- The shadow and the window in force of slot w. -/
def FnRegs.shadowAt (r : FnRegs) (f : Fn) (w : Nat) : PeerWin := tblGet (winReset f) r.shadow w
def FnRegs.forceAt (r : FnRegs) (f : Fn) (w : Nat) : PeerWin := tblGet (winReset f) r.force w
/-- Windows in force, in slot order, with their slots. -/
def FnRegs.windows (r : FnRegs) (f : Fn) : List (Nat × PeerWin) :=
  ((List.range (winCount f)).map (fun w => (w, r.forceAt f w))).filter (fun p => p.2.en)

/-- Fields of +0x18 (13 Table 13.8). -/
def PeerWin.toff (w : PeerWin) : Nat := w.w18 / 4096 * 4096
def PeerWin.sqv (w : PeerWin) : Bool := w.w18.testBit 13
def PeerWin.sqn (w : PeerWin) : Nat := w.w18 % 4096
def PeerWin.eng (w : PeerWin) : Nat := w.w18 % 64
/-- Bits at +0x18 that the window's KIND leaves reserved (13 Table 13.8, R537). -/
def PeerWin.reserved18 (w : PeerWin) : Bool :=
  if w.kind = 0 then decide (w.w18 / 4096 % 2 = 1 ∨ w.w18 ≥ 16384) else decide (w.w18 / 64 % 64 ≠ 0)
/-- Two windows overlap. -/
def PeerWin.overlaps (a b : PeerWin) : Bool := decide (a.base < b.base + b.size ∧ b.base < a.base + a.size)

/-- The assignment code of a function (15 Table 15.8). -/
def fnCode (f : Fn) : Nat := (if f.ep = .hb then 0x8000 else 0) + f.fn
/-- An engine is assigned to a function (15 R421). -/
def State.engineOf (s : State) (f : Fn) (e : Nat) : Bool := decide (s.objN (ekey e 2) = fnCode f)
/-- Bytes of an engine's shared window (15 R417). -/
def State.engineWindow (s : State) (e : Nat) : Nat := s.objN (ekey e 3) * 2 ^ 20

/-- One enabled window passes the tests of a commit (13 R365.1). -/
def State.winOk (s : State) (f : Fn) (w : PeerWin) : Bool :=
  decide (w.size ≠ 0 ∧ w.base + w.size ≤ bar2Size f) && decide (w.kind ≠ 3) && !w.reserved18 &&
  (if w.kind = 0 then !w.sqv || decide ((s.sq w.sqn).owner = .fn f)
   else s.engineOf f w.eng && decide (w.toff + w.size ≤ s.engineWindow w.eng))

/-- The whole shadow set passes (13 R365.1). -/
def State.shadowOk (s : State) (f : Fn) : Bool :=
  let r := s.fnr f
  let l := ((List.range (winCount f)).map (fun w => (w, r.shadowAt f w))).filter (fun p => p.2.en)
  l.all (fun p => s.winOk f p.2 && l.all (fun q => decide (p.1 = q.1) || !p.2.overlaps q.2))

/-- The window that a TLP matches (13 R365.3). -/
def FnRegs.match_ (r : FnRegs) (f : Fn) (off len rid : Nat) : Option PeerWin :=
  ((r.windows f).find? (fun p => decide (p.2.base ≤ off ∧ off + len ≤ p.2.base + p.2.size) &&
    decide (rid &&& p.2.ridm = p.2.ridv &&& p.2.ridm))).map (·.2)

/-! ## Grants -/

/-- Granules of a write (12 R331). -/
def granulesOf (len : Nat) : Nat := (len + 63) / 64

/-- Open grants of an owner. -/
def State.grants (s : State) (o : Owner) : List Write :=
  s.media.writes.filter (fun w => decide (w.owner = o ∧ w.phase = .granted))

/-- Lowest 4 KiB-aligned offset of [base, lim) where n bytes overlap no open grant (13 R366, 14 R398): the base or the end of a
grant. -/
def lowestFree (gr : List (Nat × Nat)) (base lim n : Nat) : Option Nat :=
  let up : Nat → Nat := fun x => (x + 4095) / 4096 * 4096
  let cands := (up base :: gr.map (fun g => up (g.1 + g.2))).filter (fun c => decide (base ≤ c ∧ c + n ≤ lim) &&
    gr.all (fun g => decide (c + n ≤ g.1 ∨ g.1 + g.2 ≤ c)))
  cands.foldl (fun (b : Option Nat) c => match b with
    | some x => some (min x c)
    | none => some c) none

/-- Open grants in the peer aperture, of whatever peer (14 R398). -/
def State.peerGrants (s : State) : List Write :=
  s.media.writes.filter (fun w => match w.owner with
    | .peer _ => decide (w.phase = .granted)
    | _ => false)

/-- Where a write's grant lies (13 R366, 14 R398). -/
def State.grantPlace (s : State) (w : Write) : Option Nat :=
  let peer := match w.owner with
    | .peer _ => true
    | _ => false
  let gr := (if peer then s.peerGrants else s.grants w.owner).map (fun g => (g.goff, 64 * g.ngr))
  let n := 64 * granulesOf w.len
  match w.owner with
  | .peer _ => lowestFree gr 0 (2 ^ 36) n
  | .fn f =>
    let ws := ((s.fnr f).windows f).map (·.2) |>.filter (fun x => x.kind = 0)
    let named := ws.any (fun x => x.sqv && decide (x.sqn = w.sq))
    let fits := ws.filter (fun x => if x.sqv then decide (x.sqn = w.sq) else !named)
    fits.foldl (fun (b : Option Nat) x => match lowestFree gr x.base (x.base + x.size) n, b with
      | some c, some y => some (min c y)
      | some c, none => some c
      | none, b' => b') none
  | .nobody => none

/-- Staging can be reserved for a write (11 R289, 16 R433). -/
def State.stagingFree (s : State) (w : Write) : Bool :=
  decide (s.media.staged + totalSlots w.len w.xpe ≤ s.objN (okey 0x2401 3) * 256)

/-- Grants a waiting write: staging and a place are reserved, and XFER_READY is written (12 R330, R331; 11 R289). Grants of a
mast are given in the arrival order of its writes. -/
def State.grant (s : State) (cid : Nat) : State :=
  match s.media.writes.find? (fun w => decide (w.cid = cid ∧ w.phase = .waiting)) with
  | none => s
  | some w =>
    let first := (s.media.writes.find? (fun x => decide (x.mast = w.mast ∧ x.phase = .waiting))).map (·.serial)
    match s.grantPlace w with
    | some g =>
      if first = some w.serial ∧ s.stagingFree w = true then
        let n := totalSlots w.len w.xpe
        let (ch, s1) := s.takePages n
        let gid := s1.media.nextGid
        let s2 := ({ s1 with media := { s1.media with staged := s1.media.staged + n, nextGid := (gid + 1) % 65536 } } : State).showFree
        let w' := { w with phase := .granted, gid := gid, goff := g, ngr := granulesOf w.len, got := [], grantAt := s.now, chans := ch }
        (s2.updWrite w.serial (fun _ => w')).writeEvent w' 0x02 0 g w'.ngr gid
      else s
    | none => s

/-- Granules of a TLP laid into a grant; the last one closes it (12 R331, R332). -/
def State.granules_ (s : State) (w : Write) (off : Nat) (data : List Byte) : State :=
  let o := off - w.goff
  let got := (List.range (data.length / 64)).foldl (fun l i => setInsert (o / 64 + i) l) w.got
  let s1 := s.updWrite w.serial (fun x => { x with data := putBytes x.data o data, got := got })
  if got.length = w.ngr then s1.acceptPoint w.serial else s1

/-- The open grant of an owner in which n bytes at `off` lie wholly, on granule boundaries (12 R331, 13 R365.4). -/
def State.grantAt (s : State) (o : Owner) (off n : Nat) : Option Write :=
  if off % 64 ≠ 0 ∨ n % 64 ≠ 0 ∨ n = 0 then none
  else (s.grants o).find? (fun w => decide (w.goff ≤ off ∧ off + n ≤ w.goff + 64 * w.ngr))

/-- A posted write that matches nothing: Unsupported Request with its header logged, CONDITION, counted (13 R365.4). -/
def State.unmatched (s : State) (f : Fn) (off n rid : Nat) : State :=
  ((s.aerError f 0 (some (rid, off, n))).count (epCounter f.ep 2)).condition 0x0005 4 (aqn f) off

/-- Where n bytes at `off` of a KIND 1 or 2 window lie in the engine's shared window, while the engine is assigned to the function
and its window holds them (13 R365, 15 R417; notes/assumptions/25.md). -/
def State.windowPlace (s : State) (f : Fn) (w : PeerWin) (off n : Nat) : Option Nat :=
  let a := w.toff + (off - w.base)
  if s.engineOf f w.eng ∧ a + n ≤ s.engineWindow w.eng then some a else none

/-- A grant that the grant time-out finds open ends (12 R332). -/
def State.grantExpires (s : State) (w : Write) : State :=
  if w.phase = .granted ∧ w.got.length < w.ngr ∧ w.grantAt + ms (s.objN (okey 0x2280 3)) ≤ s.now then (s.count (okey 0x5420 5)).failOne stGrantTimeout w else s
/-- Every grant whose time-out has passed ends (00 R22). -/
def State.grantsExpire (s : State) : State := forEach s.media.writes (fun w a => a.grantExpires w) s

/-- A posted write to BAR2 (13 R365): true when it is applied. Host writes to a shared window are dropped and counted while a
segment runs (15 R417). -/
def State.bar2Write (s : State) (f : Fn) (off rid : Nat) (data : List Byte) : State × Bool :=
  match (s.fnr f).match_ f off data.length rid with
  | none => (s, false)
  | some w =>
    if w.kind = 0 then
      match s.grantAt (.fn f) off data.length with
      | some g => (s.granules_ g off data, true)
      | none => (s, false)
    else if w.kind = 1 then
      match s.windowPlace f w off data.length with
      | some a =>
        let en := s.engine w.eng
        if en.seg.isSome then (s.count (okey 0x5426 2), false)
        else (s.writeWindow w.eng a data, true)
      | none => (s, false)
    else (s, false)

/-- The start-up sequence has passed step 6, outside the recovery state (19 R514). -/
def State.epMayTrain (s : State) : Bool := decide (7 ≤ s.objN (okey 0x2100 3)) && !s.boot.inReset && !s.boot.recovery

/-- A function that exists in D0 and whose endpoint is out of reset and has passed start-up's step 6: the PF, or an enabled VF
(13 R350, R359, R367; 19 R514). -/
def State.fnThere (s : State) (f : Fn) : Bool :=
  s.epMayTrain && !s.epInReset f.ep && !(s.ep f.ep).d3hot.contains f.fn && (decide (f.fn = 0) || ((s.ep f.ep).vfEnable && decide (f.fn ≤ (s.ep f.ep).numVFs)))

/-- The commit of a function's peer windows (13 R365, R366). -/
def State.windowCommit (s : State) (f : Fn) : State :=
  let r := s.fnr f
  if !s.shadowOk f then (s.setFnr f { r with wstsFail := true }).condition 0x0004 4 (aqn f) f.fn
  else
    let s1 := s.setFnr f { r with force := r.shadow, wstsFail := false, wstsCount := (r.wstsCount + 1) % 256 }
    let moved : Write → Bool := fun g =>
      !((r.windows f).any (fun p => decide (p.2.kind = 0 ∧ p.2.base ≤ g.goff ∧ g.goff + 64 * g.ngr ≤ p.2.base + p.2.size) &&
        decide (r.shadowAt f p.1 = p.2)))
    forEach ((s.grants (.fn f)).filter moved) (fun g a => a.failOne stWindowChanged g) s1

/-! ## Rows -/

/-- STAGING_GRANT (12 R330). -/
def execStagingGrant (t cid : Nat) (s : State) : Res := .next ((s.at_ t).grant cid)

/-- GRANT_TIMEOUT (12 R332). -/
def execGrantTimeout (t cid : Nat) (s : State) : Res :=
  let s0 := s.at_ t
  match s0.media.writes.find? (fun w => decide (w.cid = cid ∧ w.phase = .granted)) with
  | some w => .next (s0.grantExpires w)
  | none => .next s0

/-- APERTURE_WRITE (13 R365). -/
def execApertureWrite (t : Nat) (f : Fn) (off : Nat) (data : List Byte) (rid : Nat) (poisoned : Bool) (s : State) : Res :=
  let s0 := s.at_ t
  if !s0.fnThere f then .next s0
  else if poisoned then .next (s0.aerError f 1 (some (rid, off, data.length)))
  else
    let (s1, ok) := s0.grantsExpire.bar2Write f off rid data
    .next (if ok then s1 else s1.unmatched f off data.length rid)

/-- APERTURE_READ (13 R365.5). A failed granule of the window answers with CA (16 R434, Table 16.3); of the fault operand each granule takes
three. Before the fill nothing is read (R430). -/
def execApertureRead (t : Nat) (f : Fn) (off len rid : Nat) (flips : List Granule) (s : State) : Res :=
  let s0 := s.at_ t
  if !s0.fnThere f then .next s0
  else if s0.boot.filling then .next (s0.tlp f.ep (.cplUR f))
  else match (s0.fnr f).match_ f off len rid with
  | none => .next (s0.tlp f.ep (.cplUR f))
  | some w =>
    if w.kind = 0 then .next (s0.tlp f.ep (.cplUR f))
    else match s0.windowPlace f w off len with
    | none => .next (s0.tlp f.ep (.cplUR f))
    | some a =>
      let en := s0.engine w.eng
      let gs := (List.range ((a + len - 1) / 32 + 1 - a / 32)).map (fun i => s0.windowGranule w.eng (32 * (a / 32 + i)))
      let s1 := forEach gs.zipIdx (fun g b => b.memoryRead g.1.1 g.1.2 (flips.drop (3 * g.2))) s0
      if gs.zipIdx.any (fun g => s0.granuleFails g.1.1 g.1.2 (flips.drop (3 * g.2))) then .next (s1.tlp f.ep (.cplCA f))
      else .next (s1.tlp f.ep (.cplData f (bytesAt en.window a len)))

/-- WINDOW_COMMIT (13 R365): a write of WCOMMIT; only a write of 1 commits, other values set reserved bits and are dropped. -/
def execWindowCommit (t : Nat) (f : Fn) (v : Nat) (s : State) : Res :=
  let s0 := s.at_ t
  if !s0.fnThere f then .next s0
  else if v = 1 then .next (s0.windowCommit f)
  else if v = 0 then .next s0
  else .next ((s0.count (epCounter f.ep 1)).conditionTo (.fn f) 0x0003 4 (aqn f) 0x600)

end Sys2Proof.Machine
end

