-- ==== Sys2Proof/Machine/Gorcy.lean ====
section
/-! DEFINITION. The Gorcy link layer (14.3 to 14.5), time (14.7), leases in HELLOs (14.8), and the rows of the link layer. -/
namespace Sys2Proof
open Sys2Proof.Machine

/-- The bytes a packet's CRC-32C covers, and whether the CRC and the lengths agree (14 R378, R379). -/
def GPacket.intact (k : GPacket) : Bool :=
  let len := hf k.header 108 96
  decide (k.payload.length = (len + 7) / 8 * 8) &&
    decide (crc32c (leBytes 64 k.header.toNat ++ k.payload) = k.crc.toNat)
/-- The payload without its padding. -/
def GPacket.body (k : GPacket) : List Byte := k.payload.take (hf k.header 108 96)
/-- Fields of a header (14 Table 14.2). -/
def GPacket.type (k : GPacket) : Nat := hf k.header 7 0
def GPacket.src (k : GPacket) : Nat := hf k.header 52 42
def GPacket.dst (k : GPacket) : Nat := hf k.header 63 53
def GPacket.xid (k : GPacket) : Nat := hf k.header 95 64
def GPacket.epoch (k : GPacket) : Nat := hf k.header 191 128
/-- TSF bits hi..lo, counted from bit 192 (14 Table 14.3). -/
def GPacket.tsf (k : GPacket) (hi lo : Nat) : Nat := hf k.header (192 + hi) (192 + lo)

end Sys2Proof

namespace Sys2Proof.Machine

/-! ## Link layer -/

/-- The rig that 14 R374 places behind port p. -/
def State.rigBehind (s : State) (p : Nat) : Nat :=
  let nx := s.objN (okey 0x2300 2)
  let ny := s.objN (okey 0x2300 3)
  let x := s.addr % 32
  let y := s.addr / 32
  match p with
  | 0 => 32 * y + (x + 1) % nx
  | 1 => 32 * y + (x + nx - 1) % nx
  | 2 => 32 * ((y + 1) % ny) + x
  | _ => 32 * ((y + ny - 1) % ny) + x

/-- Sends an LCTL with the cumulative ACK and credits (14 R380, R382). -/
def State.sendLctl (s : State) (p : Nat) (nak : Bool) : State :=
  let po := s.port p
  let credits := (po.freed.zipIdx.map (fun c => c.1 % 65536 * 2 ^ (16 * c.2))).foldl (· + ·) 0
  let tsf := (po.expect + 4095) % 4096 + (if nak then 4096 else 0) + credits * 2 ^ 16
  (s.setPort p { po with owed := 0 }).emitPacket p (s.mkHeader 0x02 0 (s.rigBehind p) 0 0 tsf) []

/-- A packet or block discarded at the link: counted, and answered with a NAK (14 R379, R380). -/
def State.corrupted (s : State) (p : Nat) : State :=
  let s1 := s.count (okey 0x5428 (p + 1))
  if s1.objN (okey 0x2301 (p + 1)) < 2 then s1 else s1.sendLctl p true

/-- Sends stalled packets as far as credits and the replay window allow (14 R380, R382); an LCTL returns the input buffers they leave. -/
def State.unstall (s : State) (p : Nat) : State :=
  let po := s.port p
  let s1 := forEach po.stalled (fun u a => a.linkSend p u) (s.setPort p { po with stalled := [] })
  forEach ((List.range 4).filter (fun q => decide ((s1.port q).freed ≠ (s.port q).freed) && s1.portUp q)) (fun q a => a.sendLctl q false) s1

/-- The port trains again after an eighth replay: a failure of each of its lanes (14 R381). -/
def State.replayFails (s : State) (p : Nat) : State :=
  let po := s.port p
  let s1 := if po.lane0 then s.failGorcyLane p 0 else s
  let s2 := if po.lane1 then s1.failGorcyLane p 1 else s1
  if s2.objN (okey 0x2301 (p + 1)) < 2 then s2 else s2.portOff p

/-- Replays every unacknowledged packet in LSEQ order (14 R381); a miswired port carries none (R385). -/
def State.replay (s : State) (p : Nat) : State :=
  let po := s.port p
  if !s.portUp p then s else
  let l := po.unacked.map (fun u => { u with replays := u.replays + 1, sentAt := s.now })
  let s1 := forEach l (fun u a => (a.emitPacket p u.header u.payload).count (okey 0x5428 (5 + p)))
    (s.setPort p { po with unacked := l })
  if l.any (fun u => decide (u.replays ≥ 8)) then s1.replayFails p else s1

/-- The oldest unacknowledged packet of a port has waited 20 µs (14 R381). -/
def State.replayDue (s : State) (p : Nat) : State := match (s.port p).unacked with
  | [] => s
  | u :: _ => if u.sentAt + 20000 ≤ s.now then s.replay p else s

/-- An LCTL arrives (14 R380 to R382). -/
def State.lctlIn (s : State) (p : Nat) (k : GPacket) : State :=
  let po := s.port p
  let ack := k.tsf 11 0
  let left := po.unacked.filter (fun u => !decide ((ack + 4096 - u.lseq) % 4096 < 2048))
  let lim := (List.range 4).map (fun i => k.tsf (31 + 16 * i) (16 + 16 * i))
  let s1 := s.setPort p { po with unacked := left, limit := lim }
  if k.tsf 12 12 = 1 then (s1.replay p).unstall p else s1.unstall p

/-- Notes a peer's epoch; a difference from the rig's own raises a FABRIC event once for each peer and epoch (14 R386). -/
def State.noteEpoch (s : State) (a e : Nat) : State :=
  let s1 := { s with fabric := { s.fabric with epochs := tblPut (fun _ => 0) a (e + 1) s.fabric.epochs } }
  if e = s.epoch ∨ s.fabric.reported.contains (a, e) = true then s1
  else ({ s1 with fabric := { s1.fabric with reported := s1.fabric.reported ++ [(a, e)] } }).fabricEvent a stEpochMismatch none

/-- An address is that of a neighbour whose HELLO is known (14 R386). -/
def State.isNeighbour (s : State) (a : Nat) : Bool :=
  (List.range 4).any (fun p => decide ((s.port p).nSrc = a) && (s.port p).helloAt.isSome)

/-- A peer's queues are released (14 R395): its commands settle as DELETE_SQ settles them. -/
def State.releasePeer (s : State) (x : Peer) : State :=
  let s1 := (s.deleteSq x.q).setEq x.eq {}
  (({ s1 with fabric := { s1.fabric with peers := s1.fabric.peers.filter (fun p => p.addr ≠ x.addr) } }).showQueues).count
    (okey 0x5428 24)

/-- The pair that a peer holds. -/
def State.peerOf (s : State) (a : Nat) : Option Peer := s.fabric.peers.find? (fun p => p.addr = a)

/-- A peer's queues are released when nothing has come from it for the peer idle limit (14 R395). -/
def State.peerIdle (s : State) (a : Nat) : State :=
  match s.peerOf a with
  | some x => if x.lastAt + ms (s.objN (okey 0x2300 5)) ≤ s.now then s.releasePeer x else s
  | none => s

/-- An intact packet in sequence is accepted (14 R380, R382, R385): every sixteenth is acknowledged. One for this rig leaves its input
buffer, and shows that its peer lives, unless its idle limit has passed (00 R22), and, unless it is a neighbour's, its epoch. -/
def State.linkAccept (s : State) (p : Nat) (k : GPacket) : State :=
  let po := s.port p
  let po' := { po with expect := (po.expect + 1) % 4096, owed := po.owed + 1, owedAt := if po.owed = 0 then s.now else po.owedAt }
  let s0 := s.setPort p po'
  let s1 := if k.dst = s.addr then s0.freeInput k.header (some (p, vcIndex k.header)) else s0
  let s2 := if po'.owed ≥ 16 then s1.sendLctl p false else s1
  let a := k.src
  if k.dst = s.addr then
    let s2 := s2.peerIdle a
    let s3 := { s2 with fabric := { s2.fabric with
      peers := s2.fabric.peers.map (fun (x : Peer) => if x.addr = a then { x with lastAt := s2.now } else x) } }
    if s3.isNeighbour a then s3 else s3.noteEpoch a k.epoch
  else s2

/-- A request or response packet arrives on a link (14 R380, R385): the state after it, and whether it is accepted. -/
def State.linkTake (s : State) (p : Nat) (k : GPacket) : State × Bool :=
  if 4 ≤ p ∨ !s.portUp p then (s, false)
  else if !k.intact then (s.corrupted p, false)
  else
    let po := s.port p
    let seq := hf k.header 31 20
    if seq = po.expect then (s.linkAccept p k, true)
    else if (po.expect + 4096 - seq) % 4096 < 2048 then (s, false)
    else (s.sendLctl p true, false)

/-- Reserved fields of TSF, as bits of the header (14 Tables 14.2, 14.3), by TYPE and LEN; none of a TYPE that is itself reserved. -/
def tsfReserved (ty len : Nat) : List (Nat × Nat) := match ty with
  | 0x10 | 0x11 => [(511, 192)]
  | 0x12 => [(511, 208)]
  | 0x20 => [(511, 288)]
  | 0x21 => [(511, 256)]
  | 0x22 => [(511, 288)]
  | 0x30 => [(319, 268), (511, 384)]
  | 0x31 => if len = 0 then [(511, 208)] else []
  | _ => []

/-- A header with its reserved bits zero, as every sender sends them (00 R27). -/
def clearReserved (h : BitVec 512) : BitVec 512 :=
  ([(111, 109), (17, 8)] ++ tsfReserved (hf h 7 0) (hf h 108 96)).foldl (fun (a : BitVec 512) (r : Nat × Nat) => hfSet a r.1 r.2 0) h

/-- Forwards an accepted packet for another rig (14 R375 to R377), its reserved bits zero (00 R27): it stays in its input buffer until
credit lets it go. -/
def State.forward (s : State) (p : Nat) (k : GPacket) : State :=
  let buf := some (p, vcIndex k.header)
  if !s.addrValid k.dst then (s.count (okey 0x5428 17)).freeInput k.header buf
  else
    let h := hf k.header 41 35 + 1
    if h ≥ 127 then (s.count (okey 0x5428 18)).freeInput k.header buf
    else s.fabricPass (p / 2) (clearReserved (hfSet k.header 41 35 h)) k.payload buf

/-- A packet of type `ty` that must be for this rig: `f` takes it once accepted; one for another rig is forwarded, another type is
not this event. -/
def State.packetFor (s : State) (p ty : Nat) (k : GPacket) (f : State → State) : State :=
  if k.type ≠ ty then s
  else
    let (s1, ok) := s.linkTake p k
    if !ok then s1 else if k.dst = s1.addr then f s1 else s1.forward p k

/-! ## Time (14.7) -/

/-- The rig becomes time-unsure (14 R391). -/
def State.enterUnsure (s : State) : State :=
  if s.fabric.timeUnsure then s
  else ((({ s with fabric := { s.fabric with timeUnsure := true } }).count (okey 0x5428 22)).fabricEvent s.addr 0 none).chooseRoot

/-- A follower has had no valid measurement of its parent for 1 s (14 R391). -/
def State.parentTimeout (s : State) : State :=
  if s.objN (okey 0x2302 4) ≠ 255 ∧ s.fabric.parentAt + sec 1 ≤ s.now then s.enterUnsure else s

/-- The rig leaves the state once 16 measurements of every such neighbour agree and a follower's parent is measured (14 R391). -/
def State.leaveUnsure (s : State) : State :=
  let ns := (List.range 4).filter s.timeNeighbour
  let parent := s.objN (okey 0x2302 4)
  if s.fabric.timeUnsure ∧ ns.all (fun p => decide (16 ≤ (s.port p).good)) = true ∧
      (parent = 255 ∨ (match (s.port parent).measuredAt with
        | some a => decide (s.now < a + sec 1)
        | none => false) = true) then
    ({ s with fabric := { s.fabric with timeUnsure := false } }).chooseRoot
  else s

/-- Steers rig time toward an offset: the slew in use, and once before the first ready the step itself (14 R390). -/
def State.steer (s : State) (theta : Int) : State :=
  let sl := clampI (theta * 500) (-200000) 200000
  let s1 := s.setObj (okey 0x2302 6) sl
  if !s1.boot.wasReady && !s1.fabric.stepped then
    { s1 with now := ((s1.now : Int) + theta).toNat, fabric := { s1.fabric with stepped := true } }
  else s1

/-- Offset and delay of a HELLO with ECHO (14 R388), as int64. -/
def helloOffset (t1 t2 t3 t4 : Int) : Int × Int :=
  ((divf (wrapS ((t2 - t1) + (t3 - t4)) 64) 2).1, (divf (wrapS ((t4 - t1) - (t3 - t2)) 64) 2).1)

/-- A measurement by the HELLO of port p (14 R388 to R391). -/
def State.measure (s : State) (p : Nat) (t1 t2 t3 : Nat) : State :=
  let (theta, delta) := helloOffset t1 t2 t3 s.now
  if t1 = 0 ∨ wrapS ((s.now : Int) - t1) 64 ≥ 4000000 ∨ delta < 0 then s
  else
    let po := s.port p
    let far := decide (1000 < theta.natAbs)
    let po' := if s.timeNeighbour p then
        { po with measuredAt := some s.now, bad := if far then po.bad + 1 else 0, good := if far then 0 else po.good + 1 }
      else { po with measuredAt := some s.now }
    let s1 := s.setPort p po'
    let s2 := if s1.objN (okey 0x2302 4) = p then
        (({ s1 with fabric := { s1.fabric with parentAt := s1.now } }).setObj (okey 0x2302 5) (sat theta 32)).steer theta
      else s1
    if s2.timeNeighbour p ∧ po'.bad ≥ 3 then s2.enterUnsure else s2.leaveUnsure

/-! ## Lease entries (14.8) -/

/-- The rig's own claims: (disc, epoch) of every mast with a lease epoch (14 R392, R393). -/
def State.ownClaims (s : State) : List (Nat × Nat) :=
  ((List.range 32).filter (fun m => decide (s.moN m 0x56 2 ≠ 0 ∧ s.moN m 0x56 1 ≠ 0))).map (fun m => (s.moN m 0x56 1, s.moN m 0x56 2))

/-- Entries of the lease table, the rig's own claims among them: one per disc (14 R393). -/
def State.leaseCount (s : State) : Nat :=
  (s.fabric.leases.map (fun x => x.disc) ++ s.ownClaims.map (fun c => c.1)).eraseDups.length

/-- Shows the number of lease entries held, 2303:01. -/
def State.showLeases (s : State) : State := s.setObj (okey 0x2303 1) (s.leaseCount : Nat)

/-- A lease entry that no neighbour has carried for LAGE leaves (14 R393). -/
def State.leaseAges (s : State) (disc : Nat) : State :=
  match s.fabric.leases.find? (fun x => x.disc = disc) with
  | some x =>
    if x.carried + sec (s.objN (okey 0x2303 2)) ≤ s.now then
      ({ s with fabric := { s.fabric with leases := s.fabric.leases.filter (fun y => y.disc ≠ disc) } }).showLeases
    else s
  | none => s

/-- Entry of least lease epoch. -/
def leastEpoch (l : List Lease) : Option Lease :=
  l.foldl (fun (b : Option Lease) x => match b with
    | some y => if x.epoch < y.epoch then some x else some y
    | none => some x) none

/-- A lease entry carried by a neighbour (14 R392 to R394). -/
def State.leaseIn (s : State) (disc epoch holder : Nat) : State :=
  let l := s.fabric.leases
  let e : Lease := ⟨disc, epoch, holder, s.now⟩
  let l' := match l.find? (fun x => x.disc = disc) with
    | some x =>
      if leaseBeats e disc x.epoch x.holder then l.map (fun y => if y.disc = disc then e else y)
      else if x.epoch = epoch ∧ x.holder = holder then l.map (fun y => if y.disc = disc then { y with carried := s.now } else y)
      else l
    | none =>
      if s.leaseCount < 65536 then l ++ [e]
      else match leastEpoch l with
        | some z => l.filter (fun y => y.disc ≠ z.disc) ++ [e]
        | none => [e]
  let s1 : State := ({ s with fabric := { s.fabric with leases := l' } } : State).showLeases
  let beaten : List Nat := (List.range 32).filter (fun m => decide (s1.moN m 0x56 3 = 1) &&
    leaseBeats e (s1.moN m 0x56 1) (s1.moN m 0x56 2) s1.addr)
  let s2 := if l.map (fun y => (y.disc, y.epoch, y.holder)) = l'.map (fun y => (y.disc, y.epoch, y.holder)) then s1 else s1.oweHello
  forEach beaten (fun m a => a.leaseStale m) s2

/-! ## HELLO -/

/-- Field of a HELLO payload: n bytes at i (14 Table 14.4). -/
def helloField (b : List Byte) (i n : Nat) : Nat := leNat ((b.drop i).take n)

/-- A HELLO is well formed (14 R379, Table 14.4). -/
def helloOk (b : List Byte) : Bool :=
  let n := helloField b 32 1
  decide (n ≤ 16 ∧ b.length = 64 + 32 * n ∧ helloField b 31 1 < 4)

/-- The port comes up on its lanes with sequence and credits from 0 once a HELLO has passed each way (14 Table 14.4a). -/
def State.portOn (s : State) (p : Nat) : State :=
  let po := s.port p
  if s.objN (okey 0x2301 (p + 1)) = 1 ∧ po.helloAt.isSome = true ∧ po.helloSentAt.isSome = true ∧ (po.lane0 || po.lane1) = true then
    let s1 := s.setPort p { po with
      t0 := none, sendSeq := 0, expect := 0, unacked := [], stalled := [], used := [0, 0, 0, 0]
      limit := [0, 0, 0, 0], freed := [0, 0, 0, 0], owed := 0 }
    (s1.setObj (okey 0x2301 (p + 1)) 2).showPort p
  else s

/-- The neighbour is not the one placed behind the port, or reports another torus or port (14 R385). -/
def State.wrongNeighbour (s : State) (p src : Nat) (b : List Byte) : Bool :=
  decide (src ≠ s.rigBehind p ∨ helloField b 24 1 ≠ s.objN (okey 0x2300 2) ∨ helloField b 25 1 ≠ s.objN (okey 0x2300 3) ∨
    helloField b 31 1 ≠ p ^^^ 1)

/-- Whether the port is miswired, counted and reported when it becomes so (14 R385). -/
def State.wiring (s : State) (p src : Nat) (b : List Byte) : State :=
  let bad := s.wrongNeighbour p src b
  let po := s.port p
  let s1 := (s.setPort p { po with miswired := bad }).showPort p
  if bad && !po.miswired then (s1.count (okey 0x5428 21)).fabricEvent src 0 none
  else if !bad && po.miswired then s1.unstall p
  else s1

/-- A valid HELLO arrives on port p (14 R384 to R394). -/
def State.helloIn (s : State) (p : Nat) (k : GPacket) : State :=
  let b := k.body
  let src := k.src
  let s1 := s.setPort p { s.port p with
    helloAt := some s.now, nTSend := helloField b 0 8, nSrc := src, nEpoch := k.epoch, nFlags := helloField b 26 1
    nRank := helloField b 27 1, nRoot := helloField b 28 2, nDist := helloField b 30 1 }
  let s2 := (((s1.portOn p).wiring p src b).noteEpoch src k.epoch).chooseRoot
  let s3 := if k.epoch = s2.epoch then s2.measure p (helloField b 8 8) (helloField b 16 8) (helloField b 0 8) else s2
  forEach (List.range (helloField b 32 1)) (fun i a =>
    let o := 64 + 32 * i
    (a.leaseAges (helloField b o 8)).leaseIn (helloField b o 8) (helloField b (o + 8) 8) (helloField b (o + 16) 2 % 2048)) s3

/-- The lease table (14 R393): the best claim known of each disc, as (disc, epoch, holder). -/
def State.leaseTable (s : State) : List (Nat × Nat × Nat) :=
  let own := s.ownClaims.map (fun c => (c.1, c.2, s.addr))
  own.filter (fun c => !s.fabric.leases.any (fun x => leaseBeats x c.1 c.2.1 c.2.2)) ++
    (s.fabric.leases.filter (fun x => !own.any (fun c => decide (c.1 = x.disc) && !leaseBeats x c.1 c.2.1 c.2.2))).map
      (fun x => (x.disc, x.epoch, x.holder))

/-- Lease entries that a HELLO carries next (14 R393): those changed since they were last carried, then the others in rotation. -/
def State.helloLeases (s : State) : List (Nat × Nat × Nat) :=
  let news := s.leaseTable.filter (fun x => !s.fabric.leaseSent.contains x)
  let olds := s.leaseTable.filter (fun x => s.fabric.leaseSent.contains x)
  let k := min (16 - news.length) olds.length
  news.take 16 ++ (List.range k).filterMap (fun i => olds[(s.fabric.leaseRot + i) % olds.length]?)

/-- The entries of a HELLO have been carried: the rotation goes on after them (14 R393). -/
def State.leasesCarried (s : State) : State :=
  let l := s.helloLeases
  { s with fabric := { s.fabric with
    leaseSent := s.leaseTable.filter (fun x => s.fabric.leaseSent.contains x || l.contains x)
    leaseRot := (s.fabric.leaseRot + l.length) % (s.leaseTable.length + 1) } }

/-- Payload of the HELLO sent on port p (14 Table 14.4). -/
def State.helloPayload (s : State) (p : Nat) (leases : List (Nat × Nat × Nat)) : List Byte :=
  let po := s.port p
  leBytes 8 s.now ++ leBytes 8 (if po.helloAt.isSome then po.nTSend else 0) ++ leBytes 8 (po.helloAt.getD 0) ++
    leBytes 1 (s.objN (okey 0x2300 2)) ++ leBytes 1 (s.objN (okey 0x2300 3)) ++ leBytes 1 s.tflags ++ leBytes 1 s.fabric.rank ++
    leBytes 2 s.fabric.root ++ leBytes 1 s.fabric.dist ++ leBytes 1 p ++ leBytes 1 leases.length ++ leBytes 31 0 ++
    leases.flatMap (fun e => leBytes 8 e.1 ++ leBytes 8 e.2.1 ++ leBytes 2 e.2.2 ++ leBytes 14 0)

/-- Sends a HELLO on port p; less than 10 µs after the last, or before the receivers have adapted in training, it stays owed (14 R383,
R384; notes/assumptions/171.md). -/
def State.helloOut (s : State) (p : Nat) : State :=
  let po := s.port p
  let st := s.objN (okey 0x2301 (p + 1))
  let soon := match po.helloSentAt with
    | some a => decide (s.now < a + 10000)
    | none => false
  let early := match po.t0 with
    | some a => decide (s.now < a + ms 1)
    | none => true
  if st = 0 then s
  else if (st = 1 ∧ early = true) ∨ soon = true then s.setPort p { po with helloOwed := true }
  else
    let pay := s.helloPayload p s.helloLeases
    ((s.setPort p { po with helloSentAt := some s.now, helloOwed := false }).emitPacket p
      (s.mkHeader 0x01 0 (s.rigBehind p) 0 pay.length 0) pay).portOn p

/-- HELLOs that are owed leave, where 10 µs have passed since the last on their port (14 R384). -/
def State.helloFlush (s : State) : State :=
  let due := (List.range 4).filter (fun p => (s.port p).helloOwed)
  if due = [] then s else (forEach due (fun p a => a.helloOut p) s).leasesCarried

/-! ## Ports -/

/-- Signal is detected on a port in training: t0 (14 R383), 10 ms of PRBS13Q after a training that failed. Idle pairs are sent, and a pair
of markers by which the neighbour deskews the lanes. -/
def State.portSignal (s : State) (p : Nat) : State :=
  let k := okey 0x2301 (p + 1)
  let r := s.objN (okey 0x2301 (5 + p))
  if s.objN k = 1 ∧ (s.port p).t0 = none ∧ (s.port p).prbsUntil ≤ s.now then
    ((s.setPort p { s.port p with
      t0 := some s.now, lane0 := !r.testBit 0, lane1 := !r.testBit 1, lane0Down := none, lane1Down := none
      helloAt := none, helloSentAt := none }).sendPair p .idle).sendPair p .marker
  else s

/-- A lane of a port. -/
def Port.lane (po : Port) (l : Nat) : Bool := if l = 0 then po.lane0 else po.lane1
def Port.laneDown (po : Port) (l : Nat) : Option Nat := if l = 0 then po.lane0Down else po.lane1Down
def Port.setLane (po : Port) (l : Nat) (up : Bool) (down : Option Nat) : Port :=
  if l = 0 then { po with lane0 := up, lane0Down := down } else { po with lane1 := up, lane1Down := down }

/-- A lane of a port goes down: one failure (14 R373); in training, a lane not locked is failed (Table 14.4a). -/
def State.gorcyLaneDown (s : State) (p l : Nat) : State :=
  let po := s.port p
  if !po.lane l then s else (((s.setPort p (po.setLane l false (some s.now))).showPort p).failGorcyLane p l)

/-- Cleared lanes of a port train again (14 R373, 18 Table 18.2): at once with the port's training, else as lanes to re-acquire. -/
def State.gorcyLanesCleared (s : State) (p : Nat) (lanes : List Nat) : State :=
  let s1 := forEach lanes (fun l a => a.forgetFailures .gorcyLane p l) s
  let st := s1.objN (okey 0x2301 (p + 1))
  if !s1.boot.ready then s1
  else if st = 0 then s1.portOff p
  else forEach lanes (fun l a => a.setPort p ((a.port p).setLane l false (some a.now))) s1

/-! ## Rows of the link layer -/

/-- Runs a change of one of the four ports. -/
def onPort (p : Nat) (s : State) (f : State → State) : State := if p < 4 then f s else s

/-- A port is not up 20 ms after its signal (14 R383): counted, and 10 ms of PRBS13Q come before the next (notes/assumptions/72.md). -/
def State.portTimeout (s : State) (p : Nat) : State :=
  match (s.port p).t0 with
  | some t0 =>
    if s.objN (okey 0x2301 (p + 1)) = 1 ∧ t0 + ms 20 ≤ s.now then
      let po := s.port p
      (s.setPort p { po with restarts := po.restarts + 1, prbsUntil := s.now + ms 10 }).portOff p
    else s
  | none => s

/-- HELLO (14 R388): what has timed out by then comes first (00 R22). -/
def execHello (t port : Nat) (pkt : GPacket) (s : State) : Res :=
  .next (onPort port (s.at_ t) (fun c =>
    let a := if pkt.type = 0x01 then (c.portTimeout port).parentTimeout else c
    if pkt.type ≠ 0x01 ∨ a.objN (okey 0x2301 (port + 1)) = 0 then a
    else if !pkt.intact || !helloOk pkt.body then a.corrupted port
    else (a.helloIn port pkt).helloFlush))

/-- LCTL (14 R380). -/
def execLctl (t port : Nat) (pkt : GPacket) (s : State) : Res :=
  .next (onPort port (s.at_ t) (fun a =>
    if pkt.type ≠ 0x02 ∨ a.objN (okey 0x2301 (port + 1)) < 2 then a
    else if !pkt.intact || decide (pkt.payload ≠ []) then a.corrupted port
    else (a.replayDue port).lctlIn port pkt))

/-- PACKET_FORWARD (14 R375). -/
def execPacketForward (t port : Nat) (pkt : GPacket) (s : State) : Res :=
  let (s1, ok) := (s.at_ t).linkTake port pkt
  .next (if ok = true ∧ pkt.dst ≠ s1.addr then s1.forward port pkt else s1)

/-- The packet types of 14 Table 14.3. -/
def gorcyTypes : List Nat := [0x01, 0x02, 0x10, 0x11, 0x12, 0x20, 0x21, 0x22, 0x30, 0x31]

/-- TYPE_DISCARD (14 R379): every type of the table belongs to level 1, so only a reserved TYPE is discarded. -/
def execTypeDiscard (t port : Nat) (pkt : GPacket) (s : State) : Res :=
  let s0 := s.at_ t
  .next (if gorcyTypes.contains pkt.type then s0
    else
      let (s1, ok) := s0.linkTake port pkt
      if !ok then s1 else if pkt.dst = s1.addr then s1.count (okey 0x5428 20) else s1.forward port pkt)

/-- CORRUPTED_PACKET (14 R380). -/
def execCorruptedPacket (t port : Nat) (s : State) : Res := .next (onPort port (s.at_ t) (fun a => a.corrupted port))

/-- REPLAY_TIMEOUT (14 R381). -/
def execReplayTimeout (t port : Nat) (s : State) : Res :=
  .next (onPort port (s.at_ t) (fun a => a.replayDue port))

/-- ACK_TIMER (14 R380). -/
def execAckTimer (t port : Nat) (s : State) : Res :=
  .next (onPort port (s.at_ t) (fun a => if (a.port port).owed = 0 then a else a.sendLctl port false))

/-- HELLO_TIMER (14 R384). -/
def execHelloTimer (t : Nat) (s : State) : Res :=
  let s0 := s.at_ t
  .next s0.oweHello.helloFlush

/-- PORT_SIGNAL_DETECT (14 R383). -/
def execPortSignalDetect (t port : Nat) (s : State) : Res := .next (onPort port (s.at_ t) (fun a => a.portSignal port))

/-- PORT_TRAINING_TIMEOUT (14 R383). -/
def execPortTrainingTimeout (t port : Nat) (s : State) : Res :=
  .next (onPort port (s.at_ t) (fun a => (a.portTimeout port).helloFlush))

/-- GORCY_LANE_DOWN (14 R373). -/
def execGorcyLaneDown (t port lane : Nat) (s : State) : Res :=
  .next (onPort port (s.at_ t) (fun a => if lane < 2 then (a.gorcyLaneDown port lane).helloFlush else a))

/-- GORCY_LANE_REACQUIRED (14 R373); at or after the end of its 2 ms the lane is retired (00 R22). -/
def execGorcyLaneReacquired (t port lane : Nat) (s : State) : Res :=
  .next (onPort port (s.at_ t) (fun a =>
    let po := a.port port
    let late := match po.laneDown lane with
      | some d => decide (d + ms 2 ≤ a.now)
      | none => false
    if 2 ≤ lane ∨ (po.laneDown lane).isNone = true ∨ a.objN (okey 0x2301 (port + 1)) < 2 then a
    else if late then a.retireGorcyLane port lane
    else (a.setPort port (po.setLane lane true none)).showPort port))

/-- GORCY_LANE_REACQUIRE_TIMEOUT (14 R373). -/
def execGorcyLaneReacquireTimeout (t port lane : Nat) (s : State) : Res :=
  .next (onPort port (s.at_ t) (fun a => match (a.port port).laneDown lane with
    | some d => if lane < 2 ∧ d + ms 2 ≤ a.now then (a.retireGorcyLane port lane).helloFlush else a
    | none => a))

/-- TIME_PARENT_TIMEOUT (14 R391). -/
def execTimeParentTimeout (t : Nat) (s : State) : Res :=
  let s0 := s.at_ t
  .next s0.parentTimeout.helloFlush

/-- LEASE_AGE_EXPIRY (14 R393). -/
def execLeaseAgeExpiry (t disc : Nat) (s : State) : Res :=
  let s0 := s.at_ t
  .next (s0.leaseAges disc)

end Sys2Proof.Machine
end

