-- ==== Sys2Proof/Machine/Peers.lean ====
section
/-! DEFINITION. Peers (14.9): their queues, command and event packets, remote writes and fences; cross-rig copies and replica fetches
(14.10). -/
namespace Sys2Proof.Machine

/-! ## Peer queues (12 R318, R319; 14 R395) -/

/-- First number of queues that commands create: those below are admin pair numbers (12 R318, 13 Table 13.5). -/
def firstQueue : Nat := 130

/-- The lowest free SQ and EQ numbers. -/
def State.freeSq (s : State) : Option Nat :=
  ((List.range 3966).map (· + firstQueue)).find? (fun q => decide ((s.sq q).owner = .nobody))
def State.freeEq (s : State) : Option Nat :=
  ((List.range 3966).map (· + firstQueue)).find? (fun e => decide ((s.eq e).owner = .nobody))

/-- The refusal of a peer that cannot be given a pair (12 R319): outside its EQ, counted, with its CONDITION. -/
def State.refusePeer (s : State) (a : Nat) (p : Packet) : State :=
  let r := { s.formRec 0x01 4 0 (fld p.toNat 31 16) stNoQueue (fld p.toNat 63 32 * 2 ^ 32) with res := 0 }
  ((s.sendPacket 0x11 1 a 0 (leBytes 32 (recBits r true))).count (okey 0x5420 9)).condition 0x0010 5 a a

/-- Gives a peer its pair (12 R318): an EQ of 256 slots holds its 255 records (14 R395). -/
def State.addPeer (s : State) (a q e : Nat) : State :=
  let s1 := (s.setSq q { owner := .peer a, admin := false, eq := e }).setEq e { owner := .peer a, log := 8 }
  ({ s1 with fabric := { s1.fabric with peers := s1.fabric.peers ++ [({ addr := a, q := q, eq := e, lastAt := s.now } : Peer)] } }).showQueues

/-- A command packet waits at its peer's SQ, with its EPOCH, until it arrives (14 R386). -/
def State.queuePacket (s : State) (q : Nat) (p : Packet) (e : Nat) : State :=
  let x := s.sq q
  s.setSq q { x with fetched := x.fetched ++ [p], epochs := x.epochs ++ [e] }

/-- A CMD from peer a (14 R395). -/
def State.cmdIn (s : State) (a : Nat) (k : GPacket) : State :=
  let p : Packet := BitVec.ofNat 512 (leNat k.body)
  if k.body.length ≠ 64 then s
  else match s.peerOf a with
    | some x => s.queuePacket x.q p k.epoch
    | none =>
      match decide (s.fabric.peers.length < s.objN (okey 0x2280 6)), s.freeSq, s.freeEq with
      | true, some q, some e => (s.addPeer a q e).queuePacket q p k.epoch
      | _, _, _ => s.refusePeer a p

/-- EQ_HEAD from peer a (14 R395, 12 R344): a head that would return slots not yet written is ignored and counted. -/
def State.peerHead (s : State) (a head : Nat) : State :=
  match s.peerOf a with
  | none => s
  | some x =>
    let e := s.eq x.eq
    if head < e.size ∧ (head + e.size - e.head) % e.size ≤ e.used then
      (s.setEq x.eq { e with head := head }).drainEq x.eq (e.waiting.length + 1)
    else s.count (okey 0x5420 2)

/-! ## Remote writes (14 R396, R397) -/

/-- The target of a WRITE_DATA packet (14 R396): the state after it, and whether it is applied. -/
def State.remoteWrite (s : State) (src daddr : Nat) (data : List Byte) : State × Bool :=
  let hi := daddr / 2 ^ 48
  let off := daddr % 2 ^ 48
  if hi ≤ 0x81 then
    (if s.fnThere (fnOfAqn hi) then s.bar2Write (fnOfAqn hi) off (0xF800 ||| src) data else (s, false))
  else if hi = 0xFFFF then
    match s.grantAt (.peer src) off data.length with
    | some w => (s.granules_ w off data, true)
    | none => (s, false)
  else (s, false)

/-- The fence record of a command of a source. -/
def State.fenceOf (s : State) (src serial : Nat) : FenceIn :=
  (s.fabric.fences.find? (fun f => decide (f.src = src ∧ f.serial = serial))).getD ⟨src, serial, 0, 0, none⟩

/-- Keeps a fence record; once it has handled the packets its FENCE names it is answered and ends (14 R397). -/
def State.putFence (s : State) (f : FenceIn) : State :=
  let rest := s.fabric.fences.filter (fun x => !(decide (x.src = f.src ∧ x.serial = f.serial)))
  let keep (l : List FenceIn) : State := { s with fabric := { s.fabric with fences := l } }
  match f.due with
  | some (n, xid) =>
    if n ≤ f.applied + f.dropped then
      (keep rest).sendReply 0x22 f.src xid (f.serial + f.applied * 2 ^ 32 + f.dropped * 2 ^ 64) []
    else keep (rest ++ [f])
  | none => keep (rest ++ [f])

/-- A WRITE_DATA packet (14 R396): a packet that fails to match is dropped and counted. -/
def State.writeDataIn (s : State) (k : GPacket) : State :=
  let (s1, ok) := s.grantsExpire.remoteWrite k.src (k.tsf 63 0) k.body
  let f := s1.fenceOf k.src (k.tsf 95 64)
  if ok then s1.putFence { f with applied := f.applied + 1 }
  else (s1.count (okey 0x5428 19)).putFence { f with dropped := f.dropped + 1 }

/-- A FENCE (14 R397). -/
def State.fenceIn (s : State) (k : GPacket) : State :=
  let f := s.fenceOf k.src (k.tsf 31 0)
  s.putFence { f with due := some (k.tsf 63 32, k.xid) }

/-- No FENCE_ACK came within the peer time-out (14 R397). -/
def State.fenceDue (s : State) (c : Cmd) : Bool := decide (c.stage = .fence ∧ c.fenceAt + ms (s.objN (okey 0x2300 6)) ≤ s.now)

/-- A FENCE_ACK (14 R397): the command completes, with TRANSFER_ERROR when any packet was dropped; one at or after the time-out
finds it timed out (00 R22). -/
def State.fenceAckIn (s : State) (k : GPacket) : State :=
  match s.host.cmds.find? (fun c => decide (c.stage = .fence ∧ c.cid % 2 ^ 32 = k.tsf 31 0 ∧ c.pf 266 256 = k.src)) with
  | some c => s.complete c.cid (if s.fenceDue c then stPeerTimeout else if k.tsf 95 64 = 0 then c.finish else stTransferError) c.posted
  | none => s

/-! ## Cross-rig copies (14 R399) -/

/-- TAG of a copy's WRITE, and of the ABORT that stops it (14 R399; notes/assumptions/27.md). -/
def copyTag (slot : Nat) : Nat := 0xF000 + slot
def copyAbortTag (slot : Nat) : Nat := 0xF010 + slot

/-- A copy in progress. -/
def State.copyOf (s : State) (slot : Nat) : Option Copy := s.fabric.copies.find? (fun c => c.slot = slot)
/-- Changes a copy in progress. -/
def State.updCopy (s : State) (slot : Nat) (f : Copy → Copy) : State :=
  { s with fabric := { s.fabric with copies := s.fabric.copies.map (fun c => if c.slot = slot then f c else c) } }

/-- What a slot orders: extent, source and destination masts, flags (14 Table 14.6). -/
def State.copyExt (s : State) (slot : Nat) : Nat := s.objN (copyKey slot 1)
def State.copyFrom (s : State) (slot : Nat) : Nat := s.objN (copyKey slot 2)
def State.copyTo (s : State) (slot : Nat) : Nat := s.objN (copyKey slot 0x85)
def State.copyFlags (s : State) (slot : Nat) : Nat := s.objN (copyKey slot 4)
/-- The slot's serial: it changes only with what the slot orders (14 R399; notes/assumptions/26.md). -/
def State.copySerialOf (s : State) (slot : Nat) : Nat := tblGet (fun _ => 0) s.fabric.copySerial slot

/-- The source's checks (14 R399). -/
def State.copyRefused (s : State) (slot : Nat) : Option Nat :=
  let m := s.copyFrom slot
  if (s.tableOf m).isNone ∨ (s.extentOf m (s.copyExt slot)).isNone then some stExtentAbsent
  else if !s.holdsLease m then some stLeaseLost
  else if s.peerEpoch (s.objN (copyKey slot 3)) ≠ s.epoch then some stEpochMismatch
  else none

/-- Length of the extent that a slot copies. -/
def State.copyLen (s : State) (slot : Nat) : Nat := ((s.extentOf (s.copyFrom slot) (s.copyExt slot)).map meLen).getD 0

/-- A command packet for a peer. -/
def State.sendCmd (s : State) (dst n : Nat) : State := s.sendPacket 0x10 0 dst 0 (leBytes 64 n)

/-- The CMD WRITE of a copy (14 R399.1). -/
def State.copyWrite (s : State) (slot : Nat) : Nat :=
  let fl := s.copyFlags slot
  0x02 + 2 ^ 8 + (fl / 4 % 2) * 2 ^ 9 + (fl % 4) * 2 ^ 10 + copyTag slot * 2 ^ 16 + (s.copySerialOf slot % 2 ^ 32) * 2 ^ 32 +
    s.copyTo slot * 2 ^ 64 + s.copyExt slot * 2 ^ 128 + s.copyLen slot * 2 ^ 192

/-- A copy whose XFER_READY or COMPLETION did not come within its time-out fails (14 R399). -/
def State.copyExpires (s : State) (slot : Nat) : State :=
  match s.copyOf slot with
  | some c =>
    if (c.goff.isNone ∧ c.startedAt + ms (s.objN (okey 0x2300 6)) ≤ s.now) ∨
        c.startedAt + sec (s.objN (okey 0x2300 7)) ≤ s.now then s.settleCopy slot stPeerTimeout
    else s
  | none => s

/-- A start written to a copy slot (14 R399, R402): the status of that write. -/
def State.copyStart (s : State) (slot : Nat) : State × Nat :=
  let s := s.copyExpires slot
  if (s.copyOf slot).isSome then (s, stUnitBusy)
  else
    let dst := s.objN (copyKey slot 3)
    let c : Copy := { slot := slot, serial := s.copySerialOf slot, dst := dst, startedAt := s.now }
    let s1 := { s with fabric := { s.fabric with copies := s.fabric.copies ++ [c] } }
    match s.copyRefused slot with
    | some st => (s1.settleCopy slot st, 0)
    | none => (((s1.setObj (copyKey slot 6) 16384).setObj (copyKey slot 0x8D) 0).sendCmd dst (s.copyWrite slot), 0)

/-- An abort written to a copy slot (14 R399): an ABORT for the tag; the slot settles with its reply. -/
def State.copyAbort (s0 : State) (slot : Nat) : State :=
  let s := s0.copyExpires slot
  match s.copyOf slot with
  | none => s
  | some c =>
    let (free, s1) := s.takeFree
    let asq := (c.asq.getD free.toNat) % 4096
    (s1.updCopy slot (fun x => { x with aborting := true })).sendCmd c.dst
      (0x04 + copyAbortTag slot * 2 ^ 16 + (c.serial % 2 ^ 32) * 2 ^ 32 + asq * 2 ^ 64 + copyTag slot * 2 ^ 80)

/-- XFER_READY for a copy (14 R399.2): the extent is read from its disc and sent with DEST 1. -/
def State.copyReady (s : State) (c : Copy) (goff : Nat) : State :=
  let m := s.copyFrom c.slot
  let pkt : Nat := 0x01 + 2 ^ 9 + copyTag c.slot * 2 ^ 16 + m * 2 ^ 64 + s.copyExt c.slot * 2 ^ 128 + s.copyLen c.slot * 2 ^ 224 +
    c.dst * 2 ^ 256 + (0xFFFF * 2 ^ 48 + goff % 2 ^ 48) * 2 ^ 320
  let cid := s.host.nextCid
  let x : Cmd := {
    cid := cid, sq := 0, owner := .nobody, opc := 0x01, tag := copyTag c.slot, seq := c.serial, pkt := BitVec.ofNat 512 pkt,
    mast := some m, stage := .reading, orphan := true }
  let s1 := (s.updCopy c.slot (fun y => { y with goff := some goff })).setCmds (s.host.cmds ++ [x])
  ({ s1 with host := { s1.host with nextCid := cid + 1 } }).startReads cid

/-- One event record of a peer (14 R399): those of the rig's own copies have an effect. -/
def State.peerRecord (s : State) (src r : Nat) : State :=
  let type := fld r 15 8
  let tag := fld r 47 32
  let status := fld r 63 48
  match s.fabric.copies.find? (fun c => decide (c.dst = src ∧ (copyTag c.slot = tag ∨ copyAbortTag c.slot = tag))) with
  | none => s
  | some c =>
    let s1 := s.updCopy c.slot (fun x => { x with asq := some (fld r 31 19) })
    if tag = copyAbortTag c.slot then (if type = 0x01 ∧ c.aborting = true then s1.settleCopy c.slot status else s1)
    else if type = 0x02 then (if c.goff.isNone ∧ c.aborting = false then s1.copyReady c (fld r 255 192) else s1)
    else if type = 0x01 ∧ fld r 191 160 = c.serial % 2 ^ 32 ∧ c.aborting = false then s1.settleCopy c.slot status
    else s1

/-- The refusal of 12 R319 is outside the flow control of the EQ at the peer. -/
def outsideFlow (r : Nat) : Bool := decide (fld r 15 8 = 0x01 ∧ fld r 63 48 = stNoQueue ∧ fld r 31 19 = 0)

/-- An EVENT packet (14 R395): its records take effect, and EQ_HEAD acknowledges them; a copy whose time-out has passed takes none
(00 R22). -/
def State.eventIn (s : State) (src : Nat) (k : GPacket) : State :=
  let recs := (List.range (k.body.length / 32)).map (fun i => leNat ((k.body.drop (32 * i)).take 32))
  let n := (recs.filter (fun r => !outsideFlow r)).length
  let head := (tblGet (fun _ => 0) s.fabric.heads src + n) % 256
  let s1 := forEach recs (fun r a => a.peerRecord src r) (forEach (List.range 16) (fun c a => a.copyExpires c) s)
  if n = 0 then s1
  else ({ s1 with fabric := { s1.fabric with heads := tblPut (fun _ => 0) src head s1.fabric.heads } }).sendPacket 0x12 0 src head []

/-! ## Replica fetch (14 R400, 10 R275) -/

/-- The mast whose disc a FETCH_REQ names, or the status that answers it (14 R400). -/
def State.replicaMast (s : State) (k : GPacket) : Nat × Nat :=
  let named := (List.range 32).filter (fun m => decide (s.moN m 0x56 1 = k.tsf 191 128 ∧ s.moN m 0x56 2 ≠ 0))
  match named.find? s.holdsLease with
  | some m =>
    if (s.opt m).mismatch = true ∨ (s.tableOf m).isNone ∨ (s.mast m).st = .faulted ∨ (s.mast m).st = .retired ∨ s.decodersHealthy = 0 then
      (m, stMediaUnavailable)
    else (m, 0)
  | none => (0, if named = [] then stMediaUnavailable else stLeaseLost)

/-- A FETCH_REQ (14 R400). -/
def State.fetchReqIn (s : State) (k : GPacket) : State :=
  let (m, st) := s.replicaMast k
  if s.peerEpoch k.src ≠ s.epoch then s.fetchStatus k.src k.xid stEpochMismatch
  else if st ≠ 0 then s.fetchStatus k.src k.xid st
  else match s.extentOf m (k.tsf 63 0), s.tableOf m with
    | some e, some t =>
      let eidx := k.tsf 75 64
      let n := slotOfEidx (meXpe e) eidx
      match (s.walk t (meStr e) (totalSlots (meLen e) (meXpe e)) (meLayer e) (meTrack e) (meCol e) 0)[n]? with
      | some sl =>
        if dataSectors (meLen e) ≤ eidx then s.fetchStatus k.src k.xid stExtentAbsent
        else
          let sp := ((s.relocsOf m (meExt e) (meNrel e)).find? (fun r => r.1 = n)).map (·.2)
          s.addSector {
            sid := 0, mast := m, slot := sp.getD sl, sail := 0, reader := 0, str := meStr e, xpe := meXpe e, ext := meExt e,
            eidx := eidx, xpos := (secOfSlot (meLen e) (meXpe e) n).2.2, kind := 1, reloc := sp.isSome,
            use := .replica k.src k.xid }
      | none => s.fetchStatus k.src k.xid stExtentAbsent
    | _, _ => s.fetchStatus k.src k.xid stExtentAbsent

/-- The info block that a FETCH_REP carries (14 Table 14.3). -/
def replyInfo (k : GPacket) : List Byte := leBytes 24 (k.tsf 191 0) ++ k.body ++ leBytes 8 (k.tsf 255 192)

/-- A FETCH_REP (10 R275): accepted by the info block's CRC-64, its header and the content digest. -/
def State.fetchRepIn (s : State) (k : GPacket) : State :=
  match s.media.sectors.find? (fun x => decide (x.phase = .fetch ∧ x.xid = k.xid)) with
  | none => s
  | some x =>
    let info := replyInfo k
    let h := parseHeader (k.tsf 191 0)
    let dig := (s.extentOf x.mast x.ext).map meDig
    if x.fetchAt + ms (s.moN x.mast 0x52 4) ≤ s.now then s.stepFailed x.sid
    else if k.body.length = 4096 ∧ infoCrcOk info = true ∧ h.kind = 1 ∧ h.ext = x.ext ∧ h.eidx = x.eidx ∧
        dig = some (k.tsf 319 256) then s.acceptSector x info
    else s.stepFailed x.sid

/-! ## Rows -/

/-- GORCY_CMD (14 R395). -/
def execGorcyCmd (t port : Nat) (pkt : GPacket) (s : State) : Res :=
  .next ((s.at_ t).packetFor port 0x10 pkt (fun a => a.cmdIn pkt.src pkt))

/-- GORCY_EVENT (14 R395). -/
def execGorcyEvent (t port : Nat) (pkt : GPacket) (s : State) : Res :=
  .next ((s.at_ t).packetFor port 0x11 pkt (fun a => a.eventIn pkt.src pkt))

/-- EQ_HEAD (14 R395). -/
def execEqHead (t port : Nat) (pkt : GPacket) (s : State) : Res :=
  .next ((s.at_ t).packetFor port 0x12 pkt (fun a => a.peerHead pkt.src (pkt.tsf 15 0)))

/-- WRITE_DATA (14 R396). -/
def execWriteData (t port : Nat) (pkt : GPacket) (s : State) : Res :=
  .next ((s.at_ t).packetFor port 0x20 pkt (fun a => a.writeDataIn pkt))

/-- FENCE (14 R397). -/
def execFence (t port : Nat) (pkt : GPacket) (s : State) : Res :=
  .next ((s.at_ t).packetFor port 0x21 pkt (fun a => a.fenceIn pkt))

/-- FENCE_ACK (14 R397). -/
def execFenceAck (t port : Nat) (pkt : GPacket) (s : State) : Res :=
  .next ((s.at_ t).packetFor port 0x22 pkt (fun a => a.fenceAckIn pkt))

/-- FENCE_TIMEOUT (14 R397). -/
def execFenceTimeout (t cid : Nat) (s : State) : Res :=
  let s0 := s.at_ t
  .next (match s0.cmd cid with
    | some c => if s0.fenceDue c then s0.complete cid stPeerTimeout c.posted else s0
    | none => s0)

/-- FETCH_REQ (14 R400). -/
def execFetchReq (t port : Nat) (pkt : GPacket) (s : State) : Res :=
  .next ((s.at_ t).packetFor port 0x30 pkt (fun a => a.fetchReqIn pkt))

/-- FETCH_REP (10 R275). -/
def execFetchRep (t port : Nat) (pkt : GPacket) (s : State) : Res :=
  .next ((s.at_ t).packetFor port 0x31 pkt (fun a => a.fetchRepIn pkt))

/-- PEER_IDLE_RELEASE (14 R395). -/
def execPeerIdleRelease (t a : Nat) (s : State) : Res :=
  let s0 := s.at_ t
  .next (s0.peerIdle a)

/-- COPY_TIMEOUT (14 R399): no XFER_READY within the peer time-out, or no COMPLETION within the copy time-out. -/
def execCopyTimeout (t slot : Nat) (s : State) : Res :=
  let s0 := s.at_ t
  .next (s0.copyExpires slot)

end Sys2Proof.Machine
end

