-- ==== Sys2Proof/Machine/Avail.lean ====
section
/-! DEFINITION. Vendor images (19.3), the command token and its passings (18.2), and the update of the vendor image (18.6). -/
namespace Sys2Proof.Machine

/-! ## Vendor images -/

/-- A directory entry of a vendor image: offset, length, KIND (19 Table 19.4). -/
def imageSection (b : List Byte) (i : Nat) : Nat × Nat × Nat :=
  (byteField b (64 + 16 * i) 4, byteField b (68 + 16 * i) 4, byteField b (72 + 16 * i) 2)

/-- Sections of a vendor image. -/
def imageSections (b : List Byte) : List (Nat × Nat × Nat) := (List.range (byteField b 10 2)).map (imageSection b)

/-- IMAGE_ID, CLVL and SSFMT of a vendor image. -/
def imageId (b : List Byte) : Nat := byteField b 16 8
def imageClvl (b : List Byte) : Nat := byteField b 8 2
def imageSsfmt (b : List Byte) : Nat := byteField b 6 2

/-- The header checks of R510. -/
def imageHeaderOk (b : List Byte) : Bool :=
  let n := byteField b 10 2
  let len := byteField b 12 4
  let secs := imageSections b
  let span : Nat × Nat × Nat → Nat × Nat := fun x => (x.1, x.1 + x.2.1)
  decide (byteField b 0 4 = 0x53483332 ∧ byteField b 4 2 = 1 ∧ byteField b 28 36 = 0 ∧ byteField b 24 4 = 1 ∧ 4 ≤ n ∧ n ≤ 16 ∧
    len + 3309 ≤ 25165824 ∧ len + 3309 ≤ b.length) &&
  (List.range n).all (fun i => decide (byteField b (74 + 16 * i) 6 = 0)) &&
  secs.all (fun x => decide (64 + 16 * n ≤ x.1 ∧ x.1 + x.2.1 ≤ len)) &&
  (List.range n).all (fun i => (List.range i).all (fun j =>
    let p := span (imageSection b i)
    let q := span (imageSection b j)
    decide (p.2 ≤ q.1 ∨ q.2 ≤ p.1))) &&
  secs.all (fun x => decide (1 ≤ x.2.2 ∧ x.2.2 ≤ 4)) &&
  [1, 2, 3, 4].all (fun k => decide ((secs.filter (fun x => decide (x.2.2 = k))).length = 1))

/-- The check of a slot's image (19 R510): 1 verified, 2 header refused, 3 signature failed (Table 19.5). -/
def imageCheck (b : List Byte) : Nat :=
  let len := byteField b 12 4
  if imageHeaderOk b = false then 2
  else if mldsaVerify Config.vendorKey (sha384 (b.take len)) ((b.drop len).take 3309) then 1
  else 3

/-- Bytes of an image slot. -/
def State.slotBytes (s : State) (i : Nat) : List Byte := if i = 0 then s.nv.slot0 else s.nv.slot1

/-- Image slot that a shroud runs. -/
def State.imageOf (s : State) : Shroud → Nat
  | .a => s.avail.imageA
  | .b => s.avail.imageB
def State.setImage (s : State) (x : Shroud) (i : Nat) : State :=
  match x with
  | .a => { s with avail := { s.avail with imageA := i } }
  | .b => { s with avail := { s.avail with imageB := i } }

/-- The image in a slot is the running one (17 Table 17.3, 14 R387): its ID, compatibility level and software version. -/
def State.runImage (s : State) (i : Nat) : State :=
  let b := s.slotBytes i
  (((s.setObj (okey 0x2002 1) (imageId b)).setObj (okey 0x2300 4) (imageClvl b))).setBlob (okey 0x100A 0) ((Config.softwareVersion b).take 32)

/-! ## The token -/

def otherShroud : Shroud → Shroud
  | .a => .b
  | .b => .a
/-- A shroud by its number in 2600:01. -/
def shroudOf (i : Nat) : Shroud := if i = 0 then .a else .b
/-- A shroud's state, 2600:03 or :04. -/
def State.shroudState (s : State) (x : Shroud) : Nat := s.objN (shroudKey x)
def State.setShroud (s : State) (x : Shroud) (v : Nat) : State :=
  let s1 := s.setObj (shroudKey x) v
  if x = .a then { s1 with avail := { s1.avail with standbyA := if v = 2 then some s1.now else none } } else s1
/-- The token generation G, 2600:02. -/
def State.tokenG (s : State) : Nat := s.objN (okey 0x2600 2)

/-- A shroud takes the token with G + 1 (18 R483); its first act is to send every yard its targets under the new G (18 R484). -/
def State.takeToken (s : State) (x : Shroud) : State :=
  let g : Nat := (s.tokenG + 1) % 2 ^ 32
  let s1 := ((s.setObj (okey 0x2600 2) g).setObj (okey 0x2600 1) (shroudIx x)).setShroud x 3
  let s2 := { s1 with avail := { s1.avail with noHolderAt := none, noHolderFurled := false } }
  forEach (List.range 32) (fun m a => a.updServo m (fun z => { z with gen := g })) s2

/-- A passing is counted and raises a CONDITION event (18 R485). -/
def State.passed (s : State) : State :=
  (s.count (okey 0x5431 1)).condition 0x000C 4 0 (s.tokenG + (if s.holder = 1 then 2 ^ 32 else 0))

/-- A planned passing to `x` (18 R487): the former holder becomes standby. -/
def State.plannedPass (s : State) (x : Shroud) : State := (((s.setShroud (otherShroud x) 2).takeToken x)).passed

/-- A period without holder begins (18 R488). -/
def State.loseToken (s : State) : State :=
  let s1 := (s.setObj (okey 0x2600 1) 255).count (okey 0x5431 6)
  ({ s1 with avail := { s1.avail with noHolderAt := some s1.now, noHolderFurled := false } }).condition 0x000D 4 0 0

/-! ## Updating the vendor image -/

/-- A step of the update is shown in 2670:02 and raises a CONDITION event (18 Table 18.4). -/
def State.updateState (s : State) (v : Nat) : State := (s.setObj (okey 0x2670 2) v).condition 0x000E 4 0 v
def State.setUpd (s : State) (u : UpdateStep) : State := { s with avail := { s.avail with upd := u } }
/-- The standby shroud S of an update. -/
def State.updS (s : State) : Shroud := otherShroud s.avail.updH

/-- An abort of the update (18 R499) with its cause of Table 18.6. -/
def State.abortUpdate (s : State) (cause : Nat) : State :=
  (((s.setUpd .none).setObj (okey 0x2670 4) cause).count (okey 0x5431 8)).updateState 6

/-- The update is done (18 Table 18.5). -/
def State.updateDone (s : State) : State := ((s.setUpd .none).count (okey 0x5431 7)).updateState 5

/-- The boot slot changes (19 R509): a new entry, whose SEQ follows the one in force. -/
def State.bootSlot (s : State) (i : Nat) : State :=
  let seq := match s.nv.boot.getLast? with
    | some e => (e.1 + 1) % 2 ^ 32
    | none => 1
  let keep := if s.nv.boot.length < 4096 then s.nv.boot else []
  { s with nv := { s.nv with boot := keep ++ [(seq, i)] } }

/-- A write of 2670:01 is refused (18 R498). -/
def State.updateRefused (s : State) (slot : Nat) : Option Nat :=
  let ok : Shroud → Bool := fun x => decide (s.shroudState x = 2 ∨ s.shroudState x = 3)
  if slot = s.objN (okey 0x2002 2) ∨ s.objN (okey 0x2701 (slot + 1)) ≠ 2 then some stInvalidField
  else if !(ok .a && ok .b) || decide (s.avail.upd ≠ .none) then some stUnitBusy
  else none

/-- Step 1 of an update (18 Table 18.5): S leaves standby and loads. -/
def State.updateStart (s : State) (slot : Nat) : State :=
  let h := shroudOf s.holder
  let s1 := { s with avail := { s.avail with upd := .loadingS, updSlot := slot, updH := h } }
  (s1.setShroud (otherShroud h) 1).updateState 1

/-- Why the image of an update fails at step 1: cause of 2670:04. -/
def State.updateImageBad (s : State) : Option Nat :=
  let b := s.slotBytes s.avail.updSlot
  match imageCheck b with
  | 1 => if imageSsfmt b = imageSsfmt (s.slotBytes (s.imageOf s.avail.updH)) then none else some 2
  | 3 => some 1
  | _ => some 2

/-- S or H has finished loading and its self-test (18 Table 18.5, R499). -/
def State.shroudLoaded (s : State) (x : Shroud) (ok : Bool) : State :=
  let cause := match s.updateImageBad with
    | some c => some c
    | none => if ok then none else some 3
  if s.avail.upd = .loadingS ∧ x = s.updS then
    match cause with
    | some c => s.abortUpdate c
    | none =>
      let s1 := ((s.setImage x s.avail.updSlot).setShroud x 2).updateState 2
      let s2 := ((s1.plannedPass x).runImage s.avail.updSlot).updateState 3
      { s2 with avail := { s2.avail with upd := .observing, updAt := s2.now } }
  else if s.avail.upd = .loadingH ∧ x = s.avail.updH then
    match cause with
    | some _ => ((s.setShroud x 4).failShroud x).updateDone
    | none =>
      (((((s.setImage x s.avail.updSlot).setShroud x 2).bootSlot s.avail.updSlot).setObj (okey 0x2002 2) s.avail.updSlot)).updateDone
  else s

/-- The observation ends and H loads the new image. Where a write of 2600:05 gave H the token meanwhile, it first passes to S as planned
(notes/assumptions/178.md). -/
def State.observed (s : State) : State :=
  if s.avail.upd = .observing ∧ s.avail.updAt + sec (s.objN (okey 0x2670 3)) ≤ s.now then
    let s1 := if s.holder = shroudIx s.avail.updH then s.plannedPass s.updS else s
    ((s1.setShroud s.avail.updH 1).setUpd .loadingH).updateState 4
  else s

/-! ## Failures of a shroud -/

/-- What a shroud's failure does to an update (18 R499): at the observation a failing S aborts it; no standby left ends it. -/
def State.updateFailure (s : State) (x : Shroud) : State :=
  match s.avail.upd with
  | .none => s
  | .loadingS => if x = s.avail.updH then s.abortUpdate 5 else s
  | .loadingH => if x = s.updS then s.abortUpdate 5 else s
  | _ =>
    if x = s.updS then ((s.setImage x (s.imageOf s.avail.updH)).abortUpdate 4).runImage (s.imageOf s.avail.updH)
    else s.abortUpdate 5

/-- A self-check failure of a shroud (18 R481, R486): its domain is reset, it self-tests, it counts one failure; a holder's token
passes to the standby, or nobody holds it (18 R488). -/
def State.selfCheck (s : State) (x : Shroud) : State :=
  let st := s.shroudState x
  if st ≠ 2 ∧ st ≠ 3 then s
  else
    let s1 := ((s.setShroud x 1).count (okey 0x5431 (3 + shroudIx x))).failShroud x
    let o := otherShroud x
    let s2 :=
      if st ≠ 3 then s1
      else if s1.shroudState o = 2 then (s1.takeToken o).passed
      else s1.loseToken
    s2.updateFailure x

/-- A shroud that passed its self-test takes the token where nobody holds it (18 R488, 19 Table 19.2 step 10): at start-up shroud B
waits for the result of shroud A. -/
def State.tokenDue (s : State) : State :=
  let first := decide (s.tokenG = 0)
  if s.hasHolder then s
  else if s.shroudState .a = 2 then (if first then s.takeToken .a else (s.takeToken .a).passed)
  else if first && decide (s.shroudState .a = 1) then s
  else if s.shroudState .b = 2 then (if first then s.takeToken .b else (s.takeToken .b).passed)
  else if first && s.avail.noHolderAt.isNone && decide (s.shroudState .b ≠ 1) then s.loseToken
  else s

/-- The self-test after a reset ends (18 R486): standby or failed; after start-up its failure is the class's hard indicator. -/
def State.shroudTested (s : State) (x : Shroud) (ok : Bool) : State :=
  let starting := decide (s.tokenG = 0)
  if s.shroudState x ≠ 1 ∧ ¬(s.shroudState x = 4 ∧ s.hasHolder = false) then s
  else if (s.avail.upd = .loadingS ∧ x = s.updS) ∨ (s.avail.upd = .loadingH ∧ x = s.avail.updH) then s
  else
    let s1 := if ok then s.setShroud x 2 else if starting then s.setShroud x 4 else (s.setShroud x 4).retireShroud x
    s1.tokenDue

/-- Domains that are gated (19 Table 19.1, 2100:02): retired masts, endpoints retired or in PERST, shrouds failed or retired. -/
def State.gatedDomains (s : State) : Nat :=
  let ep : Endpoint → Bool := fun e => s.epInReset e
  let sh : Shroud → Bool := fun x => decide (s.shroudState x = 4 ∨ s.shroudState x = 5)
  let b : Nat → Bool → Nat := fun i v => if v then 2 ^ i else 0
  s.objN (okey 0x2630 1) + b 35 (ep .ha) + b 36 (ep .hb) + b 37 (sh .a) + b 38 (sh .b)

end Sys2Proof.Machine
end

