-- ==== Sys2Proof/Machine/Dict.lean ====
section
/-! DEFINITION. The object dictionary's access model (17.1): lookup, paths, types, and what a read returns. -/
namespace Sys2Proof.Machine

/-- How an access fails (17 Tables 17.2, 17.8). -/
inductive AccErr where
  | path | index | sub | specifier | readWo | writeRo | fullSubs | length | range | combo | notIdle
  | other (st : Nat)
  deriving DecidableEq, Repr

/-- Status of a failed access (17 Table 17.2). -/
def AccErr.status : AccErr → Nat
  | .path | .readWo | .writeRo => stAccessDenied
  | .index | .sub => stObjectAbsent
  | .fullSubs | .length | .range | .combo | .specifier => stInvalidField
  | .notIdle => stUnitBusy
  | .other st => st

/-- SDO abort code of a failed access (17 Table 17.8). -/
def AccErr.abort : AccErr → Nat
  | .path | .fullSubs => 0x06010000
  | .readWo => 0x06010001
  | .writeRo => 0x06010002
  | .index => 0x06020000
  | .sub => 0x06090011
  | .specifier => 0x05040001
  | .length => 0x06070010
  | .range => 0x06090030
  | .combo => 0x06040043
  | .notIdle => 0x08000022
  | .other _ => 0x08000020

/-- Refused accesses are counted by status (18 Table 18.3, 542F:01 to 05). -/
def State.countRefused (s : State) (e : AccErr) : State :=
  s.count (okey 0x542F (if e.status = stAccessDenied then 1 else if e.status = stObjectAbsent then 2
    else if e.status = stInvalidField then 3 else if e.status = stUnitBusy then 4 else 5))

/-! ## Types -/

/-- Bytes of a fixed-length type (17 Table 17.1). -/
def ObjType.bytes : ObjType → Nat
  | .bool | .u8 | .i8 => 1
  | .u16 | .i16 => 2
  | .u32 | .i32 => 4
  | .u64 | .i64 => 8
  | .str n | .dom n => n
def ObjType.fixed : ObjType → Bool
  | .str _ | .dom _ => false
  | _ => true
def ObjType.signed : ObjType → Bool
  | .i8 | .i16 | .i32 | .i64 => true
  | _ => false

/-! ## Lookup -/

/-- A row belongs to an index. -/
def rowHasIndex (index : Nat) (r : ObjRow) : Bool := rowMatches index r.sLo r
/-- Rows of an index. -/
def rowsAt (index : Nat) : List ObjRow := objRows.filter (rowHasIndex index)
/-- The highest plain sub-index of an object (00 R11). -/
def highestSub (index : Nat) : Nat :=
  (rowsAt index).foldl (fun a r => if r.sLo < 0x80 then max a (min r.sHi 0x7F) else a) 0

/-- The sub-index that holds a value, and its row: the first entry of a pair also answers at 0x80 + 2s (00 R13). -/
def rowAt (index sub : Nat) : Option (Nat × ObjRow) :=
  match rowOf index sub with
  | some r => some (sub, r)
  | none =>
    if 0x80 ≤ sub ∧ sub % 2 = 0 then
      match rowOf index ((sub - 0x80) / 2), rowOf index (sub + 1) with
      | some r, some _ => some ((sub - 0x80) / 2, r)
      | _, _ => none
    else if sub = 0 then (rowsAt index).head?.map (fun r => (0, { r with
      sLo := 0, sHi := 0, ty := .u8, acc := .ro, dflt := 0, ranges := [], mask := 0 }))
    else none

/-- Sub-index 00 of an array or record: its highest plain sub-index (00 R11). -/
def isCountSub (index sub : Nat) : Bool := decide (sub = 0) && (rowOf index 0).isNone

/-- The plain sub-indices 01 to n without gaps, all of fixed length: what a complete access covers (17 R460). -/
def fullSubs (index : Nat) : Option Nat :=
  let n := highestSub index
  if n ≠ 0 ∧ (rowOf index 0).isNone = true ∧ (List.range n).all (fun i => match rowOf index (i + 1) with
      | some r => r.ty.fixed
      | none => false) = true then some n else none

/-! ## Paths -/

/-- The path may reach the object (00 R15, 17 R463, 15 R425). -/
def State.pathOk (s : State) (p : Path) (index : Nat) (r : ObjRow) (write : Bool) : Bool :=
  match p with
  | .fieldNet => true
  | .peer _ => !write && decide (r.grp ≠ .keys)
  | .function f =>
    if f.fn = 0 then true
    else match r.grp with
      | .allRead => !write
      | .engine => !write && s.engineOf f (index - 0x2500)
      | .unit => decide (s.objN (okey index 1) = fnCode f)
      | _ => false

/-! ## Values computed on reading -/

/-- Characters of a string value. -/
def asciiBytes (x : String) : List Byte := x.toList.map (fun c => BitVec.ofNat 8 c.toNat)

/-- A unit of the rig is retired (17 Table 17.4). -/
def State.anyRetired (s : State) : Bool := retirementKeys.any (fun k => decide (k / 256 < 0x2440 ∨ 0x2450 ≤ k / 256) &&
  !(decide (k % 256 = 8 ∧ 0x3000 ≤ k / 256)) && decide (s.objN k ≠ 0))

/-- The rig status word (17 Table 17.4). -/
def State.rigStatus (s : State) : Nat :=
  let b : Nat → Bool → Nat := fun i v => if v then 2 ^ i else 0
  b 0 (s.boot.ready && s.hasHolder) + b 1 s.fabric.timeUnsure + b 2 s.anyRetired + b 3 s.pins.therm + b 4 s.pins.furlN +
    b 5 (decide (s.holder = 1)) + b 6 (decide (s.objN (okey 0x2200 1) = 2)) + b 7 (decide (s.objN (okey 0x2201 1) = 2)) +
    b 8 ((List.range 32).any (fun m => decide ((s.mast m).st = .faulted)))

/-- State of an SQ (12 Table 12.15, 2281:01). -/
def State.sqState (s : State) (q : Nat) : Nat :=
  let x := s.sq q
  if x.owner = .nobody then 0 else if x.halted then 2 else 1
/-- Owner of an SQ (12 Table 12.15, 2281:02). -/
def State.sqOwner (s : State) (q : Nat) : Nat := match (s.sq q).owner with
  | .nobody => 0
  | .fn f => (if f.ep = .hb then 2 ^ 15 else 0) + f.fn
  | .peer a => 2 ^ 14 + a

/-- The epoch-bound objects (17 R462): 2500 + e :07 to :0A, 2542:06, M+52:02 and :03. -/
def epochBound : List (Nat × Nat) :=
  (List.range 64).flatMap (fun e => [7, 8, 9, 10].map (fun i => (0x2500 + e, i))) ++ [(0x2542, 6)] ++
  (List.range 32).flatMap (fun m => [(0x3052 + m * 0x80, 2), (0x3052 + m * 0x80, 3)])

/-- A host-owned check-value unit. -/
def State.unit (s : State) (h : Nat) : CvUnit := tblGet (fun _ => ({} : CvUnit)) s.eng.units h
def State.setUnit (s : State) (h : Nat) (u : CvUnit) : State :=
  { s with eng := { s.eng with units := tblPut (fun _ => ({} : CvUnit)) h u s.eng.units } }

/-- A numeric value as a read finds it (17 R459). -/
def State.readNum (s : State) (index sub : Nat) : Int :=
  if isCountSub index sub then (highestSub index : Nat)
  else if index = 0x1018 ∧ sub = 4 then (Config.deviceSerial.toNat % 2 ^ 32 : Nat)
  else if index = 0x2000 ∧ sub = 5 then (Config.deviceSerial.toNat : Nat)
  else if index = 0x2010 then (mastCode (s.mast (sub - 1)).st : Nat)
  else if index = 0x2011 then (if sub = 1 then s.rigStatus else s.now % 2 ^ 64 : Nat)
  else if index = 0x2100 ∧ sub = 2 then (s.gatedDomains : Nat)
  else if index = 0x2600 ∧ sub = 7 then
    match s.avail.standbyA with
    | some a => (min ((s.now - a) / 1000000) (2 ^ 32 - 1) : Nat)
    | none => 0
  else if index = 0x2700 ∧ sub = 6 then (Config.nvCapacity : Nat)
  else if 0x2550 ≤ index ∧ index ≤ 0x2557 ∧ 2 ≤ sub then
    let u := s.unit (index - 0x2550)
    (match sub with | 2 => u.cfg | 3 => u.poly | 4 => u.init | 5 => u.xorout | 6 => u.cvv | _ => u.result : Nat)
  else s.obj (okey index sub)

/-- A string or DOMAIN value as a read finds it. -/
def State.readBlob (s : State) (index sub : Nat) : List Byte :=
  if index = 0x1008 then asciiBytes "SH3264"
  else if index = 0x1009 ∨ (index = 0x2000 ∧ sub = 1) then asciiBytes "A0"
  else if index = 0x2000 ∧ sub = 6 then asciiBytes "SH3264-A0-FC"
  else if index = 0x2003 then epochBound.flatMap (fun e => leBytes 2 e.1 ++ leBytes 1 e.2 ++ leBytes 1 0)
  else if index = 0x2281 then
    (List.range 4096).flatMap (fun q => if sub = 1 then leBytes 1 (s.sqState q) else leBytes 2 (s.sqOwner q))
  else if 0x3000 ≤ index ∧ index < 0x4000 ∧ (index - 0x3000) % 0x80 = 0x2F then s.traceData ((index - 0x3000) / 0x80)
  else s.blob (okey index sub)

/-- The bytes of a value (17 R456). -/
def State.valueOf (s : State) (index sub : Nat) (r : ObjRow) : List Byte :=
  if r.ty.fixed then leBytes r.ty.bytes (toBits (s.readNum index sub) (8 * r.ty.bytes)) else s.readBlob index sub

/-! ## Reading -/

/-- Checks 1 to 4 of a read of one sub-index (17 Table 17.2). -/
def State.canRead (s : State) (p : Path) (index sub : Nat) : Except AccErr (Nat × ObjRow) :=
  match (rowsAt index).head? with
  | none => .error .index
  | some r0 =>
    let x := rowAt index sub
    let r := (x.map (·.2)).getD r0
    if s.pathOk p index r false = false then .error .path
    else match x with
      | none => .error .sub
      | some y => if y.2.acc = .wo then .error .readWo else .ok y

/-- A read of one sub-index. -/
def State.readOne (s : State) (p : Path) (index sub : Nat) : Except AccErr (List Byte) :=
  match s.canRead p index sub with
  | .error e => .error e
  | .ok (i, r) => .ok (s.valueOf index i r)

/-- The head of a complete access: index, path of its first sub-index, form (17 R460). -/
def State.completeForm (s : State) (p : Path) (index sub : Nat) (write : Bool) : Except AccErr Nat :=
  match (rowsAt index).head? with
  | none => .error .index
  | some r0 =>
    if s.pathOk p index ((rowOf index 1).getD r0) write = false then .error .path
    else match fullSubs index with
      | none => .error .fullSubs
      | some n => if 1 < sub then .error .fullSubs else .ok n

/-- A complete read (17 R460). -/
def State.readAll (s : State) (p : Path) (index sub : Nat) : Except AccErr (List Byte) :=
  match s.completeForm p index sub false with
  | .error e => .error e
  | .ok n =>
    (List.range n).foldl (fun a i => match a with
      | .error e => .error e
      | .ok l => match s.readOne p index (i + 1) with
        | .error e => .error e
        | .ok b => .ok (l ++ b)) (.ok (if sub = 0 then leBytes 2 n else []))

/-- A read access (17 R458, R460). -/
def State.readObj (s : State) (p : Path) (index sub : Nat) (ca : Bool) : Except AccErr (List Byte) :=
  if ca then s.readAll p index sub else s.readOne p index sub

/-- A space of `len` bytes for a value (17 R461): equal for one fixed-size type, else long enough, zeros beyond. -/
def intoSpace (index sub : Nat) (ca : Bool) (len : Nat) (b : List Byte) : Except AccErr (List Byte) :=
  let fixed := !ca && (match rowAt index sub with
    | some x => x.2.ty.fixed
    | none => false)
  if len < b.length ∨ (fixed = true ∧ len ≠ b.length) then .error .length else .ok (padTo len b)

end Sys2Proof.Machine
end

