-- ==== Sys2Proof/Machine/DictWrite.lean ====
section
/-! DEFINITION. Writes of the object dictionary (17.1): the checks of the objects' own chapters, and the actions a write starts. -/
namespace Sys2Proof.Machine

/-- One value that a write carries, decoded. -/
structure Wr where
  index : Nat
  sub : Nat
  row : ObjRow
  num : Int := 0
  bytes : List Byte := []

def Wr.key (w : Wr) : Nat := okey w.index w.sub
/-- The value of an unsigned sub-index. -/
def Wr.nat (w : Wr) : Nat := w.num.toNat

/-- What reaches a write from outside: what the read-backs of remapped granules give wrongly (16 R435), and who waits for a save (17 R474). -/
structure WEnv where
  flips : List (Nat × Granule) := []
  waiters : List Waiter := []

/-- Bits of `old` that `new` clears. -/
def clearedBits (old new n : Nat) : List Nat := (List.range n).filter (fun i => old.testBit i && !new.testBit i)

/-! ## Idle owners (RWI) -/

/-- A mast is idle: absent, present or retired (17 R457). -/
def State.mastIdle (s : State) (m : Nat) : Bool := match (s.mast m).st with
  | .absent | .present | .retired => true
  | _ => false

/-- A media description table is mounted on some mast (09 R254). -/
def State.tableHeld (s : State) (t : Nat) : Bool := (List.range 32).any (fun m => decide (s.tableOf m = some t))

/-- The owner of an RWI object is idle (17 R457, 04.8, 09 R254, Tables 14.6, 15.8, 15.9). A port that has no signal to train with is down
(14 R402; notes/assumptions/172.md). -/
def State.ownerIdle (s : State) (index : Nat) : Bool :=
  if 0x3000 ≤ index ∧ index < 0x4000 then
    let m := (index - 0x3000) / 0x80
    if (index - 0x3000) % 0x80 = 0x2E then decide (s.moN m 0x2E 1 = 0 ∨ s.moN m 0x2E 1 = 4) else s.mastIdle m
  else if 0x4000 ≤ index ∧ index < 0x5000 then !s.tableHeld ((index - 0x4000) / 0x100)
  else if 0x2500 ≤ index ∧ index ≤ 0x253F then s.engineFree (index - 0x2500)
  else if index = 0x2542 then (List.range 64).all (fun e => (s.engine e).saves.isEmpty)
  else if index = 0x2300 then (List.range 4).all (fun p => decide (s.objN (okey 0x2301 (p + 1)) = 0 ∨ (s.objN (okey 0x2301 (p + 1)) = 1 ∧ (s.port p).t0 = none)))
  else true

/-! ## Media description tables -/

/-- Every check of R255 on a table: T+00:01. -/
def State.tableOk (s : State) (t : Nat) : Bool :=
  let n := s.zones t
  let b := s.objN (tkey t 0 4)
  let lo := s.objN (tkey t 0 9)
  let hi := s.objN (tkey t 0 0x93)
  let z := s.zoneOf t lo
  decide ((s.blob (tkey t 3 1)).length = 16 * n ∧ (s.blob (tkey t 4 1)).length = 8 * n * s.objN (tkey t 0 3)) &&
  decide (s.zoneG t 0 = 0) && (List.range n).all (fun i => decide (s.zoneG t i + 1024 ≤ s.zoneG t (i + 1))) &&
  (List.range n).all (fun i =>
    let r := radiusNm (s.zoneG t i)
    let nz := s.zoneN t i
    let k := s.zoneK t i
    decide (nz ≠ 0 ∧ nz % 64 = 0 ∧ nz * 4096 * 2 ^ 32 ≤ r * 0x6487ED511 ∧ 0x640000 ≤ k ∧ k ≤ 0xA00000 ∧
      nz * k * b * 2 ^ 16 ≤ r * 1000 * 0x6487ED511)) &&
  decide (s.objN (tkey t 0 8) < s.objN (tkey t 0 3) ∧ lo < hi ∧ s.tLo t z ≤ lo ∧ hi ≤ s.tHi t z + 1 ∧
    (s.tHi t z + 1 - hi) % 16 = 0 ∧ (hi - lo) % 16 = 0) &&
  radiusCurveOk (s.objN (tkey t 2 1)) (fun j => s.objN (tkey t 2 (0x10 + j))) (fun j => s.objN (tkey t 2 (0x20 + j))) b

/-- The reserved bytes of each entry of a table's DOMAIN are zero (09 R254). -/
def reservedZero (size from_ : Nat) (b : List Byte) : Bool :=
  (b.zipIdx.all (fun x => decide (x.2 % size < from_ ∨ x.1 = 0)))

/-! ## Check 8: the objects' own checks -/

/-- Masks that a write may only clear (18 R491, 03 R108, 10 R282). -/
def clearOnly (index sub : Nat) : Bool :=
  if 0x3000 ≤ index ∧ index < 0x4000 then
    let ii := (index - 0x3000) % 0x80
    decide (ii = 8 ∧ (sub = 4 ∨ sub = 5)) || decide (ii = 0x58 ∧ sub ≤ 3)
  else decide (index = 0x2301 ∧ 5 ≤ sub ∧ sub ≤ 8) || decide (index = 0x2400 ∧ sub = 3) || decide (index = 0x2410 ∧ sub = 2) ||
    decide (index = 0x2542 ∧ sub = 2) || decide (index = 0x2630) || decide (index = 0x2660 ∧ (sub = 2 ∨ sub = 3))

/-- A trace node selector is legal (04 R131, Table 4.7). -/
def selectorOk (v : Nat) : Bool :=
  let b := fld v 11 8
  let item := v % 256
  match v / 4096 with
  | 0 | 5 => true
  | 1 => decide (item ≤ 38)
  | 2 | 3 => decide (b ≤ 13)
  | 4 =>
    if b = 2 ∨ b = 4 then decide (2 ≤ item ∧ item ≤ 17)
    else if b = 7 then decide (item ≤ 5)
    else if b = 10 then false
    else decide (b ≤ 13 ∧ item ≤ 1)
  | 6 => decide (1 ≤ b ∧ b ≤ 13 ∧ item ≤ 1)
  | _ => false

/-- Own checks of a mast's object. `post` is the state with the whole write stored. -/
def State.ownMast (s post : State) (m ii : Nat) (w : Wr) : Option AccErr :=
  let v := w.nat
  let bad : AccErr → Bool → Option AccErr := fun e b => if b then some e else none
  let p : Nat → Nat → Int := fun i j => post.mo m i j
  if ii = 0x20 ∧ w.sub = 2 then bad .combo (s.commitBad m v)
  else if 0x21 ≤ ii ∧ ii ≤ 0x2D ∧ w.sub = 2 ∧ w.row.mask = 0xF then
    bad .combo (decide (fld v 3 2 = 3 ∨ (fld v 3 2 = 2 ∧ ii ≠ 0x28 ∧ ii ≠ 0x29)))
  else if ii = 0x35 ∧ w.sub = 1 then bad .notIdle (s.calStart m CalKind.loop v).isNone
  else if ii = 0x45 ∧ w.sub = 1 then bad .notIdle (s.calStart m CalKind.channel v).isNone
  else if ii = 0x38 ∧ w.sub = 8 then bad .notIdle (s.opt m).spnEn
  else if ii = 0x3A ∧ (w.sub = 2 ∨ w.sub = 0x85) then bad .combo (decide (p 0x3A 2 < p 0x3A 0x85))
  else if ii = 0x3D ∧ [4, 5, 0x0D, 0x0F, 0x10, 0x11].contains w.sub = true then
    bad .combo (decide (p 0x3D 4 < p 0x3D 5 ∨ p 0x3D 4 < p 0x3D 0x0D ∨ p 0x3D 0x10 < p 0x3D 0x0F ∨
      p 0x3D 0x11 < p 0x3D 0x0F ∨ p 0x3D 0x10 < p 0x3D 0x11))
  else if (ii = 0x52 ∧ w.sub ≤ 2) ∨ (ii = 0x54 ∧ w.sub = 3) then
    bad .combo (decide (p 0x52 2 < p 0x52 1 ∨ p 0x52 1 < p 0x54 3))
  else none

/-- A status as an access error. -/
def AccErr.ofStatus (st : Nat) : AccErr :=
  if st = stUnitBusy then .notIdle else if st = stInvalidField then .combo else .other st

/-- A group code of 2650:01 (18 R496). -/
def groupSpan (v : Nat) : Option (Nat × Nat) :=
  if v < 0x20 then some (0x5000 + 0x20 * v, 0x5000 + 0x20 * v + 0x1F)
  else match v with
    | 0x100 => some (0x5400, 0x5420)
    | 0x101 => some (0x5421, 0x5422)
    | 0x102 => some (0x5423, 0x5423)
    | 0x103 => some (0x5424, 0x5427)
    | 0x104 => some (0x5428, 0x5428)
    | 0x105 => some (0x5429, 0x542E)
    | 0x106 => some (0x542F, 0x542F)
    | 0x107 => some (0x5430, 0x5430)
    | 0x108 => some (0x5431, 0x5431)
    | 0xFFFF => some (0x5000, 0x5431)
    | _ => none

/-- Whole host ranges (13 R538): range i of endpoint index 2222 or 2223. -/
def State.hostRangeBad (post : State) (index sub : Nat) : Bool :=
  let i := (sub - 1) % 8
  let base := post.objN (okey index (i + 1))
  let lim := post.objN (okey index (i + 9))
  decide (post.objN (okey index sub) % 4096 ≠ 0 ∨ (lim ≠ 0 ∧ lim ≤ base))

/-- Own checks of a rig object. -/
def State.ownRig (s post : State) (w : Wr) : Option AccErr :=
  let v := w.nat
  let i := w.index
  let bad : AccErr → Bool → Option AccErr := fun e b => if b then some e else none
  if 0x5000 ≤ i then bad .range (decide (v ≠ 0))
  else if i = 0x2130 ∧ w.sub = 4 then bad .combo (decide (s.now < s.pins.syncFall))
  else if i = 0x2222 ∨ i = 0x2223 then bad .combo (post.hostRangeBad i w.sub)
  else if 0x2310 ≤ i ∧ i ≤ 0x231F ∧ w.sub = 5 then bad .notIdle (decide (v = 1) && (s.copyOf (i - 0x2310)).isSome)
  else if i = 0x2401 then
    bad .combo (decide (post.objN (okey 0x2400 5) < post.objN (okey 0x2401 1) + post.objN (okey 0x2401 2) + 1024))
  else if i = 0x2410 ∧ w.sub = 5 then bad .notIdle (decide (s.maintQueue ≠ []))
  else if 0x2500 ≤ i ∧ i ≤ 0x253F then
    if w.sub = 3 then bad .combo (decide (post.objN (okey 0x2542 5) < (List.range 64).foldl (fun a e => a + post.objN (ekey e 3)) 0))
    else none
  else if i = 0x2540 ∧ w.sub ≤ 4 then bad .range (decide (w.bytes.length ≠ 1952))
  else if i = 0x2541 then
    if w.sub = 1 then bad .range (decide (w.bytes.length < 3397))
    else if w.sub = 3 then match post.loadRefused with
      | some 5 => some .notIdle
      | some _ => some .combo
      | none => none
    else none
  else if 0x2550 ≤ i ∧ i ≤ 0x2557 then
    if w.sub = 1 then bad .combo (decide (64 < v % 128))
    else if w.sub = 2 then bad .combo (!cvcValid v)
    else if w.sub = 8 then bad .range (decide (w.bytes = []))
    else none
  else if i = 0x2600 ∧ w.sub = 5 then bad .notIdle (decide (s.shroudState (otherShroud (shroudOf s.holder)) ≠ 2))
  else if i = 0x2630 ∧ w.sub = 1 then
    bad .combo ((clearedBits (s.objN w.key) v 32).any (fun m =>
      decide (s.moN m 8 5 % 4 = 3) || (s.maskBit (mkey m 8 4) 6 && s.maskBit (mkey m 8 4) 0)))
  else if i = 0x2650 then bad .range (groupSpan v).isNone
  else if i = 0x2670 ∧ w.sub = 1 then (s.updateRefused v).map AccErr.ofStatus
  else if i = 0x1011 then bad .notIdle (!((List.range 32).all s.mastIdle))
  else none

/-- Check 8 of one value (17 Table 17.2). -/
def State.ownCheck (s post : State) (w : Wr) : Option AccErr :=
  if clearOnly w.index w.sub = true ∧ w.nat &&& s.objN w.key ≠ w.nat then some .combo
  else if 0x3000 ≤ w.index ∧ w.index < 0x4000 then s.ownMast post ((w.index - 0x3000) / 0x80) ((w.index - 0x3000) % 0x80) w
  else if 0x4000 ≤ w.index ∧ w.index < 0x5000 then none
  else s.ownRig post w

/-! ## Checks 1 to 7 -/

/-- Check 5 and 6 on the bytes of a value: length, Range, reserved bits (17 Tables 17.1, 17.2; 00 R26). -/
def decodeValue (index sub : Nat) (r : ObjRow) (data : List Byte) : Except AccErr Wr :=
  if r.ty.fixed then
    let n := leNat data
    let v : Int := if r.ty.signed then toSigned n (8 * r.ty.bytes) else n
    if data.length ≠ r.ty.bytes then .error .length
    else if (r.ty = .bool ∧ 1 < n) ∨ (r.ranges ≠ [] ∧ r.ranges.any (fun x => decide (x.1 ≤ v ∧ v ≤ x.2)) = false) then .error .range
    else if r.mask ≠ 0 ∧ n &&& r.mask ≠ n then .error .combo
    else .ok { index := index, sub := sub, row := r, num := v }
  else if r.ty.bytes < data.length then .error .length
  else .ok { index := index, sub := sub, row := r, bytes := data }

/-- Checks 5 and 6 of a value under RWI, where its chapter states them in words (17 R458): selectors and speeds from lists (04 R131, 06), the
length and reserved bytes of a media description table's DOMAIN (09 R254), an engine's assignment and its unit's configuration (15
Tables 15.7, 15.8). -/
def State.valueBad (s : State) (w : Wr) : Option AccErr :=
  let v := w.nat
  let bad : AccErr → Bool → Option AccErr := fun e b => if b then some e else none
  if 0x3000 ≤ w.index ∧ w.index < 0x4000 then
    let ii := (w.index - 0x3000) % 0x80
    if ii = 0x2E ∧ 5 ≤ w.sub ∧ w.sub ≤ 8 then bad .combo (!selectorOk v)
    else if ii = 0x38 ∧ w.sub = 6 then bad .range (! [800, 1600, 2000, 3200, 4000, 8000, 16000].contains v)
    else none
  else if 0x4000 ≤ w.index ∧ w.index < 0x5000 then
    let t := (w.index - 0x4000) / 0x100
    let ii := (w.index - 0x4000) % 0x100
    let n := s.zones t
    let size : Nat := if ii = 3 then 16 * n else 8 * n * s.objN (tkey t 0 3)
    if ii = 3 ∨ ii = 4 then
      if w.bytes.length ≠ size then some .range
      else bad .combo (!reservedZero (if ii = 3 then 16 else 8) (if ii = 3 then 12 else 6) w.bytes)
    else none
  else if 0x2500 ≤ w.index ∧ w.index ≤ 0x253F then
    if w.sub = 2 then bad .combo (decide (64 < v % 128))
    else if w.sub = 7 then bad .combo (!cvcValid v)
    else none
  else none

/-- Checks 1 to 7 of a write of one sub-index (17 Table 17.2). -/
def State.canWrite (s : State) (p : Path) (index sub : Nat) (data : List Byte) : Except AccErr Wr :=
  match (rowsAt index).head? with
  | none => .error .index
  | some r0 =>
    let x := rowAt index sub
    if s.pathOk p index ((x.map (·.2)).getD r0) true = false then .error .path
    else match x with
      | none => .error .sub
      | some (i, r) =>
        if r.acc = .ro then .error .writeRo
        else match decodeValue index i r data with
          | .error e => .error e
          | .ok w => match s.valueBad w with
            | some e => .error e
            | none => if r.acc = .rwi ∧ s.ownerIdle index = false then .error .notIdle else .ok w

/-! ## Storing and acting -/

/-- Parameters of a host-owned unit live in the unit (15.9). -/
def unitParam (index sub : Nat) : Bool := decide (0x2550 ≤ index ∧ index ≤ 0x2557 ∧ 2 ≤ sub)
/-- The servo flags that a write clears by ones (04 R130). -/
def flagMask (index sub : Nat) : Bool :=
  decide (0x3000 ≤ index ∧ index < 0x4000 ∧ (index - 0x3000) % 0x80 = 0x20 ∧ (sub = 4 ∨ sub = 5))

/-- Stores one value. A WO value is an action, not stored state (17 R457), but the image of 2541:01 is staged. -/
def State.store1 (s : State) (w : Wr) : State :=
  if w.index = 0x2541 ∧ w.sub = 1 then { s with eng := { s.eng with image := w.bytes } }
  else if w.row.acc = .wo ∨ unitParam w.index w.sub = true ∨ flagMask w.index w.sub = true then s
  else if 0x5000 ≤ w.index ∧ w.index ≤ 0x5431 then s.clearCounter w.key
  else if w.row.ty.fixed then s.setObj w.key w.num
  else s.setBlob w.key w.bytes

/-- A HELLO on every port (14 R384). -/
def State.helloAll (s : State) : State := s.oweHello.helloFlush

/-- An endpoint's PERST as its link sees it is released (13 R369, 19 R514): it trains, or stays down while the platform asserts it. -/
def State.epRelease (s : State) (e : Endpoint) : State := s.linkOff e (if (s.ep e).perst then 0 else 1)

/-- Lanes cleared in M+08:04 or M+08:05 (03 R108): re-acquired at once while the link is up. -/
def State.lanesCleared (s : State) (m : Nat) (codes : List Nat) : State :=
  let s1 := forEach codes (fun c a => a.forgetFailures .lane m c) s
  if s1.linkUp m = false then
    (if 2 ≤ s1.linkSt m then forEach codes (fun c a => a.setLane m c { skip := true }) s1 else s1)
  else
    let s2 := forEach codes (fun c a => a.setLane m c { downAt := some a.now }) s1
    (forEach codes (fun c a => a.updLink m (fun y =>
      if c = 8 then { y with outDown0 := true } else if c = 9 then { y with outDown1 := true } else y)) s2).showLanes m

/-- A mast's bit in 2630:01 is cleared (18 R500): absent, its domain ungated, training afresh. -/
def State.mastCleared (s : State) (m : Nat) : State :=
  let s1 := (s.forgetFailures .mast m 0).forgetFailures .positioning m 0
  let s2 := (s1.setMastState m .absent).updMast m (fun x => { x with link := {} })
  ((s2.setLinkSt m 1).showLanes m).sendPrbs m

/-- The sled's bit is cleared (07 R192, 18 R500): FFLT[3] is cleared through FCLR (03 R95), and a mast faulted through its sled alone is
present again at once. -/
def State.sledCleared (s : State) (m : Nat) : State :=
  let s1 := (s.forgetFailures .sled m 0).updLink m (fun y => { y with fclr := y.fclr ||| 8 })
  if (s1.mast m).st = .faulted ∧ (s1.link m).sledOnly = true then (s1.unreference m false false).setMastState m .present else s1

/-- Retired decoders are cleared (10 R282). -/
def State.decodersCleared (s : State) (ds : List Nat) : State :=
  let s1 := forEach ds (fun d a => (a.forgetFailures .decoder 0 d).setDecoder d { untested := true, idleSince := a.now }) s
  s1.setObj (okey 0x2660 1) (s1.decodersHealthy : Nat)

/-- Retired engines are cleared (18 Table 18.2: the scratch is filled). -/
def State.enginesCleared (s : State) (es : List Nat) : State :=
  forEach es (fun e a => ((a.forgetFailures .engine 0 e).setEngine e { a.engine e with ctx := {} }).showEngine e) s.showEngines

/-- An engine's assignment or window size changes: its saves go, its window is given its pages, zeroed (15 R417, R421; 16 R433). -/
def State.engineChanged (s : State) (e : Nat) : State :=
  ((s.setEngine e { s.engine e with window := [], saves := [] }).givePages e).showEngine e

/-- The lease of a mast after a write of M+56:01 or :02 (14 R392, R394). -/
def State.leaseWritten (s : State) (m : Nat) : State := ((s.showLease m).showLeases).helloAll

/-- A write to 1011:01 (17 R476): every RWS sub-index takes its default, retirement records are kept, a save starts. -/
def State.loadDefaults (s : State) : State :=
  let s1 := { s with objs := tblDrop isRws s.objs, blobs := tblDrop isRws s.blobs }
  let s2 := forEach (s.masts.map (fun (x : Nat × Mast) => x.1)) (fun m a => a.updServo m (fun z => { z with
    act := tblDrop (fun k => isRws (mkey m (k / 256) (k % 256))) z.act })) s1
  (s2.chooseRoot.helloAll).requestSave []

/-- A group of counters becomes zero at one instant; events at that instant are counted after it (18 R496, 00 R30). -/
def State.clearGroup (s : State) (v : Nat) : State :=
  match groupSpan v with
  | some (lo, hi) =>
    let hit : Nat → Bool := fun k => decide (lo ≤ k / 256 ∧ k / 256 ≤ hi)
    let now := if s.countAt = s.now then s.counted.filter (fun p => hit p.1) else []
    forEach now (fun p a => a.setObj p.1 (min (p.2 : Int) (counterMax p.1))) { s with objs := tblDrop hit s.objs }
  | none => s

/-- Actions of a mast's object; `old` is the state before the write. -/
def State.actMast (old s : State) (m ii : Nat) (w : Wr) : State :=
  let v := w.nat
  let cleared : Nat → List Nat := fun n => clearedBits (old.objN w.key) v n
  if ii = 8 then s.lanesCleared m (if w.sub = 4 then cleared 7 else (cleared 2).map (· + 8))
  else if ii = 0x20 then
    if w.sub = 2 then s.commitBlocks m v
    else s.clearFlags m w.sub v
  else if ii = 0x2E ∧ w.sub = 2 then (if v = 1 then s.traceArm m else if v = 2 then s.traceStop m else s.traceFire m)
  else if ii = 0x30 ∧ w.sub = 5 then s.servoSailMode m v
  else if ii = 0x35 ∧ w.sub = 1 then (s.calStart m CalKind.loop v).getD s
  else if ii = 0x45 ∧ w.sub = 1 then (s.calStart m CalKind.channel v).getD s
  else if ii = 0x56 ∧ w.sub ≤ 2 then s.leaseWritten m
  else if ii = 0x58 then
    if w.sub = 1 then forEach (cleared 64) (fun k a => a.forgetFailures .dataSail m k) s
    else if w.sub = 2 then forEach (cleared 2) (fun k a => a.forgetFailures .servoSail m k) s
    else if cleared 1 ≠ [] then s.sledCleared m else s
  else if ii = 0x3D ∧ w.sub = 8 ∧ (s.sled m).lowered = false then s.setMo m 0x3E 7 w.num
  else s

/-- Actions of a host-owned unit (15 R423, R424). -/
def State.actUnit (old s : State) (h : Nat) (w : Wr) : State :=
  let u := s.unit h
  let v := w.nat
  match w.sub with
  | 1 => if old.objN w.key = v then s else s.setUnit h {}
  | 2 => s.setUnit h (u.setCfg v)
  | 3 => s.setUnit h { u with poly := u.cut v }
  | 4 => s.setUnit h { u with init := u.cut v }
  | 5 => s.setUnit h { u with xorout := u.cut v }
  | 6 => s.setUnit h { u with cvv := u.cut v }
  | 8 => s.setUnit h (u.feed w.bytes)
  | 9 => s.setUnit h { u with cvv := u.init }
  | _ => s

/-- Actions of a rig object. -/
def State.actRig (old s : State) (env : WEnv) (w : Wr) : State :=
  let v := w.nat
  let i := w.index
  let changed := decide (old.obj w.key ≠ s.obj w.key)
  let cleared : Nat → List Nat := fun n => clearedBits (old.objN w.key) v n
  if i = 0x1010 then s.requestSave env.waiters
  else if i = 0x1011 then s.loadDefaults
  else if i = 0x2001 ∨ i = 0x2302 then (if changed then s.chooseRoot.helloAll else s)
  else if i = 0x2130 ∧ w.sub = 4 then
    if s.objN (okey 0x2130 1) = 2 then
      ({ s with pins := { s.pins with syncEdges := 0, syncAt := none } }).setObj (okey 0x2130 1) 0
    else s
  else if i = 0x2301 ∧ 5 ≤ w.sub ∧ w.sub ≤ 8 then
    if cleared 2 = [] then s else s.gorcyLanesCleared (w.sub - 5) (cleared 2)
  else if 0x2310 ≤ i ∧ i ≤ 0x231F then
    let c := i - 0x2310
    if w.sub = 5 then (if v = 1 then (s.copyStart c).1 else s.copyAbort c)
    else if changed then
      { s with fabric := { s.fabric with copySerial := tblPut (fun _ => 0) c (s.copySerialOf c + 1) s.fabric.copySerial } }
    else s
  else if i = 0x2400 ∧ w.sub = 3 then s.channelsCleared ((cleared 16).foldl (fun a b => a + 2 ^ b) 0)
  else if i = 0x2410 ∧ w.sub = 1 then s.dropWays (fun x => decide (v ≤ x))
  else if i = 0x2410 ∧ w.sub = 2 then forEach (cleared 16) (fun x a => a.forgetFailures .way 0 x) s
  else if i = 0x2410 ∧ w.sub = 5 then s.maintain v (s.objN (okey 0x2410 6)) (s.objN (okey 0x2410 7))
  else if 0x2440 ≤ i ∧ i ≤ 0x244F then s.remapCleared (i - 0x2440) env.flips
  else if 0x2500 ≤ i ∧ i ≤ 0x253F ∧ (w.sub = 2 ∨ w.sub = 3) then
    (if changed then s.engineChanged (i - 0x2500) else s)
  else if i = 0x2541 ∧ w.sub = 3 then s.beginLoad
  else if i = 0x2542 ∧ w.sub = 2 then s.enginesCleared (cleared 64)
  else if 0x2550 ≤ i ∧ i ≤ 0x2557 then old.actUnit s (i - 0x2550) w
  else if i = 0x2600 ∧ w.sub = 5 then s.plannedPass (otherShroud (shroudOf s.holder))
  else if i = 0x2630 ∧ w.sub = 1 then forEach (cleared 32) (fun m a => a.mastCleared m) s
  else if i = 0x2630 ∧ w.sub = 2 then
    forEach (cleared 2) (fun e a => (a.forgetFailures .endpoint 0 e).epRelease (if e = 0 then .ha else .hb)) s
  else if i = 0x2630 ∧ w.sub = 3 then
    forEach (cleared 2) (fun x a => (a.forgetFailures .shroud 0 x).setShroud (shroudOf x) 1) s
  else if i = 0x2650 then s.clearGroup v
  else if i = 0x2660 ∧ w.sub = 2 then s.decodersCleared (cleared 64)
  else if i = 0x2660 ∧ w.sub = 3 then s.decodersCleared ((cleared 64).map (· + 64))
  else if i = 0x2670 ∧ w.sub = 1 then s.updateStart v
  else s

/-- The action that the write of one value starts. -/
def State.act1 (old : State) (env : WEnv) (w : Wr) (s : State) : State :=
  if 0x3000 ≤ w.index ∧ w.index < 0x4000 then old.actMast s ((w.index - 0x3000) / 0x80) ((w.index - 0x3000) % 0x80) w
  else if 0x4000 ≤ w.index ∧ w.index < 0x5000 then
    let t := (w.index - 0x4000) / 0x100
    s.setObj (tkey t 0 1) (if s.tableOk t then 1 else 0)
  else old.actRig s env w

/-- M+42 of some mast: the sails' adaptation steps (08 R211). -/
def trimIndex (index : Nat) : Bool := decide (0x3000 ≤ index ∧ index < 0x4000 ∧ (index - 0x3000) % 0x80 = 0x42)

/-- Applies the values of one write at one instant, then their actions in ascending order (17 R459, R460); an RWS write waits for its
save, but one of the epoch already in force changes nothing (R463), and a changed retirement record is saved at once (17 R474). -/
def State.applyWrites (s : State) (env : WEnv) (ws : List Wr) : State :=
  let s0 := match ws.find? (fun w => trimIndex w.index) with
    | some w => s.keepSteps ((w.index - 0x3000) / 0x80)
    | none => s
  let s1 := forEach ws (fun w a => a.store1 w) s0
  let s2 := if ws.any (fun w => decide (w.row.acc = .rws ∧ ¬(w.index = 0x2001 ∧ s.obj w.key = w.num))) then
      ({ s1 with nv := { s1.nv with uncovered := some (s1.nv.uncovered.getD s1.now) } }).setObj (okey 0x2700 5) 1
    else s1
  let s3 := forEach ws (fun w a => s.act1 env w a) s2
  if ws.any (fun w => retirementKeys.contains w.key && !(decide (0x2440 ≤ w.index ∧ w.index ≤ 0x244F)) &&
    decide (s.obj w.key ≠ w.num)) then s3.requestSave [] else s3

/-- The values of a complete write: bytes of each sub-index in turn (17 R460). -/
def splitComplete (index : Nat) : List Nat → List Byte → List (Nat × List Byte)
  | [], _ => []
  | i :: rest, b =>
    let n := match rowOf index i with
      | some r => r.ty.bytes
      | none => 0
    (i, b.take n) :: splitComplete index rest (b.drop n)

/-- Bytes that a complete access of n sub-indices carries. -/
def completeLen (index n : Nat) : Nat := (List.range n).foldl (fun a i => a + (match rowOf index (i + 1) with
  | some r => r.ty.bytes
  | none => 0)) 0

/-- Sub-index 00 of a complete write: it must equal its present value (17 R460). -/
def countPart (n : Nat) (b : List Byte) : List (Except AccErr Wr) :=
  if b.length < 2 then [.error .length] else if leNat b ≠ n then [.error .range] else []

/-- The first error of a list of checked values, and the values themselves. -/
def gather : List (Except AccErr Wr) → List Wr
  | [] => []
  | .ok w :: t => w :: gather t
  | .error _ :: t => gather t

/-- Every value of an access in ascending order with all its checks (17 R458, R460). -/
def State.checkWrites (s : State) (l : List (Except AccErr Wr)) : Except AccErr (List Wr) :=
  let ws := gather l
  let post := forEach ws (fun w a => a.store1 w) s
  l.foldl (fun a x => match a, x with
    | .error e, _ => .error e
    | .ok _, .error e => .error e
    | .ok ok, .ok w => match s.ownCheck post w with
      | some e => .error e
      | none => .ok (ok ++ [w])) (.ok [])

/-- The values a write access carries, in ascending order, each with its checks 1 to 7; of a complete write one that its bytes do not reach
fails by its length, and so do bytes beyond the last. -/
def State.writeParts (s : State) (p : Path) (index sub : Nat) (ca : Bool) (data : List Byte) : Except AccErr (List (Except AccErr Wr)) :=
  if ca then
    match s.completeForm p index sub true with
    | .error e => .error e
    | .ok n =>
      let head := if sub = 0 then 2 else 0
      .ok ((if sub = 0 then countPart n (data.take 2) else []) ++
        (splitComplete index ((List.range n).map (· + 1)) (data.drop head)).map (fun x => s.canWrite p index x.1 x.2) ++
        (if head + completeLen index n < data.length then [.error .length] else []))
  else .ok [s.canWrite p index sub data]

/-- A write access (17 R458 to R460): the state after it, and the error when it fails. A failed access takes no effect, but a refused
load leaves its outcome (15 R419) and every refusal is counted. -/
def State.writeObj (s : State) (p : Path) (env : WEnv) (index sub : Nat) (ca : Bool) (data : List Byte) : State × Option AccErr :=
  match s.writeParts p index sub ca data with
  | .error e => (s.countRefused e, some e)
  | .ok l => match s.checkWrites l with
    | .ok ws => (s.applyWrites env ws, none)
    | .error e =>
      let s1 := match index, sub, l with
        | 0x2541, 3, [.ok _] => match s.loadRefused with
          | some o => s.refuseLoad o
          | none => s
        | _, _, _ => s
      (s1.countRefused e, some e)

/-- A write of a plain value along a path, as the rows that name one object make it. Without a holder of the token, or before rig
ready, no access is taken (18 R485, 19 R514, R515): the row does not come about. -/
def State.pathWrite (s : State) (p : Path) (env : WEnv) (index sub n v : Nat) : State :=
  if s.hasHolder && s.boot.ready then (s.writeObj p env index sub false (leBytes n v)).1 else s

end Sys2Proof.Machine
end

