-- ==== Sys2Proof/Machine/Commands.lean ====
section
/-! DEFINITION. The command processor: arrival of packets, their checks, every opcode (12.1 to 12.7), doorbells and moderation. -/
namespace Sys2Proof.Machine

/-! ## The packet (12.2) -/

/-- Bits hi to lo of a packet. -/
def pk (p : Packet) (hi lo : Nat) : Nat := fld p.toNat hi lo

/-- A row of Table 12.2 with the reserved ranges of Tables 12.3 to 12.6. -/
structure OpRow where
  opc : Nat
  admin : Bool := false
  vf : Bool := true
  peer : Bool := true
  /-- it names a mast -/
  mast : Bool := false
  reserved : List (Nat × Nat)

/-- Opcodes (12 Table 12.2). -/
def opRows : List OpRow := [
  { opc := 0x01, mast := true, reserved := [(15, 11), (127, 69), (271, 267), (319, 288), (511, 384)] },
  { opc := 0x02, mast := true, reserved := [(15, 12), (127, 69), (511, 224)] },
  { opc := 0x03, mast := true, reserved := [(15, 8), (511, 69)] },
  { opc := 0x04, reserved := [(15, 8), (79, 76), (511, 96)] },
  { opc := 0x05, peer := false, mast := true,
    reserved := [(15, 13), (71, 69), (79, 78), (127, 93), (271, 267), (319, 288), (511, 384)] },
  { opc := 0x06, reserved := [(15, 9), (95, 88), (191, 128), (511, 256)] },
  { opc := 0x07, reserved := [(15, 9), (95, 88), (511, 256)] },
  { opc := 0x08, vf := false, peer := false, mast := true, reserved := [(15, 8), (71, 69), (511, 76)] },
  { opc := 0x09, vf := false, peer := false, mast := true, reserved := [(15, 9), (511, 69)] },
  { opc := 0x0A, vf := false, peer := false, mast := true, reserved := [(15, 8), (511, 69)] },
  { opc := 0x10, admin := true, peer := false, reserved := [(15, 8), (143, 132), (511, 156)] },
  { opc := 0x11, admin := true, peer := false, reserved := [(15, 8), (511, 76)] },
  { opc := 0x12, admin := true, peer := false, reserved := [(15, 8), (143, 132), (159, 155), (175, 168), (511, 197)] },
  { opc := 0x13, admin := true, peer := false, reserved := [(15, 8), (511, 76)] }]

/-- The row of an opcode. -/
def opRow (opc : Nat) : Option OpRow := opRows.find? (fun r => r.opc = opc)

/-- A reserved range of the packet is not zero, the ranges that its flags reserve among them (12 Tables 12.3, 12.5). -/
def reservedSet (r : OpRow) (p : Packet) : Bool :=
  let more := if r.opc = 0x01 ∨ r.opc = 0x05 then
      (if p.getLsbD 8 then [] else [(287, 272)]) ++ (if p.getLsbD 9 then [] else [(266, 256)]) ++
      (if r.opc = 0x05 ∧ p.getLsbD 10 = false then [(92, 80)] else [])
    else []
  (r.reserved ++ more).any (fun x => decide (pk p x.1 x.2 ≠ 0))

/-- A field lies outside its range (12 Tables 12.3 to 12.6; notes/assumptions/29.md for a peer's destinations). -/
def rangeBad (opc : Nat) (peer : Bool) (p : Packet) : Bool :=
  let len : Nat → Bool := fun v => decide (v < 1 ∨ 16777216 < v)
  if opc = 0x01 ∨ opc = 0x05 then
    len (pk p 255 224) || (p.getLsbD 8 && decide (pk p 287 272 < 1 ∨ 4096 < pk p 287 272 ∨ pk p 383 320 % 16 ≠ 0)) ||
      (peer && (p.getLsbD 8 || !p.getLsbD 9))
  else if opc = 0x02 then len (pk p 223 192) || decide (pk p 191 128 = 0)
  else if opc = 0x06 ∨ opc = 0x07 then
    decide (pk p 127 96 < 1 ∨ 65568 < pk p 127 96) || (peer && decide (opc = 0x06 ∧ 8 < pk p 127 96))
  else if opc = 0x10 ∨ opc = 0x12 then decide (pk p 127 64 % 4096 ≠ 0 ∨ pk p 131 128 < 4)
  else false

/-- Sub-index of a function in 2210 or 2211, and the masts assigned to it (13 Table 13.9). -/
def State.mastsOf (s : State) (f : Fn) : Nat := s.objN (okey (0x2210 + epIx f.ep) (f.fn + 1))

/-- The path of a queue's owner. -/
def Owner.path : Owner → Path
  | .fn f => .function f
  | .peer a => .peer a
  | .nobody => .fieldNet

/-- The checks of R318, R326 and R26, made once at arrival (12 R322): the status of a packet that fails one. -/
def State.arrivalStatus (s : State) (sq : SQ) (p : Packet) : Option Nat :=
  let denied : OpRow → Bool := fun r => match sq.owner with
    | .fn f => decide (f.fn ≠ 0) && !r.vf
    | .peer _ => !r.peer
    | .nobody => true
  let stranger := match sq.owner with
    | .peer a => decide (s.peerEpoch a ≠ s.epoch ∧ pk p 7 0 ≠ 0x06)
    | _ => false
  let peer := match sq.owner with
    | .peer _ => true
    | _ => false
  let unassigned := match sq.owner with
    | .fn f => !(s.mastsOf f).testBit (pk p 68 64)
    | _ => false
  match opRow (pk p 7 0) with
  | none => some stInvalidOpcode
  | some r =>
    if r.admin && !sq.admin && !(match sq.owner with
        | .peer _ => true
        | _ => false) then some stInvalidOpcode
    else if denied r then some stAccessDenied
    else if stranger then some stEpochMismatch
    else if reservedSet r p || rangeBad r.opc peer p then some stInvalidField
    else if r.mast && unassigned then some stAccessDenied
    else none

/-! ## READ and JOB (12.3, 15 R410) -/

/-- Sets where a command stands. -/
def State.stage (s : State) (cid : Nat) (st : Stage) : State := s.updCmd cid (fun c => { c with stage := st })

/-- An earlier WRITE of the same queue and extent that is held (12 R324, R339; 16 R439): its serial as a command. -/
def State.heldWrite (s : State) (c : Cmd) : Option Nat :=
  (s.host.cmds.find? (fun x => decide (x.opc = 0x02 ∧ x.sq = c.sq ∧ x.orphan = false ∧ x.owner = c.owner ∧ x.cid < c.cid ∧
    x.pf 191 128 = c.pf 191 128 ∧ (x.stage = .heldFurl ∨ x.stage = .heldMap)))).map (·.cid)

/-- An earlier WRITE of the same queue and extent that is neither accepted nor failed (12 R324): its serial. -/
def State.earlierWrite (s : State) (c : Cmd) : Option Nat :=
  (s.media.writes.find? (fun w => decide (w.sq = c.sq ∧ w.orphan = false ∧ w.owner = c.owner ∧
    w.ext = c.pf 191 128 ∧ w.cid < c.cid) && !w.accepted)).map (·.serial)

/-- The refusals of R327, decided before any byte is delivered. -/
def State.readRefused (s : State) (c : Cmd) : Option Nat :=
  let m := c.pf 68 64
  let ext := c.pf 191 128
  if (s.opt m).mismatch then some stMediaMismatch
  else if (s.tableOf m).isNone then some stMediaUnavailable
  else if s.moN m 0x56 3 = 2 then some stLeaseLost
  else match s.extentLen m ext with
    | none => some stExtentAbsent
    | some l =>
      if l < c.pf 223 192 + c.pf 255 224 then some stInvalidField
      else if s.needsDisc m ext (c.pf 223 192) (c.pf 255 224) ∧ s.decodersHealthy = 0 then some stMediaUnavailable
      else none

/-- A READ or JOB with its destination known: sectors are scheduled, or the segment waits for its engine. -/
def State.runRead (s : State) (c : Cmd) : State :=
  if c.opc = 0x05 then s.stage c.cid .job else (s.stage c.cid .reading).startReads c.cid

/-- A relocation entry of an extent is missing from the map: handled as a failed granule of it (16 R444, R439). -/
def State.relocMissing (s : State) (m ext : Nat) : Bool :=
  match s.extentOf m ext with
  | some e => decide ((s.relocsOf m ext (meNrel e)).length ≠ meNrel e)
  | none => false

/-- A READ or JOB runs (12 R324, R327, R328; 01 R34). -/
def State.startRead (s : State) (c : Cmd) : State :=
  match s.earlierWrite c, s.readRefused c with
  | some w, _ => s.stage c.cid (.heldQueueWrite w)
  | none, some st => s.failCmd c st
  | none, none =>
    let m := c.pf 68 64
    if s.relocMissing m (c.pf 191 128) then s.loseMap.stage c.cid .heldMap
    else if c.opc = 0x01 ∧ (s.mast m).st = .writing ∧ s.needsDisc m (c.pf 191 128) (c.pf 223 192) (c.pf 255 224) = true then
      s.stage c.cid .heldWriting
    else if c.pkt.getLsbD 8 then
      match c.owner with
      | .fn f => (s.stage c.cid .scatter).needRead f (c.pf 383 320) (16 * c.pf 287 272) (.scatterList c.cid)
      | _ => s.failCmd c stTransferError
    else s.runRead c

/-- A scatter list has been fetched (12 R328, Table 12.7). -/
def State.scatterIn (s : State) (cid : Nat) (data : List Byte) : State :=
  match s.cmd cid with
  | none => s
  | some c =>
    let ents := (List.range (c.pf 287 272)).map (fun i => (data.drop (16 * i)).take 16)
    let l := ents.map (fun b => (leNat (b.take 8), leNat ((b.drop 8).take 4)))
    if c.stage ≠ .scatter then s
    else if ents.any (fun b => decide (leNat (b.drop 12) ≠ 0 ∨ leNat ((b.drop 8).take 4) = 0)) then s.failCmd c stInvalidField
    else if c.opc = 0x01 ∧ (l.map (·.2)).foldl (· + ·) 0 ≠ c.pf 255 224 then s.failCmd c stInvalidField
    else (s.updCmd cid (fun x => { x with scatter := l })).runRead c

/-- The refusals of R410. -/
def State.jobRefused (s : State) (c : Cmd) : Option Nat :=
  let e := c.pf 77 72
  let open_ := (s.engine e).openJobs.contains c.sq
  let entry := c.pf 92 80
  let mine := match c.owner with
    | .fn f => s.engineOf f e
    | _ => false
  if s.maskBit (okey 0x2542 2) e ∨ (s.engine e).loading = true ∨ s.objN (ekey e 2) / 0x4000 % 2 = 1 then some stEngineUnavailable
  else if mine = false then some stAccessDenied
  else if c.pkt.getLsbD 10 = open_ then some stInvalidField
  else if c.pkt.getLsbD 10 ∧ 0x40 ≤ entry ∧ entry ≤ 0x5FF then some stInvalidField
  else none

/-- A JOB takes its place at its engine; a FIRST opens its job (12.2, 15 R410). -/
def State.joinEngine (s : State) (c : Cmd) : State :=
  let e := c.pf 77 72
  let en := s.engine e
  s.setEngine e { en with
    waiting := en.waiting ++ [c.cid], openJobs := if c.pkt.getLsbD 10 then en.openJobs ++ [c.sq] else en.openJobs }

/-! ## WRITE and FLUSH (12.4, 12.7) -/

/-- A WRITE asks for its grant (12 R330). -/
def State.startWrite (s : State) (c : Cmd) : State :=
  let m := c.pf 68 64
  if (s.tableOf m).isNone ∨ s.decodersHealthy = 0 then s.complete c.cid stMediaUnavailable 0
  else match s.writeRefused m with
    | some st => s.complete c.cid st 0
    | none =>
      let n := s.media.nextSerial
      let w : Write := {
        serial := n, cid := c.cid, sq := c.sq, owner := c.owner, tag := c.tag, seq := c.seq, mast := m, ext := c.pf 191 128,
        len := c.pf 223 192, str := c.pf 11 10, xpe := c.pkt.getLsbD 9, dur := c.pkt.getLsbD 8 }
      let s1 := { s with media := { s.media with writes := s.media.writes ++ [w], nextSerial := n + 1 } }
      (s1.stage c.cid (.write n)).grant c.cid

/-- A FLUSH closes the open record and waits for what was accepted before it (12 R337). -/
def State.startFlush (s : State) (c : Cmd) : State :=
  let m := c.pf 68 64
  let s1 := s.closeRec m
  let l := (sortBy (fun a b => decide (a.order ≤ b.order)) (s1.media.writes.filter (fun w => w.mast = m && w.accepted))).map (·.serial)
  if l = [] then s1.complete c.cid 0 0
  else s1.updCmd c.cid (fun x => { x with stage := .flush, covers := l })

/-! ## ABORT (12.6) -/

/-- The COMPLETION of a command of SQ q with this tag still waits on its EQ (12 R325). -/
def State.completionWaits (s : State) (q tag : Nat) : Bool :=
  (s.eq (s.sq q).eq).waiting.any (fun r => decide (r.type = 0x01 ∧ r.res = q ∧ r.tag = tag) && !r.dup)

/-- ABORT is settled at its arrival (12 R335, Table 12.8). -/
def State.startAbort (s : State) (c : Cmd) : State :=
  let q := c.pf 75 64
  let tag := c.pf 95 80
  if (s.sq q).owner ≠ c.owner then s.complete c.cid stInvalidField 0
  else match s.host.cmds.find? (fun x => decide (x.sq = q ∧ x.tag = tag ∧ x.orphan = false ∧ x.owner = c.owner)) with
    | some x =>
      if x.cid = c.cid then s.complete c.cid stAbortTooLate 0
      else
        let (s1, reply) := s.settle x.cid
        if reply ≠ stAbortTooLate ∧ (s1.cmd x.cid).isSome = true then s1.updCmd c.cid (fun y => { y with stage := .settling [x.cid] reply })
        else s1.complete c.cid reply 0
    | none => s.complete c.cid (if s.completionWaits q tag then stAbortTooLate else stAbortNoTag) 0

/-! ## DICT_READ and DICT_WRITE (12 Table 12.6, 17.1) -/

/-- Complete access, FLAGS [8]. -/
def Cmd.ca (c : Cmd) : Bool := c.pkt.getLsbD 8

/-- DICT_READ: a value of at most 8 bytes goes into RESULT, a longer one to the buffer as data (12 Table 12.6, R343). -/
def State.startDictRead (s : State) (c : Cmd) : State :=
  let len := c.pf 127 96
  let refuse : AccErr → State := fun e => (s.countRefused e).complete c.cid e.status 0
  match s.readObj c.owner.path (c.pf 79 64) (c.pf 87 80) c.ca with
  | .error e => refuse e
  | .ok b => match intoSpace (c.pf 79 64) (c.pf 87 80) c.ca len b with
    | .error e => refuse e
    | .ok v =>
      if len ≤ 8 then s.complete c.cid 0 (leNat v)
      else match c.owner with
        | .fn f =>
          let a := c.pf 255 192
          ((s.tlp f.ep (.write f a v)).updCmd c.cid (fun x => { x with written := [(a, len)] })).finishData c.cid 0
        | _ => s.complete c.cid stInvalidField 0

/-- A DICT_WRITE's value is at hand: it is applied or refused (12 Table 12.2). A save's outcome is awaited (17 R474). -/
def State.dictApply (s : State) (cid : Nat) (data : List Byte) : State :=
  match s.cmd cid with
  | none => s
  | some c =>
    match s.writeObj c.owner.path { waiters := [.cmd cid] } (c.pf 79 64) (c.pf 87 80) c.ca data with
    | (s1, some e) => s1.complete cid e.status 0
    | (s1, none) => if c.pf 79 64 = 0x1010 then s1.stage cid .action else s1.complete cid 0 0

/-- DICT_WRITE (12 Table 12.6): a value beyond 8 bytes is fetched from its buffer first. -/
def State.startDictWrite (s : State) (c : Cmd) : State :=
  let len := c.pf 127 96
  if len ≤ 8 then s.dictApply c.cid (leBytes len (c.pf 191 128))
  else match c.owner with
    | .fn f => (s.stage c.cid .dictBuffer).needRead f (c.pf 255 192) len (.dictData c.cid)
    | _ => s.dictApply c.cid (List.replicate len 0)

/-! ## MOUNT, UNMOUNT, FURL (12.7, 09.10, 14 R392) -/

/-- What a mount sets: the table's number, its PID values and radius curve (09 R254), and the along-track offsets (08 R199). -/
def State.mountValues (s : State) (m t : Nat) : List (Nat × Int) :=
  let b := s.objN (tkey t 0 4)
  (mkey m 0x50 1, (t : Int)) ::
    ((List.range 48).map (fun i => (mkey m 0x33 (i + 1), s.obj (tkey t 1 (i + 1))))) ++
    ((1 :: ((List.range 16).map (· + 0x10) ++ (List.range 16).map (· + 0x20))).map (fun i =>
      (mkey m 0x3B i, s.obj (tkey t 2 i)))) ++
    ((List.range 64).map (fun k => (mkey m 0x40 (k + 1), (((k + 1) * 64 * s.moN m 0x42 0x0C / b : Nat) : Int))))

/-- MOUNT until its log has been read (09 R254, R255; 12 R340; 14 R392). -/
def State.startMount (s : State) (c : Cmd) : State :=
  let m := c.pf 68 64
  let t := c.pf 75 72
  if (s.tableOf m).isSome then s.complete c.cid stUnitBusy 0
  else if s.objN (tkey t 0 1) = 0 ∨ s.tableOk t = false then s.complete c.cid stInvalidField 0
  else if s.moN m 0x56 2 = 0 ∨ s.moN m 0x56 1 = 0 ∨ s.moN m 0x56 3 = 2 then s.complete c.cid stLeaseLost 0
  else
    let l := s.mountValues m t
    let keys := l.map (·.1) ++ acquisitionKeys m
    let s1 := s.updMast m (fun x => { x with
      mountSaved := keys.map (fun k => (k, s.obj k)), sails := x.sails.map (fun p => (p.1, { p.2 with reload := true })) })
    ((forEach l (fun p a => a.setObj p.1 p.2) s1).logAnew m).stage c.cid .mounting

/-- The mast holds no table (12 Table 12.2, 16 R443; notes/assumptions/30.md for what the disc leaves behind). -/
def State.unmounted (s : State) (m : Nat) : State :=
  let s1 := ((s.dropSectors m stMediaUnavailable).mapUnmount m).setMo m 0x50 1 255
  let s2 := { s1 with media := { s1.media with
    mapLost := s1.media.mapLost.filter (· ≠ m), retained := s1.media.retained.filter (fun r => r.mast ≠ m), groups := s1.media.groups.filter (fun g => g.mast ≠ m) } }
  (s2.updOpt m (fun x => { x with mismatch := false })).updMast m (fun x => { x with
    mountSaved := [], wr := { periodAt := x.wr.periodAt } })

/-- UNMOUNT (12 R340). -/
def State.startUnmount (s : State) (c : Cmd) : State :=
  let m := c.pf 68 64
  let busy := s.host.cmds.any (fun x => decide (x.mast = some m ∧ x.cid ≠ c.cid)) || s.media.writes.any (fun w => w.mast = m) ||
    s.host.eqs.any (fun e => e.2.waiting.any (fun r => decide (r.mast = some m)))
  if c.pkt.getLsbD 8 then
    let s1 := ((s.failPending m stMediaUnavailable).endReads m stMediaUnavailable).failUnaccepted m stMediaUnavailable
    ((s1.mountFails m stMediaUnavailable).unmounted m).complete c.cid 0 0
  else if busy then s.complete c.cid stUnitBusy 0
  else (s.unmounted m).complete c.cid 0 0

/-- FURL: it completes once the mast is present (06 R173). -/
def State.startFurl (s : State) (c : Cmd) : State :=
  let m := c.pf 68 64
  let s1 := s.furlMast m
  if (s1.mast m).st = .furling then s1.stage c.cid .furling else s1.complete c.cid 0 0

/-! ## Queue commands (12 R318, R336, Table 12.6) -/

/-- Limit on SQs, and on EQs, of a function (12 R348). -/
def State.queueLimit (s : State) (f : Fn) : Nat := s.objN (okey 0x2280 (if f.fn = 0 then 5 else 4))
/-- SQs and EQs of an owner. -/
def State.sqsOf (s : State) (o : Owner) : List (Nat × SQ) := s.host.sqs.filter (fun p => p.2.owner = o)
def State.eqsOf (s : State) (o : Owner) : List (Nat × EQ) := s.host.eqs.filter (fun p => p.2.owner = o)

/-- CREATE_SQ. -/
def State.startCreateSq (s : State) (c : Cmd) : State :=
  let e := c.pf 155 144
  match c.owner with
  | .fn f =>
    if (s.eq e).owner ≠ c.owner then s.complete c.cid stInvalidField 0
    else if s.queueLimit f ≤ (s.sqsOf c.owner).length then s.complete c.cid stNoQueue 0
    else match s.freeSq with
      | none => s.complete c.cid stNoQueue 0
      | some q =>
        (s.setSq q { owner := c.owner, base := c.pf 127 64, log := c.pf 131 128, eq := e }).showQueues.complete c.cid 0 q
  | _ => s.complete c.cid stAccessDenied 0

/-- CREATE_EQ. -/
def State.startCreateEq (s : State) (c : Cmd) : State :=
  match c.owner with
  | .fn f =>
    if vecCount f ≤ c.pf 154 144 then s.complete c.cid stInvalidField 0
    else if f.fn ≠ 0 ∧ c.pf 207 192 ≠ 0 then s.complete c.cid stAccessDenied 0
    else if s.queueLimit f ≤ (s.eqsOf c.owner).length then s.complete c.cid stNoQueue 0
    else match s.freeEq with
      | none => s.complete c.cid stNoQueue 0
      | some e =>
        (s.setEq e {
          owner := c.owner, base := c.pf 127 64, log := c.pf 131 128, vec := c.pf 154 144, icnt := c.pf 167 160,
          itime := c.pf 191 176, subs := c.pf 207 192 }).showQueues.complete c.cid 0 e
  | _ => s.complete c.cid stAccessDenied 0

/-- DELETE_SQ (12 R336). -/
def State.startDeleteSq (s : State) (c : Cmd) : State :=
  let q := c.pf 75 64
  if q < firstQueue ∨ (s.sq q).owner ≠ c.owner then s.complete c.cid stInvalidField 0
  else
    let s1 := s.stopSq q
    match s1.flushingOf q with
    | [] => ((s1.setSq q {}).showQueues).complete c.cid 0 0
    | l => s1.updCmd c.cid (fun x => { x with stage := .settling l 0 })

/-- DELETE_EQ: it fails while an SQ is bound to the EQ. -/
def State.startDeleteEq (s : State) (c : Cmd) : State :=
  let e := c.pf 75 64
  if e < firstQueue ∨ (s.eq e).owner ≠ c.owner then s.complete c.cid stInvalidField 0
  else if s.host.sqs.any (fun p => decide (p.2.owner ≠ .nobody ∧ p.2.eq = e)) then s.complete c.cid stUnitBusy 0
  else ((s.setEq e {}).showQueues).complete c.cid 0 0

/-! ## Arrival (12 R322, R325, R333, R339) -/

/-- What stops a command naming a mast at its arrival (12 R339). -/
def State.mastStop (s : State) (m : Nat) : Option Nat :=
  if (s.mast m).st = .faulted then some stMastFaulted
  else if (s.mast m).st = .retired then some stMediaUnavailable
  else none

/-- A command that needs its spindle started: R174 fails it while FURL_N is asserted. -/
def State.needsStart (s : State) (c : Cmd) : Bool :=
  decide (c.opc = 0x08) || (decide (c.opc = 0x01 ∨ c.opc = 0x05) &&
    s.needsDisc (c.pf 68 64) (c.pf 191 128) (c.pf 223 192) (c.pf 255 224))

/-- Runs a command by its opcode. -/
def State.dispatchCmd (s : State) (c : Cmd) : State :=
  if c.opc = 0x01 ∨ c.opc = 0x05 then s.startRead c
  else if c.opc = 0x02 then s.startWrite c
  else if c.opc = 0x03 then s.startFlush c
  else if c.opc = 0x04 then s.startAbort c
  else if c.opc = 0x06 then s.startDictRead c
  else if c.opc = 0x07 then s.startDictWrite c
  else if c.opc = 0x08 then s.startMount c
  else if c.opc = 0x09 then s.startUnmount c
  else if c.opc = 0x0A then s.startFurl c
  else if c.opc = 0x10 then s.startCreateSq c
  else if c.opc = 0x11 then s.startDeleteSq c
  else if c.opc = 0x12 then s.startCreateEq c
  else s.startDeleteEq c

/-- A checked command begins, fails over with its mast, or waits: for an earlier WRITE of its queue (12 R324), for FURL_N (12 R339), or for
its mast's part of the Extent Map (16 R439). -/
def State.start (s : State) (cid : Nat) : State :=
  match s.cmd cid with
  | none => s
  | some c =>
    match c.mast with
    | none => s.dispatchCmd c
    | some m => match s.mastStop m with
      | some st => s.failCmd c st
      | none =>
        if (c.opc = 0x01 ∨ c.opc = 0x05) ∧ (s.heldWrite c).isSome = true then s.stage cid (.heldBehind ((s.heldWrite c).getD 0))
        else if (c.opc = 0x01 ∨ c.opc = 0x05) ∧ (s.earlierWrite c).isSome = true then s.stage cid (.heldQueueWrite ((s.earlierWrite c).getD 0))
        else if s.pins.furlN then
          (if s.needsStart c then s.failCmd c stMastFurled else s.stage cid .heldFurl)
        else if s.media.mapLost.contains m then s.stage cid .heldMap
        else s.dispatchCmd c

/-- A packet with this TAG cannot be taken: a command with it is outstanding on the SQ (12 R325). -/
def State.tagInUse (s : State) (q tag : Nat) : Bool :=
  s.host.cmds.any (fun c => decide (c.sq = q ∧ c.tag = tag ∧ c.orphan = false ∧ c.owner ≠ .nobody)) || s.completionWaits q tag

/-- Key of the duplicate counter of SQ q (18 R495). -/
def dupCounter (q : Nat) : Nat := okey (0x5400 + q / 128) (q % 128 + 1)

/-- A duplicate (12 R333): completed as its original was, or with it. -/
def State.duplicate (s : State) (q tag seq : Nat) (d : DupEntry) : State :=
  let s1 := s.count (dupCounter q)
  match d.done with
  | some (st, res) => s1.postCompletion none q tag seq st res true
  | none => s1.setCmds (s1.host.cmds.map (fun c =>
      if c.sq = q ∧ c.tag = tag ∧ c.seq = seq ∧ c.orphan = false then { c with dups := c.dups + 1 } else c))

/-- A packet enters the duplicate table and becomes an outstanding command: its serial. -/
def State.enter (s : State) (q : Nat) (p : Packet) : Nat × State :=
  let x := s.sq q
  let cid := s.host.nextCid
  let opc := pk p 7 0
  let c : Cmd := {
    cid := cid, sq := q, owner := x.owner, opc := opc, tag := pk p 31 16, seq := pk p 63 32, pkt := p,
    mast := match opRow opc with
      | some r => if r.mast then some (pk p 68 64) else none
      | none => none
    stage := .action }
  let s1 := s.setSq q { x with dups := (({ tag := c.tag, seq := c.seq, done := none } : DupEntry) :: x.dups).take 4096 }
  let s2 := { s1 with host := { s1.host with cmds := s1.host.cmds ++ [c], nextCid := cid + 1 } }
  (cid, match x.owner with
    | .fn f => s2.ltrUpdate f.ep
    | _ => s2)

/-- A packet that is neither a duplicate nor a tag conflict is checked and run (12 R322). -/
def State.execute (s : State) (q : Nat) (p : Packet) : State :=
  let (cid, s1) := s.enter q p
  match s1.arrivalStatus (s1.sq q) p, s1.cmd cid with
  | some st, _ => s1.complete cid st 0
  | none, some c =>
    if c.opc = 0x05 then
      match s1.jobRefused c with
      | some st => s1.complete cid st 0
      | none => (s1.joinEngine c).start cid
    else s1.start cid
  | none, none => s1

/-- The epoch last known of the peer that owns SQ q. -/
def State.epochOfSq (s : State) (q : Nat) : Nat := match (s.sq q).owner with
  | .peer a => s.peerEpoch a
  | _ => s.epoch

/-- A packet of SQ q is in hand, sent under epoch e: that is its peer's epoch, unless the peer is a neighbour, whose HELLOs say it
(14 R386). -/
def State.inHand (s : State) (q e : Nat) : State := match (s.sq q).owner with
  | .peer a => if s.isNeighbour a then s else { s with fabric := { s.fabric with epochs := tblPut (fun _ => 0) a (e + 1) s.fabric.epochs } }
  | _ => s

/-- A packet arrives on SQ q (12 R322, R325, R333). While no shroud holds the token it is held (18 R485). -/
def State.arrive (s : State) (q : Nat) (p : Packet) : State :=
  let x := s.sq q
  let tag := pk p 31 16
  let seq := pk p 63 32
  if x.owner = .nobody then s
  else if !s.hasHolder then { s with host := { s.host with heldPackets := s.host.heldPackets ++ [(q, p, s.epochOfSq q)] } }
  else match x.dups.find? (fun d => d.tag = tag ∧ d.seq = seq) with
    | some d => s.duplicate q tag seq d
    | none =>
      if s.tagInUse q tag then (s.count (okey 0x5420 4)).postCompletion none q tag seq stTagInUse 0 false
      else s.execute q p

/-- Packets held while no shroud held the token arrive in order (18 R485). -/
def State.arriveHeld (s : State) : State :=
  if s.hasHolder then
    forEach s.host.heldPackets (fun x a => (a.inHand x.1 x.2.2).arrive x.1 x.2.1) { s with host := { s.host with heldPackets := [] } }
  else s

/-- Commands held by FURL_N begin, in the order of their arrival (12 R339). -/
def State.startFurled (s : State) : State :=
  forEach (s.host.cmds.filter (fun c => decide (c.stage = .heldFurl))) (fun c a => a.start c.cid) s

/-- A peer's SQ is taken from only while no record waits on its EQ (12 R345, 14 R395). -/
def State.peerHalted (s : State) (x : SQ) : Bool :=
  match x.owner with
  | .peer _ => decide ((s.eq x.eq).waiting ≠ [])
  | _ => false

/-- The SQ whose turn it is (12 R322): round robin over those with a fetched packet, admin SQs first. -/
def State.sqTurn (s : State) : Option Nat :=
  let l := s.host.sqs.filter (fun x => decide (x.2.fetched ≠ []) && !s.peerHalted x.2)
  let admin := l.any (fun x => x.2.admin)
  let first := if admin then l.filter (fun x => x.2.admin) else l
  ((first.find? (fun x => decide ((if admin then s.host.turnAdmin else s.host.turnFrom) ≤ x.1))).orElse (fun _ => first.head?)).map (·.1)

/-- Packet p is the one that the command processor takes next, and it is SQ q's (12 R322). -/
def State.nextPacket (s : State) (q : Nat) (p : Packet) : Bool := decide (s.sqTurn = some q ∧ (s.sq q).fetched.head? = some p)

/-- SQ q's first fetched packet leaves its list, and the turn passes on: among the admin SQs, or among the others (12 R322). -/
def State.popped (s : State) (q : Nat) : State :=
  let s1 := s.setSq q { s.sq q with fetched := (s.sq q).fetched.tail, epochs := (s.sq q).epochs.tail }
  if (s.sq q).admin then { s1 with host := { s1.host with turnAdmin := q + 1 } } else { s1 with host := { s1.host with turnFrom := q + 1 } }

/-- The first packet of SQ q is in hand, with the epoch it came under (12 R322, 14 R386). -/
def State.handed (s : State) (q : Nat) : State := (s.popped q).inHand q ((s.sq q).epochs.headD s.epoch)

/-- The command processor takes packet p of SQ q, where that is the next one (12 R322). -/
def State.takePacket (s : State) (q : Nat) (p : Packet) : State := if s.nextPacket q p then (s.handed q).arrive q p else s

/-- An arrival row: the packet carries the row's opcode. -/
def arrivalRow (opc t q : Nat) (p : Packet) (s : State) : Res :=
  let s0 := s.at_ t
  .next (if pk p 7 0 = opc then s0.takePacket q p else s0)

/-! ## Doorbells and moderation (12 R320, R344 to R346) -/

/-- An ignored doorbell write (12 R320). -/
def State.ignoredDoorbell (s : State) (f : Fn) (q off : Nat) : State :=
  (s.count (okey 0x5420 1)).conditionTo (.fn f) 0x0001 4 q off

/-- SQ tail doorbell. -/
def State.tailDoorbell (s : State) (f : Fn) (q v width : Nat) : State :=
  let x := s.sq q
  if width = 32 ∧ q < 4096 ∧ x.owner = .fn f ∧ v < 2 ^ x.log then (s.setSq q { x with tail := v }).fetchSq q
  else s.ignoredDoorbell f q (0x10000 + 8 * q)

/-- EQ head doorbell. -/
def State.headDoorbell (s : State) (f : Fn) (e v width : Nat) : State :=
  let x := s.eq e
  let off := 0x18000 + 8 * e
  if width = 32 ∧ e < 4096 ∧ x.owner = .fn f ∧ v < x.size then
    if (v + x.size - x.head) % x.size ≤ x.used then
      ((s.setEq e { x with head := v }).drainEq e (x.waiting.length + 1)).fetchBound e
    else (s.count (okey 0x5420 2)).conditionTo (.fn f) 0x0001 4 e off
  else s.ignoredDoorbell f e off

/-- The moderation time of an EQ has passed (12 R346). -/
def State.moderate (s : State) (e : Nat) : State :=
  let x := s.eq e
  if 0 < x.unsig ∧ x.unsigAt + 100 * x.itime ≤ s.now then s.signal e else s

/-- A vector is unmasked: a pending message leaves, and signals the records of the EQs that asked for it (12 R346). -/
def State.unmask (s : State) (f : Fn) (vec : Nat) : State :=
  let r := s.fnr f
  let v := tblGet (fun _ => ({} : MsixEntry)) r.msix vec
  let s1 := s.setFnr f { r with msix := tblPut (fun _ => ({} : MsixEntry)) vec { v with masked := false, pend := false } r.msix }
  if v.masked ∧ v.pend then
    (forEach (s1.host.eqs.filter (fun p => decide (p.2.owner = .fn f ∧ p.2.vec = vec) && p.2.asked)) (fun p a =>
      a.setEq p.1 { p.2 with asked := false, unsig := 0, unsigAt := 0 }) s1).tlp f.ep (.msix f v.addr v.data)
  else s1

/-! ## Rows -/

/-- READ (12.3). -/
def execRead (t q : Nat) (p : Packet) (s : State) : Res := arrivalRow 0x01 t q p s
/-- WRITE (12.4). -/
def execWrite (t q : Nat) (p : Packet) (s : State) : Res := arrivalRow 0x02 t q p s
/-- FLUSH (12.7). -/
def execFlush (t q : Nat) (p : Packet) (s : State) : Res := arrivalRow 0x03 t q p s
/-- ABORT (12.6). -/
def execAbort (t q : Nat) (p : Packet) (s : State) : Res := arrivalRow 0x04 t q p s
/-- JOB (12.2, 15.5). -/
def execJob (t q : Nat) (p : Packet) (s : State) : Res := arrivalRow 0x05 t q p s
/-- DICT_READ (12 Table 12.6). -/
def execDictRead (t q : Nat) (p : Packet) (s : State) : Res := arrivalRow 0x06 t q p s
/-- DICT_WRITE (12 Table 12.6). -/
def execDictWrite (t q : Nat) (p : Packet) (s : State) : Res := arrivalRow 0x07 t q p s
/-- MOUNT (12 Table 12.6). -/
def execMount (t q : Nat) (p : Packet) (s : State) : Res := arrivalRow 0x08 t q p s
/-- UNMOUNT (12 R340). -/
def execUnmount (t q : Nat) (p : Packet) (s : State) : Res := arrivalRow 0x09 t q p s
/-- FURL (06 R173). -/
def execFurl (t q : Nat) (p : Packet) (s : State) : Res := arrivalRow 0x0A t q p s
/-- CREATE_SQ (12 Table 12.6). -/
def execCreateSq (t q : Nat) (p : Packet) (s : State) : Res := arrivalRow 0x10 t q p s
/-- DELETE_SQ (12 R336). -/
def execDeleteSq (t q : Nat) (p : Packet) (s : State) : Res := arrivalRow 0x11 t q p s
/-- CREATE_EQ (12 Table 12.6). -/
def execCreateEq (t q : Nat) (p : Packet) (s : State) : Res := arrivalRow 0x12 t q p s
/-- DELETE_EQ (12 Table 12.6). -/
def execDeleteEq (t q : Nat) (p : Packet) (s : State) : Res := arrivalRow 0x13 t q p s

/-- A packet with an opcode that Table 12.2 does not list (12 R326). -/
def execUnknownOpcode (t q : Nat) (p : Packet) (s : State) : Res :=
  let s0 := s.at_ t
  .next (if (opRow (pk p 7 0)).isNone then s0.takePacket q p else s0)

/-- READ_HELD_RELEASE (01 R34, 12 R324): what held the command is over. -/
def execReadHeldRelease (t cid : Nat) (s : State) : Res :=
  let s0 := s.at_ t
  .next (match s0.cmd cid with
    | some c =>
      let excess : Bool := match c.stage with
        | .heldWriting => decide ((s0.mast (c.pf 68 64)).st ≠ .writing)
        | .heldQueueWrite n => match s0.write n with
          | some w => w.accepted
          | none => true
        | .heldBehind n => match s0.cmd n with
          | some x => decide (x.stage ≠ .heldFurl ∧ x.stage ≠ .heldMap)
          | none => true
        | _ => false
      if excess then s0.start cid else s0
    | none => s0)

/-- Commands that waited for a mast's part of the Extent Map begin or go on, in the order of their arrival (16 R439): writes whose data
is staged reach their accepted points first. -/
def State.startMapped (s : State) (m : Nat) : State :=
  if s.media.mapLost.contains m then s
  else
    let full := s.media.writes.filter (fun w => decide (w.mast = m ∧ w.phase = .granted ∧ w.got.length = w.ngr))
    let s1 := forEach full (fun w a => a.acceptPoint w.serial) s
    forEach (s1.host.cmds.filter (fun c => decide (c.pf 68 64 = m ∧ (c.stage = .heldMap ∨ c.mapWait = true)))) (fun c a =>
      if c.mapWait then (a.updCmd c.cid (fun x => { x with mapWait := false })).startReads c.cid else a.start c.cid) s1

/-- MOUNT_LOG_READ (11 R310, R295; 16 R439): the log slots that the mast read, from its first on, end the log; `slots` and `spares` hold the
greatest sync metric of the placement slots and of the spare slots of each stripe that the search of the frontier read. -/
def execMountLogRead (t m : Nat) (slots spares : List Int) (s : State) : Res :=
  .next (onMast m (s.at_ t) (fun a => (a.logRead m (slots.zipWith max spares)).startMapped m))

/-- SQ_TAIL_DOORBELL (12 R320, R322). -/
def execSqTailDoorbell (t : Nat) (f : Fn) (q v width : Nat) (s : State) : Res :=
  let s0 := s.at_ t
  .next (if s0.fnThere f then s0.tailDoorbell f q v width else s0)

/-- EQ_HEAD_DOORBELL (12 R320, R344, R345). -/
def execEqHeadDoorbell (t : Nat) (f : Fn) (q v width : Nat) (s : State) : Res :=
  let s0 := s.at_ t
  .next (if s0.fnThere f then s0.headDoorbell f q v width else s0)

/-- EQ_MODERATION_EXPIRY (12 R346). -/
def execEqModerationExpiry (t e : Nat) (s : State) : Res := .next ((s.at_ t).moderate e)

/-- MSIX_VECTOR_UNMASK (12 R346). -/
def execMsixVectorUnmask (t : Nat) (f : Fn) (vec : Nat) (s : State) : Res :=
  let s0 := s.at_ t
  .next (if s0.fnThere f = true ∧ vec < vecCount f then s0.unmask f vec else s0)

end Sys2Proof.Machine
end

