-- ==== Sys2Proof/Machine/Endpoint.lean ====
section
/-! DEFINITION. Host endpoints (chapter 13): BAR0 registers, the dictionary mailbox, resets and holds, the rig's reads of host memory,
link power and configuration requests. -/
namespace Sys2Proof.Machine

/-! ## Admin pairs (13 R536) -/

/-- A field of the admin registers is invalid (13 Table 13.5). -/
def FnRegs.adminBad (r : FnRegs) (f : Fn) : Bool := decide (r.ae < 4 ∨ r.as_ < 4 ∨ vecCount f ≤ r.avec)

/-- The admin pair of a function comes into being (12 R318, 13 R536). -/
def State.adminCreate (s : State) (f : Fn) : State :=
  let r := s.fnr f
  let q := aqn f
  let s1 := s.setSq q { owner := .fn f, admin := true, base := r.asqb, log := r.as_, eq := q }
  let s2 := s1.setEq q {
    owner := .fn f, admin := true, base := r.aeqb, log := r.ae, vec := r.avec, icnt := r.aicnt, itime := r.aitime }
  (s2.setFnr f { r with ardy := true }).showQueues

/-- A write of AEN = 1 (13 R536, 19 R514). -/
def State.adminEnable (s : State) (f : Fn) : State :=
  let r := s.fnr f
  if r.aen then s
  else if r.adminBad f then s.setFnr f { r with aerr := true }
  else
    let s1 := s.setFnr f { r with aen := true, aerr := false }
    if s1.boot.ready then s1.adminCreate f else s1

/-! ## The dictionary mailbox (13 R354, R355) -/

/-- A request is settled with a status. -/
def State.mailboxDone (s : State) (f : Fn) (st : Nat) : State :=
  s.setFnr f { s.fnr f with mboxBusy := false, mboxOp := 0, mboxStatus := st }

/-- Read segment: the whole value is read at one instant, a segment of it placed in the data window. -/
def State.mailboxRead (s : State) (f : Fn) : State :=
  let r := s.fnr f
  if r.mboxLen < 1 ∨ 4096 < r.mboxLen then s.mailboxDone f stInvalidField
  else match s.readObj (.function f) r.mboxIndex r.mboxSub r.mboxCA with
    | .error e => (s.countRefused e).mailboxDone f e.status
    | .ok b =>
      let seg := padTo r.mboxLen ((b.drop r.mboxOff).take r.mboxLen)
      (s.setFnr f { r with mboxOlen := b.length, window := putBytes r.window 0 seg }).mailboxDone f 0

/-- Stage segment: bytes of the data window go into the write buffer. -/
def State.mailboxStage (s : State) (f : Fn) : State :=
  let r := s.fnr f
  if r.mboxLen < 1 ∨ 4096 < r.mboxLen ∨ 65568 < r.mboxOff + r.mboxLen then s.mailboxDone f stInvalidField
  else (s.setFnr f { r with wbuf := putBytes r.wbuf r.mboxOff (bytesAt r.window 0 r.mboxLen) }).mailboxDone f 0

/-- Apply: the buffer is written to the object as one write; a save's outcome is awaited (17 R474). -/
def State.mailboxApply (s : State) (f : Fn) : State :=
  let r := s.fnr f
  if r.mboxTotal < 1 ∨ 65568 < r.mboxTotal then s.mailboxDone f stInvalidField
  else match s.writeObj (.function f) { waiters := [.mailbox f] } r.mboxIndex r.mboxSub r.mboxCA (bytesAt r.wbuf 0 r.mboxTotal) with
    | (s1, some e) => s1.mailboxDone f e.status
    | (s1, none) =>
      if r.mboxIndex = 0x1010 then s1.setFnr f { s1.fnr f with mboxBusy := true, mboxOp := 0 } else s1.mailboxDone f 0

/-- One operation: 1 read segment, 2 stage segment, 3 apply. -/
def State.mailboxRun (s : State) (f : Fn) (op : Nat) : State :=
  if op = 1 then s.mailboxRead f else if op = 2 then s.mailboxStage f else s.mailboxApply f

/-- An OP write (13 R355): dropped and counted while BUSY; taken, and held until a holder of the token applies it (17 R459). -/
def State.mailboxOp (s : State) (f : Fn) (op : Nat) : State :=
  let r := s.fnr f
  if r.mboxBusy then s.count (epCounter f.ep 8)
  else if s.hasHolder && s.boot.ready then s.mailboxRun f op
  else s.setFnr f { r with mboxBusy := true, mboxOp := op }

/-- A DICT_WRITE's buffer has come: it takes effect, or waits in `dict` until a shroud holds the token (17 R459). -/
def State.dictArrived (s : State) (cid : Nat) (data : List Byte) : State :=
  match s.cmd cid with
  | some c =>
    if c.stage ≠ .dictBuffer then s
    else if s.hasHolder then s.dictApply cid data
    else s.updCmd cid (fun x => { x with dict := some data })
  | none => s

/-- Everything held while no shroud held the token, or the rig was not ready, is taken in order (18 R485, 19 R515). -/
def State.resumeHeld (s : State) : State :=
  if s.hasHolder && s.boot.ready then
    let s1 := forEach (s.host.cmds.filterMap (fun c => c.dict.map (fun d => (c.cid, d)))) (fun p a =>
      (a.updCmd p.1 (fun x => { x with dict := none })).dictArrived p.1 p.2) s
    forEach (s.host.fns.filter (fun p => p.2.mboxOp ≠ 0)) (fun p a => a.mailboxRun (fnOfAqn p.1) p.2.mboxOp) s1.arriveHeld
  else s

/-! ## BAR0 registers (13 Tables 13.4 to 13.6, 13.8; R353, R537) -/

/-- A write that is dropped whole (13 R353). -/
def State.dropWrite0 (s : State) (f : Fn) (off : Nat) : State :=
  (s.count (epCounter f.ep 1)).conditionTo (.fn f) 0x0003 4 (aqn f) off

/-- Bits that a register of Tables 13.5 and 13.6 defines, by its 64-bit offset; none where software writes nothing. -/
def regMask (off : Nat) : Option Nat := match off with
  | 0x08 => some (2 ^ 64 - 4096)
  | 0x10 => some (2 ^ 64 - 4096)
  | 0x18 => some (0xFFFF * 2 ^ 32 + 0xFF07FFFF)
  | 0x20 => some 1
  | 0x100 => some (2 ^ 64 - 128)
  | 0x108 => some (0xFFFFFFFF * 2 ^ 32 + 0x1FFF)
  | 0x110 => some 3
  | 0x600 => some 1
  | _ => none

/-- The value of a register that is stored. -/
def FnRegs.reg (r : FnRegs) (off : Nat) : Nat := match off with
  | 0x08 => r.asqb
  | 0x10 => r.aeqb
  | 0x18 => r.as_ + r.ae * 16 + r.avec * 256 + r.aicnt * 2 ^ 24 + r.aitime * 2 ^ 32
  | 0x100 => (if r.mboxCA then 128 else 0) + r.mboxSub * 256 + r.mboxIndex * 65536 + r.mboxOff * 2 ^ 32
  | 0x108 => r.mboxLen + r.mboxTotal * 2 ^ 32
  | _ => 0

/-- Stores a register. -/
def FnRegs.setReg (r : FnRegs) (off v : Nat) : FnRegs := match off with
  | 0x08 => { r with asqb := v }
  | 0x10 => { r with aeqb := v }
  | 0x18 => { r with as_ := fld v 3 0, ae := fld v 7 4, avec := fld v 18 8, aicnt := fld v 31 24, aitime := fld v 47 32 }
  | 0x100 => { r with mboxCA := v.testBit 7, mboxSub := fld v 15 8, mboxIndex := fld v 31 16, mboxOff := fld v 63 32 }
  | 0x108 => { r with mboxLen := fld v 12 0, mboxTotal := fld v 63 32 }
  | _ => r

/-- The four 64-bit words of a peer-window record (13 Table 13.8). -/
def PeerWin.word (w : PeerWin) (j : Nat) : Nat := match j with
  | 0 => w.base + w.kind * 2 + (if w.en then 1 else 0)
  | 1 => w.size
  | 2 => w.ridm * 65536 + w.ridv
  | _ => w.w18
/-- Bits of each word that some KIND defines (13 R537). -/
def winMask (j : Nat) : Nat := match j with
  | 0 => 2 ^ 64 - 4096 + 7
  | 1 => 2 ^ 64 - 4096
  | 2 => 0xFFFFFFFF
  | _ => 2 ^ 64 - 1
def PeerWin.setWord (w : PeerWin) (j v : Nat) : PeerWin := match j with
  | 0 => { w with base := v / 4096 * 4096, kind := fld v 2 1, en := v.testBit 0 }
  | 1 => { w with size := v }
  | 2 => { w with ridm := fld v 31 16, ridv := fld v 15 0 }
  | _ => { w with w18 := v }

/-- Bits of a 64-bit word replaced by a write of `n` bits at byte `o` of it. -/
def mergeBits (old o n v : Nat) : Nat := old - fld old (8 * o + n - 1) (8 * o) * 2 ^ (8 * o) + v * 2 ^ (8 * o)

/-- A write of a doubleword or a quadword of the MSI-X table (13 Table 13.2): address, data, and the mask bit of the vector
control, whose other bits are reserved. A vector that is unmasked sends its pending message. -/
def State.msixWrite (s : State) (f : Fn) (off n v : Nat) : State :=
  let vec := off / 16
  let o := off % 16
  let get : State → MsixEntry := fun a => tblGet (fun _ => ({} : MsixEntry)) (a.fnr f).msix vec
  let put : State → MsixEntry → State := fun a x =>
    a.setFnr f { a.fnr f with msix := tblPut (fun _ => ({} : MsixEntry)) vec x (a.fnr f).msix }
  if o < 8 then
    let x := get s
    put s { x with addr := mergeBits x.addr o n v }
  else
    let ctrl := if o = 12 then some v else if n = 64 then some (v / 2 ^ 32) else none
    let s1 := if o = 8 then put s { get s with data := v % 2 ^ 32 } else s
    match ctrl with
    | none => s1
    | some c => if c % 2 = 0 then s1.unmask f vec else put s1 { get s1 with masked := true }

/-- The 64-bit word of BAR0 that holds offset `w`, as a read finds it (13 Tables 13.4 to 13.6, 13.8): reserved offsets read zero,
the data window reads zero while BUSY is 1. A read changes nothing, so no row reads BAR0. -/
def State.bar0Word (s : State) (f : Fn) (w : Nat) : Nat :=
  let r := s.fnr f
  let bit : Bool → Nat → Nat := fun b k => if b then 2 ^ k else 0
  if w < 0x400 ∨ w = 0x600 then match w with
    | 0x00 => aqn f * 65536 + bit (decide (f.ep = .hb)) 15 + f.fn
    | 0x20 => bit r.aen 0
    | 0x28 => bit (s.boot.ready && s.hasHolder) 2 + bit r.aerr 1 + bit r.ardy 0
    | 0x118 => bit r.mboxBusy 0 + r.mboxStatus * 65536 + r.mboxOlen * 2 ^ 32
    | _ => r.reg w
  else if w < 0x400 + 32 * winCount f then (r.shadowAt f ((w - 0x400) / 32)).word ((w - 0x400) % 32 / 8)
  else if w = 0x608 then bit r.wstsFail 0 + r.wstsCount % 256 * 256
  else if 0x800 ≤ w ∧ w < 0x800 + 32 * winCount f then (r.forceAt f ((w - 0x800) / 32)).word ((w - 0x800) % 32 / 8)
  else if 0x1000 ≤ w ∧ w < 0x2000 then (if r.mboxBusy then 0 else leNat (bytesAt r.window (w - 0x1000) 8))
  else if 0x20000 ≤ w ∧ w < 0x20000 + 16 * vecCount f then
    let x := tblGet (fun _ => ({} : MsixEntry)) r.msix ((w - 0x20000) / 16)
    if w % 16 = 0 then x.addr else x.data + bit x.masked 32
  else if 0x28000 ≤ w ∧ w < 0x28000 + vecCount f / 8 then
    ((List.range 64).map (fun k =>
      bit (tblGet (fun _ => ({} : MsixEntry)) r.msix (8 * (w - 0x28000) + k)).pend k)).sum
  else 0

/-- A read of BAR0 of 32 or 64 bits, aligned (13 R353). -/
def State.bar0Read (s : State) (f : Fn) (off n : Nat) : Nat := s.bar0Word f (off / 8 * 8) / 2 ^ (8 * (off % 8)) % 2 ^ n

/-- A write of BAR0 (13 R353) of `n` bits. -/
def State.registerWrite (s : State) (f : Fn) (off n v : Nat) : State :=
  let r := s.fnr f
  let w := off / 8 * 8
  let o := off % 8
  let drop := s.dropWrite0 f off
  if 0x10000 ≤ off ∧ off < 0x20000 then
    let q := (off % 0x8000) / 8
    if off % 8 ≠ 0 then s.ignoredDoorbell f q off
    else if off < 0x18000 then s.tailDoorbell f q v n else s.headDoorbell f q v n
  else if (n ≠ 32 ∧ n ≠ 64) ∨ off % (n / 8) ≠ 0 ∨ 2 ^ n ≤ v then drop
  else if 0x1000 ≤ off ∧ off < 0x2000 then
    if r.mboxBusy then s else s.setFnr f { r with window := putBytes r.window (off - 0x1000) (leBytes (n / 8) v) }
  else if 0x20000 ≤ off ∧ off < 0x20000 + 16 * vecCount f then
    if (off % 16 = 12 ∧ 1 < v) ∨ (off % 16 = 8 ∧ n = 64 ∧ 1 < v / 2 ^ 32) then drop else s.msixWrite f (off - 0x20000) n v
  else if 0x400 ≤ off ∧ off < 0x400 + 32 * winCount f then
    let k := (off - 0x400) / 32
    let j := (off - 0x400) % 32 / 8
    let x := r.shadowAt f k
    let y := mergeBits (x.word j) o n v
    if y &&& winMask j ≠ y then drop
    else s.setFnr f { r with shadow := tblPut (winReset f) k (x.setWord j y) r.shadow }
  else match regMask w with
    | none => drop
    | some m =>
      let z := v * 2 ^ (8 * o)
      if z &&& m ≠ z ∨ (w ≤ 0x18 ∧ r.aen = true) then drop
      else if w = 0x20 then (if o ≠ 0 then s else if v = 1 then s.adminEnable f else s.functionReset f)
      else if w = 0x110 then (if o ≠ 0 then s else if v = 0 then drop else s.mailboxOp f v)
      else if w = 0x600 then (if o = 0 ∧ v = 1 then s.windowCommit f else s)
      else s.setFnr f (r.setReg w (mergeBits (r.reg w) o n v))

/-! ## Resets, holds and the link (13.9, 19 R514) -/

/-- Retired as faulty (13 R369). -/
def State.epRetired (s : State) (e : Endpoint) : Bool := s.maskBit (okey 0x2630 2) (epIx e)
/-- Link state: 0 down, 1 training, 2 up, 3 hold, 4 retired. -/
def State.linkState (s : State) (e : Endpoint) : Nat := s.objN (okey (0x2200 + epIx e) 1)

/-- PERST of an endpoint is asserted (13 R367). -/
def State.perstAssert (s : State) (e : Endpoint) : State :=
  if (s.ep e).perst then s
  else
    let s1 := s.functionResets (epFns e)
    let s2 := s1.setEp e { (s1.ep e).held with perst := true }
    (s2.linkOff e (if s.epRetired e then 4 else 0)).showTags e

/-- PERST of an endpoint is released (19 R514): it trains once step 6 is complete. -/
def State.perstRelease (s : State) (e : Endpoint) : State :=
  let s1 := s.setEp e { s.ep e with perst := false }
  if s1.epMayTrain && !s1.epRetired e && decide (s.linkState e = 0) then s1.linkOff e 1 else s1

/-- FLR (13 R367): of a PF, the PF and every VF of the endpoint; of a VF, that VF. -/
def State.flr (s : State) (f : Fn) : State :=
  if f.fn = 0 then
    let s1 := s.functionResets (epFns f.ep)
    let p := s1.ep f.ep
    (s1.setEp f.ep { p.configReset with aspmL1 := p.aspmL1, l0pEn := p.l0pEn, l11 := p.l11, l12 := p.l12 }).showTags f.ep
  else s.functionReset f

/-- An endpoint's vectors are masked and keep address, data and pending bit (13 R368). -/
def FnRegs.maskAll (r : FnRegs) : FnRegs :=
  { r with msix := r.msix.map (fun p => (p.1, { p.2 with masked := true })) |>.filter (fun p => p.2 ≠ {}) }

/-- TLPs of an endpoint among what left the rig. -/
def Emit.ofEp (e : Endpoint) (x : Emit) : Bool := match x.fnOf with
  | some f => decide (f.ep = e)
  | none => false

/-- Tags of reads that are withheld from now on (13 R364); those whose time has passed are free again. -/
def State.withhold (s : State) (l : List HostRead) : State :=
  { s with host := { s.host with
    withheld := s.host.withheld.filter (fun w => s.now < w.2.2) ++ l.map (fun (r : HostRead) => (r.ep, r.tag, s.now + 2 * r.limit)) } }

/-- DL_Down or a hot reset (13 R368): a hold begins. `unacked` TLPs sent last have no Ack. While a hold runs already, from the
first DL_Down, the configuration space is reset again. -/
def State.linkDown (s : State) (e : Endpoint) (unacked : Nat) : State :=
  let p := s.ep e
  if p.perst then s
  else if s.linkState e = 3 then ((s.setEp e p.configReset).linkOff e 3).showTags e
  else if s.linkState e ≠ 2 then s
  else
    let mine := s.host.reads.filter (fun r => r.ep = e)
    let s1 := (s.withhold mine)
    let s2 := { s1 with host := { s1.host with reads := s1.host.reads.filter (fun r => r.ep ≠ e) } }
    let kept := ((s.out.filter (Emit.ofEp e)).take unacked).reverse
    let new := (List.range 65).filter (fun n =>
      (decide (n = 0) || (p.vfEnable && decide (n ≤ p.numVFs))) && !p.holds.any (fun h => h.1 = n))
    let s3 := s2.setEp e { p.configReset with
      holds := p.holds ++ new.map (fun n => (n, s.now)), kept := p.kept ++ kept, abandoned := mine ++ p.abandoned }
    let s4 := forEach (epFns e) (fun f a => a.setFnr f (a.fnr f).maskAll) s3
    ((s4.linkOff e 3).showTags e).count (epCounter e 6)

/-- The link is up, and the host has set a function's Memory Space Enable and Bus Master Enable: of a VF, with VF Enable and its own Bus
Master Enable (13 R368; notes/assumptions/31.md). -/
def State.fnBack (s : State) (e : Endpoint) (n : Nat) : Bool :=
  let p := s.ep e
  decide (s.objN (okey (0x2200 + epIx e) 2) ≠ 0) &&
    (if n = 0 then p.memSpace && p.busMaster else p.vfEnable && decide (n ≤ p.numVFs) && p.vfMaster.contains n)

/-- Functions in a hold that the host has brought back within HOLDT (13 R368). -/
def State.readyFns (s : State) (e : Endpoint) : List Nat :=
  ((s.ep e).holds.filter (fun h => s.fnBack e h.1 && decide (s.now < h.2 + ms (s.objN (okey (0x2220 + epIx e) 1))))).map (·.1)

/-- A queue's owner is one of an endpoint's functions `l`. -/
def Owner.among (o : Owner) (e : Endpoint) (l : List Nat) : Bool := match o with
  | .fn f => decide (f.ep = e) && l.contains f.fn
  | _ => false

/-- EQs of functions of an endpoint. -/
def State.eqsAt (s : State) (e : Endpoint) (l : List Nat) : List Nat :=
  (s.host.eqs.filter (fun q => q.2.owner.among e l)).map (·.1)

/-- SQs of functions of an endpoint fetch again. -/
def State.fetchAll (s : State) (e : Endpoint) (l : List Nat) : State :=
  forEach (s.host.sqs.filter (fun q => q.2.owner.among e l)) (fun q a => a.fetchSq q.1) s

/-- A TLP is of one of the functions `l` of its endpoint. -/
def Emit.among (l : List Nat) (x : Emit) : Bool := match x.fnOf with
  | some f => l.contains f.fn
  | none => false

/-- Functions `l` of an endpoint leave their hold: what is held for them is let go. -/
def EpState.unhold (p : EpState) (l : List Nat) : EpState :=
  { p with
    holds := p.holds.filter (fun h => !l.contains h.1)
    kept := p.kept.filter (fun x => !x.among l)
    waiting := p.waiting.filter (fun x => !x.among l) }

/-- Resumption of functions `l` (13 R368): kept TLPs, abandoned reads with new tags, each EQ's message once, then on. -/
def State.resume (s : State) (e : Endpoint) (l : List Nat) : State :=
  let p := s.ep e
  let s1 := (s.setEp e (p.unhold l)).setObj (okey (0x2200 + epIx e) 1) 2
  let s2 := forEach (p.kept.filter (Emit.among l)) (fun x a => a.emit x) (s1.count (epCounter e 7))
  let s3 := s2.issueWaiting e p.abandoned.length
  let s4 := forEach (s3.eqsAt e l) (fun q a => a.signal q) s3
  (forEach (p.waiting.filter (Emit.among l)) (fun x a => a.tlp e x) s4).fetchAll e l

/-- HOLDT expires (13 R368): every function that has not resumed by then takes the function reset. -/
def State.holdExpires (s : State) (e : Endpoint) : State :=
  let late := ((s.ep e).holds.filter (fun h => decide (h.2 + ms (s.objN (okey (0x2220 + epIx e) 1)) ≤ s.now))).map (·.1)
  if late = [] then s
  else
    let s1 := s.functionResets (late.map (fun n => ⟨e, n⟩))
    let p := (s1.ep e).unhold late
    let s2 := s1.setEp e { p with abandoned := p.abandoned.filter (fun r => !late.contains r.fn) }
    if s.linkState e = 3 ∧ p.holds = [] then
      s2.setObj (okey (0x2200 + epIx e) 1) (if s.objN (okey (0x2200 + epIx e) 2) ≠ 0 then 2 else 1)
    else s2

/-- A link comes up (19 R514). A hold ends at its resumption only. -/
def State.epLinkUp (s : State) (e : Endpoint) (rate width : Nat) (flit : Bool) : State :=
  let i := 0x2200 + epIx e
  if s.epInReset e ∨ s.epMayTrain = false then s
  else
    let s1 := if s.linkState e = 3 then s else s.setObj (okey i 1) 2
    let s2 := ((s1.setObj (okey i 2) rate).setObj (okey i 3) width).setObj (okey i 4) (if flit then 128 else 0)
    (s2.setEp e { s2.ep e with fullWidth := width }).showTags e

/-! ## The rig's own reads (13.7) -/

/-- The outstanding read with a tag. -/
def State.readOf (s : State) (e : Endpoint) (tag : Nat) : Option HostRead :=
  s.host.reads.find? (fun r => decide (r.ep = e ∧ r.tag = tag))
/-- A read is outstanding no longer. -/
def State.dropRead (s : State) (r : HostRead) : State :=
  { s with host := { s.host with reads := s.host.reads.filter (fun x => !(decide (x.ep = r.ep ∧ x.tag = r.tag))) } }

/-- A part of a read's completion has arrived (13 R364). -/
def State.addToRead (s : State) (r : HostRead) (data : List Byte) : State :=
  { s with host := { s.host with reads := s.host.reads.map (fun x =>
      if x.ep = r.ep ∧ x.tag = r.tag then { x with got := x.got ++ data } else x) } }

/-- Data of a read that succeeded, for what needed it (12 R322, R328; 13 R358). -/
def State.readDone (s : State) (r : HostRead) (data : List Byte) : State :=
  match r.purpose with
  | .sqSlots q _ =>
    let x := s.sq q
    if x.owner = .nobody then s
    else (s.setSq q { x with fetched := x.fetched ++ [BitVec.ofNat 512 (leNat data)] }).fetchSq q
  | .scatterList cid => s.scatterIn cid data
  | .dictData cid => s.dictArrived cid data
  | .flushRead cid => s.flushEnds cid true

/-- A read's completion has not fully arrived within T (13 R364). -/
def State.completionLate (s : State) (e : Endpoint) (tag : Nat) : State :=
  match s.readOf e tag with
  | none => s
  | some r =>
    if s.now < r.issued + r.limit then s
    else
      let s1 := (((s.dropRead r).withhold [r]).aerError ⟨e, r.fn⟩ 2 none).count (epCounter e 4)
      (s1.readFailed r).issueWaiting e 4096

/-- A completion arrives (13 R364). One for a read that timed out (00 R22) or was abandoned is discarded and counted. -/
def State.completionIn (s0 : State) (e : Endpoint) (tag : Nat) (st : CplStatus) (data : List Byte) : State :=
  let s := s0.completionLate e tag
  if s.epInReset e then s
  else match s.readOf e tag with
    | some r =>
      let s1 := s.dropRead r
      let got := r.got ++ data
      if st ≠ .success then (s1.readFailed r).issueWaiting e 4096
      else if r.len < got.length then s
      else if got.length < r.len then s.addToRead r data
      else if r.rest ≠ 0 then s1.sendRead { r with addr := r.addr + r.len, len := r.rest, rest := 0, acc := r.acc ++ got }
      else (s1.readDone r (r.acc ++ got)).issueWaiting e 4096
    | none =>
      let late := s.host.withheld.any (fun w => decide (w.1 = e ∧ w.2.1 = tag ∧ s.now < w.2.2))
      let s1 := s.aerError ⟨e, 0⟩ 3 none
      if late then s1.count (epCounter e 3) else s1

/-! ## Link power (13 R360, R361) -/

/-- The state that an entry to L1 ends in (13 R360): L1.2 or L1.1 where LTR and that substate are enabled, else L1
(notes/assumptions/104.md). -/
def EpState.l1State (p : EpState) : Nat := if p.ltrEn && p.l12 then 4 else if p.ltrEn && p.l11 then 3 else 2

/-- The endpoint has sent nothing for L1IDLE (13 R360). -/
def State.txIdle (s : State) (e : Endpoint) : Bool :=
  decide ((s.ep e).txAt + 1000 * s.objN (okey (0x2220 + epIx e) 2) ≤ s.now)

/-- The rig requests L1 when it may (13 R360); no flow-control credit is owed between commands (notes/assumptions/170.md). -/
def State.l1Entry (s : State) (e : Endpoint) : State :=
  let k := okey (0x2200 + epIx e) 4
  if (s.ep e).aspmL1 && decide (s.linkState e = 2 ∧ s.objN k % 8 < 2) && !(s.host.reads.any (fun r => r.ep = e)) && s.txIdle e then
    (s.emit (.linkRequest e 1)).setObj k (s.objN k / 128 * 128 + (s.ep e).l1State : Nat)
  else s

/-- The rig requests half or full width (13 R361; notes/assumptions/176.md). A request for a width w leaves as 256 + w. -/
def State.l0p (s : State) (e : Endpoint) (util backlog : Nat) : State :=
  let i := 0x2200 + epIx e
  let full := (s.ep e).fullWidth
  let now := s.objN (okey i 3)
  let go : Nat → State := fun w =>
    ((s.emit (.linkRequest e (256 + w))).setObj (okey i 3) w).setObj (okey i 4) (128 + (if w < full then 1 else 0) : Nat)
  if (s.ep e).l0pEn = false ∨ s.linkState e ≠ 2 ∨ s.objN (okey i 4) < 128 ∨ 2 ≤ s.objN (okey i 4) % 8 then s
  else if 16384 < backlog then (if now < full then go full else s)
  else if util < 25 ∧ 2 < now then go (now / 2)
  else s

/-! ## Configuration requests (13.2, 13.3) -/

/-- Bits of a BAR half that can be written, and those it always reads (13 Table 13.3): BARs 0 and 2 of the PF, or of the VFs. -/
def barMask (fn bar : Nat) (upper : Bool) : Nat × Nat :=
  if bar = 0 then (if upper then (0xFFFFFFFF, 0) else (0xFFFC0000, 4))
  else if bar = 2 then
    if fn = 0 then (if upper then (0xFFFFFFF0, 0) else (0, 0xC)) else (if upper then (0xFFFFFFFF, 0) else (0xC0000000, 0xC))
  else if bar = 16 then (if upper then (0xFFFFFFFF, 0) else (0xFFFC0000, 4))
  else if bar = 18 then (if upper then (0xFFFFFFFF, 0) else (0xC0000000, 0xC))
  else (0, 0)

/-- Key of a BAR half: the PF's BARs, or the VF BARs that all VFs of the endpoint share, which the PF's SR-IOV capability holds. -/
def barKey (fn bar : Nat) (upper : Bool) : Nat :=
  (if 16 ≤ bar then 2 * (bar - 8) else 16 * min fn 1 + 2 * bar) + (if upper then 1 else 0)

/-- A doubleword of configuration space whose value the spec gives (13 R350, R351, Table 13.2; notes/assumptions/31.md for places). -/
def State.configWord (s : State) (f : Fn) (off : Nat) : Option Nat :=
  let p := s.ep f.ep
  let o : Nat → Nat := fun i => s.objN (okey 0x2000 i)
  let bar : Nat → Bool → Nat := fun b up => tblGet (fun _ => 0) p.bars (barKey f.fn b up) ||| (barMask f.fn b up).2
  if off = 0x08 then some 0x01800000
  else if off = 0x34 then some 0x40
  else if off = 0x54 then some 0x00020000
  else if off = 0x58 then some 0x00028000
  else if off = 0x20 ∨ off = 0x24 ∨ off = 0x30 then some 0
  else if off = 0x00 then some ((if f.fn = 0 then 0x3264 else 0x3265) * 65536 + o 2)
  else if off = 0x2C then some (o 4 * 65536 + o 3)
  else if f.fn ≠ 0 then none
  else match off with
    | 0x10 => some (bar 0 false)
    | 0x14 => some (bar 0 true)
    | 0x18 => some (bar 2 false)
    | 0x1C => some (bar 2 true)
    | 0x104 => some p.aerUnc
    | 0x108 => some p.aerUncMask
    | 0x10C => some p.aerUncSev
    | 0x110 => some p.aerCor
    | 0x114 => some p.aerCorMask
    | 0x184 => some (bar 16 false)
    | 0x188 => some (bar 16 true)
    | 0x18C => some (bar 18 false)
    | 0x190 => some (bar 18 true)
    | 0x14C => some (Config.deviceSerial.toNat % 2 ^ 32)
    | 0x150 => some (Config.deviceSerial.toNat / 2 ^ 32)
    | 0x16C => some (64 * 65536 + 64)
    | 0x170 => some p.numVFs
    | 0x174 => some (65536 + 1)
    | 0x178 => some (0x3265 * 65536)
    | 0x17C => some 1
    | _ => none

/-- Identifiers of the capability structures of Table 13.2, by place; a VF has the first three and ARI (notes/assumptions/31.md). -/
def capIds : List (Nat × Nat) :=
  [(0x40, 0x01), (0x50, 0x11), (0x70, 0x10), (0x158, 0x0E), (0x100, 0x01), (0x148, 0x03), (0x160, 0x10), (0x1A0, 0x19), (0x1C0, 0x25),
   (0x1D0, 0x26), (0x280, 0x27), (0x2C0, 0x1E), (0x2D0, 0x18), (0x2E0, 0x2F)]

/-- The bits that hold a capability's identifier, and its value, where one stands at the offset. -/
def capBits (f : Fn) (off : Nat) : Nat × Nat :=
  match (if f.fn = 0 then capIds else capIds.take 4).find? (fun c => c.1 = off) with
  | some c => (if off < 0x100 then 0xFF else 0xFFFF, c.2)
  | none => (0, 0)

/-- Of the other doublewords, the bits whose value the spec gives, as a mask and their values (13 R350, R351, R359, Tables 13.1, 13.2):
Interrupt Pin; Power Management (D3hot only, no PME, the D-state); the MSI-X table's size; the PCI Express settings (Endpoint, payload
sizes, Extended Tag, FLR, Device Control, L1 alone of the link's low-power states, completion timeout ranges, no AtomicOp nor TPH nor timeout
disable, LTR, 10-bit tags); VF Enable; Scaled Flow Control; the L1 PM substates; 14-bit tags and L0p. -/
def State.configBits (s : State) (f : Fn) (off : Nat) : Nat × Nat :=
  let p := s.ep f.ep
  let bit : Bool → Nat → Nat := fun b k => if b then 2 ^ k else 0
  let pf := decide (f.fn = 0)
  let (cm, cv) := capBits f off
  let (m, v) := match off with
    | 0x3C => (0xFF00, 0)
    | 0x40 => (0xFE000000, 0)
    | 0x44 => (0xB, if p.d3hot.contains f.fn then 3 else 0)
    | 0x50 => (0x07FF0000, (vecCount f - 1) * 65536)
    | 0x70 => (0x00F00000, 0)
    | 0x74 => (0x10000027, 0x10000022)
    | 0x78 => if pf then (0xFFFF, p.devCtl) else (0, 0)
    | 0x7C => (0xC00, 0x800)
    | 0x80 => if pf then (2, bit p.aspmL1 1) else (0, 0)
    | 0x94 => (0x33B9F, 0x3080F)
    | 0x98 => if pf then (0x140F, p.devCtl2 % 16 + bit p.ltrEn 10 + bit p.tag10 12) else (0, 0)
    | 0x168 => if pf then (1, bit p.vfEnable 0) else (0, 0)
    | 0x1C4 => if pf then (1, 1) else (0, 0)
    | 0x2C4 => if pf then (0x1F, 0x1C) else (0, 0)
    | 0x2C8 => if pf then (0xC, bit p.l12 2 + bit p.l11 3) else (0, 0)
    | 0x2E4 => if pf then (0xE, 0xE) else (0, 0)
    | _ => (0, 0)
  (m ||| cm, v ||| cv)

/-- A write of an AER register: status bits clear where 1 is written, masks and severities take the errors of the base specification; the
header logged goes with the last uncorrectable status (notes/assumptions/169.md). -/
def EpState.writeAer (p : EpState) (which v : Nat) : EpState :=
  match which with
  | 0 =>
    let u := p.aerUnc - (p.aerUnc &&& v)
    { p with aerUnc := u, aerLog := if u = 0 then none else p.aerLog }
  | 4 => { p with aerUncMask := v &&& 0x57F030 }
  | 8 => { p with aerUncSev := v &&& 0x57F030 }
  | 12 => { p with aerCor := p.aerCor - (p.aerCor &&& v) }
  | 16 => { p with aerCorMask := v &&& 0xF1C1 }
  | _ => p

/-- A configuration request that its function takes (13 R350, R352, R359, R364). -/
def State.configIn (s : State) (f : Fn) (req : ConfigReq) : State :=
  let e := f.ep
  let p := s.ep e
  let pf := decide (f.fn = 0)
  let ok : State → State := fun a => a.tlp e (.cfgDone f 0)
  let pfSet : EpState → State := fun x => if pf then ok (s.setEp e x) else ok s
  match req with
  | .read off => match s.configWord f off with
    | some v => s.tlp e (.cfgDone f v)
    | none =>
      let (v, s1) := s.takeFree
      let (m, c) := s.configBits f off
      s1.tlp e (.cfgDone f (v.toNat % 2 ^ 32 &&& (0xFFFFFFFF - m) ||| c))
  | .writeNumVFs v => if p.vfEnable ∨ 64 < v then ok s else pfSet { p with numVFs := v }
  | .setVFEnable => pfSet { p with vfEnable := true }
  | .writeDeviceControl2 v => pfSet { p with devCtl2 := v }
  | .writeDeviceControl v => pfSet { p with devCtl := v.toNat }
  | .writeAer w v => pfSet (p.writeAer w v.toNat)
  | .writeCommand m b =>
    if pf then pfSet { p with memSpace := m, busMaster := b }
    else ok (s.setEp e { p with vfMaster := if b then setInsert f.fn p.vfMaster else p.vfMaster.filter (· ≠ f.fn) })
  | .toD0 =>
    if p.d3hot.contains f.fn then
      let s1 := s.flr f
      ok (s1.setEp e { s1.ep e with d3hot := (s1.ep e).d3hot.filter (· ≠ f.fn) })
    else ok s
  | .writeBar bar up v =>
    let (m, c) := barMask f.fn bar up
    ok (s.setEp e { p with bars := tblPut (fun _ => 0) (barKey f.fn bar up) ((v.toNat &&& m) ||| (if m = 0 then 0 else c)) p.bars })
  | .readBar bar up => s.tlp e (.cfgDone f (tblGet (fun _ => 0) p.bars (barKey f.fn bar up) ||| (barMask f.fn bar up).2))
  | .writeLinkControl a => pfSet { p with aspmL1 := a }
  | .writeLinkPower w a b l => pfSet { p with l0pEn := w, l11 := a, l12 := b, ltrEn := l }
  | .writeTagEnables a b => if pf then ok ((s.setEp e { p with tag10 := a, tag14 := b }).showTags e) else ok s

/-- A configuration request reaches an endpoint (13 R367, 19 R514). -/
def State.configRequest (s : State) (f : Fn) (req : ConfigReq) : State :=
  if s.epInReset f.ep then s
  else if s.objN (okey (0x2200 + epIx f.ep) 2) = 0 then s.emit (.cfgRetry f)
  else if f.fn ≠ 0 ∧ ((s.ep f.ep).vfEnable = false ∨ (s.ep f.ep).numVFs < f.fn) then s.emit (.cplUR f)
  else s.configIn f req

/-! ## Rows -/

/-- What a row does to a function that is there. -/
def onFn (t : Nat) (f : Fn) (s : State) (g : State → State) : Res :=
  let s0 := s.at_ t
  .next (if s0.fnThere f then g s0 else s0)

/-- ADMIN_PAIR_ENABLE (13 R536). -/
def execAdminPairEnable (t : Nat) (f : Fn) (s : State) : Res := onFn t f s (fun a => a.adminEnable f)
/-- ADMIN_PAIR_DISABLE (13 R536, R367). -/
def execAdminPairDisable (t : Nat) (f : Fn) (s : State) : Res := onFn t f s (fun a => a.functionReset f)
/-- REGISTER_WRITE (13 R353). -/
def execRegisterWrite (t : Nat) (f : Fn) (off width v : Nat) (s : State) : Res := onFn t f s (fun a => a.registerWrite f off width v)
/-- MAILBOX_READ_SEGMENT (13 R355). -/
def execMailboxReadSegment (t : Nat) (f : Fn) (s : State) : Res := onFn t f s (fun a => a.mailboxOp f 1)
/-- MAILBOX_STAGE_SEGMENT (13 R355). -/
def execMailboxStageSegment (t : Nat) (f : Fn) (s : State) : Res := onFn t f s (fun a => a.mailboxOp f 2)
/-- MAILBOX_APPLY (13 R355). -/
def execMailboxApply (t : Nat) (f : Fn) (s : State) : Res := onFn t f s (fun a => a.mailboxOp f 3)
/-- PERST_ASSERT (13 R367). -/
def execPerstAssert (t : Nat) (ep : Endpoint) (s : State) : Res := .next ((s.at_ t).perstAssert ep)
/-- PERST_RELEASE (19 R514). -/
def execPerstRelease (t : Nat) (ep : Endpoint) (s : State) : Res := .next ((s.at_ t).perstRelease ep)
/-- FLR (13 R367). -/
def execFlr (t : Nat) (f : Fn) (s : State) : Res :=
  let s0 := s.at_ t
  .next (if s0.epInReset f.ep then s0 else s0.flr f)
/-- VF_ENABLE_CLEAR (13 R367). -/
def execVfEnableClear (t : Nat) (ep : Endpoint) (s : State) : Res :=
  let s0 := s.at_ t
  let s1 := s0.functionResets ((epFns ep).drop 1)
  .next (if s0.epInReset ep then s0 else s1.setEp ep { s1.ep ep with vfEnable := false })
/-- D3HOT_ENTRY (13 R359). -/
def execD3hotEntry (t : Nat) (f : Fn) (s : State) : Res :=
  onFn t f s (fun a =>
    let b := a.functionReset f
    b.setEp f.ep { b.ep f.ep with d3hot := setInsert f.fn (b.ep f.ep).d3hot })
/-- LINK_DOWN_HOLD (13 R368). -/
def execLinkDownHold (t : Nat) (ep : Endpoint) (unacked : Nat) (s : State) : Res := .next ((s.at_ t).linkDown ep unacked)
/-- HOLD_RESUME (13 R368). -/
def execHoldResume (t : Nat) (ep : Endpoint) (s : State) : Res :=
  let s0 := s.at_ t
  let s1 := s0.holdExpires ep
  .next (if s1.readyFns ep = [] then s1 else s1.resume ep (s1.readyFns ep))
/-- HOLD_TIMEOUT (13 R368). -/
def execHoldTimeout (t : Nat) (ep : Endpoint) (s : State) : Res := .next ((s.at_ t).holdExpires ep)
/-- DMA_READ_COMPLETION (13 R364). -/
def execDmaReadCompletion (t : Nat) (ep : Endpoint) (tag : Nat) (status : CplStatus) (data : List Byte) (s : State) : Res :=
  .next ((s.at_ t).completionIn ep tag status data)
/-- COMPLETION_TIMEOUT (13 R364). -/
def execCompletionTimeout (t : Nat) (ep : Endpoint) (tag : Nat) (s : State) : Res := .next ((s.at_ t).completionLate ep tag)
/-- L1_ENTRY (13 R360). -/
def execL1Entry (t : Nat) (ep : Endpoint) (s : State) : Res := .next ((s.at_ t).l1Entry ep)
/-- L0P_WIDTH_CHANGE (13 R361). -/
def execL0pWidthChange (t : Nat) (ep : Endpoint) (util backlog : Nat) (s : State) : Res := .next ((s.at_ t).l0p ep util backlog)
/-- CONFIGURATION_REQUEST (13 R350 to R352, R367). -/
def execConfigurationRequest (t : Nat) (f : Fn) (req : ConfigReq) (s : State) : Res := .next ((s.at_ t).configRequest f req)
/-- DL_UP (19 R514). -/
def execDlUp (t : Nat) (ep : Endpoint) (rate width : Nat) (flit : Bool) (s : State) : Res :=
  .next ((s.at_ t).epLinkUp ep rate width flit)
/-- ENDPOINT_BUFFER_ERROR (18 R489, Table 18.2). -/
def execEndpointBufferError (t : Nat) (ep : Endpoint) (fns : List Nat) (s : State) : Res :=
  let s0 := s.at_ t
  .next (if s0.epInReset ep then s0 else (s0.functionResets (fns.map (fun n => ⟨ep, n⟩))).failEndpoint ep)

end Sys2Proof.Machine
end

