-- ==== Sys2Proof/Machine/Startup.lean ====
section
/-! DEFINITION. Reset and start-up (chapter 19), the parameter bank in force (17 R473, R475), pins and JTAG (chapter 20), and their
rows. -/
namespace Sys2Proof.Machine

/-! ## Parameter banks at start-up -/

/-- Bank b is newer than bank a (17 R473): equal SEQ values are not newer. -/
def Bank.newer (b a : Bank) : Bool :=
  let d := (b.seq + 2 ^ 32 - a.seq % 2 ^ 32) % 2 ^ 32
  decide (1 ≤ d ∧ d < 2 ^ 31)

/-- The newer valid bank: its number and content (17 R475). -/
def NvState.inForce (n : NvState) : Option (Nat × Bank) :=
  match n.bankA, n.bankB with
  | some a, some b => if b.newer a then some (1, b) else some (0, a)
  | some a, none => some (0, a)
  | none, some b => some (1, b)
  | none, none => none

/-- A key may stand in a bank (17 R471). -/
def bankKey (k : Nat) : Bool := isRws k || retirementKeys.contains k

/-- A numeric record passes the checks of its row (17 R475, R458); the remap entries in use are a saved count, of which 0 may be written (16
R435, R455). -/
def recOk (k : Nat) (v : Int) : Bool :=
  if 0x2440 ≤ k / 256 ∧ k / 256 ≤ 0x244F ∧ k % 256 = 0x11 then decide (0 ≤ v ∧ v ≤ 16) else
  match rowOfKey k with
  | some r => bankKey k && r.ty.fixed &&
    (match decodeValue (k / 256) (k % 256) r (leBytes r.ty.bytes (toBits v (8 * r.ty.bytes))) with
     | .ok w => decide (w.num = v)
     | .error _ => false)
  | none => false

/-- A DOMAIN or string record passes the checks of its row. -/
def blobOk (k : Nat) (b : List Byte) : Bool :=
  match rowOfKey k with
  | some r => bankKey k && !r.ty.fixed && decide (b.length ≤ r.ty.bytes)
  | none => false

/-- A skipped record is counted (17 R475). -/
def State.skipRecord (s : State) : State := s.count (okey 0x542F 6)

/-- Applies one numeric record; a servo parameter is also the value in use (04 R129). -/
def State.applyRec (s : State) (e : Nat × Int) : State :=
  if recOk e.1 e.2 = false then s.skipRecord
  else
    let s1 := s.setObj e.1 e.2
    if servoKey e.1 then
      let i := e.1 / 256 - 0x3000
      s1.setPar (i / 0x80) (i % 0x80 * 256 + e.1 % 256) e.2
    else s1

/-- Applies one DOMAIN or string record. -/
def State.applyBlob (s : State) (e : Nat × List Byte) : State :=
  if blobOk e.1 e.2 then s.setBlob e.1 e.2 else s.skipRecord

/-- Step 6 (17 R475, 19 Table 19.2): the newer valid bank is in force and its records are applied; with none, every object keeps its
default. -/
def State.applyBank (s : State) : State :=
  match s.nv.inForce with
  | some (i, b) =>
    let s1 := (s.setObj (okey 0x2700 2) i).setObj (okey 0x2700 3) b.seq
    forEach b.blobs (fun e a => a.applyBlob e) (forEach b.recs (fun e a => a.applyRec e) s1)
  | none => (s.count (okey 0x542F 8)).condition 0x0009 4 0 0

/-! ## What retirement records do from step 6 on (19 R513) -/

/-- A mast from step 6 on: retired, or with V0 retired V1 its active servo sail. -/
def State.startMast (s : State) (m : Nat) : State :=
  let s1 := if s.maskBit (okey 0x2630 1) m then s.setMastState m .retired else s
  if s1.maskBit (mkey m 0x58 2) 0 then s1.setMaskBit (mkey m 0x30 1) 5 else s1

/-- An endpoint from step 7 on (19 R514): retired, training, or held by PERST. -/
def State.startEndpoint (s : State) (e : Endpoint) : State :=
  s.linkOff e (if s.epRetired e then 4 else if (s.ep e).perst then 0 else 1)

/-- A shroud of the bank in force: retired or off. -/
def State.startShroud (s : State) (x : Shroud) : State :=
  if s.maskBit (okey 0x2630 3) (shroudIx x) then s.setObj (shroudKey x) 5 else s

/-- The shown state of an image slot, by what it holds (19 R507; the NV store keeps no state of its own). -/
def State.showSlot (s : State) (i : Nat) : State :=
  let b := s.slotBytes i
  if b = [] then s
  else ((s.setObj (okey 0x2701 (i + 1)) 2).setObj (okey 0x2701 (i + 3)) b.length).setObj (okey 0x2701 (i + 5)) (crc32c b)

/-- Everything that step 6 and step 7 show and start. -/
def State.applyRetirements (s : State) : State :=
  let s1 := forEach (List.range 32) (fun m a => a.startMast m) s
  let s2 := (s1.startShroud .a).startShroud .b
  let s3 := (s2.startEndpoint .ha).startEndpoint .hb
  (forEach (List.range 64) (fun e a => a.showEngine e) (s3.setObj (okey 0x2660 1) (s3.decodersHealthy : Nat))).showEngines

/-! ## Start-up (19 Table 19.2) -/

/-- Steps 6 to 9 with the image of a slot (19 R510): the fill of the channels is then awaited. -/
def State.runSlot (s : State) (i outcome : Nat) : State :=
  let s1 := (((s.setImage .a i).setImage .b i).runImage i)
  let s2 := ((s1.setObj (okey 0x2002 2) i).setObj (okey 0x2702 2) i).setObj (okey 0x2702 3) outcome
  let s3 := (s2.setObj (okey 0x2100 3) 9).applyBank.applyRetirements
  { s3 with boot := { s3.boot with filling := true } }

/-- Neither slot verifies: the recovery state (19 R511). -/
def State.enterRecovery (s : State) : State :=
  { s.setObj (okey 0x2100 3) 5 with boot := { s.boot with recovery := true } }

/-- Steps 1 to 9 from t0 (19 R508, R510, R512): rig time begins at 0, the PLL locks, the boot slot's image is checked and, where it
does not verify, the other's. -/
def State.startUp (s : State) : State :=
  let entry := s.nv.boot.getLast?
  let slot := (entry.map (·.2)).getD 0
  let s0 := { s with now := 0, boot := { s.boot with inReset := false } }
  let s1 := ((s0.setObj (okey 0x2100 1) 1).setObj (okey 0x2702 1) ((entry.map (·.1)).getD 0 : Nat)).showSlot 0 |>.showSlot 1
  let c0 := imageCheck (s.slotBytes slot)
  let s2 := s1.setObj (okey 0x2702 (4 + slot)) c0
  if c0 = 1 then s2.runSlot slot (if entry.isNone then 2 else 0)
  else
    let c1 := imageCheck (s.slotBytes (1 - slot))
    let s3 := s2.setObj (okey 0x2702 (4 + (1 - slot))) c1
    if c1 = 1 then s3.runSlot (1 - slot) 1 else s3.enterRecovery

/-- All domains reset together (19 R507): everything volatile is lost; the NV store, the cause, the levels on the pins, the JTAG port,
and what the model keeps of the world outside stay. -/
def State.resetAll (s : State) (cause : Nat) : State :=
  let r : State := {
    pending := s.pending, now := s.now, out := s.out, freeCtr := s.freeCtr, jtag := s.jtag
    nv := { bankA := s.nv.bankA, bankB := s.nv.bankB, slot0 := s.nv.slot0, slot1 := s.nv.slot1, boot := s.nv.boot }
    pins := { rstN := s.pins.rstN, testN := s.pins.testN, syncFall := s.pins.syncFall }
    host := { ha := { perst := s.host.ha.perst }, hb := { perst := s.host.hb.perst } }
    boot := { pllLost := s.boot.pllLost } }
  r.setObj (okey 0x2100 5) cause

/-- Nothing holds the rig in reset (19 R503, R507; 20 R526). -/
def State.resetFree (s : State) : Bool := !s.pins.rstN && !s.pins.testN && !s.boot.pllLost

/-- A source of reset is taken away: start-up begins once none is left. -/
def State.released (s : State) : State := if s.boot.inReset && s.resetFree then s.startUp else s

/-- A source of reset appears: a rig already in reset has nothing left to lose. -/
def State.resetBy (s : State) (cause : Nat) : State := if s.boot.inReset then s else s.resetAll cause

/-- Channels that report a density in GiB among those trained. -/
def channelsAt (chans : List Nat) (trained : List Nat) (d : Nat) : Nat :=
  (trained.filter (fun c => decide (chans.getD c 0 = d))).length

/-- Step 8 (16 R426): channels not retired are trained; the density is the one that most report, ties going to the smaller; a channel
that failed training or reports another is retired. `chans` is what each reports in GiB, 0 for failed. -/
def State.trainChannels (s : State) (chans : List Nat) : State :=
  let tried := (List.range 16).filter (fun c => !s.maskBit (okey 0x2400 3) c)
  let d : Nat := if channelsAt chans tried 8 < channelsAt chans tried 16 then 16 else 8
  let ok := tried.filter (fun c => decide (chans.getD c 0 = d))
  let bad := tried.filter (fun c => !decide (chans.getD c 0 = d))
  let s1 := (s.setObj (okey 0x2400 1) 0xFFFF).setObj (okey 0x2400 4) d
  forEach ok (fun c a => a.setMaskBit (okey 0x2400 2) c) (forEach bad (fun c a => a.retireChannel c) s1)

/-- A share whose home channel is not healthy is placed in its group's rebuild area, or runs on one copy (16 R438; step 11). -/
def State.startShare (s : State) (c : Nat) : State :=
  if s.maskBit (okey 0x2400 2) c then s
  else match s.rebuildPlace c with
    | some d => { s with media := { s.media with rebuilds := s.media.rebuilds ++ [(d, c % 8, true)] } }
    | none => (s.count (okey 0x542C 2)).condition 0x0006 4 0 (c % 8)

/-- Steps 8 to 10 (19 Table 19.2): channels trained and filled, the pool's limits taken (16 R433), the shrouds released. -/
def State.filled (s : State) (chans : List Nat) : State :=
  let s1 := forEach (List.range 16) (fun c a => a.startShare c) (s.trainChannels chans)
  let s2 := { s1 with
    media := { s1.media with stageLim := s1.objN (okey 0x2401 1) }, boot := { s1.boot with filling := false } }
  let s3 := ((s2.setObj (okey 0x2542 5) (s2.obj (okey 0x2401 2))).setObj (okey 0x2542 4) (Config.vendorImageId.toNat)).showShares.showPool
  let s3 := forEach (List.range 64) (fun e a => a.givePages e) s3
  forEach [Shroud.a, Shroud.b] (fun x a => if a.shroudState x = 5 then a else a.setShroud x 1) (s3.setObj (okey 0x2100 3) 10)

/-- The vendor region of an image: its section of KIND 3 as microwords from word 0 (19 Table 19.4, 15 R406); trap words fill the rest
of the control store (15 R419, Table 19.2 step 11). -/
def imageStore (b : List Byte) : List (Nat × Microword) :=
  match (imageSections b).find? (fun x => decide (x.2.2 = 3)) with
  | some x =>
    (List.range 0x2000).foldl (fun t a =>
      let w := if a < 0x600 ∧ 24 * a + 24 ≤ x.2.1 then BitVec.ofNat 192 (byteField b (x.1 + 24 * a) 24) else trapWord
      tblPut startWord a w t) []
  | none => []

/-- Step 11 (19 Table 19.2): the first holder initialises the state store, the shares and every engine's control store. -/
def State.initStore (s : State) : State :=
  let st := imageStore (s.slotBytes (s.objN (okey 0x2002 2)))
  (forEach (List.range 64) (fun e a => a.setEngine e { a.engine e with store := st }) s).setObj (okey 0x2100 3) 11

/-- A Gorcy port begins to train unless both its lanes are retired (14 R383). -/
def State.startPort (s : State) (p : Nat) : State :=
  if s.objN (okey 0x2301 (p + 5)) % 4 = 3 then s else (s.setObj (okey 0x2301 (p + 1)) 1).emit (.prbs p)

/-- A mast begins to train unless it is retired (03 R100). -/
def State.startTraining (s : State) (m : Nat) : State :=
  if s.maskBit (okey 0x2630 1) m then s else ((s.setLinkSt m 1).showLanes m).sendPrbs m

/-- Admin pairs enabled before rig ready come into being (19 R514). -/
def State.startPairs (s : State) : State :=
  forEach (s.host.fns.filter (fun p => p.2.aen && !p.2.ardy)) (fun p a => a.adminCreate (fnOfAqn p.1)) s

/-- Step 12: rig ready (19 Table 19.2, R515, R516). -/
def State.becomeReady (s : State) : State :=
  let s1 := { s with boot := { s.boot with ready := true, wasReady := true } }
  let s2 := (s1.setObj (okey 0x2100 3) 12).setObj (okey 0x2100 4) (min (s1.now / 1000000) (2 ^ 32 - 1) : Nat)
  let s3 := forEach (List.range 32) (fun m a => a.startTraining m) (forEach (List.range 4) (fun p a => a.startPort p) s2)
  s3.startPairs.chooseRoot

/-! ## Rows of resets -/

/-- RST_N_ASSERT (19 R507). -/
def execRstNAssert (t : Nat) (s : State) : Res :=
  let s0 := s.at_ t
  .next (if s0.pins.rstN then s0
    else ({ s0 with pins := { s0.pins with rstN := true } } : State).resetBy 1)

/-- RST_N_RELEASE (19 R507, R512). -/
def execRstNRelease (t : Nat) (s : State) : Res :=
  let s0 := s.at_ t
  .next (if s0.pins.rstN then ({ s0 with pins := { s0.pins with rstN := false } } : State).released else s0)

/-- TEST_N_ASSERT (20 R526): as RST_N. -/
def execTestNAssert (t : Nat) (s : State) : Res :=
  let s0 := s.at_ t
  .next (if s0.pins.testN then s0
    else ({ s0 with pins := { s0.pins with testN := true } } : State).resetBy 1)

/-- TEST_N_RELEASE (20 R526). -/
def execTestNRelease (t : Nat) (s : State) : Res :=
  let s0 := s.at_ t
  .next (if s0.pins.testN then ({ s0 with pins := { s0.pins with testN := false } } : State).released else s0)

/-- PLL_LOSS (19 R503). -/
def execPllLoss (t : Nat) (s : State) : Res :=
  let s0 := s.at_ t
  .next (if s0.boot.pllLost then s0
    else ({ s0 with boot := { s0.boot with pllLost := true } } : State).resetBy 2)

/-- PLL_LOCK_REGAINED (19 R503). -/
def execPllLockRegained (t : Nat) (s : State) : Res :=
  let s0 := s.at_ t
  .next (if s0.boot.pllLost then ({ s0 with boot := { s0.boot with pllLost := false } } : State).released else s0)

/-- STARTUP_FILL_DONE (19 R512; 16 R426, R430). -/
def execStartupFillDone (t : Nat) (chans : List Nat) (s : State) : Res :=
  let s0 := s.at_ t
  .next (if s0.boot.filling then s0.filled chans else s0)

/-! ## Temperature and FURL_N -/

/-- What a hold of every mast leaves behind when it ends (06 R174, 20 R525): present masts with demand start, held commands begin. -/
def State.holdEnds (s : State) : State :=
  if s.pins.furlN || s.pins.thermalFurl then s
  else
    (forEach (List.range 32) (fun m a =>
      if (a.drive m).demand = false then a
      else if (a.mast m).st = .present then a.spindleStart m
      else if (a.mast m).st = .furling then a.updDrive m (fun x => { x with startDue := true }) else a) s).startFurled

/-- FURL_N_RELEASE (06 R174). -/
def execFurlNRelease (t : Nat) (s : State) : Res :=
  let s0 := s.at_ t
  .next (if s0.pins.furlN then
      (({ s0 with pins := { s0.pins with furlN := false } }).setObj (okey 0x2131 1) 0).holdEnds
    else s0)

/-- THERM_N by the hottest reading (20 R525). -/
def State.thermPin (s : State) (tj : Int) : State :=
  let hi := s.obj (okey 0x2110 2)
  let lo := hi - s.obj (okey 0x2110 3)
  if hi ≤ tj ∧ s.pins.therm = false then ({ s with pins := { s.pins with therm := true } }).emit (.pin 0 false)
  else if tj < lo ∧ s.pins.therm = true then ({ s with pins := { s.pins with therm := false } }).emit (.pin 0 true)
  else s

/-- The thermal furl (20 R525): from 110 °C until Tj is below the threshold. -/
def State.thermalFurl (s : State) (tj : Int) : State :=
  if 14080 ≤ tj ∧ s.pins.thermalFurl = false then
    forEach (List.range 32) (fun m a => a.furlMast m)
      (({ s with pins := { s.pins with thermalFurl := true } }).setObj (okey 0x2110 4) 1)
  else if tj < s.obj (okey 0x2110 2) ∧ s.pins.thermalFurl = true then
    (({ s with pins := { s.pins with thermalFurl := false } }).setObj (okey 0x2110 4) 0).holdEnds
  else s

/-- Sixteen readings in Q9.7 °C, shown with the hottest (20 R525, R534). -/
def State.thermalSample (s : State) (readings : List Int) : State :=
  let l := (List.range 16).map (fun i => clampI (readings.getD i 0) (-32768) 32767)
  let tj := l.foldl max (l.headD 0)
  let s1 := forEach (List.range 16) (fun i a => a.setObj (okey 0x2110 (5 + i)) (l.getD i 0)) (s.setObj (okey 0x2110 1) tj)
  (s1.thermPin tj).thermalFurl tj

/-- THERMAL_SAMPLE (20 R525): sixteen readings, not in reset. -/
def execThermalSample (t : Nat) (readings : List Int) (s : State) : Res :=
  let s0 := s.at_ t
  .next (if readings.length = 16 ∧ s0.boot.inReset = false ∧ s0.boot.recovery = false then s0.thermalSample readings else s0)

/-! ## JTAG (20 R527) -/

/-- The identification code, shifted out from bit 0. -/
def idcodeBits : List Bool := (List.range 32).map (fun i => (0x03264A8F : Nat).testBit i)

/-- Shifts bits through a register: what comes out, and what stays. -/
def shiftThrough (reg bits : List Bool) : List Bool × List Bool :=
  ((reg ++ bits).take bits.length, (reg ++ bits).drop bits.length)

/-- Cells of the boundary-scan chain (20 R527, Tables 20.4, 20.5): the 1.8 V balls but TEST_N; their number and order are the
model's. -/
def chainLen : Nat := 53

/-- BYPASS: TDO is TDI one clock later. The EXTEST drive ends. -/
def execBypass (t : Nat) (bits : List Bool) (s : State) : Res :=
  let s0 := s.at_ t
  .next (({ s0 with jtag := { s0.jtag with ir := 0xFF, driving := false } }).emit (.tdo (shiftThrough [false] bits).1))

/-- IDCODE: 0x03264A8F leaves, bit 0 first. -/
def execIdcode (t : Nat) (bits : List Bool) (s : State) : Res :=
  let s0 := s.at_ t
  .next (({ s0 with jtag := { s0.jtag with ir := 0x01, driving := false } }).emit (.tdo (shiftThrough idcodeBits bits).1))

/-- What the boundary cells capture: the balls' levels, which no rule of the spec gives beyond the pins the rig registers. -/
def State.capture : Nat → State → List Bool × State
  | 0, s => ([], s)
  | n + 1, s =>
    let (v, s1) := s.takeFree
    let (l, s2) := State.capture n s1
    (v.getLsbD 0 :: l, s2)

/-- A scan of the boundary chain: it captures the balls, shifts, and loads the update stage. -/
def State.scan (s : State) (ir : BitVec 8) (driving : Bool) (bits : List Bool) : State :=
  let (l, s1) := State.capture chainLen s
  let (o, r) := shiftThrough l bits
  ({ s1 with jtag := { ir := ir, chain := r, update := r, driving := driving } }).emit (.tdo o)

/-- SAMPLE_PRELOAD: the levels are captured and the update stage loaded; the balls are not driven. -/
def execSamplePreload (t : Nat) (bits : List Bool) (s : State) : Res := .next ((s.at_ t).scan 0x02 false bits)

/-- EXTEST: as SAMPLE_PRELOAD, with the balls driven from the update stage. -/
def execExtest (t : Nat) (bits : List Bool) (s : State) : Res := .next ((s.at_ t).scan 0x00 true bits)

end Sys2Proof.Machine
end

