-- ==== Sys2Proof/Machine/FieldNet.lean ====
section
/-! DEFINITION. The EtherCAT SubDevice (17.3): CoE, FoE, AL states, distributed clocks and process data; saves of the NV store (17.4);
rig ready. -/
namespace Sys2Proof.Machine

/-! ## CoE (17 R464, R466; 19 R511) -/

/-- AL state, 2121:03. -/
def State.al (s : State) : Nat := s.objN (okey 0x2121 3)
/-- The mailbox runs: Pre-Operational, Safe-Operational or Operational (17 R469). -/
def State.mailboxOn (s : State) : Bool := !s.boot.inReset && decide (s.al = 2 ∨ s.al = 4 ∨ s.al = 8)

/-- An answer of the mailbox: code 0, or an abort or error code; it is kept for a repeat request. -/
def State.reply (s : State) (code : Nat) (data : List Byte) : State :=
  ({ s with field := { s.field with lastReply := some (code, data) } }).emit (.field code data)

/-- An upload as one access (17 R466). -/
def State.sdoUpload (s : State) (index sub : Nat) (ca : Bool) : State :=
  match s.readObj .fieldNet index sub ca with
  | .ok b => s.reply 0 b
  | .error e => (s.countRefused e).reply e.abort []

/-- A download as one access; through 1010:01 it is answered when the save has ended (17 R466). -/
def State.sdoDownload (s : State) (index sub : Nat) (ca : Bool) (data : List Byte) : State :=
  match s.writeObj .fieldNet { waiters := [.sdo] } index sub ca data with
  | (s1, some e) => s1.reply e.abort []
  | (s1, none) =>
    if index = 0x1010 then { s1 with field := { s1.field with sdoBusy := true } } else s1.reply 0 []

/-- Objects that the recovery state serves (19 R511). -/
def recoveryServes (index sub : Nat) : Bool :=
  decide (index = 0x1018 ∧ 1 ≤ sub ∧ sub ≤ 4) || decide (index = 0x2100 ∧ sub = 5) || decide (index = 0x2702 ∧ 1 ≤ sub ∧ sub ≤ 5)

/-- A CoE request (17 R459, R466): held behind a download that waits, without a holder of the token, and before rig ready. -/
def State.sdo (s : State) (r : SdoReq) : State :=
  if !s.mailboxOn then s
  else if s.boot.recovery then
    (if r.down.isNone && !r.ca && recoveryServes r.index r.sub then s.sdoUpload r.index r.sub false else s.reply 0x08000021 [])
  else if s.field.sdoBusy || !s.hasHolder || !s.boot.ready then
    { s with field := { s.field with held := s.field.held ++ [r] } }
  else match r.down with
    | none => s.sdoUpload r.index r.sub r.ca
    | some d => s.sdoDownload r.index r.sub r.ca d

/-- Held CoE requests are served in order. -/
def State.sdoResume (s : State) : State :=
  forEach s.field.held (fun r a => a.sdo r) { s with field := { s.field with held := [] } }

/-- Everything held for want of a holder, or of rig ready, goes on (18 R485, 19 R515). -/
def State.resumeAll (s : State) : State :=
  if s.hasHolder && s.boot.ready then s.resumeHeld.sdoResume else s

/-! ## SDO information (17 Table 17.5) -/

/-- Code of a type in object descriptions. -/
def ObjType.code : ObjType → Nat
  | .bool => 1 | .i8 => 2 | .i16 => 3 | .i32 => 4 | .u8 => 5 | .u16 => 6 | .u32 => 7 | .str _ => 9 | .dom _ => 0x0F
  | .i64 => 0x15 | .u64 => 0x1B

/-- Every index of the dictionary, ascending. -/
def allIndices : List Nat := ((List.range 0x5000).map (· + 0x1000)).filter (fun i => objRows.any (rowHasIndex i))

/-- Access bits of an entry: readable, writable, each in every state. -/
def accessBits (r : ObjRow) : Nat := match r.acc with
  | .ro => 0x07
  | .wo => 0x38
  | _ => 0x3F

/-- The answer to an SDO information request; names are left out. -/
def sdoInfo (q : SdoInfo) : Except AccErr (List Byte) :=
  match q with
  | .unknown => .error .specifier
  | .objectList => .ok (allIndices.flatMap (leBytes 2))
  | .objectDescription i =>
    match (rowsAt i).head? with
    | none => .error .index
    | some r =>
      let one := (rowOf i 0).isSome
      .ok (leBytes 2 i ++ leBytes 2 (if one then r.ty.code else 0) ++ leBytes 1 (highestSub i) ++ leBytes 1 (if one then 7 else 9))
  | .entryDescription i j =>
    if rowsAt i = [] then .error .index
    else match rowAt i j with
      | none => .error .sub
      | some (_, r) => .ok (leBytes 2 i ++ leBytes 1 j ++ leBytes 1 0 ++ leBytes 2 r.ty.code ++ leBytes 2 (8 * r.ty.bytes) ++
          leBytes 2 (accessBits r))

/-- An SDO information request. -/
def State.sdoInformation (s : State) (q : SdoInfo) : State :=
  if !s.mailboxOn then s
  else if s.boot.recovery then s.reply 0x08000021 []
  else match sdoInfo q with
    | .ok b => s.reply 0 b
    | .error e => s.reply e.abort []

/-! ## FoE (17 R469, Table 17.9; 19 R511) -/

/-- A value record of a bank (17 R471). -/
def bankRecord (k : Nat) (v : List Byte) : List Byte :=
  leBytes 2 (k / 256) ++ leBytes 1 (k % 256) ++ leBytes 1 0 ++ leBytes 2 v.length ++ leBytes 2 0 ++ padTo ((v.length + 7) / 8 * 8) v

/-- A bank as stored (17 R471, Table 17.11). -/
def Bank.bytes (b : Bank) : List Byte :=
  let nums := b.recs.map (fun x => (x.1, match rowOfKey x.1 with
    | some r => leBytes r.ty.bytes (toBits x.2 (8 * r.ty.bytes))
    | none => []))
  let l := sortBy (fun x y => decide (x.1 ≤ y.1)) (nums ++ b.blobs)
  let body := l.flatMap (fun x => bankRecord x.1 x.2) ++ leBytes 2 0xFFFF ++ leBytes 6 0
  let head := leBytes 4 0x4B4E4142 ++ leBytes 2 1 ++ leBytes 2 0 ++ leBytes 4 b.seq ++ leBytes 4 body.length
  head ++ leBytes 4 (crc32c (head ++ body)) ++ leBytes 44 0 ++ body

/-- The bank in force (17 R475). -/
def State.bankInForce (s : State) : Option Bank :=
  match s.objN (okey 0x2700 2) with
  | 0 => s.nv.bankA
  | 1 => s.nv.bankB
  | _ => none

/-- An FoE error whose code no rule gives. -/
def State.foeRefused (s : State) : State :=
  let (v, s1) := s.takeFree
  s1.reply (v.toNat % 2 ^ 32) []

/-- Writes an image slot (17 R469): a transfer that breaks off leaves it empty. -/
def State.writeSlot (s : State) (i : Nat) (b : List Byte) : State :=
  let s1 := { s with nv := if i = 0 then { s.nv with slot0 := b } else { s.nv with slot1 := b } }
  let s2 := (s1.setObj (okey 0x2701 (i + 1)) (if b = [] then 0 else 2 : Nat)).setObj (okey 0x2701 (i + 3)) b.length
  s2.setObj (okey 0x2701 (i + 5)) (if b = [] then 0 else crc32c b : Nat)

/-- A transfer is done and counted (18 Table 18.3). -/
def State.foeDone (s : State) (b : List Byte) : State := (s.count (okey 0x542F 0x0B)).reply 0 b

/-- An FoE write (17 R469): `ok` false is a transfer that ended early or broke off. -/
def State.foeWrite (s : State) (file : FoeFile) (pw : Nat) (data : List Byte) (ok : Bool) : State :=
  if !s.mailboxOn then s
  else if pw ≠ 0 then s.foeRefused
  else match file with
    | .slot i =>
      if !s.boot.recovery && decide (i.val = s.objN (okey 0x2002 2)) then s.reply 0x8002 []
      else if 25165824 < data.length then s.reply 0x8003 []
      else if !ok then s.writeSlot i.val []
      else
        let s1 := (s.writeSlot i.val data).foeDone []
        if s.boot.recovery then (s1.resetAll 3).startUp else s1
    | .engine =>
      if s.boot.recovery then s.reply 2 []
      else if 163117 < data.length then s.reply 0x8003 []
      else if !ok then { s with eng := { s.eng with image := [] } }
      else if data.length < 3397 then s.foeRefused
      else ({ s with eng := { s.eng with image := data } }).foeDone []
    | .bank => if s.boot.recovery then s.reply 2 [] else s.reply 0x8002 []
    | .other => if s.boot.recovery then s.reply 2 [] else s.reply 0x8001 []

/-- An FoE read (17 R469). -/
def State.foeRead (s : State) (file : FoeFile) (pw : Nat) : State :=
  if !s.mailboxOn then s
  else if s.boot.recovery then s.reply 2 []
  else if pw ≠ 0 then s.foeRefused
  else match file with
    | .slot i => s.foeDone (s.slotBytes i.val)
    | .engine => s.reply 0x8002 []
    | .bank => match s.bankInForce with
      | some b => s.foeDone b.bytes
      | none => s.foeRefused
    | .other => s.reply 0x8001 []

/-! ## AL states (17 R465; 19 R511, R515) -/

/-- Code of an AL state (Table 17.12). -/
def alCode : AlState → Nat
  | .init => 1 | .preOp => 2 | .bootstrap => 3 | .safeOp => 4 | .op => 8

/-- Start and length of a SyncManager differ from Table 17.6. -/
def smDiffers (c : AlConfig) (i start len : Nat) : Bool :=
  let x := c.sm.getD i (0, 0, 0)
  decide (x.1 ≠ start ∨ x.2.1 ≠ len)

/-- A SYNC0 cycle that the rig accepts (17 R465). -/
def cycleOk (c : Nat) : Bool := decide (125000 ≤ c ∧ c ≤ 10000000 ∧ c % 25 = 0)

/-- AL status code of a refused transition from AL state `cur` (17 R465). -/
def alRefused (recovery : Bool) (cur : Nat) (req : AlState) (c : AlConfig) : Option Nat :=
  let want := alCode req
  let sm2 := c.sm.getD 2 (0, 0, 0)
  if want = 3 then some 0x0013
  else if recovery && decide (2 < want) then some 0x0011
  else if want ≤ cur then none
  else if cur = 1 ∧ want = 2 then
    (if smDiffers c 0 0x1000 512 || smDiffers c 1 0x1200 512 then some 0x0016 else none)
  else if cur = 2 ∧ want = 4 then
    (if smDiffers c 3 0x1800 56 || decide (sm2.2.2 ≠ 0 ∧ sm2.2.1 ≠ 0) then some 0x001E
     else match c.dc with
       | some n => if cycleOk n then none else some 0x0030
       | none => none)
  else if cur = 4 ∧ want = 8 then none
  else some 0x0011

/-- A transition is carried out or refused. -/
def State.alTransition (s : State) (req : AlState) (c : AlConfig) : State :=
  match alRefused s.boot.recovery s.al req c with
  | some e => s.emit (.field e [])
  | none =>
    let s1 := { s with field := { s.field with sm := c.sm, dcSelected := c.dc.isSome } }
    let n := match c.dc with
      | some n => if cycleOk n then n else 0
      | none => 0
    ((s1.setObj (okey 0x2121 3) (alCode req)).setObj (okey 0x2120 2) n).emit (.field 0 [])

/-- An AL request: above Init it is held until rig ready (19 R515), but for the recovery state (19 R511). -/
def State.alRequest (s : State) (req : AlState) (c : AlConfig) : State :=
  if s.boot.inReset then s
  else if !s.boot.recovery && !s.boot.wasReady && decide (req ≠ .init) then
    { s with field := { s.field with alHeld := some (req, c) } }
  else ({ s with field := { s.field with alHeld := none } }).alTransition req c

/-! ## Distributed clocks and process data (17 R467, R468) -/

/-- The TxPDO image of this instant (17 Table 17.7). -/
def State.txImage (s : State) : List Byte :=
  leBytes 2 s.rigStatus ++ leBytes 8 (s.now % 2 ^ 64) ++ leBytes 8 (s.epoch % 2 ^ 64) ++
    (List.range 32).flatMap (fun m => leBytes 1 (mastCode (s.mast m).st)) ++ leBytes 2 (s.objN (okey 0x2400 2)) ++
    leBytes 1 (s.objN (okey 0x2660 1)) ++ leBytes 1 (s.objN (okey 0x2542 1)) ++ leBytes 1 (s.objN (okey 0x2200 1)) ++
    leBytes 1 (s.objN (okey 0x2201 1))

/-- A new image is written, in Safe-Operational and Operational. -/
def State.writeImage (s : State) : State :=
  if s.al = 4 ∨ s.al = 8 then { s with field := { s.field with txpdo := s.txImage } } else s

/-- The clock's state is shown; at the loss of synchronisation, which is counted and raises a CONDITION event, a root that it steered
runs from its reference (17 R468). -/
def State.dcState (s : State) (v : Nat) : State :=
  let s1 := s.setObj (okey 0x2120 1) v
  let s2 := if s.byClock && decide (v ≠ 2) then s1.setObj (okey 0x2302 6) 0 else s1
  if s.objN (okey 0x2120 1) = 2 ∧ v ≠ 2 then (s2.count (okey 0x542F 9)).condition 0x0007 4 0 0 else s2

/-- Rig time steered by the field network's clock: the rig is the root of time and 2302:02 is 1 (17 R468). -/
def State.clockTheta (s : State) (dc : Nat) : State :=
  if s.objN (okey 0x2302 3) = 2 ∧ s.objN (okey 0x2302 2) = 1 ∧ s.objN (okey 0x2120 1) = 2 then
    let theta := wrapS ((dc : Int) - s.now) 64
    (s.setObj (okey 0x2120 3) (sat theta 32)).steer theta
  else s

/-- SYNC0_EVENT: `dc` is the DC system time of the event, `diff` the magnitude of the controller's system time difference. -/
def State.sync0 (s : State) (dc diff : Nat) : State :=
  if s.boot.inReset || !cycleOk (s.objN (okey 0x2120 2)) then s
  else
    let l := (diff :: s.field.diffs).take 16
    let good := decide (l.length = 16) && l.all (fun d => decide (d ≤ 100))
    ((({ s with field := { s.field with diffs := l } }).dcState (if good then 2 else 1)).writeImage).clockTheta dc

/-! ## Saves (17 R472, R474) -/

/-- A save's waiter gets its outcome (17 R474). -/
def State.saveAnswer (s : State) (st : Nat) : Waiter → State
  | .cmd cid => s.complete cid st 0
  | .mailbox f => if (s.fnr f).mboxBusy then s.mailboxDone f st else s
  | .sdo =>
    (({ s with field := { s.field with sdoBusy := false } }).reply (if st = 0 then 0 else (AccErr.other st).abort) []).sdoResume

/-- A save ends: its waiters are answered, and another that was asked for begins. -/
def State.saveEnds (s : State) (st : Nat) : State :=
  let ws := s.nv.waiters
  let next := s.nv.next
  let s1 := forEach ws (fun w a => a.saveAnswer st w) { s with nv := { s.nv with save := none, waiters := [], next := none } }
  match next with
  | some l => if s1.nv.save.isNone then s1.beginSave l else s1.requestSave l
  | none => s1

/-- SAVE_DONE: the bank just written passed or failed its read-back (17 R472). -/
def State.saveDone (s : State) (ok : Bool) : State :=
  match s.nv.save with
  | none => s
  | some x =>
    if ok then
      let n := if x.target = 0 then { s.nv with bankA := some x.bank } else { s.nv with bankB := some x.bank }
      let s1 := { s with nv := { n with failedAt := none } }
      (((s1.setObj (okey 0x2700 1) 0).setObj (okey 0x2700 2) x.target).setObj (okey 0x2700 3) x.bank.seq).saveEnds 0
    else if !x.second then { s with nv := { s.nv with save := some { x with second := true } } }
    else
      let s1 := ({ s with nv := { s.nv with failedAt := some s.now } }).count (okey 0x542F 7)
      (((s1.setObj (okey 0x2700 1) 2).setObj (okey 0x2700 5) 1).condition 0x0008 4 0 x.target).saveEnds stMemoryError

/-! ## Rows -/

/-- SDO_UPLOAD (17 R466). -/
def execSdoUpload (t index sub : Nat) (ca : Bool) (s : State) : Res := .next ((s.at_ t).sdo ⟨index, sub, ca, none⟩)

/-- SDO_DOWNLOAD (17 R466). -/
def execSdoDownload (t index sub : Nat) (ca : Bool) (data : List Byte) (s : State) : Res :=
  .next ((s.at_ t).sdo ⟨index, sub, ca, some data⟩)

/-- SDO_INFORMATION (17 R464). -/
def execSdoInformation (t : Nat) (req : SdoInfo) (s : State) : Res := .next ((s.at_ t).sdoInformation req)

/-- FOE_WRITE (17 R469). -/
def execFoeWrite (t : Nat) (file : FoeFile) (pw : Nat) (data : List Byte) (ok : Bool) (s : State) : Res :=
  .next ((s.at_ t).foeWrite file pw data ok)

/-- FOE_READ (17 R469). -/
def execFoeRead (t : Nat) (file : FoeFile) (pw : Nat) (s : State) : Res := .next ((s.at_ t).foeRead file pw)

/-- AL_STATE_REQUEST (17 R465). -/
def execAlStateRequest (t : Nat) (req : AlState) (cfg : AlConfig) (s : State) : Res := .next ((s.at_ t).alRequest req cfg)

/-- SYNC0_EVENT (17 R468). -/
def execSync0Event (t dc diff : Nat) (s : State) : Res := .next ((s.at_ t).sync0 dc diff)

/-- SYNC0_STOP (17 R468). -/
def execSync0Stop (t : Nat) (s : State) : Res :=
  let s0 := s.at_ t
  .next (({ s0 with field := { s0.field with diffs := [] } }).dcState 0)

/-- TXPDO_UPDATE (17 R467): every 250 µs in free run. -/
def execTxpdoUpdate (t : Nat) (s : State) : Res :=
  let s0 := s.at_ t
  .next (if s0.field.dcSelected then s0 else s0.writeImage)

/-- FIELD_NETWORK_LINK_CHANGE (17 R464): a port without link closes its loop. -/
def execFieldNetworkLinkChange (t port : Nat) (up : Bool) (s : State) : Res :=
  let s0 := s.at_ t
  .next (if port < 2 ∧ s0.boot.inReset = false then s0.setObj (okey 0x2121 (port + 1)) (if up then 1 else 2 : Nat) else s0)

/-- MAILBOX_REPEAT (17 R464): the last answer leaves again. -/
def execMailboxRepeat (t : Nat) (s : State) : Res :=
  let s0 := s.at_ t
  .next (match s0.field.lastReply with
    | some (c, b) => if s0.mailboxOn then (s0.count (okey 0x542F 0x0A)).emit (.field c b) else s0
    | none => s0)

/-- SAVE_DELAY_EXPIRY (17 R474). -/
def execSaveDelayExpiry (t : Nat) (s : State) : Res :=
  let s0 := s.at_ t
  .next (match s0.nv.uncovered with
    | some a => if a + ms (s0.objN (okey 0x2700 4)) ≤ s0.now then s0.requestSave [] else s0
    | none => s0)

/-- SAVE_DONE (17 R472). -/
def execSaveDone (t : Nat) (ok : Bool) (s : State) : Res := .next ((s.at_ t).saveDone ok)

/-- SAVE_RETRY (17 R472): 60 s after a failed save. -/
def execSaveRetry (t : Nat) (s : State) : Res :=
  let s0 := s.at_ t
  .next (match s0.nv.failedAt with
    | some a =>
      if a + sec 60 ≤ s0.now ∧ s0.nv.save.isNone = true then
        ({ s0 with nv := { s0.nv with failedAt := none } }).beginSave []
      else s0
    | none => s0)

/-- RIG_READY (19 R512, step 12): admin pairs, training, and whatever was held for it. -/
def execRigReady (t : Nat) (s : State) : Res :=
  let s0 := s.at_ t
  .next (if s0.objN (okey 0x2100 3) = 11 ∧ s0.hasHolder = true then
      let s1 := s0.becomeReady
      (match s1.field.alHeld with
        | some (r, c) => s1.alRequest r c
        | none => s1).resumeAll
    else s0)

end Sys2Proof.Machine
end

