-- ==== Sys2Proof/Machine/AvailRows.lean ====
section
/-! DEFINITION. The rows of the shrouds, the command token and the image update (chapter 18). -/
namespace Sys2Proof.Machine

/-- What follows when a shroud may have taken a token nobody held: at start-up the state store is initialised (19 Table 19.2, step 11),
else everything held goes on (18 R485). -/
def State.afterToken (old s : State) : State :=
  if old.hasHolder || !s.hasHolder then s
  else if s.objN (okey 0x2100 3) = 10 then s.initStore
  else s.resumeAll

/-- SELF_CHECK_FAILURE (18 R481, R486): each kind has the same effect. -/
def execSelfCheckFailure (t : Nat) (x : Shroud) (_kind : SelfCheckKind) (s : State) : Res := .next ((s.at_ t).selfCheck x)

/-- HEARTBEAT_TIMEOUT (18 R483, R486): the holder's silence is a self-check failure of the holder. -/
def execHeartbeatTimeout (t : Nat) (s : State) : Res :=
  let s0 := s.at_ t
  .next (if s0.hasHolder then s0.selfCheck (shroudOf s0.holder) else s0)

/-- Objects that the state store holds (18 R482): those of the AON domain and of the arbiter are not among them. -/
def inStore (index : Nat) : Bool := ! [0x2100, 0x2110, 0x2120, 0x2121, 0x2600, 0x2700, 0x2701, 0x2702].contains index

/-- A step reaches the state store (18 R482): applied only where its generation equals the arbiter's and its issuer holds the token. -/
def State.storeStep (s : State) (x : Shroud) (gen key : Nat) (v : Int) : State :=
  match rowOfKey key with
  | some r =>
    let ok := match decodeValue (key / 256) (key % 256) r (leBytes r.ty.bytes (toBits v (8 * r.ty.bytes))) with
      | .ok w => decide (w.num = v)
      | .error _ => false
    if gen = s.tokenG ∧ s.holder = shroudIx x ∧ r.ty.fixed = true ∧ inStore (key / 256) = true ∧ ok = true then s.setObj key v else s
  | none => s

/-- STATE_STEP (18 R482): the holder sets one value of the state store. -/
def execStateStep (t : Nat) (x : Shroud) (gen key : Nat) (v : Int) (s : State) : Res := .next ((s.at_ t).storeStep x gen key v)

/-- SHROUD_SELF_TEST_DONE (18 R486, R488; 19 Table 19.2, step 10). -/
def execShroudSelfTestDone (t : Nat) (x : Shroud) (ok : Bool) (s : State) : Res :=
  let s0 := s.at_ t
  .next (s0.afterToken (s0.shroudTested x ok))

/-- AUTOMATIC_RETURN (18 R487): 30 s of standby of A while B holds; during an image update only once it is done (18 Table 18.5;
notes/assumptions/178.md). -/
def execAutomaticReturn (t : Nat) (s : State) : Res :=
  let s0 := s.at_ t
  .next (match s0.avail.standbyA with
    | some a =>
      if s0.objN (okey 0x2600 6) = 1 ∧ s0.holder = 1 ∧ s0.shroudState .a = 2 ∧ s0.avail.upd = .none ∧ a + sec 30 ≤ s0.now then
        (s0.plannedPass .a).count (okey 0x5431 2)
      else s0
    | none => s0)

/-- NO_HOLDER_FURL (18 R488): after 1 s with no holder, each yard furls its mast. -/
def execNoHolderFurl (t : Nat) (s : State) : Res :=
  let s0 := s.at_ t
  .next (match s0.avail.noHolderAt with
    | some a =>
      if s0.hasHolder = false ∧ s0.avail.noHolderFurled = false ∧ a + sec 1 ≤ s0.now then
        forEach (List.range 32) (fun m b => b.furlMast m) { s0 with avail := { s0.avail with noHolderFurled := true } }
      else s0
    | none => s0)

/-- UPDATE_SHROUD_LOADED (18 R498, R499). -/
def execUpdateShroudLoaded (t : Nat) (x : Shroud) (ok : Bool) (s : State) : Res := .next ((s.at_ t).shroudLoaded x ok)

/-- OBSERVATION_END (18 Table 18.5, step 5). -/
def execObservationEnd (t : Nat) (s : State) : Res := .next (s.at_ t).observed

end Sys2Proof.Machine
end

