-- ==== Sys2Proof/Machine/PathRows.lean ====
section
/-! DEFINITION. The rows that are a write of one object along an access path (17 R458): each writes its object with the checks and the
actions of Dict.lean and DictWrite.lean. `mask` is the value written. -/
namespace Sys2Proof.Machine

/-- An access can arrive along a path: the field network's mailbox runs, the function is there (17.1, 13 R367). -/
def State.pathThere (s : State) : Path → Bool
  | .fieldNet => s.mailboxOn
  | .function f => s.fnThere f
  | .peer _ => true

/-- Index of M+ii on mast m (00 R12). -/
def mIx (m ii : Nat) : Nat := 0x3000 + m * 0x80 + ii

/-- Writes `v` to index:sub along a path at time t, in the object's own type; a value its type cannot carry is no access. -/
def State.pathPut (s : State) (p : Path) (index sub v : Nat) (env : WEnv) : State :=
  match rowAt index sub with
  | some (_, r) =>
    if s.pathThere p = true ∧ r.ty.fixed = true ∧ v < 2 ^ (8 * r.ty.bytes) then s.pathWrite p env index sub r.ty.bytes v else s
  | none => s

/-- LANE_RETIRE_CLEAR (03 R108): M+08:04 for inbound lanes, M+08:05 for outbound. -/
def execLaneRetireClear (t : Nat) (path : Path) (m : Nat) (outbound : Bool) (mask : Nat) (s : State) : Res :=
  let s0 := s.at_ t
  .next (if m < 32 then s0.pathPut path (mIx m 8) (if outbound then 5 else 4) mask {} else s0)

/-- SERVO_COMMIT (04 R126 to R128): M+20:02. -/
def execServoCommit (t : Nat) (path : Path) (m mask : Nat) (s : State) : Res :=
  let s0 := s.at_ t
  .next (if m < 32 then s0.pathPut path (mIx m 0x20) 2 mask {} else s0)

/-- SERVO_FLAG_CLEAR (04 R130): M+20:04 saturation, M+20:05 limit. -/
def execServoFlagClear (t : Nat) (path : Path) (m : Nat) (limit : Bool) (mask : Nat) (s : State) : Res :=
  let s0 := s.at_ t
  .next (if m < 32 then s0.pathPut path (mIx m 0x20) (if limit then 5 else 4) mask {} else s0)

/-- TRACE_ARM (04 R132): 1 to M+2E:02. -/
def execTraceArm (t : Nat) (path : Path) (m : Nat) (s : State) : Res :=
  let s0 := s.at_ t
  .next (if m < 32 then s0.pathPut path (mIx m 0x2E) 2 1 {} else s0)

/-- TRACE_STOP (04 R132): 2 to M+2E:02. -/
def execTraceStop (t : Nat) (path : Path) (m : Nat) (s : State) : Res :=
  let s0 := s.at_ t
  .next (if m < 32 then s0.pathPut path (mIx m 0x2E) 2 2 {} else s0)

/-- TRACE_FIRE (04 R132): 3 to M+2E:02. -/
def execTraceFire (t : Nat) (path : Path) (m : Nat) (s : State) : Res :=
  let s0 := s.at_ t
  .next (if m < 32 then s0.pathPut path (mIx m 0x2E) 2 3 {} else s0)

/-- GUIDE_FOCUS_CALIBRATION (05 R153): code 1 to M+35:01. -/
def execGuideFocusCalibration (t : Nat) (path : Path) (m : Nat) (s : State) : Res :=
  let s0 := s.at_ t
  .next (if m < 32 then s0.pathPut path (mIx m 0x35) 1 1 {} else s0)

/-- BRACE_CALIBRATION (05 R153): code 2 to M+35:01. -/
def execBraceCalibration (t : Nat) (path : Path) (m : Nat) (s : State) : Res :=
  let s0 := s.at_ t
  .next (if m < 32 then s0.pathPut path (mIx m 0x35) 1 2 {} else s0)

/-- HALYARD_CALIBRATION (05 R153): code 3 to M+35:01. -/
def execHalyardCalibration (t : Nat) (path : Path) (m : Nat) (s : State) : Res :=
  let s0 := s.at_ t
  .next (if m < 32 then s0.pathPut path (mIx m 0x35) 1 3 {} else s0)

/-- V1_CLOCK_OFFSET_CALIBRATION (05 R153): code 4 to M+35:01. -/
def execV1ClockOffsetCalibration (t : Nat) (path : Path) (m : Nat) (s : State) : Res :=
  let s0 := s.at_ t
  .next (if m < 32 then s0.pathPut path (mIx m 0x35) 1 4 {} else s0)

/-- COARSE_ALIGNMENT_CALIBRATION (08 R219, R221): code 1 to M+45:01. -/
def execCoarseAlignmentCalibration (t : Nat) (path : Path) (m : Nat) (s : State) : Res :=
  let s0 := s.at_ t
  .next (if m < 32 then s0.pathPut path (mIx m 0x45) 1 1 {} else s0)

/-- FINE_ALIGNMENT_CALIBRATION (08 R219, R221): code 2 to M+45:01. -/
def execFineAlignmentCalibration (t : Nat) (path : Path) (m : Nat) (s : State) : Res :=
  let s0 := s.at_ t
  .next (if m < 32 then s0.pathPut path (mIx m 0x45) 1 2 {} else s0)

/-- ASYMMETRY_TRIM_CALIBRATION (08 R219, R221): code 3 to M+45:01. -/
def execAsymmetryTrimCalibration (t : Nat) (path : Path) (m : Nat) (s : State) : Res :=
  let s0 := s.at_ t
  .next (if m < 32 then s0.pathPut path (mIx m 0x45) 1 3 {} else s0)

/-- EQUALISER_PRESET_CALIBRATION (08 R219, R221): code 4 to M+45:01. -/
def execEqualiserPresetCalibration (t : Nat) (path : Path) (m : Nat) (s : State) : Res :=
  let s0 := s.at_ t
  .next (if m < 32 then s0.pathPut path (mIx m 0x45) 1 4 {} else s0)

/-- The level that SYNC_IN shows now: its latest pulse has ended by now, or not yet (06 R166; notes/assumptions/49.md). -/
def State.syncLevel (s : State) (high : Bool) : State :=
  { s with pins := { s.pins with syncFall := if high then max s.pins.syncFall (s.now + 1) else min s.pins.syncFall s.now } }

/-- SYNC_REARM (06 R166): 2130:04, with SYNC_IN at the level given. -/
def execSyncRearm (t : Nat) (path : Path) (v : Nat) (high : Bool) (s : State) : Res :=
  .next (((s.at_ t).syncLevel high).pathPut path 0x2130 4 v {})

/-- CHOPPER_FAIL_CLEAR (06 R171): 0 to M+38:08. -/
def execChopperFailClear (t : Nat) (path : Path) (m : Nat) (s : State) : Res :=
  let s0 := s.at_ t
  .next (if m < 32 then s0.pathPut path (mIx m 0x38) 8 0 {} else s0)

/-- SLED_RETIRE_CLEAR (07 R192, 18 R500): 0 to M+58:03. -/
def execSledRetireClear (t : Nat) (path : Path) (m : Nat) (s : State) : Res :=
  let s0 := s.at_ t
  .next (if m < 32 then s0.pathPut path (mIx m 0x58) 3 0 {} else s0)

/-- DECODER_RETIRE_CLEAR (10 R282): 2660:02 for decoders 0 to 63, 2660:03 for 64 to 127. -/
def execDecoderRetireClear (t : Nat) (path : Path) (hi : Bool) (mask : Nat) (s : State) : Res := .next ((s.at_ t).pathPut path 0x2660 (if hi then 3 else 2) mask {})

/-- GORCY_LANE_RETIRE_CLEAR (14 R373): 2301:05 to :08. -/
def execGorcyLaneRetireClear (t : Nat) (path : Path) (port mask : Nat) (s : State) : Res :=
  let s0 := s.at_ t
  .next (if port < 4 then s0.pathPut path 0x2301 (5 + port) mask {} else s0)

/-- COPY_START (14 R399): 1 to 2310 + slot :05. -/
def execCopyStart (t : Nat) (path : Path) (slot : Nat) (s : State) : Res :=
  let s0 := s.at_ t
  .next (if slot < 16 then s0.pathPut path (0x2310 + slot) 5 1 {} else s0)

/-- COPY_ABORT (14 R399): 2 to 2310 + slot :05. -/
def execCopyAbort (t : Nat) (path : Path) (slot : Nat) (s : State) : Res :=
  let s0 := s.at_ t
  .next (if slot < 16 then s0.pathPut path (0x2310 + slot) 5 2 {} else s0)

/-- IMAGE_LOAD (15 R419): 2541:03. -/
def execImageLoad (t : Nat) (path : Path) (v : Nat) (s : State) : Res := .next ((s.at_ t).pathPut path 0x2541 3 v {})

/-- ENGINE_ASSIGN (15 R421): 2500 + e :02. -/
def execEngineAssign (t : Nat) (path : Path) (e v : Nat) (s : State) : Res :=
  let s0 := s.at_ t
  .next (if e < 64 then s0.pathPut path (0x2500 + e) 2 v {} else s0)

/-- ENGINE_WINDOW_RESIZE (15 R417): 2500 + e :03. -/
def execEngineWindowResize (t : Nat) (path : Path) (e v : Nat) (s : State) : Res :=
  let s0 := s.at_ t
  .next (if e < 64 then s0.pathPut path (0x2500 + e) 3 v {} else s0)

/-- ENGINE_RETIRE_CLEAR (18 R491): 2542:02. -/
def execEngineRetireClear (t : Nat) (path : Path) (mask : Nat) (s : State) : Res := .next ((s.at_ t).pathPut path 0x2542 2 mask {})

/-- CHECK_VALUE_RESTART (15 R424): 2550 + h :09. -/
def execCheckValueRestart (t : Nat) (path : Path) (h v : Nat) (s : State) : Res :=
  let s0 := s.at_ t
  .next (if h < 8 then s0.pathPut path (0x2550 + h) 9 v {} else s0)

/-- CHECK_VALUE_OWNER_CHANGE (15 R424): 2550 + h :01. -/
def execCheckValueOwnerChange (t : Nat) (path : Path) (h v : Nat) (s : State) : Res :=
  let s0 := s.at_ t
  .next (if h < 8 then s0.pathPut path (0x2550 + h) 1 v {} else s0)

/-- CHANNEL_RETIRE_CLEAR (16 R436): 2400:03. -/
def execChannelRetireClear (t : Nat) (path : Path) (mask : Nat) (s : State) : Res := .next ((s.at_ t).pathPut path 0x2400 3 mask {})

/-- REMAP_CLEAR (16 R435): 2440 + c :11; `flips` is what the read-back of an entry's granule gives wrongly. -/
def execRemapClear (t : Nat) (path : Path) (c v : Nat) (flips : List (Nat × Granule)) (s : State) : Res :=
  let s0 := s.at_ t
  .next (if c < 16 then s0.pathPut path (0x2440 + c) 0x11 v { flips := flips } else s0)

/-- CACHE_INVALIDATE_LINE (16 R453): 1 to 2410:05. -/
def execCacheInvalidateLine (t : Nat) (path : Path) (s : State) : Res := .next ((s.at_ t).pathPut path 0x2410 5 1 {})

/-- CACHE_INVALIDATE_STRUCTURE (16 R454): 2 to 2410:05. -/
def execCacheInvalidateStructure (t : Nat) (path : Path) (s : State) : Res := .next ((s.at_ t).pathPut path 0x2410 5 2 {})

/-- CACHE_INVALIDATE_ALL (16 R454): 3 to 2410:05. -/
def execCacheInvalidateAll (t : Nat) (path : Path) (s : State) : Res := .next ((s.at_ t).pathPut path 0x2410 5 3 {})

/-- WAYS_ENABLED_WRITE (16 R445): 2410:01. -/
def execWaysEnabledWrite (t : Nat) (path : Path) (v : Nat) (s : State) : Res := .next ((s.at_ t).pathPut path 0x2410 1 v {})

/-- WAY_RETIRE_CLEAR (16 R451): 2410:02. -/
def execWayRetireClear (t : Nat) (path : Path) (mask : Nat) (s : State) : Res := .next ((s.at_ t).pathPut path 0x2410 2 mask {})

/-- ENDPOINT_RETIRE_CLEAR (13 R369): 2630:02. -/
def execEndpointRetireClear (t : Nat) (path : Path) (mask : Nat) (s : State) : Res := .next ((s.at_ t).pathPut path 0x2630 2 mask {})

/-- MAST_RETIRE_CLEAR (18 R500): 2630:01. -/
def execMastRetireClear (t : Nat) (path : Path) (mask : Nat) (s : State) : Res := .next ((s.at_ t).pathPut path 0x2630 1 mask {})

/-- SHROUD_RETIRE_CLEAR (18 R500): 2630:03. -/
def execShroudRetireClear (t : Nat) (path : Path) (mask : Nat) (s : State) : Res := .next ((s.at_ t).pathPut path 0x2630 3 mask {})

/-- SAIL_RETIRE_CLEAR (18 R491): M+58:01. -/
def execSailRetireClear (t : Nat) (path : Path) (m mask : Nat) (s : State) : Res :=
  let s0 := s.at_ t
  .next (if m < 32 then s0.pathPut path (mIx m 0x58) 1 mask {} else s0)

/-- SERVO_SAIL_RETIRE_CLEAR (18 R491): M+58:02. -/
def execServoSailRetireClear (t : Nat) (path : Path) (m mask : Nat) (s : State) : Res :=
  let s0 := s.at_ t
  .next (if m < 32 then s0.pathPut path (mIx m 0x58) 2 mask {} else s0)

/-- NV_SAVE_COMMAND (17 R474): 1010:01. -/
def execNvSaveCommand (t : Nat) (path : Path) (v : Nat) (s : State) : Res := .next ((s.at_ t).pathPut path 0x1010 1 v {})

/-- LOAD_DEFAULTS (17 R476): 1011:01. -/
def execLoadDefaults (t : Nat) (path : Path) (v : Nat) (s : State) : Res := .next ((s.at_ t).pathPut path 0x1011 1 v {})

/-- COUNTER_CLEAR (00 R29, R30): 0 to a counter. -/
def execCounterClear (t : Nat) (path : Path) (index sub : Nat) (s : State) : Res :=
  let s0 := s.at_ t
  .next (if 0x5000 ≤ index ∧ index ≤ 0x5431 then s0.pathPut path index sub 0 {} else s0)

/-- GROUP_CLEAR (18 R496): 2650:01. -/
def execGroupClear (t : Nat) (path : Path) (v : Nat) (s : State) : Res := .next ((s.at_ t).pathPut path 0x2650 1 v {})

/-- PASS_TOKEN (18 R487): 2600:05. -/
def execPassToken (t : Nat) (path : Path) (v : Nat) (s : State) : Res := .next ((s.at_ t).pathPut path 0x2600 5 v {})

/-- IMAGE_UPDATE (18 R498): 2670:01. -/
def execImageUpdate (t : Nat) (path : Path) (v : Nat) (s : State) : Res := .next ((s.at_ t).pathPut path 0x2670 1 v {})

/-- CHECK_VALUE_FEED (15 R424): bytes to 2550 + h :08. -/
def execCheckValueFeed (t : Nat) (path : Path) (h : Nat) (data : List Byte) (s : State) : Res :=
  let s0 := s.at_ t
  .next (if h < 8 ∧ s0.pathThere path = true ∧ s0.hasHolder = true ∧ s0.boot.ready = true then
      (s0.writeObj path {} (0x2550 + h) 8 false data).1
    else s0)

end Sys2Proof.Machine
end

