-- ==== Sys2Proof/Machine/PoolRows.lean ====
section
/-! DEFINITION. The rows of the decoder pool (chapter 10): a codeword's arrival and the end of a decode, for sectors read, verification
read-backs and calibrations. -/
namespace Sys2Proof.Machine

/-- A frame of an erased codeword is never dispatched (10 R259): it fails at its step, and steps 1 and 2 with it; a slot so read fails
its verification. -/
def State.erasedFrame (s : State) (sid : Nat) : State :=
  match s.sector sid with
  | none => s
  | some x =>
    let s0 := s.countM x.mast 0x0C 7
    if x.use.isVerify then s0.verifyEnds x false none []
    else if x.step ≤ 2 then
      let s1 := if x.step = 0 then s0.stepFailed sid else s0
      let s2 := if x.step ≤ 1 then s1.stepFailed sid else s1
      s2.stepFailed sid
    else s0.readFailedAt sid

/-- Codewords that became ready in the present cycle, taken back from the queue and from the buffers of decoders (10 R257). -/
def State.takeBack (s : State) : List Codeword × State :=
  let mine : Codeword → Bool := fun c => decide (c.came = s.now)
  let hit := s.media.decoders.filter (fun p => p.2.bufs.any mine)
  let s1 := forEach hit (fun p a => a.setDecoder p.1 { p.2 with bufs := p.2.bufs.filter (fun c => !mine c) }) s
  (hit.flatMap (fun p => p.2.bufs.filter mine) ++ s.media.queue.filter mine,
    { s1 with media := { s1.media with queue := s1.media.queue.filter (fun c => !mine c) } })

/-- A ready codeword joins the queue; those of one cycle are dispatched in ascending mast, then sail number (10 R257). -/
def State.joinPool (s : State) (c : Codeword) : State :=
  let (l, s1) := s.takeBack
  let all := sortBy (fun x y => decide (64 * x.mast + x.sail ≤ 64 * y.mast + y.sail)) (l ++ [{ c with came := s.now }])
  forEach all (fun x a => ({ a with media := { a.media with queue := a.media.queue ++ [x] } }).dispatchHead) s1

/-- A codeword's last LLR has reached the pool (10 R257, R259). -/
def State.codewordIn (s : State) (m sail : Nat) : State :=
  match (s.mast m).ready.find? (fun c => c.sail = sail) with
  | none => s
  | some c =>
    let s1 := s.updMast m (fun x => { x with ready := x.ready.erase c })
    let s2 := s1.updSector c.sid (fun x => { x with phase := .pool })
    if c.sid ≠ calSid ∧ (s2.sector c.sid).isNone = true then s2.showPoolQueue
    else if c.erased then (if c.sid = calSid then s2.countM m 0x0C 7 else s2.erasedFrame c.sid).showPoolQueue
    else (s2.joinPool c).showPoolQueue

/-- The verdict on a calibration's frame (10 R264, R265): its header names the slot read, whatever extent it belongs to. -/
def calVerdict (c : Codeword) (it : Option Nat) (info : List Byte) : Verdict :=
  if it.isNone then .notConverged
  else if !infoCrcOk info then .miscorrected
  else
    let h := parseHeader (leNat (info.take 24))
    if h.str = c.str ∧ h.track = c.slot.track ∧ h.layer = c.slot.layer ∧ h.sect = c.slot.sect then .accepted else .misplaced h.layer

/-- A calibration's decode (05 Table 5.7, 10 R265): a failure is counted, and an accepted sector notes its sail. -/
def State.calDecoded (s : State) (c : Codeword) (it : Option Nat) (info : List Byte) : State :=
  match calVerdict c it info with
  | .accepted => s.updOpt c.mast (fun x => { x with cal := x.cal.map (fun k =>
      if k.kind = CalKind.loop then { k with decoded := c.sail :: k.decoded.filter (fun v => v ≠ c.sail) } else k) })
  | v => s.badDecode c.mast c.slot.layer v

/-- The LLRs that the sector's present step decodes (10 Table 10.2), or none when step 2 has no alternative left. -/
def Codeword.forStep (c : Codeword) (x : Sector) : Option (List Int) :=
  if x.step = 2 then (c.alternatives[x.tries]?).map (c.shifted x.slot) else some c.llr

/-- A sector's decode fails (10 R265, R269 to R273): its decoder keeps the codeword through steps 1 and 2. -/
def State.decodeFailed (s : State) (d : Nat) (c : Codeword) (x : Sector) : State :=
  if x.step < 2 then s.stepFailed x.sid
  else if x.step = 2 then
    (if x.tries + 1 < c.alternatives.length then s.updSector x.sid (fun z => { z with tries := z.tries + 1 })
    else (s.popDecoder d).stepFailed x.sid)
  else (s.popDecoder d).readFailedAt x.sid

/-- A decode of a sector ends with the decoder's outcome (10 R260 to R271): a verification is judged, a sector accepted or failed. A log
slot in whose first read no sync candidate reached SYTH is blank, whatever the decode gives (11 R295, R310). -/
def State.sectorDecoded (s : State) (d : Nat) (c : Codeword) (x : Sector) (r : Option Nat × List Byte) : State :=
  let v := judge x r.1.isSome r.2
  if x.use = SecUse.log ∧ x.step = 0 ∧ c.found = false then ((s.popDecoder d).dropSector x.sid).logFound x.mast .blank
  else if x.use.isVerify then ((s.popDecoder d).countVerdict x v).verifyEnds x c.found r.1 r.2
  else match v with
    | .accepted => (s.popDecoder d).acceptSector x r.2
    | v => (s.countVerdict x v).decodeFailed d c x

/-- A decode of decoder d's present codeword ends (10 R260 to R271). -/
def State.decodeEnds (s : State) (d : Nat) : State :=
  match (s.decoder d).bufs with
  | [] => s
  | c :: _ =>
    match s.sector c.sid with
    | none =>
      if c.sid = calSid then
        let r := decodeCodeword c.str (s.moN c.mast 0x52 1) c.llr
        (s.popDecoder d).calDecoded c r.1 r.2
      else s.popDecoder d
    | some x =>
      match c.forStep x with
      | none => (s.popDecoder d).stepFailed x.sid
      | some llr => s.sectorDecoded d c x (decodeCodeword c.str (s.moN x.mast 0x52 (if x.step = 0 then 1 else 2)) llr)

/-- CODEWORD_READY (10 R257, R259). -/
def execCodewordReady (t m sail : Nat) (s : State) : Res := .next (onMast m (s.at_ t) (fun a => a.codewordIn m sail))

/-- DECODE_DONE (10 R260 to R271). -/
def execDecodeDone (t d : Nat) (s : State) : Res := .next ((s.at_ t).decodeEnds d)

end Sys2Proof.Machine
end

