-- ==== Sys2Proof/Machine/Dispatch.lean ====
section
/-! DEFINITION. One arm per command: each calls its meaning. -/
namespace Sys2Proof.Machine

/-- The effect of one command on everything but the queue. -/
def exec (i : Instr) (s : State) : Host.Outcome State Fault Refusal :=
  match i with
  | .read t q p => Sys2Proof.Machine.execRead t q p s
  | .write t q p => Sys2Proof.Machine.execWrite t q p s
  | .flush t q p => Sys2Proof.Machine.execFlush t q p s
  | .abort t q p => Sys2Proof.Machine.execAbort t q p s
  | .job t q p => Sys2Proof.Machine.execJob t q p s
  | .dictRead t q p => Sys2Proof.Machine.execDictRead t q p s
  | .dictWrite t q p => Sys2Proof.Machine.execDictWrite t q p s
  | .mount t q p => Sys2Proof.Machine.execMount t q p s
  | .unmount t q p => Sys2Proof.Machine.execUnmount t q p s
  | .furl t q p => Sys2Proof.Machine.execFurl t q p s
  | .createSq t q p => Sys2Proof.Machine.execCreateSq t q p s
  | .deleteSq t q p => Sys2Proof.Machine.execDeleteSq t q p s
  | .createEq t q p => Sys2Proof.Machine.execCreateEq t q p s
  | .deleteEq t q p => Sys2Proof.Machine.execDeleteEq t q p s
  | .unknownOpcode t q p => Sys2Proof.Machine.execUnknownOpcode t q p s
  | .readHeldRelease t cid => Sys2Proof.Machine.execReadHeldRelease t cid s
  | .sqTailDoorbell t f q v width => Sys2Proof.Machine.execSqTailDoorbell t f q v width s
  | .eqHeadDoorbell t f q v width => Sys2Proof.Machine.execEqHeadDoorbell t f q v width s
  | .eqModerationExpiry t e => Sys2Proof.Machine.execEqModerationExpiry t e s
  | .msixVectorUnmask t f vec => Sys2Proof.Machine.execMsixVectorUnmask t f vec s
  | .stagingGrant t cid => Sys2Proof.Machine.execStagingGrant t cid s
  | .grantTimeout t cid => Sys2Proof.Machine.execGrantTimeout t cid s
  | .apertureWrite t f off data rid poisoned => Sys2Proof.Machine.execApertureWrite t f off data rid poisoned s
  | .apertureRead t f off len rid flips => Sys2Proof.Machine.execApertureRead t f off len rid flips s
  | .windowCommit t f v => Sys2Proof.Machine.execWindowCommit t f v s
  | .adminPairEnable t f => Sys2Proof.Machine.execAdminPairEnable t f s
  | .adminPairDisable t f => Sys2Proof.Machine.execAdminPairDisable t f s
  | .registerWrite t f off width v => Sys2Proof.Machine.execRegisterWrite t f off width v s
  | .mailboxReadSegment t f => Sys2Proof.Machine.execMailboxReadSegment t f s
  | .mailboxStageSegment t f => Sys2Proof.Machine.execMailboxStageSegment t f s
  | .mailboxApply t f => Sys2Proof.Machine.execMailboxApply t f s
  | .perstAssert t ep => Sys2Proof.Machine.execPerstAssert t ep s
  | .perstRelease t ep => Sys2Proof.Machine.execPerstRelease t ep s
  | .flr t f => Sys2Proof.Machine.execFlr t f s
  | .vfEnableClear t ep => Sys2Proof.Machine.execVfEnableClear t ep s
  | .d3hotEntry t f => Sys2Proof.Machine.execD3hotEntry t f s
  | .linkDownHold t ep unacked => Sys2Proof.Machine.execLinkDownHold t ep unacked s
  | .holdResume t ep => Sys2Proof.Machine.execHoldResume t ep s
  | .holdTimeout t ep => Sys2Proof.Machine.execHoldTimeout t ep s
  | .dmaReadCompletion t ep tag status data => Sys2Proof.Machine.execDmaReadCompletion t ep tag status data s
  | .completionTimeout t ep tag => Sys2Proof.Machine.execCompletionTimeout t ep tag s
  | .l1Entry t ep => Sys2Proof.Machine.execL1Entry t ep s
  | .l0pWidthChange t ep util backlog => Sys2Proof.Machine.execL0pWidthChange t ep util backlog s
  | .endpointRetireClear t path mask => Sys2Proof.Machine.execEndpointRetireClear t path mask s
  | .sampleFrame t m lane frame => Sys2Proof.Machine.execSampleFrame t m lane frame s
  | .sampleTelemetryFrame t m lane frame => Sys2Proof.Machine.execSampleTelemetryFrame t m lane frame s
  | .identityFrame t m lane frame tick => Sys2Proof.Machine.execIdentityFrame t m lane frame tick s
  | .inboundIdleFrame t m lane frame => Sys2Proof.Machine.execInboundIdleFrame t m lane frame s
  | .commandFrameSend t m tick => Sys2Proof.Machine.execCommandFrameSend t m tick s
  | .outboundIdleFrameSend t m tick => Sys2Proof.Machine.execOutboundIdleFrameSend t m tick s
  | .telemetryTake t m tick => Sys2Proof.Machine.execTelemetryTake t m tick s
  | .mastLinkSignalDetect t m => Sys2Proof.Machine.execMastLinkSignalDetect t m s
  | .trainingEqualisationEnd t m => Sys2Proof.Machine.execTrainingEqualisationEnd t m s
  | .trainingTimeout t m => Sys2Proof.Machine.execTrainingTimeout t m s
  | .trainingRetry t m => Sys2Proof.Machine.execTrainingRetry t m s
  | .laneDown t m lane => Sys2Proof.Machine.execLaneDown t m lane s
  | .laneReacquired t m lane => Sys2Proof.Machine.execLaneReacquired t m lane s
  | .laneReacquireTimeout t m lane => Sys2Proof.Machine.execLaneReacquireTimeout t m lane s
  | .lmapClear t m => Sys2Proof.Machine.execLmapClear t m s
  | .mastLinkLostTimeout t m => Sys2Proof.Machine.execMastLinkLostTimeout t m s
  | .mastAbsentTimeout t m => Sys2Proof.Machine.execMastAbsentTimeout t m s
  | .laneRetireClear t path m outbound mask => Sys2Proof.Machine.execLaneRetireClear t path m outbound mask s
  | .loopEvaluation t m tick => Sys2Proof.Machine.execLoopEvaluation t m tick s
  | .chopperOnTimeout t m => Sys2Proof.Machine.execChopperOnTimeout t m s
  | .yardCommand t m gen cmd => Sys2Proof.Machine.execYardCommand t m gen cmd s
  | .servoCommit t path m mask => Sys2Proof.Machine.execServoCommit t path m mask s
  | .servoFlagClear t path m limit mask => Sys2Proof.Machine.execServoFlagClear t path m limit mask s
  | .traceArm t path m => Sys2Proof.Machine.execTraceArm t path m s
  | .traceStop t path m => Sys2Proof.Machine.execTraceStop t path m s
  | .traceFire t path m => Sys2Proof.Machine.execTraceFire t path m s
  | .clockTrackRun t m tick => Sys2Proof.Machine.execClockTrackRun t m tick s
  | .addressUnit t m chi => Sys2Proof.Machine.execAddressUnit t m chi s
  | .acquisition t m step => Sys2Proof.Machine.execAcquisition t m step s
  | .acquisitionTimeout t m => Sys2Proof.Machine.execAcquisitionTimeout t m s
  | .acquisitionRestart t m => Sys2Proof.Machine.execAcquisitionRestart t m s
  | .trackJump t m delta => Sys2Proof.Machine.execTrackJump t m delta s
  | .trackJumpTimeout t m => Sys2Proof.Machine.execTrackJumpTimeout t m s
  | .seek t m target => Sys2Proof.Machine.execSeek t m target s
  | .layerJump t m layer => Sys2Proof.Machine.execLayerJump t m layer s
  | .layerJumpTimeout t m => Sys2Proof.Machine.execLayerJumpTimeout t m s
  | .guideFocusCalibration t path m => Sys2Proof.Machine.execGuideFocusCalibration t path m s
  | .braceCalibration t path m => Sys2Proof.Machine.execBraceCalibration t path m s
  | .halyardCalibration t path m => Sys2Proof.Machine.execHalyardCalibration t path m s
  | .v1ClockOffsetCalibration t path m => Sys2Proof.Machine.execV1ClockOffsetCalibration t path m s
  | .calibrationCandidateDone t m kind => Sys2Proof.Machine.execCalibrationCandidateDone t m kind s
  | .spindleStart t m => Sys2Proof.Machine.execSpindleStart t m s
  | .startClassify t m => Sys2Proof.Machine.execStartClassify t m s
  | .alignEnd t m => Sys2Proof.Machine.execAlignEnd t m s
  | .startTimeout t m => Sys2Proof.Machine.execStartTimeout t m s
  | .startRetry t m => Sys2Proof.Machine.execStartRetry t m s
  | .syncInEdge pulse => Sys2Proof.Machine.execSyncInEdge pulse s
  | .syncInStuck t => Sys2Proof.Machine.execSyncInStuck t s
  | .syncInLost t => Sys2Proof.Machine.execSyncInLost t s
  | .syncRearm t path v high => Sys2Proof.Machine.execSyncRearm t path v high s
  | .chopperFailClear t path m => Sys2Proof.Machine.execChopperFailClear t path m s
  | .furlNAssert t => Sys2Proof.Machine.execFurlNAssert t s
  | .furlNRelease t => Sys2Proof.Machine.execFurlNRelease t s
  | .sledPlanning t m tick => Sys2Proof.Machine.execSledPlanning t m tick s
  | .sledPeriodBoundary t m tick => Sys2Proof.Machine.execSledPeriodBoundary t m tick s
  | .sledStep t m tick => Sys2Proof.Machine.execSledStep t m tick s
  | .homing t m => Sys2Proof.Machine.execHoming t m s
  | .homingSeekStart t m => Sys2Proof.Machine.execHomingSeekStart t m s
  | .sledRetireClear t path m => Sys2Proof.Machine.execSledRetireClear t path m s
  | .coarseAlignmentCalibration t path m => Sys2Proof.Machine.execCoarseAlignmentCalibration t path m s
  | .fineAlignmentCalibration t path m => Sys2Proof.Machine.execFineAlignmentCalibration t path m s
  | .asymmetryTrimCalibration t path m => Sys2Proof.Machine.execAsymmetryTrimCalibration t path m s
  | .equaliserPresetCalibration t path m => Sys2Proof.Machine.execEqualiserPresetCalibration t path m s
  | .mastRevolutionSchedule t m => Sys2Proof.Machine.execMastRevolutionSchedule t m s
  | .codewordReady t m sail => Sys2Proof.Machine.execCodewordReady t m sail s
  | .codewordDispatch t d => Sys2Proof.Machine.execCodewordDispatch t d s
  | .decodeDone t d => Sys2Proof.Machine.execDecodeDone t d s
  | .decoderMemoryError t d => Sys2Proof.Machine.execDecoderMemoryError t d s
  | .decoderSelfTest t d ok => Sys2Proof.Machine.execDecoderSelfTest t d ok s
  | .decoderRetireClear t path hi mask => Sys2Proof.Machine.execDecoderRetireClear t path hi mask s
  | .peerFetchTimeout t sid => Sys2Proof.Machine.execPeerFetchTimeout t sid s
  | .passBoundary t m => Sys2Proof.Machine.execPassBoundary t m s
  | .sliceExpiry t m => Sys2Proof.Machine.execSliceExpiry t m s
  | .burnRevolution t m => Sys2Proof.Machine.execBurnRevolution t m s
  | .verifyRevolution t m tick => Sys2Proof.Machine.execVerifyRevolution t m tick s
  | .relocationPass t m => Sys2Proof.Machine.execRelocationPass t m s
  | .recordDelayExpiry t m => Sys2Proof.Machine.execRecordDelayExpiry t m s
  | .recordBurn t m => Sys2Proof.Machine.execRecordBurn t m s
  | .durableLimitExpiry t serial => Sys2Proof.Machine.execDurableLimitExpiry t serial s
  | .mountLogRead t m slots spares => Sys2Proof.Machine.execMountLogRead t m slots spares s
  | .hello t port pkt => Sys2Proof.Machine.execHello t port pkt s
  | .lctl t port pkt => Sys2Proof.Machine.execLctl t port pkt s
  | .gorcyCmd t port pkt => Sys2Proof.Machine.execGorcyCmd t port pkt s
  | .gorcyEvent t port pkt => Sys2Proof.Machine.execGorcyEvent t port pkt s
  | .eqHead t port pkt => Sys2Proof.Machine.execEqHead t port pkt s
  | .writeData t port pkt => Sys2Proof.Machine.execWriteData t port pkt s
  | .fence t port pkt => Sys2Proof.Machine.execFence t port pkt s
  | .fenceAck t port pkt => Sys2Proof.Machine.execFenceAck t port pkt s
  | .fenceTimeout t cid => Sys2Proof.Machine.execFenceTimeout t cid s
  | .fetchReq t port pkt => Sys2Proof.Machine.execFetchReq t port pkt s
  | .fetchRep t port pkt => Sys2Proof.Machine.execFetchRep t port pkt s
  | .packetForward t port pkt => Sys2Proof.Machine.execPacketForward t port pkt s
  | .replayTimeout t port => Sys2Proof.Machine.execReplayTimeout t port s
  | .ackTimer t port => Sys2Proof.Machine.execAckTimer t port s
  | .helloTimer t => Sys2Proof.Machine.execHelloTimer t s
  | .portSignalDetect t port => Sys2Proof.Machine.execPortSignalDetect t port s
  | .portTrainingTimeout t port => Sys2Proof.Machine.execPortTrainingTimeout t port s
  | .gorcyLaneDown t port lane => Sys2Proof.Machine.execGorcyLaneDown t port lane s
  | .gorcyLaneReacquireTimeout t port lane => Sys2Proof.Machine.execGorcyLaneReacquireTimeout t port lane s
  | .gorcyLaneRetireClear t path port mask => Sys2Proof.Machine.execGorcyLaneRetireClear t path port mask s
  | .timeParentTimeout t => Sys2Proof.Machine.execTimeParentTimeout t s
  | .leaseAgeExpiry t disc => Sys2Proof.Machine.execLeaseAgeExpiry t disc s
  | .peerIdleRelease t a => Sys2Proof.Machine.execPeerIdleRelease t a s
  | .copyStart t path slot => Sys2Proof.Machine.execCopyStart t path slot s
  | .copyAbort t path slot => Sys2Proof.Machine.execCopyAbort t path slot s
  | .copyTimeout t slot => Sys2Proof.Machine.execCopyTimeout t slot s
  | .jobSegmentStart t e => Sys2Proof.Machine.execJobSegmentStart t e s
  | .wNop t e chk => Sys2Proof.Machine.execWNop t e chk s
  | .wAdd t e chk => Sys2Proof.Machine.execWAdd t e chk s
  | .wAddc t e chk => Sys2Proof.Machine.execWAddc t e chk s
  | .wSub t e chk => Sys2Proof.Machine.execWSub t e chk s
  | .wSubb t e chk => Sys2Proof.Machine.execWSubb t e chk s
  | .wAnd t e chk => Sys2Proof.Machine.execWAnd t e chk s
  | .wOr t e chk => Sys2Proof.Machine.execWOr t e chk s
  | .wXor t e chk => Sys2Proof.Machine.execWXor t e chk s
  | .wAndn t e chk => Sys2Proof.Machine.execWAndn t e chk s
  | .wShl t e chk => Sys2Proof.Machine.execWShl t e chk s
  | .wShr t e chk => Sys2Proof.Machine.execWShr t e chk s
  | .wSar t e chk => Sys2Proof.Machine.execWSar t e chk s
  | .wRol t e chk => Sys2Proof.Machine.execWRol t e chk s
  | .wMul t e chk => Sys2Proof.Machine.execWMul t e chk s
  | .wMulh t e chk => Sys2Proof.Machine.execWMulh t e chk s
  | .wSadd t e chk => Sys2Proof.Machine.execWSadd t e chk s
  | .wMin t e chk => Sys2Proof.Machine.execWMin t e chk s
  | .wMax t e chk => Sys2Proof.Machine.execWMax t e chk s
  | .wSel t e chk => Sys2Proof.Machine.execWSel t e chk s
  | .wMov t e chk => Sys2Proof.Machine.execWMov t e chk s
  | .wBfx t e chk => Sys2Proof.Machine.execWBfx t e chk s
  | .wBfi t e chk => Sys2Proof.Machine.execWBfi t e chk s
  | .wPopc t e chk => Sys2Proof.Machine.execWPopc t e chk s
  | .wClz t e chk => Sys2Proof.Machine.execWClz t e chk s
  | .wCtz t e chk => Sys2Proof.Machine.execWCtz t e chk s
  | .wBswap t e chk => Sys2Proof.Machine.execWBswap t e chk s
  | .wMatch8 t e chk => Sys2Proof.Machine.execWMatch8 t e chk s
  | .wRange8 t e chk => Sys2Proof.Machine.execWRange8 t e chk s
  | .wCmp t e chk => Sys2Proof.Machine.execWCmp t e chk s
  | .wIn t e chk => Sys2Proof.Machine.execWIn t e chk s
  | .wOut t e chk => Sys2Proof.Machine.execWOut t e chk s
  | .wLds t e chk => Sys2Proof.Machine.execWLds t e chk s
  | .wSts t e chk => Sys2Proof.Machine.execWSts t e chk s
  | .wLdw t e chk => Sys2Proof.Machine.execWLdw t e chk s
  | .wStw t e chk => Sys2Proof.Machine.execWStw t e chk s
  | .wCvf t e chk => Sys2Proof.Machine.execWCvf t e chk s
  | .wGets t e chk => Sys2Proof.Machine.execWGets t e chk s
  | .wPuts t e chk => Sys2Proof.Machine.execWPuts t e chk s
  | .imageLoad t path v => Sys2Proof.Machine.execImageLoad t path v s
  | .engineAssign t path e v => Sys2Proof.Machine.execEngineAssign t path e v s
  | .engineWindowResize t path e v => Sys2Proof.Machine.execEngineWindowResize t path e v s
  | .engineRetireClear t path mask => Sys2Proof.Machine.execEngineRetireClear t path mask s
  | .checkValueFeed t path h data => Sys2Proof.Machine.execCheckValueFeed t path h data s
  | .checkValueRestart t path h v => Sys2Proof.Machine.execCheckValueRestart t path h v s
  | .checkValueOwnerChange t path h v => Sys2Proof.Machine.execCheckValueOwnerChange t path h v s
  | .scrubRead t c flips => Sys2Proof.Machine.execScrubRead t c flips s
  | .shareCopyDone t c k => Sys2Proof.Machine.execShareCopyDone t c k s
  | .channelRetireClear t path mask => Sys2Proof.Machine.execChannelRetireClear t path mask s
  | .channelFillDone t c => Sys2Proof.Machine.execChannelFillDone t c s
  | .remapClear t path c v flips => Sys2Proof.Machine.execRemapClear t path c v flips s
  | .cacheAccess t kind st ln lineErr flips => Sys2Proof.Machine.execCacheAccess t kind st ln lineErr flips s
  | .cacheFillReturn t st ln ok => Sys2Proof.Machine.execCacheFillReturn t st ln ok s
  | .cacheAgeing t => Sys2Proof.Machine.execCacheAgeing t s
  | .cacheInvalidateLine t path => Sys2Proof.Machine.execCacheInvalidateLine t path s
  | .cacheInvalidateStructure t path => Sys2Proof.Machine.execCacheInvalidateStructure t path s
  | .cacheInvalidateAll t path => Sys2Proof.Machine.execCacheInvalidateAll t path s
  | .waysEnabledWrite t path v => Sys2Proof.Machine.execWaysEnabledWrite t path v s
  | .wayRetireClear t path mask => Sys2Proof.Machine.execWayRetireClear t path mask s
  | .sdoUpload t index sub ca => Sys2Proof.Machine.execSdoUpload t index sub ca s
  | .sdoDownload t index sub ca data => Sys2Proof.Machine.execSdoDownload t index sub ca data s
  | .sdoInformation t req => Sys2Proof.Machine.execSdoInformation t req s
  | .foeWrite t file pw data ok => Sys2Proof.Machine.execFoeWrite t file pw data ok s
  | .foeRead t file pw => Sys2Proof.Machine.execFoeRead t file pw s
  | .alStateRequest t req cfg => Sys2Proof.Machine.execAlStateRequest t req cfg s
  | .sync0Event t dc diff => Sys2Proof.Machine.execSync0Event t dc diff s
  | .txpdoUpdate t => Sys2Proof.Machine.execTxpdoUpdate t s
  | .nvSaveCommand t path v => Sys2Proof.Machine.execNvSaveCommand t path v s
  | .saveDelayExpiry t => Sys2Proof.Machine.execSaveDelayExpiry t s
  | .saveDone t ok => Sys2Proof.Machine.execSaveDone t ok s
  | .saveRetry t => Sys2Proof.Machine.execSaveRetry t s
  | .loadDefaults t path v => Sys2Proof.Machine.execLoadDefaults t path v s
  | .counterClear t path index sub => Sys2Proof.Machine.execCounterClear t path index sub s
  | .groupClear t path v => Sys2Proof.Machine.execGroupClear t path v s
  | .selfCheckFailure t x kind => Sys2Proof.Machine.execSelfCheckFailure t x kind s
  | .heartbeatTimeout t => Sys2Proof.Machine.execHeartbeatTimeout t s
  | .stateStep t x gen key v => Sys2Proof.Machine.execStateStep t x gen key v s
  | .shroudSelfTestDone t x ok => Sys2Proof.Machine.execShroudSelfTestDone t x ok s
  | .automaticReturn t => Sys2Proof.Machine.execAutomaticReturn t s
  | .passToken t path v => Sys2Proof.Machine.execPassToken t path v s
  | .noHolderFurl t => Sys2Proof.Machine.execNoHolderFurl t s
  | .mastRetireClear t path mask => Sys2Proof.Machine.execMastRetireClear t path mask s
  | .shroudRetireClear t path mask => Sys2Proof.Machine.execShroudRetireClear t path mask s
  | .sailRetireClear t path m mask => Sys2Proof.Machine.execSailRetireClear t path m mask s
  | .servoSailRetireClear t path m mask => Sys2Proof.Machine.execServoSailRetireClear t path m mask s
  | .imageUpdate t path v => Sys2Proof.Machine.execImageUpdate t path v s
  | .updateShroudLoaded t x ok => Sys2Proof.Machine.execUpdateShroudLoaded t x ok s
  | .observationEnd t => Sys2Proof.Machine.execObservationEnd t s
  | .rstNAssert t => Sys2Proof.Machine.execRstNAssert t s
  | .rstNRelease t => Sys2Proof.Machine.execRstNRelease t s
  | .startupFillDone t chans => Sys2Proof.Machine.execStartupFillDone t chans s
  | .rigReady t => Sys2Proof.Machine.execRigReady t s
  | .pllLoss t => Sys2Proof.Machine.execPllLoss t s
  | .testNAssert t => Sys2Proof.Machine.execTestNAssert t s
  | .thermalSample t readings => Sys2Proof.Machine.execThermalSample t readings s
  | .bypass t bits => Sys2Proof.Machine.execBypass t bits s
  | .idcode t bits => Sys2Proof.Machine.execIdcode t bits s
  | .samplePreload t bits => Sys2Proof.Machine.execSamplePreload t bits s
  | .extest t bits => Sys2Proof.Machine.execExtest t bits s
  | .configurationRequest t f req => Sys2Proof.Machine.execConfigurationRequest t f req s
  | .dlUp t ep rate width flit => Sys2Proof.Machine.execDlUp t ep rate width flit s
  | .corruptedPacket t port => Sys2Proof.Machine.execCorruptedPacket t port s
  | .typeDiscard t port pkt => Sys2Proof.Machine.execTypeDiscard t port pkt s
  | .gorcyLaneReacquired t port lane => Sys2Proof.Machine.execGorcyLaneReacquired t port lane s
  | .lossOfTraining t c => Sys2Proof.Machine.execLossOfTraining t c s
  | .endpointBufferError t ep fns => Sys2Proof.Machine.execEndpointBufferError t ep fns s
  | .imageLoadComplete t => Sys2Proof.Machine.execImageLoadComplete t s
  | .pllLockRegained t => Sys2Proof.Machine.execPllLockRegained t s
  | .testNRelease t => Sys2Proof.Machine.execTestNRelease t s
  | .fieldNetworkLinkChange t port up => Sys2Proof.Machine.execFieldNetworkLinkChange t port up s
  | .sync0Stop t => Sys2Proof.Machine.execSync0Stop t s
  | .mailboxRepeat t => Sys2Proof.Machine.execMailboxRepeat t s

end Sys2Proof.Machine
end

