-- ==== Sys2Proof/Safety.lean ====
section
/-! DEFINITION. What counts as a sound state and a safe step, in the terms that claims use. -/
namespace Sys2Proof.Machine

/-- The dictionary's values, its DOMAIN and string values, and the masts are held in canonical form: keys strictly rising, no entry
equal to its default; so equal contents are equal data. -/
def State.tables (s : State) : Bool :=
  tblWf objDefault s.objs && tblWf (fun _ => ([] : List Byte)) s.blobs && tblWf (fun _ => ({} : Mast)) s.masts

/-- A sound state. -/
abbrev State.Sound (s : State) : Prop := s.tables = true

/-- Command `c` takes effect in state `s` and leaves a state with `P`: it neither faults nor is refused. -/
def Runs (c : Sys2Proof.Instr) (s : State) (P : State → Prop) : Prop := ∃ u, exec c s = .next u ∧ P u

/-- `u` is the rig `s` after all its domains were reset with a cause (19 R507): everything volatile is at its reset value; the banks,
image slots and boot record of the NV store, and the cause, are kept. -/
def ResetWith (s u : State) (cause : Nat) : Prop :=
  u.obj (okey 0x2100 5) = cause ∧ (∀ k, k ≠ okey 0x2100 5 → u.obj k = objDefault k) ∧ u.blobs = [] ∧ u.masts = [] ∧
  u.host = { ha := { perst := s.host.ha.perst }, hb := { perst := s.host.hb.perst } } ∧ u.media = {} ∧ u.fabric = {} ∧ u.eng = {} ∧
  u.field = {} ∧ u.avail = {} ∧ u.nv.bankA = s.nv.bankA ∧ u.nv.bankB = s.nv.bankB ∧ u.nv.slot0 = s.nv.slot0 ∧
  u.nv.slot1 = s.nv.slot1 ∧ u.nv.boot = s.nv.boot ∧ u.boot.inReset = true ∧ u.boot.ready = false ∧ u.boot.filling = false ∧
  u.jtag = s.jtag ∧ u.pending = s.pending

/-- A write of `v` to index:sub along path `p` is taken: the path is there, a shroud holds the token, the rig is ready, the object is of
fixed length and can hold `v`, and every check of 17 R458 passes. -/
def State.takes (s : State) (p : Sys2Proof.Path) (index sub v : Nat) : Bool :=
  match rowAt index sub with
  | some (_, r) =>
    s.pathThere p && r.ty.fixed && decide (v < 2 ^ (8 * r.ty.bytes)) && s.hasHolder && s.boot.ready &&
    (match s.canWrite p index sub (leBytes r.ty.bytes v) with
     | .ok w => (s.ownCheck (s.store1 w) w).isNone
     | .error _ => false)
  | none => false

/-- `u`, and a save asked for when the write of `v` changed the retirement record at key `k` of state `s` (17 R474). -/
def State.andSave (s : State) (k : Nat) (v : Int) (u : State) : State := if s.obj k = v then u else u.requestSave []

/-- The command that a packet becomes when it is taken from SQ `q` at time `t`, and the state with it outstanding: the packet is the
next that the command processor takes (12 R322), the SQ is there, a shroud holds the token, the packet is no duplicate, its tag is
free, every check of 12 R326 passes, and its mast, if it names one, takes commands and is not held by FURL_N or by a rebuild of its
part of the Extent Map (16 R439), nor the command by an earlier WRITE of its queue (12 R324). -/
def State.letIn (s : State) (t q : Nat) (p : Sys2Proof.Packet) : Option (Cmd × State) :=
  let v := (s.at_ t).handed q
  if (s.at_ t).nextPacket q p = true ∧ (v.sq q).owner ≠ .nobody ∧ v.hasHolder = true ∧
      (v.sq q).dups.find? (fun d => decide (d.tag = pk p 31 16 ∧ d.seq = pk p 63 32)) = none ∧ v.tagInUse q (pk p 31 16) = false then
    let (cid, b) := v.enter q p
    match b.cmd cid with
    | some c =>
      if b.arrivalStatus (b.sq q) p = none ∧ c.cid = cid ∧ c.opc = pk p 7 0 ∧
          c.mast.all (fun m => (b.mastStop m).isNone && !b.pins.furlN && !b.media.mapLost.contains m && (decide (c.opc ≠ 0x01 ∧ c.opc ≠ 0x05) ||
            ((b.heldWrite c).isNone && (b.earlierWrite c).isNone))) = true then some (c, b) else none
    | none => none
  else none

/-- A step is safe: it answers a next state, and not a fault or a refusal. -/
def SafeStep (s : State) : Prop := ∃ t, step s = .next t

/-- Engine `e` runs segment `g` in context `x`, its next word is `w`, and 2542:06 allows the segment another word (15 R404, R415). -/
def State.runsWord (s : State) (e : Nat) (w : Mw) (x : EngCtx) (g : Segment) : Prop :=
  (s.engine e).seg = some g ∧ (s.engine e).ctx = x ∧ decodeMw (tblGet startWord (s.engine e).store x.pc.toNat) = w ∧
    g.words < s.objN (okey 0x2542 6)

end Sys2Proof.Machine
end

