-- ==== Sys2Proof/Certificates/Slice0/Obligations.lean ====
section
/-! DEFINITION. The statements for the provers. -/

section Statements
open Sys2Proof Sys2Proof.Machine

/-- For every command c and state s whose queue is c followed by rest, step s is exec c on s with the queue rest. (How
commands reach the block is the model's own form; log entry 4.) -/
def Obligations.StepRunsFront : Prop :=
  ∀ (c : Instr) (s : State) (rest : List Instr), s.pending = c :: rest →
    step s = exec c { s with pending := rest }

/-- For every state s whose queue is empty, step s answers next s. This is the model's choice, log entry 4: no row of the
table is a tick. -/
def Obligations.EmptyQueueIdles : Prop :=
  ∀ s : State, s.pending = [] → step s = .next s

/-- For every command c and state s there is a state u with exec c s = next u: no row of the table faults or is refused,
whatever its operands and the state. The spec describes no stop of the block; this is the model's reading (log entry
5). -/
def Obligations.EveryCommandTakesEffect : Prop :=
  ∀ (c : Instr) (s : State), ∃ u, exec c s = .next u

/-- In a rig that is not in reset, RST_N_ASSERT with RST_N released, TEST_N_ASSERT with TEST_N high and PLL_LOSS with the
PLL locked each answer a next state in which all domains are reset: every dictionary value but 2100:05 reads its
default, masts, queues, staging, fabric, engines and the rest of the volatile state are at their reset values, the NV
banks, image slots and boot record are kept, and 2100:05 reads 1, 1 and 2. The pin or the loss stays noted. A second
assertion of the same source changes nothing but rig time. The model's choices in it, not the spec's: log entries 113,
114. -/
def Obligations.ResetSourcesResetEveryDomain : Prop :=
  ∀ (t : Nat) (s : State),
    (s.boot.inReset = false → s.pins.rstN = false →
      Runs (.rstNAssert t) s (fun u => ResetWith s u 1 ∧ u.pins.rstN = true ∧ u.pins.testN = s.pins.testN ∧ u.boot.pllLost = s.boot.pllLost)) ∧
    (s.boot.inReset = false → s.pins.testN = false →
      Runs (.testNAssert t) s (fun u => ResetWith s u 1 ∧ u.pins.testN = true ∧ u.pins.rstN = s.pins.rstN ∧ u.boot.pllLost = s.boot.pllLost)) ∧
    (s.boot.inReset = false → s.boot.pllLost = false →
      Runs (.pllLoss t) s (fun u => ResetWith s u 2 ∧ u.boot.pllLost = true ∧ u.pins.rstN = s.pins.rstN ∧ u.pins.testN = s.pins.testN)) ∧
    (s.pins.rstN = true → exec (.rstNAssert t) s = .next (s.at_ t)) ∧
    (s.pins.testN = true → exec (.testNAssert t) s = .next (s.at_ t)) ∧
    (s.boot.pllLost = true → exec (.pllLoss t) s = .next (s.at_ t))

/-- In a rig held in reset by one source alone, RST_N_RELEASE, TEST_N_RELEASE and PLL_LOCK_REGAINED each answer the next
state in which rig time restarts at 0 and: where the boot slot's image verifies, steps 6 to 9 have run with it; where
only the other slot's does, with that; where neither does, the recovery state is entered: 2100:03 reads 5 and each
slot's check stands in 2702:04 and 2702:05. While another source still holds the rig, a release changes only its own
pin. That steps 1 to 9 are one effect is the model's choice (log entry 54). -/
def Obligations.ReleaseOfResetStartsTheRig : Prop :=
  ∀ (t : Nat) (s : State) (e : Nat × Nat), s.boot.inReset = true → s.nv.boot.getLast? = some e → (e.2 = 0 ∨ e.2 = 1) →
    (∀ (c : Instr) (v : State),
      (c = .rstNRelease t ∧ s.pins.rstN = true ∧ s.pins.testN = false ∧ s.boot.pllLost = false ∧
        v = { s.at_ t with pins := { s.pins with rstN := false } }) ∨
      (c = .testNRelease t ∧ s.pins.testN = true ∧ s.pins.rstN = false ∧ s.boot.pllLost = false ∧
        v = { s.at_ t with pins := { s.pins with testN := false } }) ∨
      (c = .pllLockRegained t ∧ s.boot.pllLost = true ∧ s.pins.rstN = false ∧ s.pins.testN = false ∧
        v = { s.at_ t with boot := { s.boot with pllLost := false } }) →
      let w : State := (((({ v with now := 0, boot := { v.boot with inReset := false } }).setObj (okey 0x2100 1) 1).setObj
        (okey 0x2702 1) e.1).showSlot 0).showSlot 1
      let c0 := imageCheck (s.slotBytes e.2)
      let c1 := imageCheck (s.slotBytes (1 - e.2))
      let w0 := w.setObj (okey 0x2702 (4 + e.2)) c0
      let w1 := w0.setObj (okey 0x2702 (4 + (1 - e.2))) c1
      exec c s = .next (if c0 = 1 then w0.runSlot e.2 0 else if c1 = 1 then w1.runSlot (1 - e.2) 1 else w1.enterRecovery) ∧
      (imageCheck (s.slotBytes e.2) ≠ 1 → imageCheck (s.slotBytes (1 - e.2)) ≠ 1 → s.Sound →
        Runs c s (fun u => u.boot.recovery = true ∧ u.boot.inReset = false ∧ u.obj (okey 0x2100 3) = 5 ∧
          u.obj (okey 0x2702 4) = imageCheck (s.slotBytes 0) ∧ u.obj (okey 0x2702 5) = imageCheck (s.slotBytes 1) ∧ u.now = 0))) ∧
    (s.pins.rstN = true → s.pins.testN = true →
      exec (.rstNRelease t) s = .next { s.at_ t with pins := { s.pins with rstN := false } } ∧
      exec (.testNRelease t) s = .next { s.at_ t with pins := { s.pins with testN := false } }) ∧
    (s.boot.pllLost = true → s.pins.rstN = true →
      exec (.pllLockRegained t) s = .next { s.at_ t with boot := { s.boot with pllLost := false } })

/-- STARTUP_FILL_DONE in a rig that awaits its fill trains the channels it tried, takes the pool's limits and releases the
shrouds that are not retired; the fill is then awaited no more. RIG_READY at step 11 with a holder makes the rig
ready, starts the trainings and the pairs enabled before, carries out an AL request held till then and resumes what
waited for a holder. Without their condition both change nothing but rig time. The model's choices in it, not the
spec's: log entries 54, 80. -/
def Obligations.FillAndReadinessEndStartUp : Prop :=
  ∀ (t : Nat) (chans : List Nat) (s : State),
    (s.boot.filling = true → exec (.startupFillDone t chans) s = .next ((s.at_ t).filled chans) ∧
      ((s.at_ t).filled chans).boot.filling = false) ∧
    (s.boot.filling = false → exec (.startupFillDone t chans) s = .next (s.at_ t)) ∧
    (s.objN (okey 0x2100 3) = 11 → s.hasHolder = true → ∀ v, v = (s.at_ t).becomeReady →
      (v.field.alHeld = none → exec (.rigReady t) s = .next v.resumeAll) ∧
      (∀ r c, v.field.alHeld = some (r, c) → exec (.rigReady t) s = .next (v.alRequest r c).resumeAll)) ∧
    (s.objN (okey 0x2100 3) ≠ 11 ∨ s.hasHolder = false → exec (.rigReady t) s = .next (s.at_ t))

/-- BYPASS shifts the bits through one cell holding 0. IDCODE shifts 0x0326_4A8F out, bit 0 first. SAMPLE_PRELOAD and
EXTEST capture the chain's balls (free values), shift, and leave what stays in the chain in the update stage; EXTEST
alone drives the balls. Each posts on TDO as many bits as were shifted in and changes nothing else but rig time and,
for the captures, the free values taken. The opcodes and the chain's length are the model's (log entry 77). -/
def Obligations.JtagInstructionsScan : Prop :=
  ∀ (t : Nat) (bits : List Bool) (s : State),
    exec (.bypass t bits) s = .next { s.at_ t with
      jtag := { s.jtag with ir := 0xFF, driving := false }, out := .tdo ((false :: bits).take bits.length) :: s.out } ∧
    (∃ o : List Bool, o.length = bits.length ∧ (∀ i, i < 32 → i < bits.length → o[i]? = some ((0x03264A8F : Nat).testBit i)) ∧
      (∀ i, 32 ≤ i → i < bits.length → o[i]? = bits[i - 32]?) ∧
      exec (.idcode t bits) s = .next { s.at_ t with jtag := { s.jtag with ir := 0x01, driving := false }, out := .tdo o :: s.out }) ∧
    (∃ l : List Bool, l.length = chainLen ∧
      exec (.samplePreload t bits) s = .next { s.at_ t with
        freeCtr := s.freeCtr + chainLen
        jtag := { ir := 0x02, chain := (l ++ bits).drop bits.length, update := (l ++ bits).drop bits.length, driving := false }
        out := .tdo ((l ++ bits).take bits.length) :: s.out }) ∧
    (∃ l : List Bool, l.length = chainLen ∧
      exec (.extest t bits) s = .next { s.at_ t with
        freeCtr := s.freeCtr + chainLen
        jtag := { ir := 0x00, chain := (l ++ bits).drop bits.length, update := (l ++ bits).drop bits.length, driving := true }
        out := .tdo ((l ++ bits).take bits.length) :: s.out })

/-- In a rig out of reset and recovery, THERMAL_SAMPLE with sixteen readings in range shows them in 2110:05 to 2110:14 and
the hottest, Tj, in 2110:01, then moves THERM_N and makes or ends the thermal furl. THERM_N goes low when Tj reaches
2110:02 and is released below 2110:02 minus 2110:03. At 110 degrees (14080 in Q9.7) the furl is noted in 2110:04 and
every mast furls; it ends when Tj is below 2110:02, after which masts held by neither it nor FURL_N may start. The
model's choices in it, not the spec's: log entry 128. -/
def Obligations.ThermalSampleShowsAndFurls : Prop :=
  (∀ (t : Nat) (r : List Int) (s : State), r.length = 16 → s.boot.inReset = false → s.boot.recovery = false →
    (∀ x ∈ r, -32768 ≤ x ∧ x ≤ 32767) → ∀ tj, tj ∈ r → (∀ x ∈ r, x ≤ tj) →
    exec (.thermalSample t r) s = .next (((forEach (List.range 16) (fun i a => a.setObj (okey 0x2110 (5 + i)) (r.getD i 0))
      ((s.at_ t).setObj (okey 0x2110 1) tj)).thermPin tj).thermalFurl tj)) ∧
  (∀ (s : State) (tj : Int),
    (s.obj (okey 0x2110 2) ≤ tj → s.pins.therm = false →
      s.thermPin tj = { s with pins := { s.pins with therm := true }, out := .pin 0 false :: s.out }) ∧
    (tj < s.obj (okey 0x2110 2) → tj < s.obj (okey 0x2110 2) - s.obj (okey 0x2110 3) → s.pins.therm = true →
      s.thermPin tj = { s with pins := { s.pins with therm := false }, out := .pin 0 true :: s.out }) ∧
    (14080 ≤ tj → s.pins.thermalFurl = false →
      s.thermalFurl tj = forEach (List.range 32) (fun m a => a.furlMast m)
        (({ s with pins := { s.pins with thermalFurl := true } }).setObj (okey 0x2110 4) 1)) ∧
    (tj < 14080 → tj < s.obj (okey 0x2110 2) → s.pins.thermalFurl = true →
      s.thermalFurl tj = (({ s with pins := { s.pins with thermalFurl := false } }).setObj (okey 0x2110 4) 0).holdEnds) ∧
    (tj < 14080 → s.pins.thermalFurl = false → s.thermalFurl tj = s))

/-- FURL_N_ASSERT with FURL_N released notes it (2131:01 reads 1, counted in 5430:04) and furls every mast; FURL_N_RELEASE
clears 2131:01 and, when the thermal furl does not hold the masts either, starts present masts with demand, has
furling masts with demand start when their furl is done, and begins the commands held. Asserted again or released
again, nothing changes but rig time. The model's choices in it, not the spec's: log entry 128. -/
def Obligations.FurlPinHoldsAndReleasesMasts : Prop :=
  ∀ (t : Nat) (s : State),
    (s.pins.furlN = false → exec (.furlNAssert t) s = .next (forEach (List.range 32) (fun m a => a.furlMast m)
      ((({ s.at_ t with pins := { s.pins with furlN := true } } : State).setObj (okey 0x2131 1) 1).count (okey 0x5430 4)))) ∧
    (s.pins.furlN = true → exec (.furlNAssert t) s = .next (s.at_ t)) ∧
    (s.pins.furlN = true → s.pins.thermalFurl = false → ∀ v : State,
      v = ({ s.at_ t with pins := { s.pins with furlN := false } } : State).setObj (okey 0x2131 1) 0 →
      exec (.furlNRelease t) s = .next ((forEach (List.range 32) (fun m a =>
        if (a.mast m).st = .present ∧ (a.drive m).demand = true then a.spindleStart m
        else if (a.mast m).st = .furling ∧ (a.drive m).demand = true then a.updDrive m (fun x => { x with startDue := true }) else a) v).startFurled)) ∧
    (s.pins.furlN = true → s.pins.thermalFurl = true →
      exec (.furlNRelease t) s = .next (({ s.at_ t with pins := { s.pins with furlN := false } } : State).setObj (okey 0x2131 1) 0)) ∧
    (s.pins.furlN = false → exec (.furlNRelease t) s = .next (s.at_ t))

/-- For every state, path, index, sub-index and environment, when the path is there, a shroud holds the token, the rig is
ready and the object is of fixed length and can hold v: if the checks of R458 pass the write's one value is stored and
its action taken; if the path, index, sub-index, access, length, range, reserved bits, owner or the object's own check
fails, the write leaves the state but for the count of refused accesses of its status in 542F:01 to 05 (and, for
2541:03, the load's outcome). The model's choices in it, not the spec's: log entries 94, 137. -/
def Obligations.PlainWriteTakenOrRefused : Prop :=
  ∀ (s : State) (p : Path) (env : WEnv) (index sub v i : Nat) (r : ObjRow), rowAt index sub = some (i, r) → r.ty.signed = false →
    s.pathThere p = true → s.hasHolder = true → s.boot.ready = true → r.ty.fixed = true → v < 2 ^ (8 * r.ty.bytes) →
    (s.takes p index sub v = true → s.pathPut p index sub v env = s.applyWrites env [{ index := index, sub := i, row := r, num := v }]) ∧
    (s.takes p index sub v = false → ¬(index = 0x2541 ∧ sub = 3) → ∃ e : AccErr, s.pathPut p index sub v env = s.countRefused e)

/-- On mast m below 32 of a sound state, where the write is taken: SERVO_COMMIT notes a commit of each block its mask
names; TRACE_ARM empties the trace and leaves it armed (M+2E:01 reads 1), TRACE_STOP makes it idle, TRACE_FIRE forces
its trigger. Each of the eight calibrations (codes 1 to 4 of M+35:01, of M+45:01) runs next on a mast that tracks with
no order and no calibration: its record holds its kind and code, M+30:02 reads 5, its result object reads 1 running.
Code 4 of M+35:01 where the front-end has no V1 clock offset (M+09:0A bit 0 clear) ends at once: result 3 failed, no
record left. The path model is the model's: log entry 94. -/
def Obligations.MastObjectActions : Prop :=
  ∀ (t m : Nat) (p : Path) (s v : State), m < 32 → v = s.at_ t →
    (∀ mask, v.takes p (mIx m 0x20) 2 mask = true → exec (.servoCommit t p m mask) s = .next (v.commitBlocks m mask)) ∧
    (v.takes p (mIx m 0x2E) 2 1 = true → exec (.traceArm t p m) s = .next
      ((v.updMast m (fun x => { x with trace := {} })).setMo m 0x2E 1 1)) ∧
    (v.takes p (mIx m 0x2E) 2 2 = true → exec (.traceStop t p m) s = .next (v.setMo m 0x2E 1 0)) ∧
    (v.takes p (mIx m 0x2E) 2 3 = true →
      exec (.traceFire t p m) s = .next (v.updMast m (fun x => { x with trace := { x.trace with fire := true } }))) ∧
    (v.Sound → ∀ u : Nat → CalKind → Nat → State → Prop,
      (∀ ii kind code w, u ii kind code w ↔ (v.mast m).st = .tracking ∧ v.moN m 0x30 2 = 0 ∧ (v.opt m).cal = none ∧
        v.calStart m kind code = some w ∧ (∃ c, (w.opt m).cal = some c ∧ c.kind = kind ∧ c.code = code) ∧
        w.mo m 0x30 2 = 5 ∧ w.mo m ii 2 = 1) →
      (v.takes p (mIx m 0x35) 1 1 = true → Runs (.guideFocusCalibration t p m) s (u 0x35 .loop 1)) ∧
      (v.takes p (mIx m 0x35) 1 2 = true → Runs (.braceCalibration t p m) s (u 0x35 .loop 2)) ∧
      (v.takes p (mIx m 0x35) 1 3 = true → Runs (.halyardCalibration t p m) s (u 0x35 .loop 3)) ∧
      (v.takes p (mIx m 0x35) 1 4 = true → v.maskBit (mkey m 9 0x0A) 0 = true →
        Runs (.v1ClockOffsetCalibration t p m) s (u 0x35 .loop 4)) ∧
      (v.takes p (mIx m 0x35) 1 4 = true → v.maskBit (mkey m 9 0x0A) 0 = false →
        Runs (.v1ClockOffsetCalibration t p m) s (fun w => (w.opt m).cal = none ∧ w.mo m 0x35 2 = 3)) ∧
      (v.takes p (mIx m 0x45) 1 1 = true → Runs (.coarseAlignmentCalibration t p m) s (u 0x45 .channel 1)) ∧
      (v.takes p (mIx m 0x45) 1 2 = true → Runs (.fineAlignmentCalibration t p m) s (u 0x45 .channel 2)) ∧
      (v.takes p (mIx m 0x45) 1 3 = true → Runs (.asymmetryTrimCalibration t p m) s (u 0x45 .channel 3)) ∧
      (v.takes p (mIx m 0x45) 1 4 = true → Runs (.equaliserPresetCalibration t p m) s (u 0x45 .channel 4)))

/-- Where the write is taken, each answers exactly its action's state: COPY_START and COPY_ABORT for slots below 16,
IMAGE_LOAD (the load begins, or is refused with its outcome in 2541:04 and counted), CHECK_VALUE_RESTART (the unit's
value becomes its INIT), the three cache invalidations (operation 1 with the line of 2410:06 and :07, 2 and 3),
NV_SAVE_COMMAND (a save is asked for), LOAD_DEFAULTS, GROUP_CLEAR, PASS_TOKEN (the standby takes the token),
IMAGE_UPDATE, and SYNC_REARM, which makes a SYNC_IN that was stuck count as lost (2130:01 reads 0) and changes nothing
otherwise. CHECK_VALUE_FEED feeds its bytes to the unit. The model's choices in it, not the spec's: log entries 49,
82, 94. -/
def Obligations.RigObjectActions : Prop :=
  ∀ (t : Nat) (p : Path) (s v : State), v = s.at_ t →
    (∀ c, c < 16 → v.takes p (0x2310 + c) 5 1 = true → exec (.copyStart t p c) s = .next (v.copyStart c).1) ∧
    (∀ c, c < 16 → v.takes p (0x2310 + c) 5 2 = true → exec (.copyAbort t p c) s = .next (v.copyAbort c)) ∧
    ((p = .fieldNet ∨ ∃ f : Fn, p = .function f ∧ f.fn = 0) → v.pathThere p = true → v.hasHolder = true → v.boot.ready = true →
      exec (.imageLoad t p 1) s = .next (match v.loadRefused with
        | none => v.beginLoad
        | some 5 => (v.refuseLoad 5).countRefused .notIdle
        | some o => (v.refuseLoad o).countRefused .combo)) ∧
    (∀ h, h < 8 → v.takes p (0x2550 + h) 9 1 = true →
      exec (.checkValueRestart t p h 1) s = .next (v.setUnit h { v.unit h with cvv := (v.unit h).init })) ∧
    (v.takes p 0x2410 5 1 = true → exec (.cacheInvalidateLine t p) s = .next (v.maintain 1 (v.objN (okey 0x2410 6)) (v.objN (okey 0x2410 7)))) ∧
    (v.takes p 0x2410 5 2 = true → exec (.cacheInvalidateStructure t p) s = .next (v.maintain 2 (v.objN (okey 0x2410 6)) (v.objN (okey 0x2410 7)))) ∧
    (v.takes p 0x2410 5 3 = true → exec (.cacheInvalidateAll t p) s = .next (v.maintain 3 (v.objN (okey 0x2410 6)) (v.objN (okey 0x2410 7)))) ∧
    (∀ x, v.takes p 0x1010 1 x = true → exec (.nvSaveCommand t p x) s = .next (v.requestSave [])) ∧
    (∀ x, v.takes p 0x1011 1 x = true → exec (.loadDefaults t p x) s = .next v.loadDefaults) ∧
    (∀ x, v.takes p 0x2650 1 x = true → exec (.groupClear t p x) s = .next (v.clearGroup x)) ∧
    (v.takes p 0x2600 5 1 = true → exec (.passToken t p 1) s = .next (v.plannedPass (otherShroud (shroudOf v.holder)))) ∧
    (∀ x, v.takes p 0x2670 1 x = true → exec (.imageUpdate t p x) s = .next (v.updateStart x)) ∧
    (∀ h b, h < 8 → v.pathThere p = true → v.hasHolder = true → v.boot.ready = true → (p = .fieldNet ∨ ∃ f : Fn, p = .function f ∧ f.fn = 0) →
      b ≠ [] → b.length ≤ 65568 → exec (.checkValueFeed t p h b) s = .next (v.setUnit h ((v.unit h).feed b))) ∧
    (∀ high u, u = v.syncLevel high → u.takes p 0x2130 4 1 = true →
      (u.objN (okey 0x2130 1) = 2 → exec (.syncRearm t p 1 high) s =
        .next (({ u with pins := { u.pins with syncEdges := 0, syncAt := none } }).setObj (okey 0x2130 1) 0)) ∧
      (u.objN (okey 0x2130 1) ≠ 2 → exec (.syncRearm t p 1 high) s = .next u))

/-- Where the write is taken, its mask is stored and for each bit it clears the unit returns: lanes are re-acquired, sails
and the sled forget their failures, decoders and engines are untested or reset, Gorcy lanes and endpoints train,
channels are filled, ways and the chopper are usable, masts are absent and train, shrouds restart. A save is asked for
when the mask changed. Nothing else changes. The model's choices in it, not the spec's: log entries 41, 94. -/
def Obligations.RetirementsCleared : Prop :=
  ∀ (t m x : Nat) (p : Path) (s v : State), v = s.at_ t → ∀ (put : Nat → State) (gone : Nat → Nat → List Nat),
    (∀ k, put k = v.setObj k x) → (∀ k n, gone k n = clearedBits (v.objN k) x n) →
    (m < 32 → v.takes p (mIx m 8) 4 x = true → exec (.laneRetireClear t p m false x) s = .next (v.andSave (mkey m 8 4) x
      ((put (mkey m 8 4)).lanesCleared m (gone (mkey m 8 4) 7)))) ∧
    (m < 32 → v.takes p (mIx m 8) 5 x = true → exec (.laneRetireClear t p m true x) s = .next (v.andSave (mkey m 8 5) x
      ((put (mkey m 8 5)).lanesCleared m ((gone (mkey m 8 5) 2).map (· + 8))))) ∧
    (m < 32 → v.takes p (mIx m 0x38) 8 0 = true → exec (.chopperFailClear t p m) s = .next (v.andSave (mkey m 0x38 8) 0 (v.setObj (mkey m 0x38 8) 0))) ∧
    (m < 32 → v.takes p (mIx m 0x58) 1 x = true → exec (.sailRetireClear t p m x) s = .next (v.andSave (mkey m 0x58 1) x
      (forEach (gone (mkey m 0x58 1) 64) (fun k a => a.forgetFailures .dataSail m k) (put (mkey m 0x58 1))))) ∧
    (m < 32 → v.takes p (mIx m 0x58) 2 x = true → exec (.servoSailRetireClear t p m x) s = .next (v.andSave (mkey m 0x58 2) x
      (forEach (gone (mkey m 0x58 2) 2) (fun k a => a.forgetFailures .servoSail m k) (put (mkey m 0x58 2))))) ∧
    (m < 32 → v.takes p (mIx m 0x58) 3 0 = true → v.objN (mkey m 0x58 3) = 1 → exec (.sledRetireClear t p m) s = .next
      (v.andSave (mkey m 0x58 3) 0 ((v.setObj (mkey m 0x58 3) 0).sledCleared m))) ∧
    (v.takes p 0x2660 2 x = true → exec (.decoderRetireClear t p false x) s = .next (v.andSave (okey 0x2660 2) x
      ((put (okey 0x2660 2)).decodersCleared (gone (okey 0x2660 2) 64)))) ∧
    (v.takes p 0x2660 3 x = true → exec (.decoderRetireClear t p true x) s = .next (v.andSave (okey 0x2660 3) x
      ((put (okey 0x2660 3)).decodersCleared ((gone (okey 0x2660 3) 64).map (· + 64))))) ∧
    (m < 4 → v.takes p 0x2301 (5 + m) x = true → gone (okey 0x2301 (5 + m)) 2 ≠ [] → exec (.gorcyLaneRetireClear t p m x) s = .next
      (v.andSave (okey 0x2301 (5 + m)) x ((put (okey 0x2301 (5 + m))).gorcyLanesCleared m (gone (okey 0x2301 (5 + m)) 2)))) ∧
    (v.takes p 0x2542 2 x = true → exec (.engineRetireClear t p x) s = .next (v.andSave (okey 0x2542 2) x
      ((put (okey 0x2542 2)).enginesCleared (gone (okey 0x2542 2) 64)))) ∧
    (v.takes p 0x2400 3 x = true → exec (.channelRetireClear t p x) s = .next (v.andSave (okey 0x2400 3) x
      ((put (okey 0x2400 3)).channelsCleared ((gone (okey 0x2400 3) 16).foldl (fun a b => a + 2 ^ b) 0)))) ∧
    (v.takes p 0x2410 2 x = true → exec (.wayRetireClear t p x) s = .next (v.andSave (okey 0x2410 2) x
      (forEach (gone (okey 0x2410 2) 16) (fun w a => a.forgetFailures .way 0 w) (put (okey 0x2410 2))))) ∧
    (v.takes p 0x2630 2 x = true → exec (.endpointRetireClear t p x) s = .next (v.andSave (okey 0x2630 2) x
      (forEach (gone (okey 0x2630 2) 2) (fun e a => (a.forgetFailures .endpoint 0 e).epRelease (if e = 0 then .ha else .hb)) (put (okey 0x2630 2))))) ∧
    (v.takes p 0x2630 1 x = true → exec (.mastRetireClear t p x) s = .next (v.andSave (okey 0x2630 1) x
      (forEach (gone (okey 0x2630 1) 32) (fun m a => a.mastCleared m) (put (okey 0x2630 1))))) ∧
    (v.takes p 0x2630 3 x = true → exec (.shroudRetireClear t p x) s = .next (v.andSave (okey 0x2630 3) x
      (forEach (gone (okey 0x2630 3) 2) (fun y a => (a.forgetFailures .shroud 0 y).setShroud (shroudOf y) 1) (put (okey 0x2630 3)))))

/-- Where the write is taken: SERVO_FLAG_CLEAR clears the bits written as ones, but for those that the present evaluation
raised, and keeps the others; CHECK_VALUE_OWNER_CHANGE to another owner resets the unit; ENGINE_ASSIGN and
ENGINE_WINDOW_RESIZE to another value store it and empty the engine's window and kept registers; WAYS_ENABLED_WRITE
stores, drops the lines of ways beyond, and notes an RWS write no save covers (2700:05 reads 1); REMAP_CLEAR clears
every entry but those read back in error and saves; COUNTER_CLEAR zeroes that counter alone. The model's choices in
it, not the spec's: log entries 94, 106. -/
def Obligations.OtherObjectWrites : Prop :=
  ∀ (t x : Nat) (p : Path) (s v : State), v = s.at_ t →
    (∀ m limit, m < 32 → ∀ ss, ss = (if limit then 5 else 4) → v.takes p (mIx m 0x20) ss x = true →
      exec (.servoFlagClear t p m limit x) s =
        .next (forEach ((List.range 13).filter (fun i => x.testBit i && !(v.servo m).raised.any (fun r => decide (r.1 = ss ∧ r.2.1 = i ∧
          v.tickNow m < r.2.2)))) (fun i a => a.clearMaskBit (mkey m 0x20 ss) i) v)) ∧
    (∀ h, h < 8 → v.takes p (0x2550 + h) 1 x = true → v.objN (okey (0x2550 + h) 1) ≠ x →
      exec (.checkValueOwnerChange t p h x) s = .next ((v.setObj (okey (0x2550 + h) 1) x).setUnit h {})) ∧
    (∀ e, e < 64 → v.takes p (0x2500 + e) 2 x = true → v.obj (okey (0x2500 + e) 2) ≠ x → v.Sound →
      exec (.engineAssign t p e x) s = .next ((v.setObj (okey (0x2500 + e) 2) x).engineChanged e)) ∧
    (∀ e, e < 64 → v.takes p (0x2500 + e) 3 x = true → v.obj (okey (0x2500 + e) 3) ≠ x → v.Sound →
      exec (.engineWindowResize t p e x) s = .next ((v.setObj (okey (0x2500 + e) 3) x).engineChanged e)) ∧
    (v.takes p 0x2410 1 x = true → ∀ w, w = v.setObj (okey 0x2410 1) x →
      exec (.waysEnabledWrite t p x) s = .next ((({ w with nv := { w.nv with uncovered := some (w.nv.uncovered.getD w.now) } }).setObj
        (okey 0x2700 5) 1).dropWays (fun y => decide (x ≤ y)))) ∧
    (∀ c flips, c < 16 → v.takes p (0x2440 + c) 0x11 0 = true →
      exec (.remapClear t p c 0 flips) s = .next ((v.setObj (okey (0x2440 + c) 0x11) 0).remapCleared c flips)) ∧
    (∀ index sub r, 0x5000 ≤ index → index ≤ 0x5431 → rowOf index sub = some r → r.ty.signed = false → r.acc = .rw →
      v.takes p index sub 0 = true → exec (.counterClear t p index sub) s = .next (v.clearCounter (okey index sub)) ∧
      (v.countAt ≠ v.now → v.clearCounter (okey index sub) = v.setObj (okey index sub) 0))

/-- With the mailbox running outside recovery, a holder, a ready rig and no download waiting: SDO_UPLOAD answers the
object's bytes, or the abort code of its error with the refusal counted; SDO_DOWNLOAD of another object than 1010
leaves the written state and answers 0, or the abort code; through 1010 it answers nothing yet. With a download
waiting, no holder or a rig not ready, both are held in order and nothing else happens. SDO_INFORMATION answers its
description or abort. MAILBOX_REPEAT sends the last answer again and counts it. The model's choices in it, not the
spec's: log entries 94, 95. -/
def Obligations.MailboxServesObjects : Prop :=
  ∀ (t : Nat) (s v : State), v = s.at_ t → v.mailboxOn = true → v.boot.recovery = false →
    (v.field.sdoBusy = false → v.hasHolder = true → v.boot.ready = true → ∀ (i j : Nat) (ca : Bool),
      (∀ b, v.readObj .fieldNet i j ca = .ok b →
        exec (.sdoUpload t i j ca) s = .next { v with
          field := { v.field with lastReply := some (0, b) }, out := .field 0 b :: v.out }) ∧
      (∀ e, v.readObj .fieldNet i j ca = .error e →
        exec (.sdoUpload t i j ca) s = .next ((v.countRefused e).reply e.abort [])) ∧
      (∀ d w, i ≠ 0x1010 → v.writeObj .fieldNet { waiters := [.sdo] } i j ca d = (w, none) →
        exec (.sdoDownload t i j ca d) s = .next (w.reply 0 [])) ∧
      (∀ d w, i = 0x1010 → v.writeObj .fieldNet { waiters := [.sdo] } i j ca d = (w, none) →
        exec (.sdoDownload t i j ca d) s = .next { w with field := { w.field with sdoBusy := true } }) ∧
      (∀ d w e, v.writeObj .fieldNet { waiters := [.sdo] } i j ca d = (w, some e) →
        exec (.sdoDownload t i j ca d) s = .next (w.reply e.abort []))) ∧
    (v.field.sdoBusy = true ∨ v.hasHolder = false ∨ v.boot.ready = false → ∀ (i j : Nat) (ca : Bool) (d : List Byte),
      exec (.sdoUpload t i j ca) s = .next { v with field := { v.field with held := v.field.held ++ [⟨i, j, ca, none⟩] } } ∧
      exec (.sdoDownload t i j ca d) s = .next { v with field := { v.field with held := v.field.held ++ [⟨i, j, ca, some d⟩] } }) ∧
    (∀ q b, sdoInfo q = .ok b → exec (.sdoInformation t q) s = .next (v.reply 0 b)) ∧
    (∀ q e, sdoInfo q = .error e → exec (.sdoInformation t q) s = .next (v.reply e.abort [])) ∧
    (∀ c b, v.field.lastReply = some (c, b) →
      exec (.mailboxRepeat t) s = .next ((v.count (okey 0x542F 0x0A)).emit (.field c b)))

/-- Without the mailbox neither row changes anything but rig time. With a password that is not 0, or where no rule gives a
code (an image below 3,397 bytes, no bank to read), the reply is a free value, outside recovery for a read. With
password 0, FOE_WRITE of a slot but the one running outside recovery, of 1 to 24 MiB in bytes, leaves its bytes, 2701
with state 2, their length and CRC-32C; it is counted and answered; in recovery it restarts the rig with cause 3. A
longer one is refused, one that breaks off leaves the slot empty; the running slot, the bank and unknown names are
refused. FOE_WRITE of the engine image, 3,397 to 163,117 bytes, leaves it staged; a longer one is refused, one that
breaks off leaves none. FOE_READ answers the bytes of a slot or of the bank in force, refuses the engine image and
unknown names, and anything in recovery. The model's choices in it, not the spec's: log entries 122, 123, 125. -/
def Obligations.FilesOverTheFieldNetwork : Prop :=
  ∀ (t : Nat) (s v : State), v = s.at_ t → ∀ free : State → State → Prop,
    (∀ a u, free a u ↔ ∃ x, u = ({ a with freeCtr := a.freeCtr + 1 } : State).reply x []) →
    (v.mailboxOn = false → ∀ f pw b ok, exec (.foeWrite t f pw b ok) s = .next v ∧ exec (.foeRead t f pw) s = .next v) ∧
    (v.mailboxOn = true →
      (∀ f pw b ok, pw ≠ 0 → Runs (.foeWrite t f pw b ok) s (free v) ∧ (v.boot.recovery = false → Runs (.foeRead t f pw) s (free v))) ∧
      (∀ (i : Fin 2) b, v.boot.recovery = true ∨ (i.val : Nat) ≠ v.objN (okey 0x2002 2) →
        (25165824 < b.length → ∀ ok, exec (.foeWrite t (.slot i) 0 b ok) s = .next (v.reply 0x8003 [])) ∧
        (b.length ≤ 25165824 → exec (.foeWrite t (.slot i) 0 b false) s = .next (v.writeSlot i.val []) ∧
          (v.boot.recovery = true → exec (.foeWrite t (.slot i) 0 b true) s = .next ((((v.writeSlot i.val b).foeDone []).resetAll 3).startUp)) ∧
          (v.boot.recovery = false → b ≠ [] → v.Sound →
            Runs (.foeWrite t (.slot i) 0 b true) s (fun u => u.slotBytes i.val = b ∧ u.slotBytes (1 - i.val) = v.slotBytes (1 - i.val) ∧
              u.obj (okey 0x2701 (i.val + 1)) = 2 ∧ u.obj (okey 0x2701 (i.val + 3)) = b.length ∧
              u.obj (okey 0x2701 (i.val + 5)) = crc32c b ∧ u.field.lastReply = some (0, []) ∧ u.out = .field 0 [] :: v.out ∧
              u.masts = v.masts ∧ u.host = v.host ∧ u.media = v.media ∧ u.fabric = v.fabric ∧ u.eng = v.eng)))) ∧
      (v.boot.recovery = false →
        (∀ (i : Fin 2) b ok, (i.val : Nat) = v.objN (okey 0x2002 2) → exec (.foeWrite t (.slot i) 0 b ok) s = .next (v.reply 0x8002 [])) ∧
        (∀ b, (163117 < b.length → ∀ ok, exec (.foeWrite t .engine 0 b ok) s = .next (v.reply 0x8003 [])) ∧
          (b.length ≤ 163117 → exec (.foeWrite t .engine 0 b false) s = .next { v with eng := { v.eng with image := [] } }) ∧
          (b.length < 3397 → Runs (.foeWrite t .engine 0 b true) s (free v)) ∧
          (3397 ≤ b.length → b.length ≤ 163117 →
            exec (.foeWrite t .engine 0 b true) s = .next (({ v with eng := { v.eng with image := b } } : State).foeDone []))) ∧
        (∀ b ok, exec (.foeWrite t .bank 0 b ok) s = .next (v.reply 0x8002 []) ∧ exec (.foeWrite t .other 0 b ok) s = .next (v.reply 0x8001 [])) ∧
        (∀ i : Fin 2, exec (.foeRead t (.slot i) 0) s = .next (v.foeDone (v.slotBytes i.val))) ∧
        exec (.foeRead t .engine 0) s = .next (v.reply 0x8002 []) ∧ exec (.foeRead t .other 0) s = .next (v.reply 0x8001 []) ∧
        (∀ k, v.bankInForce = some k → exec (.foeRead t .bank 0) s = .next (v.foeDone k.bytes)) ∧
        (v.bankInForce = none → Runs (.foeRead t .bank 0) s (free v))) ∧
      (v.boot.recovery = true → (∀ f pw, exec (.foeRead t f pw) s = .next (v.reply 2 [])) ∧
        ∀ f b ok, f = .engine ∨ f = .bank ∨ f = .other → exec (.foeWrite t f 0 b ok) s = .next (v.reply 2 [])))

/-- AL_STATE_REQUEST out of reset takes a legal transition: the settings are kept, 2121:03 shows the state and 2120:02 an
accepted SYNC0 cycle; an illegal one changes only the request held and answers its AL status code; above Init before
rig ready it is held. SYNC0_EVENT with an accepted cycle shows synchronised (2) after 16 differences within 100 ns and
else not yet (1), writes the image and steers. SYNC0_STOP shows 0, ends the steering of a root by the clock, and
counts and reports the loss of synchronisation. TXPDO_UPDATE in free run writes the image of now in the upper states.
FIELD_NETWORK_LINK_CHANGE shows the port's link. The model's choices in it, not the spec's: log entries 124, 126. -/
def Obligations.AlStatesAndProcessData : Prop :=
  ∀ (t : Nat) (s v : State), v = s.at_ t →
    (∀ r c, v.boot.inReset = false → v.boot.recovery = true ∨ v.boot.wasReady = true ∨ r = .init →
      alRefused v.boot.recovery v.al r c = none →
      exec (.alStateRequest t r c) s = .next (((({ v with field := { v.field with sm := c.sm, dcSelected := c.dc.isSome, alHeld := none } }
        : State).setObj (okey 0x2121 3) (alCode r)).setObj (okey 0x2120 2)
        (match c.dc with | some n => if cycleOk n then (n : Nat) else (0 : Nat) | none => (0 : Nat))).emit (.field 0 []))) ∧
    (∀ r c e, v.boot.inReset = false → v.boot.recovery = true ∨ v.boot.wasReady = true ∨ r = .init →
      alRefused v.boot.recovery v.al r c = some e →
      exec (.alStateRequest t r c) s = .next { v with field := { v.field with alHeld := none }, out := .field e [] :: v.out }) ∧
    (∀ r c, v.boot.inReset = false → v.boot.recovery = false → v.boot.wasReady = false → r ≠ .init →
      exec (.alStateRequest t r c) s = .next { v with field := { v.field with alHeld := some (r, c) } }) ∧
    (∀ dc diff l, v.boot.inReset = false → cycleOk (v.objN (okey 0x2120 2)) = true → l = (diff :: v.field.diffs).take 16 →
      exec (.sync0Event t dc diff) s = .next (((({ v with field := { v.field with diffs := l } } : State).dcState
        (if l.length = 16 ∧ ∀ d ∈ l, d ≤ 100 then 2 else 1)).writeImage).clockTheta dc)) ∧
    (∀ x y : State, x = ({ v with field := { v.field with diffs := [] } } : State).setObj (okey 0x2120 1) 0 →
      y = (if v.objN (okey 0x2302 3) = 2 ∧ v.obj (okey 0x2302 2) = 1 ∧ v.objN (okey 0x2120 1) = 2 then x.setObj (okey 0x2302 6) 0 else x) →
      exec (.sync0Stop t) s = .next (if v.objN (okey 0x2120 1) = 2 then (y.count (okey 0x542F 9)).condition 7 4 0 0 else y)) ∧
    (v.field.dcSelected = false → v.al = 4 ∨ v.al = 8 →
      exec (.txpdoUpdate t) s = .next { v with field := { v.field with txpdo := v.txImage } }) ∧
    (∀ p up, p < 2 → v.boot.inReset = false →
      exec (.fieldNetworkLinkChange t p up) s = .next (v.setObj (okey 0x2121 (p + 1)) (if up then 1 else 2)))

/-- SAVE_DELAY_EXPIRY once 2700:04 milliseconds passed since the first uncovered write asks for a save. SAVE_DONE good
makes the written bank the valid one: 2700:01 reads 0, 2700:02 its number, 2700:03 its SEQ, and its waiters succeed;
bad, the write is repeated once; bad again, 2700:01 reads 2, 2700:05 reads 1, 542F:07 counts, condition 0008 is raised
and the waiters get MEMORY_ERROR. SAVE_RETRY 60 s after a failure with no save running begins one. The model's choices
in it, not the spec's: log entry 127. -/
def Obligations.SavesOfTheParameterBank : Prop :=
  ∀ (t : Nat) (s v : State), v = s.at_ t →
    (∀ a, v.nv.uncovered = some a → a + ms (v.objN (okey 0x2700 4)) ≤ v.now → exec (.saveDelayExpiry t) s = .next (v.requestSave [])) ∧
    (∀ x, v.nv.save = some x → x.target = 0 → exec (.saveDone t true) s = .next (((((
      { v with nv := { v.nv with bankA := some x.bank, failedAt := none } } : State).setObj (okey 0x2700 1) 0).setObj (okey 0x2700 2) 0).setObj
        (okey 0x2700 3) x.bank.seq).saveEnds 0)) ∧
    (∀ x, v.nv.save = some x → x.target = 1 → exec (.saveDone t true) s = .next (((((
      { v with nv := { v.nv with bankB := some x.bank, failedAt := none } } : State).setObj (okey 0x2700 1) 0).setObj (okey 0x2700 2) 1).setObj
        (okey 0x2700 3) x.bank.seq).saveEnds 0)) ∧
    (∀ x, v.nv.save = some x → x.second = false →
      exec (.saveDone t false) s = .next { v with nv := { v.nv with save := some { x with second := true } } }) ∧
    (∀ x, v.nv.save = some x → x.second = true → exec (.saveDone t false) s = .next
      ((((((({ v with nv := { v.nv with failedAt := some v.now } } : State).count (okey 0x542F 7)).setObj (okey 0x2700 1) 2).setObj
        (okey 0x2700 5) 1).condition 8 4 0 x.target).saveEnds 0x0025))) ∧
    (∀ a, v.nv.failedAt = some a → a + sec 60 ≤ v.now → v.nv.save = none →
      exec (.saveRetry t) s = .next (({ v with nv := { v.nv with failedAt := none } } : State).beginSave []))

/-- SELF_CHECK_FAILURE of a shroud in standby or holding, and HEARTBEAT_TIMEOUT of the holder, have one effect: the shroud
restarts and counts one failure, a holder's token passes to the standby with a counted passing, or with no standby
nobody holds it, and an update under way that the failure concerns aborts. AUTOMATIC_RETURN from 30 s of A's standby
on, with B holding, 2600:06 reading 1 and no image update under way, passes the token to A and counts. NO_HOLDER_FURL
from 1 s without a holder on furls every mast once. Under any other condition each of the four changes nothing but rig
time. The model's choices in it, not the spec's: log entries 86, 89, 178. -/
def Obligations.TokenPassesOnFailureAndReturn : Prop :=
  ∀ (t : Nat) (x : Shroud) (k : SelfCheckKind) (s v : State), v = s.at_ t →
    (∀ a r, a = ((v.setShroud x 1).count (okey 0x5431 (3 + shroudIx x))).failShroud x →
      r = (if v.shroudState x ≠ 2 ∧ v.shroudState x ≠ 3 then v
        else if v.shroudState x = 2 then a.updateFailure x
        else if v.shroudState (otherShroud x) = 2 then ((a.takeToken (otherShroud x)).passed).updateFailure x
        else a.loseToken.updateFailure x) →
      exec (.selfCheckFailure t x k) s = .next r ∧
      (v.hasHolder = true → x = shroudOf v.holder → exec (.heartbeatTimeout t) s = .next r)) ∧
    (v.hasHolder = false → exec (.heartbeatTimeout t) s = .next v) ∧
    (∀ a, v.avail.standbyA = some a →
      (v.objN (okey 0x2600 6) = 1 → v.holder = 1 → v.shroudState .a = 2 → v.avail.upd = .none → a + 30000000000 ≤ v.now →
        exec (.automaticReturn t) s = .next (((((v.setShroud .b 2).takeToken .a)).passed).count (okey 0x5431 2))) ∧
      (v.objN (okey 0x2600 6) ≠ 1 ∨ v.holder ≠ 1 ∨ v.shroudState .a ≠ 2 ∨ v.avail.upd ≠ .none ∨ v.now < a + 30000000000 → exec (.automaticReturn t) s = .next v)) ∧
    (v.avail.standbyA = none → exec (.automaticReturn t) s = .next v) ∧
    (∀ a, v.avail.noHolderAt = some a →
      (v.hasHolder = false → v.avail.noHolderFurled = false → a + 1000000000 ≤ v.now →
        exec (.noHolderFurl t) s = .next (forEach (List.range 32) (fun m b => b.furlMast m)
          { v with avail := { v.avail with noHolderFurled := true } })) ∧
      (v.hasHolder = true ∨ v.avail.noHolderFurled = true ∨ v.now < a + 1000000000 → exec (.noHolderFurl t) s = .next v)) ∧
    (v.avail.noHolderAt = none → exec (.noHolderFurl t) s = .next v)

/-- For every sound state in which the generation is below 2^32, when shroud x takes the token: 2600:01 names x, 2600:02
reads G + 1 modulo 2^32, x's state reads 3, the period without a holder ends, every mast m below 32 carries the new
generation, and the other shroud's state, queues, media, fabric, engines and NV store are unchanged. -/
def Obligations.TakingTheTokenRaisesItsGeneration : Prop :=
  ∀ (s : State) (x : Shroud), s.Sound → ∀ u, u = s.takeToken x →
    u.holder = shroudIx x ∧ u.tokenG = (s.tokenG + 1) % 2 ^ 32 ∧ u.shroudState x = 3 ∧
    u.shroudState (otherShroud x) = s.shroudState (otherShroud x) ∧ u.avail.noHolderAt = none ∧ u.avail.noHolderFurled = false ∧
    (∀ m, m < 32 → (u.servo m).gen = (s.tokenG + 1) % 2 ^ 32) ∧ u.host = s.host ∧ u.media = s.media ∧ u.fabric = s.fabric ∧
    u.eng = s.eng ∧ u.nv = s.nv ∧ u.out = s.out ∧ u.pins = s.pins

/-- SHROUD_SELF_TEST_DONE of a restarting shroud outside an update makes it standby, failed, or after start-up retired;
then the token falls to it if nobody holds it, and at step 10 the state store is initialised, later everything held
goes on. STATE_STEP of the holder under the arbiter's generation sets its object of the state store to a value the
object can take; under another generation it is not applied. UPDATE_SHROUD_LOADED while S loads a good image passes
the token to S and begins the observation; a bad one aborts with its cause. OBSERVATION_END after 2670:03 seconds lets
H load, after a planned passing to S where H holds. The model's choices in it, not the spec's: log entries 87, 88, 90,
178. -/
def Obligations.SelfTestsStepsAndUpdates : Prop :=
  ∀ (t : Nat) (x : Shroud) (ok : Bool) (s v : State), v = s.at_ t →
    (v.shroudState x = 1 → v.avail.upd = .none → exec (.shroudSelfTestDone t x ok) s = .next (v.afterToken
      (if ok then v.setShroud x 2 else if v.tokenG = 0 then v.setShroud x 4 else (v.setShroud x 4).retireShroud x).tokenDue)) ∧
    (∀ key r y, rowOfKey key = some r → r.ty = .u64 → r.ranges = [] → r.mask = 0 → 0 ≤ y → y < 2 ^ 64 → inStore (key / 256) = true →
      v.holder = shroudIx x → exec (.stateStep t x v.tokenG key y) s = .next (v.setObj key y)) ∧
    (∀ g key y, g ≠ v.tokenG → exec (.stateStep t x g key y) s = .next v) ∧
    (v.avail.upd = .loadingS → x = v.updS → ∀ a,
      a = ((((((v.setImage x v.avail.updSlot).setShroud x 2).updateState 2).plannedPass x).runImage v.avail.updSlot).updateState 3) →
      exec (.updateShroudLoaded t x ok) s = .next (match v.updateImageBad, ok with
        | none, true => { a with avail := { a.avail with upd := .observing, updAt := a.now } }
        | none, false => v.abortUpdate 3
        | some c, _ => v.abortUpdate c)) ∧
    (v.avail.upd = .observing → v.avail.updAt + sec (v.objN (okey 0x2670 3)) ≤ v.now →
      ∀ a, a = (if v.holder = shroudIx v.avail.updH then v.plannedPass v.updS else v) →
      exec (.observationEnd t) s = .next (((a.setShroud v.avail.updH 1).setUpd .loadingH).updateState 4))

/-- On a function that is there: ADMIN_PAIR_ENABLE with valid fields sets AEN and, in a ready rig, creates the pair of
number n: SQ n and EQ n with the bases, sizes, vector and moderation of the registers, ARDY set; with an invalid field
only AERR is set. ADMIN_PAIR_DISABLE resets the function. REGISTER_WRITE stores a 64-bit value in ASQB while AEN is 0,
with no undefined bit, and drops and counts one to an offset without a register. -/
def Obligations.AdminPairsAndRegisters : Prop :=
  ∀ (t : Nat) (f : Fn) (s v : State), v = s.at_ t → v.fnThere f = true → ∀ r, r = v.fnr f →
    (r.aen = false → r.adminBad f = false → v.boot.ready = true →
      exec (.adminPairEnable t f) s = .next ((v.setFnr f { r with aen := true, aerr := false }).adminCreate f)) ∧
    (r.aen = false → r.adminBad f = false → v.boot.ready = false →
      exec (.adminPairEnable t f) s = .next (v.setFnr f { r with aen := true, aerr := false })) ∧
    (r.aen = false → r.adminBad f = true → exec (.adminPairEnable t f) s = .next (v.setFnr f { r with aerr := true })) ∧
    (r.aen = true → exec (.adminPairEnable t f) s = .next v) ∧
    (∀ w : State, tblWf (fun _ => ({} : FnRegs)) w.host.fns = true → w.fnr f = { r with aen := true, aerr := false } → ∀ u : State, u = w.adminCreate f →
      tblWf (fun _ => ({} : SQ)) w.host.sqs = true → tblWf (fun _ => ({} : EQ)) w.host.eqs = true →
      u.sq (aqn f) = { owner := .fn f, admin := true, base := r.asqb, log := r.as_, eq := aqn f } ∧
      u.eq (aqn f) = { owner := .fn f, admin := true, base := r.aeqb, log := r.ae, vec := r.avec, icnt := r.aicnt, itime := r.aitime } ∧
      (u.fnr f).ardy = true) ∧
    exec (.adminPairDisable t f) s = .next (v.functionReset f) ∧
    (∀ x, x % 4096 = 0 → x < 2 ^ 64 → r.asqb < 2 ^ 64 → r.aen = false →
      exec (.registerWrite t f 0x08 64 x) s = .next (v.setFnr f { r with asqb := x })) ∧
    (∀ x, x < 2 ^ 64 → exec (.registerWrite t f 0x30 64 x) s =
      .next ((v.count (epCounter f.ep 1)).conditionTo (.fn f) 3 4 (aqn f) 0x30))

/-- On a function that is there whose mailbox is not busy, in a ready rig with a holder: MAILBOX_READ_SEGMENT of 1 to
4,096 bytes puts the value's length in OLEN and its segment in the data window with status 0, or gives the error's
status; MAILBOX_STAGE_SEGMENT within the 65,568-byte buffer copies the window into it; MAILBOX_APPLY writes the object
with the buffer's first TOTAL bytes. Without a holder each is held, BUSY; while BUSY each is dropped and counted. -/
def Obligations.MailboxOperations : Prop :=
  ∀ (t : Nat) (f : Fn) (s v : State), v = s.at_ t → v.fnThere f = true → ∀ r, r = v.fnr f →
    (r.mboxBusy = false → v.hasHolder = true → v.boot.ready = true →
      (1 ≤ r.mboxLen → r.mboxLen ≤ 4096 →
        (∀ b, v.readObj (.function f) r.mboxIndex r.mboxSub r.mboxCA = .ok b →
          ∀ x, x = putBytes r.window 0 (padTo r.mboxLen ((b.drop r.mboxOff).take r.mboxLen)) →
          exec (.mailboxReadSegment t f) s =
            .next ((v.setFnr f { r with mboxOlen := b.length, window := x }).mailboxDone f 0)) ∧
        (∀ e, v.readObj (.function f) r.mboxIndex r.mboxSub r.mboxCA = .error e →
          exec (.mailboxReadSegment t f) s = .next ((v.countRefused e).mailboxDone f e.status)) ∧
        (r.mboxOff + r.mboxLen ≤ 65568 → exec (.mailboxStageSegment t f) s =
          .next ((v.setFnr f { r with wbuf := putBytes r.wbuf r.mboxOff (bytesAt r.window 0 r.mboxLen) }).mailboxDone f 0))) ∧
      (1 ≤ r.mboxTotal → r.mboxTotal ≤ 65568 → r.mboxIndex ≠ 0x1010 → ∀ w e,
        v.writeObj (.function f) { waiters := [.mailbox f] } r.mboxIndex r.mboxSub r.mboxCA (bytesAt r.wbuf 0 r.mboxTotal) = (w, e) →
        exec (.mailboxApply t f) s = .next (w.mailboxDone f (match e with | none => 0 | some x => x.status)))) ∧
    (r.mboxBusy = false → v.hasHolder = false →
      exec (.mailboxReadSegment t f) s = .next (v.setFnr f { r with mboxBusy := true, mboxOp := 1 }) ∧
      exec (.mailboxStageSegment t f) s = .next (v.setFnr f { r with mboxBusy := true, mboxOp := 2 }) ∧
      exec (.mailboxApply t f) s = .next (v.setFnr f { r with mboxBusy := true, mboxOp := 3 })) ∧
    (r.mboxBusy = true → exec (.mailboxReadSegment t f) s = .next (v.count (epCounter f.ep 8)) ∧
      exec (.mailboxStageSegment t f) s = .next (v.count (epCounter f.ep 8)) ∧
      exec (.mailboxApply t f) s = .next (v.count (epCounter f.ep 8)))

/-- PERST_ASSERT of a released endpoint resets all its functions and its configuration space and takes its link down
(retired stays 4). PERST_RELEASE lets it train once step 6 is complete. FLR of a VF resets that VF; of the PF, every
function of the endpoint and its configuration space but for the link's own control. VF_ENABLE_CLEAR resets every VF.
D3HOT_ENTRY resets the function and notes it as not in D0. ENDPOINT_BUFFER_ERROR resets the functions it struck and
counts one failure of the endpoint. The model's choices in it, not the spec's: log entries 102, 169. -/
def Obligations.FunctionAndEndpointResets : Prop :=
  ∀ (t : Nat) (e : Endpoint) (f : Fn) (s v : State), v = s.at_ t →
    ((v.ep e).perst = false → ∀ a, a = v.functionResets (epFns e) →
      exec (.perstAssert t e) s = .next (((a.setEp e { (a.ep e).configReset with
        perst := true, holds := [], kept := [], waiting := [], abandoned := [], aerUnc := 0, aerUncMask := 0, aerUncSev := 0x462030,
        aerCor := 0, aerCorMask := 0xE000, aerLog := none }).linkOff e (if v.epRetired e then 4 else 0)).showTags e)) ∧
    ((v.ep e).perst = true → exec (.perstAssert t e) s = .next v) ∧
    (v.epMayTrain = true → v.epRetired e = false → v.linkState e = 0 →
      exec (.perstRelease t e) s = .next ((v.setEp e { v.ep e with perst := false }).linkOff e 1)) ∧
    (v.epMayTrain = false → exec (.perstRelease t e) s = .next (v.setEp e { v.ep e with perst := false })) ∧
    (v.epInReset f.ep = false → f.fn ≠ 0 → exec (.flr t f) s = .next (v.functionReset f)) ∧
    (v.epInReset f.ep = false → f.fn = 0 → ∀ a, a = v.functionResets (epFns f.ep) →
      exec (.flr t f) s = .next ((a.setEp f.ep { (a.ep f.ep).configReset with
        aspmL1 := (a.ep f.ep).aspmL1, l0pEn := (a.ep f.ep).l0pEn, l11 := (a.ep f.ep).l11, l12 := (a.ep f.ep).l12 }).showTags f.ep)) ∧
    (v.epInReset e = false → ∀ a, a = v.functionResets ((epFns e).drop 1) →
      exec (.vfEnableClear t e) s = .next (a.setEp e { a.ep e with vfEnable := false })) ∧
    (v.fnThere f = true → ∀ a, a = v.functionReset f →
      exec (.d3hotEntry t f) s = .next (a.setEp f.ep { a.ep f.ep with d3hot := setInsert f.fn (a.ep f.ep).d3hot })) ∧
    (v.epInReset e = false → ∀ l, exec (.endpointBufferError t e l) s =
      .next ((v.functionResets (l.map (fun n => ⟨e, n⟩))).failEndpoint e))

/-- LINK_DOWN_HOLD of an endpoint up, out of PERST, begins a hold now for the physical function and each enabled virtual
one that is in none: configuration reset, vectors masked, its reads abandoned with their tags withheld, the last
unacknowledged TLPs kept in order, state 3, counted; while a hold runs it resets the configuration again. HOLD_RESUME
resumes the functions that the host has brought back (link up, memory and bus master on; of a VF, VF Enable and its
own bus master) while no HOLDT is over. HOLD_TIMEOUT resets each function whose HOLDT is over and forgets what was
kept for it; the last one ends state 3. DL_UP shows rate, width and flit mode, and state 2 unless state 3 goes on. The
model's choices in it, not the spec's: log entries 31, 103, 105. -/
def Obligations.HoldsOfALink : Prop :=
  ∀ (t : Nat) (e : Endpoint) (s v : State), v = s.at_ t → ∀ (limit : Nat), limit = ms (v.objN (okey (0x2220 + epIx e) 1)) →
    (∀ n, (v.ep e).perst = false → v.linkState e = 2 → ∀ mine, mine = v.host.reads.filter (fun r => decide (r.ep = e)) →
      ∀ new, new = (List.range 65).filter (fun k => (decide (k = 0) || ((v.ep e).vfEnable && decide (k ≤ (v.ep e).numVFs))) &&
        !(v.ep e).holds.any (fun h => h.1 = k)) →
      ∀ a, a = v.withhold mine → exec (.linkDownHold t e n) s = .next
        ((((forEach (epFns e) (fun f b => b.setFnr f (b.fnr f).maskAll)
          (({ a with host := { a.host with reads := a.host.reads.filter (fun r => r.ep ≠ e) } } : State).setEp e
            { (v.ep e).configReset with
              holds := (v.ep e).holds ++ new.map (fun k => (k, v.now)),
              kept := (v.ep e).kept ++ ((v.out.filter (Emit.ofEp e)).take n).reverse,
              abandoned := mine ++ (v.ep e).abandoned })).linkOff e 3).showTags e).count (epCounter e 6))) ∧
    (∀ n, (v.ep e).perst = false → v.linkState e = 3 → exec (.linkDownHold t e n) s =
      .next (((v.setEp e (v.ep e).configReset).linkOff e 3).showTags e)) ∧
    (∀ n, (v.ep e).perst = true ∨ (v.linkState e ≠ 2 ∧ v.linkState e ≠ 3) → exec (.linkDownHold t e n) s = .next v) ∧
    (∀ l, l = ((v.ep e).holds.map (·.1)).filter (fun k => v.fnBack e k) → l ≠ [] → (∀ h ∈ (v.ep e).holds, v.now < h.2 + limit) →
      exec (.holdResume t e) s = .next (v.resume e l)) ∧
    ((v.ep e).holds = [] → exec (.holdResume t e) s = .next v ∧ exec (.holdTimeout t e) s = .next v) ∧
    (∀ late, late = ((v.ep e).holds.filter (fun h => decide (h.2 + limit ≤ v.now))).map (·.1) → late ≠ [] →
      ∀ b, b = v.functionResets (late.map (fun n => ⟨e, n⟩)) → ∀ p, p = (b.ep e).unhold late →
      ∀ u, u = b.setEp e { p with abandoned := p.abandoned.filter (fun r => !late.contains r.fn) } →
      (v.linkState e = 3 → p.holds = [] → exec (.holdTimeout t e) s = .next (u.setObj (okey (0x2200 + epIx e) 1)
        (if v.objN (okey (0x2200 + epIx e) 2) ≠ 0 then 2 else 1))) ∧
      (v.linkState e ≠ 3 ∨ p.holds ≠ [] → exec (.holdTimeout t e) s = .next u)) ∧
    (∀ (rate width : Nat) (flit : Bool), v.epInReset e = false → v.epMayTrain = true → ∀ w,
      w = (if v.linkState e = 3 then v else v.setObj (okey (0x2200 + epIx e) 1) 2) → ∀ a,
      a = ((w.setObj (okey (0x2200 + epIx e) 2) rate).setObj (okey (0x2200 + epIx e) 3) width).setObj
        (okey (0x2200 + epIx e) 4) (if flit then 128 else 0) →
      exec (.dlUp t e rate width flit) s = .next ((a.setEp e { a.ep e with fullWidth := width }).showTags e))

/-- DMA_READ_COMPLETION of an outstanding read within its limit: successful and with the rest of its bytes, it drops the
read and delivers all its data, or asks for the next part of a read past the request size; with fewer, they are kept
with the read; with more, nothing happens; unsuccessful, its owner fails. For a tag withheld it is counted.
COMPLETION_TIMEOUT after the read's limit drops it, withholds the tag, reports and counts, and its owner fails.
L1_ENTRY with ASPM L1 on a link that is up, has no read outstanding and has sent nothing for L1IDLE requests L1,
entering L1.2 or L1.1 where LTR and that substate are enabled (the order of the two is the model's, log entry 104).
L0P_WIDTH_CHANGE in flit mode with L0p enabled under 25 percent use halves the width. CONFIGURATION_REQUEST before the
link is up is retried; of a VF not enabled it is unsupported; else it is taken. The model's choices in it, not the
spec's: log entries 99, 112, 169. -/
def Obligations.HostReadsAndLinkPower : Prop :=
  ∀ (t : Nat) (e : Endpoint) (s v : State), v = s.at_ t →
    (∀ tag r d, v.epInReset e = false → v.readOf e tag = some r → v.now < r.issued + r.limit →
      (r.got.length + d.length = r.len → r.rest = 0 → exec (.dmaReadCompletion t e tag .success d) s =
        .next (((v.dropRead r).readDone r (r.acc ++ (r.got ++ d))).issueWaiting e 4096)) ∧
      (r.got.length + d.length = r.len → r.rest ≠ 0 → exec (.dmaReadCompletion t e tag .success d) s =
        .next ((v.dropRead r).sendRead { r with addr := r.addr + r.len, len := r.rest, rest := 0, acc := r.acc ++ (r.got ++ d) })) ∧
      (r.got.length + d.length < r.len → exec (.dmaReadCompletion t e tag .success d) s =
        .next { v with host := { v.host with reads := v.host.reads.map (fun x => if x.ep = r.ep ∧ x.tag = r.tag then { x with got := x.got ++ d } else x) } }) ∧
      (r.len < r.got.length + d.length → exec (.dmaReadCompletion t e tag .success d) s = .next v)) ∧
    (∀ tag r st d, v.epInReset e = false → v.readOf e tag = some r → v.now < r.issued + r.limit → st ≠ .success →
      exec (.dmaReadCompletion t e tag st d) s = .next (((v.dropRead r).readFailed r).issueWaiting e 4096)) ∧
    (∀ tag st d lim, v.epInReset e = false → v.readOf e tag = none → (e, tag, lim) ∈ v.host.withheld → v.now < lim →
      exec (.dmaReadCompletion t e tag st d) s = .next ((v.aerError ⟨e, 0⟩ 3 none).count (epCounter e 3))) ∧
    (∀ tag r, v.readOf e tag = some r → r.issued + r.limit ≤ v.now →
      exec (.completionTimeout t e tag) s =
        .next ((((((v.dropRead r).withhold [r]).aerError ⟨e, r.fn⟩ 2 none).count (epCounter e 4)).readFailed r).issueWaiting e 4096)) ∧
    ((v.ep e).aspmL1 = true → v.linkState e = 2 → v.objN (okey (0x2200 + epIx e) 4) % 8 < 2 → (∀ r ∈ v.host.reads, r.ep ≠ e) →
      (v.ep e).txAt + 1000 * v.objN (okey (0x2220 + epIx e) 2) ≤ v.now →
      exec (.l1Entry t e) s = .next ((v.emit (.linkRequest e 1)).setObj (okey (0x2200 + epIx e) 4)
        (v.objN (okey (0x2200 + epIx e) 4) / 128 * 128 + (if (v.ep e).ltrEn = true ∧ (v.ep e).l12 = true then 4 else if (v.ep e).ltrEn = true ∧ (v.ep e).l11 = true then 3
          else 2) : Nat))) ∧
    (∀ util backlog w, w = v.objN (okey (0x2200 + epIx e) 3) → (v.ep e).l0pEn = true → v.linkState e = 2 → 128 ≤ v.objN (okey (0x2200 + epIx e) 4) →
      v.objN (okey (0x2200 + epIx e) 4) % 8 < 2 → backlog ≤ 16384 → util < 25 → 2 < w → w ≤ (v.ep e).fullWidth →
      exec (.l0pWidthChange t e util backlog) s = .next
        (((v.emit (.linkRequest e (256 + w / 2))).setObj (okey (0x2200 + epIx e) 3) (w / 2 : Nat)).setObj (okey (0x2200 + epIx e) 4) 129)) ∧
    (∀ f q, v.epInReset f.ep = false → v.objN (okey (0x2200 + epIx f.ep) 2) = 0 →
      exec (.configurationRequest t f q) s = .next (v.emit (.cfgRetry f))) ∧
    (∀ f q, v.epInReset f.ep = false → v.objN (okey (0x2200 + epIx f.ep) 2) ≠ 0 → f.fn ≠ 0 → (v.ep f.ep).vfEnable = false ∨ (v.ep f.ep).numVFs < f.fn →
      exec (.configurationRequest t f q) s = .next (v.emit (.cplUR f))) ∧
    (∀ f b m, v.epInReset f.ep = false → v.objN (okey (0x2200 + epIx f.ep) 2) ≠ 0 → f.fn = 0 → exec (.configurationRequest t f (.writeCommand m b)) s =
      .next ((v.setEp f.ep { v.ep f.ep with memSpace := m, busMaster := b }).tlp f.ep (.cfgDone f 0))) ∧
    (∀ f, v.epInReset f.ep = false → v.objN (okey (0x2200 + epIx f.ep) 2) ≠ 0 → f.fn = 0 →
      exec (.configurationRequest t f (.read 0)) s = .next (v.tlp f.ep (.cfgDone f (0x32640000 + v.objN (okey 0x2000 2)))))

/-- For each of the fourteen opcodes and for an unknown one, a packet of its opcode that is the next the command processor
takes, on a queue that exists: without a holder of the token it is held in order; a pair in the duplicate table is
completed as its original was or with it; a tag in use completes with TAG_IN_USE and is counted; a packet that fails a
check of R326 becomes outstanding and completes with that check's status, for an opcode not listed INVALID_OPCODE. A
packet that is not the next one changes nothing but rig time. The model's choices in it, not the spec's: log entries
7, 53. -/
def Obligations.ArrivalOfPackets : Prop :=
  ∀ (t q : Nat) (p : Packet) (s v : State) (c : Instr), v = (s.at_ t).handed q →
    (c, pk p 7 0) ∈ [(.read t q p, 0x01), (.write t q p, 0x02), (.flush t q p, 0x03), (.abort t q p, 0x04), (.job t q p, 0x05),
      (.dictRead t q p, 0x06), (.dictWrite t q p, 0x07), (.mount t q p, 0x08), (.unmount t q p, 0x09), (.furl t q p, 0x0A),
      (.createSq t q p, 0x10), (.deleteSq t q p, 0x11), (.createEq t q p, 0x12), (.deleteEq t q p, 0x13)] ∨
      (c = .unknownOpcode t q p ∧ opRow (pk p 7 0) = none) →
    ∀ tag seq, tag = pk p 31 16 → seq = pk p 63 32 →
    ((s.at_ t).nextPacket q p = false → exec c s = .next (s.at_ t)) ∧
    ((s.at_ t).nextPacket q p = true → (v.sq q).owner ≠ .nobody →
      (v.hasHolder = false → exec c s = .next { v with host := { v.host with heldPackets := v.host.heldPackets ++ [(q, p, v.epochOfSq q)] } }) ∧
      (v.hasHolder = true → ∀ d, d = (v.sq q).dups.find? (fun d => decide (d.tag = tag ∧ d.seq = seq)) →
        (∀ x, d = some x → exec c s = .next (v.duplicate q tag seq x)) ∧
        (d = none → v.tagInUse q tag = true →
          exec c s = .next ((v.count (okey 0x5420 4)).postCompletion none q tag seq 0x0006 0 false)) ∧
        (d = none → v.tagInUse q tag = false → ∀ cid b st, v.enter q p = (cid, b) → b.arrivalStatus (b.sq q) p = some st →
          exec c s = .next (b.complete cid st 0)) ∧
        (d = none → v.tagInUse q tag = false → opRow (pk p 7 0) = none → ∀ cid b, v.enter q p = (cid, b) →
          exec (.unknownOpcode t q p) s = .next (b.complete cid 0x0001 0))))

/-- For a packet admitted as command c: READ without an earlier write of its extent, refusal, missing relocation entries,
burning mast or scatter list asks for its sectors; WRITE that nothing refuses joins the writes and asks for its grant;
FLUSH closes the open record and waits for the accepted writes, or completes at once; ABORT of a tag no command holds
completes with its ABORT status, of another command with the reply of settling it, at once or when its last reads end;
JOB that its engine takes, under the same conditions, joins the engine's queue and waits for it. READ_HELD_RELEASE
begins a command once the mast that held it burns no more, or the write that held it is accepted, gone or no longer
held itself. The model's choices in it, not the spec's: log entries 53, 78. -/
def Obligations.DataCommandsTakeEffect : Prop :=
  ∀ (t q : Nat) (p : Packet) (s b : State) (c : Cmd), s.letIn t q p = some (c, b) →
    (c.opc = 0x01 → b.earlierWrite c = none → b.readRefused c = none → b.relocMissing (c.pf 68 64) (c.pf 191 128) = false →
      ((b.mast (c.pf 68 64)).st ≠ .writing ∨ b.needsDisc (c.pf 68 64) (c.pf 191 128) (c.pf 223 192) (c.pf 255 224) = false) →
      c.pkt.getLsbD 8 = false → exec (.read t q p) s = .next ((b.stage c.cid .reading).startReads c.cid)) ∧
    (c.opc = 0x02 → b.tableOf (c.pf 68 64) ≠ none → b.decodersHealthy ≠ 0 → b.writeRefused (c.pf 68 64) = none → ∀ w : Write,
      w = { serial := b.media.nextSerial, cid := c.cid, sq := c.sq, owner := c.owner, tag := c.tag, seq := c.seq, mast := c.pf 68 64,
            ext := c.pf 191 128, len := c.pf 223 192, str := c.pf 11 10, xpe := c.pkt.getLsbD 9, dur := c.pkt.getLsbD 8 } →
      exec (.write t q p) s = .next ((({ b with media := { b.media with writes := b.media.writes ++ [w], nextSerial := w.serial + 1 } }
        : State).stage c.cid (.write w.serial)).grant c.cid)) ∧
    (c.opc = 0x03 → ∀ a l, a = b.closeRec (c.pf 68 64) →
      l = (sortBy (fun x y => decide (x.order ≤ y.order)) (a.media.writes.filter (fun w => w.mast = c.pf 68 64 && w.accepted))).map (·.serial) →
      (l = [] → exec (.flush t q p) s = .next (a.complete c.cid 0 0)) ∧
      (l ≠ [] → exec (.flush t q p) s = .next (a.updCmd c.cid (fun x => { x with stage := .flush, covers := l })))) ∧
    (c.opc = 0x04 → (b.sq (c.pf 75 64)).owner = c.owner → ∀ f,
      f = b.host.cmds.find? (fun x => decide (x.sq = c.pf 75 64 ∧ x.tag = c.pf 95 80 ∧ x.orphan = false ∧ x.owner = c.owner)) →
      (f = none → exec (.abort t q p) s = .next (b.complete c.cid (if b.completionWaits (c.pf 75 64) (c.pf 95 80) then 0x0043 else 0x0044) 0)) ∧
      (∀ x, f = some x → x.cid = c.cid → exec (.abort t q p) s = .next (b.complete c.cid 0x0043 0)) ∧
      (∀ x r, f = some x → x.cid ≠ c.cid → r = b.settle x.cid →
        (r.2 ≠ 0x0043 → (r.1.cmd x.cid).isSome = true →
          exec (.abort t q p) s = .next (r.1.updCmd c.cid (fun y => { y with stage := .settling [x.cid] r.2 }))) ∧
        (r.2 = 0x0043 ∨ (r.1.cmd x.cid).isSome = false → exec (.abort t q p) s = .next (r.1.complete c.cid r.2 0)))) ∧
    (c.opc = 0x05 → b.jobRefused c = none → ∀ a, a = b.joinEngine c → a.earlierWrite c = none → a.readRefused c = none →
      a.relocMissing (c.pf 68 64) (c.pf 191 128) = false → c.pkt.getLsbD 8 = false → exec (.job t q p) s = .next (a.stage c.cid .job)) ∧
    (∀ cid x, (s.at_ t).cmd cid = some x → x.stage = .heldWriting → ((s.at_ t).mast (x.pf 68 64)).st ≠ .writing →
      exec (.readHeldRelease t cid) s = .next ((s.at_ t).start cid)) ∧
    (∀ cid x n, (s.at_ t).cmd cid = some x → x.stage = .heldQueueWrite n → ((s.at_ t).write n).all (·.accepted) = true →
      exec (.readHeldRelease t cid) s = .next ((s.at_ t).start cid)) ∧
    (∀ cid x n, (s.at_ t).cmd cid = some x → x.stage = .heldBehind n →
      (∀ y, (s.at_ t).cmd n = some y → y.stage ≠ .heldFurl ∧ y.stage ≠ .heldMap) →
      exec (.readHeldRelease t cid) s = .next ((s.at_ t).start cid))

/-- For a packet admitted as command c. DICT_READ: a value that the path may read and that fits the space of DLEN
completes with SUCCESS, in RESULT when DLEN is at most 8, else written to the buffer as data first; a refused one is
counted and completes with the refusal's status. DICT_WRITE: a value of at most 8 bytes is applied, and completes
SUCCESS or with the refusal's status; a save's outcome is awaited; a longer value of a function's command is first
read from its buffer. -/
def Obligations.DictionaryCommandsTakeEffect : Prop :=
  ∀ (t q : Nat) (p : Packet) (s b : State) (c : Cmd) (ix sub len : Nat), s.letIn t q p = some (c, b) → ix = c.pf 79 64 → sub = c.pf 87 80 →
    len = c.pf 127 96 →
    (c.opc = 0x06 →
      (∀ e, b.readObj c.owner.path ix sub c.ca = .error e → exec (.dictRead t q p) s = .next ((b.countRefused e).complete c.cid e.status 0)) ∧
      (∀ d, b.readObj c.owner.path ix sub c.ca = .ok d →
        (∀ e, intoSpace ix sub c.ca len d = .error e → exec (.dictRead t q p) s = .next ((b.countRefused e).complete c.cid e.status 0)) ∧
        (∀ v, intoSpace ix sub c.ca len d = .ok v →
          (len ≤ 8 → exec (.dictRead t q p) s = .next (b.complete c.cid 0 (leNat v))) ∧
          (∀ f, 8 < len → c.owner = .fn f → exec (.dictRead t q p) s = .next
            (((b.tlp f.ep (.write f (c.pf 255 192) v)).updCmd c.cid (fun x => { x with written := [(c.pf 255 192, len)] })).finishData
              c.cid 0))))) ∧
    (c.opc = 0x07 →
      (len ≤ 8 → ∀ r, r = b.writeObj c.owner.path { waiters := [.cmd c.cid] } ix sub c.ca (leBytes len (c.pf 191 128)) →
        exec (.dictWrite t q p) s = .next (match r.2 with
          | some e => r.1.complete c.cid e.status 0
          | none => if ix = 0x1010 then r.1.stage c.cid .action else r.1.complete c.cid 0 0)) ∧
      (∀ f, 8 < len → c.owner = .fn f →
        exec (.dictWrite t q p) s = .next ((b.stage c.cid .dictBuffer).needRead f (c.pf 255 192) len (.dictData c.cid))))

/-- For a packet admitted as command c naming mast m. MOUNT on a mast with a table completes UNIT_BUSY; of a table that is
not valid INVALID_FIELD; without a held disc identity and lease LEASE_LOST; else the table's values are set, what they
and the acquisition replace is kept, every sail loads its start set again, and the command waits for the log. UNMOUNT
with its force flag fails what is pending and takes the disc away, without it UNIT_BUSY while a command, a write or a
completion that waits names the mast. FURL furls the mast and completes when it is present. The model's choices in it,
not the spec's: log entries 30, 98, 107. -/
def Obligations.MastCommandsTakeEffect : Prop :=
  ∀ (t q : Nat) (p : Packet) (s b : State) (c : Cmd) (m : Nat), s.letIn t q p = some (c, b) → m = c.pf 68 64 →
    (c.opc = 0x08 → ∀ n, n = c.pf 75 72 →
      (b.tableOf m ≠ none → exec (.mount t q p) s = .next (b.complete c.cid 0x0005 0)) ∧
      (b.tableOf m = none → b.objN (tkey n 0 1) = 0 ∨ b.tableOk n = false → exec (.mount t q p) s = .next (b.complete c.cid 0x0002 0)) ∧
      (b.tableOf m = none → b.objN (tkey n 0 1) ≠ 0 → b.tableOk n = true →
        (b.moN m 0x56 2 = 0 ∨ b.moN m 0x56 1 = 0 ∨ b.moN m 0x56 3 = 2 → exec (.mount t q p) s = .next (b.complete c.cid 0x0022 0)) ∧
        (b.moN m 0x56 2 ≠ 0 → b.moN m 0x56 1 ≠ 0 → b.moN m 0x56 3 ≠ 2 → ∀ l, l = b.mountValues m n → exec (.mount t q p) s = .next
          ((forEach l (fun v a => a.setObj v.1 v.2) (b.updMast m (fun x => { x with
            mountSaved := (l.map (·.1) ++ acquisitionKeys m).map (fun k => (k, b.obj k))
            sails := x.sails.map (fun v => (v.1, { v.2 with reload := true })) }))).stage c.cid .mounting)))) ∧
    (c.opc = 0x09 →
      (c.pkt.getLsbD 8 = true → exec (.unmount t q p) s = .next (((((((b.failPending m 0x0017).endReads m 0x0017).failUnaccepted m
        0x0017).mountFails m 0x0017).unmounted m)).complete c.cid 0 0)) ∧
      (c.pkt.getLsbD 8 = false → (∃ x ∈ b.host.cmds, x.mast = some m ∧ x.cid ≠ c.cid) ∨ (∃ w ∈ b.media.writes, w.mast = m) ∨
          (∃ e ∈ b.host.eqs, ∃ r ∈ e.2.waiting, r.mast = some m) →
        exec (.unmount t q p) s = .next (b.complete c.cid 0x0005 0)) ∧
      (c.pkt.getLsbD 8 = false → (∀ x ∈ b.host.cmds, x.mast = some m → x.cid = c.cid) → (∀ w ∈ b.media.writes, w.mast ≠ m) →
        (∀ e ∈ b.host.eqs, ∀ r ∈ e.2.waiting, r.mast ≠ some m) →
        exec (.unmount t q p) s = .next ((b.unmounted m).complete c.cid 0 0))) ∧
    (c.opc = 0x0A → ∀ f, f = b.furlMast m → exec (.furl t q p) s = .next (if (f.mast m).st = .furling then f.stage c.cid .furling
      else f.complete c.cid 0 0))

/-- For a packet admitted as a command of function f. CREATE_SQ whose EQ is the function's, within the function's limit
and with a number free, makes that SQ with the packet's base, size and EQ, and completes with its number. CREATE_EQ
whose vector exists, without SUBS on a virtual function, within the limit and with a number free, makes that EQ and
completes with its number. DELETE_SQ and DELETE_EQ of the owner's queues above the admin ones delete them, an EQ only
when no SQ is bound to it, an SQ once no read of its stopped commands is awaited, and complete SUCCESS. Each other
case completes with the status the spec names. The model's choices in it, not the spec's: log entry 53. -/
def Obligations.QueueCommandsTakeEffect : Prop :=
  ∀ (t q : Nat) (p : Packet) (s b : State) (c : Cmd) (f : Fn), s.letIn t q p = some (c, b) → c.owner = .fn f →
    (c.opc = 0x10 → ∀ e, e = c.pf 155 144 →
      ((b.eq e).owner ≠ .fn f → exec (.createSq t q p) s = .next (b.complete c.cid 0x0002 0)) ∧
      ((b.eq e).owner = .fn f → b.queueLimit f ≤ (b.sqsOf (.fn f)).length ∨ b.freeSq = none →
        exec (.createSq t q p) s = .next (b.complete c.cid 0x0007 0)) ∧
      (∀ n, (b.eq e).owner = .fn f → (b.sqsOf (.fn f)).length < b.queueLimit f → b.freeSq = some n →
        exec (.createSq t q p) s = .next
          ((b.setSq n { owner := .fn f, base := c.pf 127 64, log := c.pf 131 128, eq := e }).showQueues.complete c.cid 0 n))) ∧
    (c.opc = 0x12 →
      (vecCount f ≤ c.pf 154 144 → exec (.createEq t q p) s = .next (b.complete c.cid 0x0002 0)) ∧
      (c.pf 154 144 < vecCount f → f.fn ≠ 0 → c.pf 207 192 ≠ 0 → exec (.createEq t q p) s = .next (b.complete c.cid 0x0003 0)) ∧
      (c.pf 154 144 < vecCount f → f.fn = 0 ∨ c.pf 207 192 = 0 →
        (b.queueLimit f ≤ (b.eqsOf (.fn f)).length ∨ b.freeEq = none → exec (.createEq t q p) s = .next (b.complete c.cid 0x0007 0)) ∧
        (∀ n, (b.eqsOf (.fn f)).length < b.queueLimit f → b.freeEq = some n → ∀ x : EQ,
          x = { owner := .fn f, base := c.pf 127 64, log := c.pf 131 128, vec := c.pf 154 144, icnt := c.pf 167 160,
                itime := c.pf 191 176, subs := c.pf 207 192 } →
          exec (.createEq t q p) s = .next ((b.setEq n x).showQueues.complete c.cid 0 n)))) ∧
    (c.opc = 0x11 → ∀ n, n = c.pf 75 64 →
      (n < firstQueue ∨ (b.sq n).owner ≠ .fn f → exec (.deleteSq t q p) s = .next (b.complete c.cid 0x0002 0)) ∧
      (firstQueue ≤ n → (b.sq n).owner = .fn f → ∀ u, u = b.stopSq n →
        (u.flushingOf n = [] → exec (.deleteSq t q p) s = .next (((u.setSq n {}).showQueues).complete c.cid 0 0)) ∧
        (u.flushingOf n ≠ [] → exec (.deleteSq t q p) s =
          .next (u.updCmd c.cid (fun x => { x with stage := .settling (u.flushingOf n) 0 }))))) ∧
    (c.opc = 0x13 → ∀ n, n = c.pf 75 64 →
      (n < firstQueue ∨ (b.eq n).owner ≠ .fn f → exec (.deleteEq t q p) s = .next (b.complete c.cid 0x0002 0)) ∧
      (firstQueue ≤ n → (b.eq n).owner = .fn f →
        ((∃ x ∈ b.host.sqs, x.2.owner ≠ .nobody ∧ x.2.eq = n) → exec (.deleteEq t q p) s = .next (b.complete c.cid 0x0005 0)) ∧
        ((∀ x ∈ b.host.sqs, x.2.owner ≠ .nobody → x.2.eq ≠ n) →
          exec (.deleteEq t q p) s = .next ((b.setEq n {}).showQueues.complete c.cid 0 0))))

/-- While the function answers: a 32-bit tail doorbell of its own SQ below the ring's size sets the tail and fetches; a
32-bit head doorbell of its own EQ that consumes at most what the EQ holds sets the head, writes what waits into the
free slots and goes on fetching; one that would consume more is counted in 5420:02, any other ignored one in 5420:01,
each with a CONDITION event of code 0001. The moderation time of an EQ with unsignalled records past, it is signalled.
A vector unmasked with its pending bit set sends its message and clears the bit; the event queues that asked for it
have nothing unsignalled left. -/
def Obligations.DoorbellsModerationAndUnmask : Prop :=
  ∀ (t : Nat) (f : Fn) (s v : State), v = s.at_ t → v.fnThere f = true →
    (∀ q y, q < 4096 → (v.sq q).owner = .fn f → y < 2 ^ (v.sq q).log →
      exec (.sqTailDoorbell t f q y 32) s = .next ((v.setSq q { v.sq q with tail := y }).fetchSq q)) ∧
    (∀ q y width, width ≠ 32 ∨ 4096 ≤ q ∨ (v.sq q).owner ≠ .fn f ∨ 2 ^ (v.sq q).log ≤ y →
      exec (.sqTailDoorbell t f q y width) s =
        .next ((v.count (okey 0x5420 1)).conditionTo (.fn f) 0x0001 4 q (0x10000 + 8 * q))) ∧
    (∀ e y x, x = v.eq e → e < 4096 → x.owner = .fn f → y < x.size →
      ((y + x.size - x.head) % x.size ≤ x.used → exec (.eqHeadDoorbell t f e y 32) s =
        .next (((v.setEq e { x with head := y }).drainEq e (x.waiting.length + 1)).fetchBound e)) ∧
      (x.used < (y + x.size - x.head) % x.size → exec (.eqHeadDoorbell t f e y 32) s =
        .next ((v.count (okey 0x5420 2)).conditionTo (.fn f) 0x0001 4 e (0x18000 + 8 * e)))) ∧
    (∀ e y width, width ≠ 32 ∨ 4096 ≤ e ∨ (v.eq e).owner ≠ .fn f ∨ (v.eq e).size ≤ y →
      exec (.eqHeadDoorbell t f e y width) s =
        .next ((v.count (okey 0x5420 1)).conditionTo (.fn f) 0x0001 4 e (0x18000 + 8 * e))) ∧
    (∀ e, 0 < (v.eq e).unsig → (v.eq e).unsigAt + 100 * (v.eq e).itime ≤ v.now →
      exec (.eqModerationExpiry t e) s = .next (v.signal e)) ∧
    (∀ vec r x, vec < vecCount f → r = v.fnr f → x = tblGet (fun _ => ({} : MsixEntry)) r.msix vec → ∀ u : State,
      u = v.setFnr f { r with msix := tblPut (fun _ => ({} : MsixEntry)) vec { x with masked := false, pend := false } r.msix } →
      exec (.msixVectorUnmask t f vec) s = .next (if x.masked = true ∧ x.pend = true then
        (forEach (u.host.eqs.filter (fun p => decide (p.2.owner = .fn f ∧ p.2.vec = vec) && p.2.asked)) (fun p a =>
          a.setEq p.1 { p.2 with asked := false, unsig := 0, unsigAt := 0 }) u).tlp f.ep (.msix f x.addr x.data) else u))

/-- STAGING_GRANT for its mast's first waiting write, placed in a window with staging free: it becomes granted with pages,
GID, offset, granule count and time, and its XFER_READY record is written. GRANT_TIMEOUT from the grant's time plus
2280:03 on: counted in 5420:05, the write fails with 0031; before, or with every granule there, nothing.
APERTURE_WRITE, after time-outs due: inside an open grant of a KIND 0 window its data are laid into the grant; onto an
idle engine's KIND 1 window they are written there; while a segment runs counted in 5426:02 and then unmatched;
without grant, place or window unmatched; poisoned an AER error. APERTURE_READ of an engine window: its bytes, or a
completer abort when a granule of it fails at both reads; of anything else, or before the fill, Unsupported Request.
WINDOW_COMMIT of 1: an inadmissible shadow set is refused and noted; an admissible one comes into force and each grant
in no KIND 0 window that stayed fails with 0024; of 0 nothing, of another value it is counted and a CONDITION. While
the function is not there, the three accesses change only rig time. What a read gives wrongly is the row's operand
(log entry 22). -/
def Obligations.GrantsAndPeerWindows : Prop :=
  ∀ (t : Nat) (s v : State), v = s.at_ t →
    (∀ cid w g, v.media.writes.find? (fun x => decide (x.cid = cid ∧ x.phase = .waiting)) = some w →
      (v.media.writes.find? (fun x => decide (x.mast = w.mast ∧ x.phase = .waiting))).map (·.serial) = some w.serial →
      v.grantPlace w = some g → v.stagingFree w = true → ∀ ch u, v.takePages (totalSlots w.len w.xpe) = (ch, u) → ∀ w' : Write,
      w' = { w with phase := .granted, gid := u.media.nextGid, goff := g, ngr := granulesOf w.len, got := [], grantAt := v.now, chans := ch } →
      ∀ md : MediaState, md = { u.media with staged := u.media.staged + totalSlots w.len w.xpe, nextGid := (u.media.nextGid + 1) % 65536 } →
      exec (.stagingGrant t cid) s =
        .next (((({ u with media := md } : State).showFree).updWrite w.serial (fun _ => w')).writeEvent w' 0x02 0 g w'.ngr u.media.nextGid)) ∧
    (∀ cid w, v.media.writes.find? (fun x => decide (x.cid = cid ∧ x.phase = .granted)) = some w →
      (w.got.length < w.ngr → w.grantAt + ms (v.objN (okey 0x2280 3)) ≤ v.now →
        exec (.grantTimeout t cid) s = .next ((v.count (okey 0x5420 5)).failOne 0x0031 w)) ∧
      (v.now < w.grantAt + ms (v.objN (okey 0x2280 3)) ∨ w.ngr ≤ w.got.length → exec (.grantTimeout t cid) s = .next v)) ∧
    (∀ f, v.fnThere f = true → ∀ x, x = v.grantsExpire →
      (∀ off data rid,
        (∀ w, (x.fnr f).match_ f off data.length rid = some w →
          (w.kind = 0 →
            (∀ g, x.grantAt (.fn f) off data.length = some g →
              exec (.apertureWrite t f off data rid false) s = .next (x.granules_ g off data)) ∧
            (x.grantAt (.fn f) off data.length = none →
              exec (.apertureWrite t f off data rid false) s = .next (x.unmatched f off data.length rid))) ∧
          (w.kind = 1 →
            (∀ a, x.windowPlace f w off data.length = some a →
              ((x.engine w.eng).seg = none → exec (.apertureWrite t f off data rid false) s =
                .next (x.writeWindow w.eng a data)) ∧
              ((x.engine w.eng).seg ≠ none →
                exec (.apertureWrite t f off data rid false) s = .next ((x.count (okey 0x5426 2)).unmatched f off data.length rid))) ∧
            (x.windowPlace f w off data.length = none →
              exec (.apertureWrite t f off data rid false) s = .next (x.unmatched f off data.length rid)))) ∧
        ((x.fnr f).match_ f off data.length rid = none →
          exec (.apertureWrite t f off data rid false) s = .next (x.unmatched f off data.length rid)) ∧
        exec (.apertureWrite t f off data rid true) s = .next (v.aerError f 1 (some (rid, off, data.length))))) ∧
    (∀ f, v.fnThere f = true → ∀ off len rid flips,
      (v.boot.filling = false → ∀ w a, (v.fnr f).match_ f off len rid = some w → w.kind ≠ 0 → v.windowPlace f w off len = some a → ∀ gs u,
        gs = ((List.range ((a + len - 1) / 32 + 1 - a / 32)).map (fun i => v.windowGranule w.eng (32 * (a / 32 + i)))).zipIdx →
        u = forEach gs (fun g b => b.memoryRead g.1.1 g.1.2 (flips.drop (3 * g.2))) v →
        ((∀ g ∈ gs, v.granuleFails g.1.1 g.1.2 (flips.drop (3 * g.2)) = false) → exec (.apertureRead t f off len rid flips) s =
          .next (u.tlp f.ep (.cplData f (bytesAt (v.engine w.eng).window a len)))) ∧
        ((∃ g ∈ gs, v.granuleFails g.1.1 g.1.2 (flips.drop (3 * g.2)) = true) → exec (.apertureRead t f off len rid flips) s =
          .next (u.tlp f.ep (.cplCA f)))) ∧
      (v.boot.filling = true ∨ (∀ w, (v.fnr f).match_ f off len rid = some w → w.kind = 0 ∨ v.windowPlace f w off len = none) →
        exec (.apertureRead t f off len rid flips) s = .next (v.tlp f.ep (.cplUR f)))) ∧
    (∀ f, v.fnThere f = true →
      (v.shadowOk f = false → ∀ r : FnRegs, r = { v.fnr f with wstsFail := true } →
        exec (.windowCommit t f 1) s = .next ((v.setFnr f r).condition 0x0004 4 (aqn f) f.fn)) ∧
      (v.shadowOk f = true → ∀ r : FnRegs,
        r = { v.fnr f with force := (v.fnr f).shadow, wstsFail := false, wstsCount := ((v.fnr f).wstsCount + 1) % 256 } → ∀ gone,
        gone = (v.grants (.fn f)).filter (fun g => !(((v.fnr f).windows f).any (fun p =>
          decide (p.2.kind = 0 ∧ p.2.base ≤ g.goff ∧ g.goff + 64 * g.ngr ≤ p.2.base + p.2.size) &&
          decide ((v.fnr f).shadowAt f p.1 = p.2)))) →
        exec (.windowCommit t f 1) s = .next (forEach gone (fun g a => a.failOne 0x0024 g) (v.setFnr f r))) ∧
      exec (.windowCommit t f 0) s = .next v ∧
      (∀ y, 2 ≤ y → exec (.windowCommit t f y) s =
        .next ((v.count (epCounter f.ep 1)).conditionTo (.fn f) 0x0003 4 (aqn f) 0x600))) ∧
    (∀ f, v.fnThere f = false → ∀ off data len rid flips b y, exec (.apertureWrite t f off data rid b) s = .next v ∧
      exec (.apertureRead t f off len rid flips) s = .next v ∧ exec (.windowCommit t f y) s = .next v)

/-- Every codeword of a mast below 32 is noted as signal. On an inbound lane that takes part in a training or up link: a
locked lane's idle frame that decodes with its CRC adds its corrected symbols and clears the run of bad frames; a
codeword that does not decode is counted, and the eighth in a row of an up link brings the lane down; a TXEQ setting
judged while equalising is counted off and kept if its eye margin is the best yet. A used sample frame of lanes 0 to 5
from TSET on gives its samples to the lane's sails, one of lane 0 ending the lane-6 mapping; a sample-and-telemetry
frame of lane 6, or of lane 0 under the mapping, also brings the newest set; an identity frame in training before TSET
gives the identity words. A strobe takes the newest set: one whose TSN is not the strobe's is used as stale and
counted; one in training is counted into the wrapping counts and judged by RIMG. The model's choices in it, not the
spec's: log entries 37, 39, 40, 141. -/
def Obligations.MastLinkFramesArrive : Prop :=
  ∀ (t m lane : Nat) (f : RxFrame) (s v h : State), v = s.at_ t → m < 32 → h = v.heard m →
    (∀ n x, lane < 7 → 2 ≤ h.linkSt m → h.laneIn m lane = true → n = unscramble lane f.bits → f.decoded = true →
      frameCrcOk n = true → n % 16 = 14 → x = (h.countN (ckey m 0 (lane + 1)) f.corrected).lane m lane → x.locked = true →
      exec (.inboundIdleFrame t m lane ⟨f, none⟩) s =
        .next ((h.countN (ckey m 0 (lane + 1)) f.corrected).setLane m lane { x with bad := 0 })) ∧
    (∀ x b, lane < 7 → h.linkSt m = 6 → h.laneIn m lane = true → f.decoded = false → b = h.countM m 1 (lane + 1) →
      x = b.lane m lane → x.locked = true →
      (x.bad + 1 < 8 → exec (.inboundIdleFrame t m lane ⟨f, none⟩) s = .next (b.setLane m lane { x with bad := x.bad + 1 })) ∧
      (8 ≤ x.bad + 1 → b.linkSt m = 6 → exec (.inboundIdleFrame t m lane ⟨f, none⟩) s = .next (b.laneGoesDown m lane))) ∧
    (∀ u x setting margin, u = (v.rxFrame m lane f).1 → x = u.lane m lane → u.linkSt m = 3 → lane < 7 → u.laneIn m lane = true →
      x.locked = true → x.trial < 81 → setting = txeqCode x.trial → exec (.inboundIdleFrame t m lane ⟨f, some (setting, margin)⟩) s =
        .next (u.setLane m lane { x with
          trial := x.trial + 1
          best := if x.best.all (fun b => decide (b.1 < margin)) = true then some (margin, setting) else x.best })) ∧
    (∀ u n, v.rxFrame m lane f = (u, some n) → n % 16 = 1 → lane < 6 → 5 ≤ u.linkSt m →
      exec (.sampleFrame t m lane f) s =
        .next ((if lane = 0 then u.setMapped m false else u).takeSamples m n (sailsOfLane lane) 50)) ∧
    (∀ u n, v.rxFrame m lane f = (u, some n) → n % 16 = 2 → lane = 0 ∨ (lane = 6 ∧ u.moN m 8 6 = 0) → 5 ≤ u.linkSt m → ∀ set,
      set = (List.range 39).map (fun w => fld n (3139 + 16 * w) (3124 + 16 * w)) →
      exec (.sampleTelemetryFrame t m lane f) s =
        .next (((u.setMapped m (decide (lane = 0))).updLink m (fun y => { y with newest := set })).takeSamples m n (sailsOfLane 6) 30)) ∧
    (∀ tick u n, (v.atTick m tick).rxFrame m lane f = (u, some n) → n % 16 = 3 → lane = u.telemetryLane m → u.linkSt m = 4 →
      (u.link m).tset = 0 → exec (.identityFrame t m lane f tick) s = .next (u.takeIdentity m n tick)) ∧
    (∀ tick a new, a = (v.atStrobe m tick 400).trainingTimeout m → new = (a.link m).newest → 5 ≤ a.linkSt m → new ≠ [] →
      (new.getD 0 0 ≠ tick / 400 % 65536 → exec (.telemetryTake t m tick) s =
        .next (((a.updLink m (fun y => { y with tel := new, stale := true })).countM m 3 2).traceEvent m 3)) ∧
      (new.getD 0 0 = tick / 400 % 65536 → ∀ b, b = (a.updLink m (fun y => { y with tel := new, stale := false })).wrapCounts m →
        b.linkSt m = 5 → exec (.telemetryTake t m tick) s = .next (b.rimgCheck m)))

/-- In link state 5 or 6 a command frame leaves at its tick on every outbound lane that is not retired: the clock of the
frame, the register slots, one SEQ, each lane its own write blocks; while up, bits too late are dropped and those sent
leave the streams. In training from t0 + 1 ms an idle frame leaves with T_SEND, D, IDREQ, TSET and its register slots;
the last TSET frame brings state 5. Signal on an absent or faulted mast without a link starts training at t0, as
TRAINING_RETRY does after a failed one, once PRBS13Q lasted 10 ms (10 s for a faulted mast). From t0 + 40 ms on lanes
without lock have failed, LMAP = 1 when lane 6 is one, and identity is requested. A link not up by t0 + M+0A:03 is
counted, goes back to PRBS13Q, and the third in a row makes the mast faulted. The model's choices in it, not the
spec's: log entries 14, 43, 138, 140. -/
def Obligations.MastLinkSendsAndTrains : Prop :=
  ∀ (t m : Nat) (s v : State), v = s.at_ t → m < 32 →
    (∀ tick a sfw spf b slots c x d e, a = v.atTick m tick → 5 ≤ a.linkSt m → a.frameClock m tick = (sfw, spf, b) →
      b.regSlots m = (slots, c) → x = (c.opt m).clockAt tick →
      d = (if c.linkSt m = 6 then c.lateBits m ((x.indexAt (tick + 32) + 256) % 2 ^ 32) else c) → ∀ w,
      w = (fun l => d.writeBlocks m (d.slotsOfLane m l) ((x.indexAt tick + 1024) % 2 ^ 32)) →
      e = d.sendFrames m (c.commandBody m tick sfw spf slots) (fun l => blockBits (if l = 0 then w 0 else w 1)) →
      exec (.commandFrameSend t m tick) s =
        .next (if e.linkSt m = 6 then e.sentBlocks m (x.indexAt tick) (w 0 ++ w 1) else e)) ∧
    (∀ tick a t0 slots b c, a = v.atTick m tick → (a.link m).t0 = some t0 → t0 + ms 1 ≤ a.now → 2 ≤ a.linkSt m → a.linkSt m < 5 →
      a.regSlots m = (slots, b) →
      c = b.sendFrames m (b.idleBody m tick (a.link m).idreq (decide (0 < (a.link m).tset)) slots) (fun _ => 0) →
      ((a.link m).tset = 0 → exec (.outboundIdleFrameSend t m tick) s = .next c) ∧
      ((a.link m).tset = 1 → exec (.outboundIdleFrameSend t m tick) s = .next ((c.updLink m (fun y => { y with tset := 0 })).setLinkSt m 5)) ∧
      (1 < (a.link m).tset → exec (.outboundIdleFrameSend t m tick) s =
        .next (c.updLink m (fun y => { y with tset := (a.link m).tset - 1 })))) ∧
    (∀ start : State → State, (∀ a, start a = ((((a.updLink m (fun y => { y with
        t0 := some a.now, prbsAt := none, lanes := [], outBad0 := 0, outBad1 := 0, outDown0 := false, outDown1 := false, newest := [],
        tel := [], wraps := [], rimgBad := 0, image := [], rotate := 0, fclr := 0, idreq := false, tset := 0, rise0 := 0, rise1 := 0,
        lmapped := false })).setMo m 8 6 0).setMo m 8 7 0).setLinkSt m 2).showLanes m) →
      (∀ h, h = v.heard m → (h.mast m).st = .absent ∨ (h.mast m).st = .faulted → h.linkSt m < 2 → h.retryDue m = true →
        exec (.mastLinkSignalDetect t m) s = .next (start h)) ∧
      ((v.mast m).st ≠ .retired → v.linkSt m = 1 → (∃ p, (v.link m).prbsAt = some p ∧
        p + (if 3 ≤ (v.link m).fails then sec 10 else ms 10) ≤ v.now) → exec (.trainingRetry t m) s = .next (start v))) ∧
    (∀ t0, (v.link m).t0 = some t0 → t0 + ms 40 ≤ v.now → 2 ≤ v.linkSt m → v.linkSt m < 4 → ∀ b u,
      u = forEach ((List.range 7).filter (fun l => v.laneIn m l && !(v.lane m l).locked)) (fun l a =>
        a.setLane m l { a.lane m l with failed := true }) v →
      b = (!(v.lane m 6).locked || !v.laneIn m 6) → exec (.trainingEqualisationEnd t m) s =
        .next (((if b = true then u.setMo m 8 6 1 else u).updLink m (fun y => { y with idreq := true })).setLinkSt m 4)) ∧
    (∀ t0, (v.link m).t0 = some t0 → t0 + ms (v.moN m 0x0A 3) ≤ v.now → 2 ≤ v.linkSt m → v.linkSt m ≠ 6 → ∀ a u,
      a = ((v.countM m 3 4).updLink m (fun y => { y with fails := y.fails + 1 })).setLinkSt m 1 →
      u = (((a.updLink m (fun y => { y with t0 := none, prbsAt := some a.now, lanes := [] })).showLanes m).emit (.prbs (32 + m))) →
      exec (.trainingTimeout t m) s = .next (if (u.link m).fails ≥ 3 then u.faultMast m else u))

/-- On an up link a lane that takes part going down loses its lock; an inbound one's sails bring no more, lane 6 brings
LMAP = 1, an outbound one is marked down; the healthy lanes show it and the lane counts one failure, at which it may
be retired and leave the link. A down lane re-acquired in time is locked and clean; not back after 2 ms it is retired.
With lane 6 clean for 1 s LMAP clears, or lane 6 is retired if its failures within W reached N. With every inbound
lane down for 10 us the link is lost: the mast faulted, its sails' reads wanted again, its outputs safe, PRBS13Q sent.
A mast without a link and without signal for 100 ms is absent and, if it was training, sent PRBS13Q. The model's
choices in it, not the spec's: log entries 36, 41, 163. -/
def Obligations.MastLinkLanesFailAndReturn : Prop :=
  ∀ (t m lane : Nat) (s v : State), v = s.at_ t → m < 32 → lane < 7 ∨ lane = 8 ∨ lane = 9 →
    (v.linkUp m = true → v.laneIn m lane = true → (v.lane m lane).downAt = none → ∀ y u w : State,
      y = v.setLane m lane { v.lane m lane with locked := false, run := 0, bad := 0, downAt := some v.now } →
      u = (if lane = 8 then y.updLink m (fun z => { z with outDown0 := true })
        else if lane = 9 then y.updLink m (fun z => { z with outDown1 := true })
        else if lane = 6 then (y.stopSails m (y.sailsCarried m lane)).setMo m 8 6 1 else y.stopSails m (y.sailsCarried m lane)) →
      w = (u.showLanes m).failLane m lane →
      exec (.laneDown t m lane) s = .next (if w.laneRetired m lane = true then w.laneGone m lane else w)) ∧
    (∀ a x y, a = (v.linkLostTimeout m).laneNotBack m lane → x = a.lane m lane → x.downAt ≠ none → a.laneRetired m lane = false →
      y = a.setLane m lane { x with locked := true, run := 0, bad := 0, downAt := none, upAt := a.now } →
      exec (.laneReacquired t m lane) s = .next ((if lane < 8 then y else y.updLink m (fun z =>
        if lane = 8 then { z with outDown0 := false, outBad0 := 0 } else { z with outDown1 := false, outBad1 := 0 })).showLanes m)) ∧
    (∀ d, (v.lane m lane).downAt = some d → d + ms 2 ≤ v.now → v.laneRetired m lane = false →
      exec (.laneReacquireTimeout t m lane) s = .next ((v.retireLane m lane).laneGone m lane)) ∧
    (v.moN m 8 6 ≠ 0 → (v.lane m 6).locked = true → v.laneRetired m 6 = false → (v.lane m 6).upAt + sec 1 ≤ v.now → ∀ n,
      n = ((tblGet (fun _ => []) v.avail.fails (failKey .lane m 6)).filter (fun y => decide (v.now < y + ms (v.moN m 0x0A 2)))).length →
      exec (.lmapClear t m) s =
        .next (if n < v.moN m 0x0A 1 then v.setMo m 8 6 0 else (v.retireLane m 6).laneGone m 6)) ∧
    (v.linkUp m = true → (∀ l, l < 7 → v.laneIn m l = true → ∃ d, (v.lane m l).downAt = some d ∧ d + us 10 ≤ v.now) →
      exec (.mastLinkLostTimeout t m) s = .next ((((((((v.faultMast m).dropSails m).setLinkSt m 1).yardSafe m).setMo m 0x20 1 0).updLink
        m (fun y => { y with prbsAt := none, lanes := [] })).showLanes m).emit (.prbs (32 + m)))) ∧
    ((v.mast m).st ≠ .retired → (v.mast m).st ≠ .absent → v.linkSt m ≠ 6 → (v.link m).lastSig + ms 100 ≤ v.now → ∀ u,
      u = (v.setMastState m .absent).updLink m (fun y =>
        { y with lanes := [], t0 := none, prbsAt := none, newest := [], tel := [], fails := 0 }) →
      ∀ w, w = (u.setLinkSt m 1).showLanes m → exec (.mastAbsentTimeout t m) s = .next (if v.linkSt m = 1 then w else w.emit (.prbs (32 + m))))

/-- At a strobe (a tick divisible by 400) of an up mast the outputs are held to T + 384 and the blocks scheduled for it
run in ascending order: focus and tracking every 4th, brace and halyard each 16th at 1, the spindle every 40th with
its speed loop every 400th, then a seek's change of speed and progress and a calibration's arming. A chopper commanded
on for TCH fails. A yard command of an older generation is counted in 5431:05, one of a loop that an order drives is
held, any other sets its target, feed-forward, sled target or closes the gate. In closed loop, V1 active, a
clock-track run at a strobe with fewer than 8 of 16 marks passing is a flywheel run: counted, the gate closed; the
others, unless a jump or seek holds the clock track, set F from block 13. An address unit that reads sets track and
chi0, another is counted. A finished candidate is followed by the next or the outcome. The model's choices in it, not
the spec's: log entries 14, 16, 18, 139, 140, 143, 164. -/
def Obligations.LoopsEvaluateAndTheClockTrackRuns : Prop :=
  ∀ (t m : Nat) (s v : State), v = s.at_ t → m < 32 →
    (∀ T k z a b c d, z = v.atStrobe m T 400 → z.linkUp m = true → T % 400 = 0 → k = T / 400 % 1600 →
      a = (((z.updMast m (fun x => { x with outHeld := some (T + 384, z.outNow m) })).furlOpen m T).startQueued m) →
      b = (if k % 4 = 0 then (a.evalFocus m T).evalTracking m T else a) → c = (if k % 16 = 1 then (b.evalBrace m T).evalHalyard m T else b) →
      d = (if k % 40 = 0 then c.evalSpindle m T (decide (k % 400 = 0)) else c) →
      exec (.loopEvaluation t m T) s = .next (((d.seekSlows m).seekProgress m T (d.seekFree m)).calArm m T)) ∧
    (∀ a, (v.drive m).chpHigh = some a → a + v.moN m 0x39 8 * 640000 ≤ v.tickNow m → (v.drive m).chp ≠ 0 → v.moN m 0x38 8 ≠ 1 →
      exec (.chopperOnTimeout t m) s = .next ((((v.setMo m 0x38 8 1).countM m 6 2).condition 0x000B 3 m m).requestSave [])) ∧
    (∀ g c d, d = ((v.servo m).gen + 2 ^ 32 - g % 2 ^ 32) % 2 ^ 32 →
      (1 ≤ d → d < 2 ^ 31 → exec (.yardCommand t m g c) s = .next (v.count (okey 0x5431 5))) ∧
      (d = 0 ∨ 2 ^ 31 ≤ d → ∀ a, a = v.updServo m (fun x => { x with gen := g % 2 ^ 32 }) →
        (a.orderDrives m c = true → exec (.yardCommand t m g c) s = .next (a.updServo m (fun x => { x with held := x.held ++ [⟨c⟩] }))) ∧
        (∀ b y, a.orderDrives m c = false → c = .target b y → exec (.yardCommand t m g c) s =
          .next (if b = 11 then a.setMo m 0x38 0x0B y else a.setTarget m b y)) ∧
        (∀ b y, a.orderDrives m c = false → c = .feedForward b y → exec (.yardCommand t m g c) s = .next (a.setFeed m b y)) ∧
        (a.orderDrives m c = false → c = .writeGate false → exec (.yardCommand t m g c) s = .next (a.closeGate m)) ∧
        (∀ x, a.orderDrives m c = false → c = .sledTarget x → exec (.yardCommand t m g c) s =
          .next (if a.sledTargetOk m x = true then a.sledTo m x else a.seekFails m)))) ∧
    (∀ T o u marks y e a, u = v.atStrobe m T 600 → o = u.opt m → T % 400 = 0 → o.clockPh = 3 → u.v1Active m = true →
      (u.sail m 65).holdsMarks o.off o.k o.mark 16 = true →
      marks = (List.range 16).map (fun i => markOf ((u.sail m 65).servoAt o.off) o.k (u.obj (tkey ((u.tableOf m).getD 0) 0 7))
        (u.moN m 0x34 3) ((o.mark + i : Nat) : Int)) →
      y = sat (rne (marks.foldl (fun a r => a + (if r.1 then r.2.2 else 0)) 0) 3) 16 → e = sat (u.mo m 0x34 2 - y) 16 →
      a = (fun runs => (u.traceOpen m 7).updOpt m (fun z => { z with
        mark := z.mark + 16, clkOld := some (T + 656, z.phi, z.phiAt, z.f), phi := z.phaseAt (T + 656), phiAt := max (T + 656) z.phiAt
        flyRuns := runs z })) →
      ((marks.filter (fun r => r.1)).length < 8 → ∀ w, w = ((a (fun z => z.flyRuns + 1)).countM m 5 7).closeGate m →
        exec (.clockTrackRun t m T) s = .next (((w.showClock m).lockTest m 4 T false true 16 4).traceLoop m 7)) ∧
      (8 ≤ (marks.filter (fun r => r.1)).length → u.flywheels m = false → ∀ b f lim w,
        b = ((a (fun _ => 0)).takeCommits m 13 T).evalPid m 13 e →
        clampF ((o.f0 : Int) + (b.pid m 13).u * 2 ^ b.moN m 0x34 1) o.k = (f, lim) →
        w = (b.updOpt m (fun z => { z with f := f })).blockFlags m 13 false lim →
        exec (.clockTrackRun t m T) s = .next (((w.showClock m).lockTest m 4 T (decide ((e.natAbs : Int) ≤ w.mo m 0x31 9))
          (decide ((e.natAbs : Int) > w.mo m 0x31 0x93)) 16 4).traceLoop m 7))) ∧
    (∀ (chi : Nat) ok bits, (v.opt m).clockPh ≠ 0 →
      (v.sail m (if v.v1Active m then 65 else 64)).holdsMarks (v.opt m).off (v.opt m).k chi 64 = true →
      v.readUnit m chi = (ok, bits) →
      (ok = false → exec (.addressUnit t m chi) s = .next ((v.countM m 0x0C 2).updOpt m (fun y => { y with unit := none }))) ∧
      (ok = true → ∀ ag u, ag = (match (v.opt m).unit with
          | some (g, w) => decide (g = fld bits 25 8 ∧ fld bits 37 26 = (w + 1) % max 1 ((v.opt m).nz / 64))
          | none => false) →
        u = v.updOpt m (fun y => { y with
          unit := some (fld bits 25 8, fld bits 37 26),
          chi0 := if ag || y.chi0.isSome then some ((chi : Int) - 64 * fld bits 37 26) else none }) →
        exec (.addressUnit t m chi) s = .next (if ag = true then u.addressTaken m (fld bits 25 8) (fld bits 41 38) else u))) ∧
    (∀ c, (v.opt m).cal = some c → v.calComplete m c = true → ∀ d, d = { c with metrics := c.metrics ++ [v.calMetric m c] } →
      exec (.calibrationCandidateDone t m c.kind) s = .next (if c.cand + 1 < (calSearches c.kind c.code).2 then
        (v.updOpt m (fun x => { x with cal := some { d with cand := c.cand + 1 } })).calApply m else v.calFinish m d))

/-- On an up mast that spins at its target speed an acquisition ordered at a step of Table 5.4 is taken; not tracking 100
ms after its order it fails, and 10 ms after a failure it restarts at step 1. A track jump of 1 to 16 tracks with
focus and tracking locked is taken; not past its crossings 50 + 25 |n| us after its start it ends as failed, with a
seek failure and its shift. A seek with focus locked to another track of the disc is taken, as a jump when within 16
tracks. A layer jump to a layer of the table with the halyard locked is taken; not at its end after 1,000 + 500 |n|
us, or not locked again 10 ms after its end, it fails. An order taken while another runs waits its turn. The model's
choices in it, not the spec's: log entries 11, 44, 140, 165. -/
def Obligations.PositioningOrdersTakeEffect : Prop :=
  ∀ (t m : Nat) (s v : State), v = s.at_ t → m < 32 →
    (∀ step, v.linkUp m = true → (v.mast m).st = .spinning → v.atTarget m = true → 1 ≤ step → step ≤ 9 →
      exec (.acquisition t m step) s = .next (v.order m (.acquire step 0 0))) ∧
    (∀ k a t0, v.seqn m = .acquire k a t0 → 1 ≤ k → k < 9 → t0 + ticksUs 100000 ≤ v.tickNow m → ∀ u,
      u = ((v.openOptical m).updOpt m (fun x => { x with lsrEn := false, fails := x.fails + 1 })).countM m 5 11 →
      exec (.acquisitionTimeout t m) s = .next (if (u.opt m).fails ≥ 3 then
        ((u.endOrder m 1).updOpt m (fun x => { x with fails := 0 })).faultMast m else u.setSeqn m (.acquire 0 (v.tickNow m) (v.tickNow m)))) ∧
    (∀ a t0, v.seqn m = .acquire 0 a t0 → a + ticksUs 10000 ≤ v.tickNow m → ∀ k, k = v.acqNext m 1 →
      exec (.acquisitionRestart t m) s = .next ((v.acqAction m k).setSeqn m (.acquire k (v.tickNow m) (v.tickNow m)))) ∧
    (∀ d, v.locked m 0 = true → v.locked m 1 = true → 1 ≤ d.natAbs → d.natAbs ≤ 16 →
      exec (.trackJump t m d) s = .next (v.order m (.jump d 0 0 0))) ∧
    (∀ d seen h t0, v.seqn m = .jump d seen h t0 → seen < 2 * d.natAbs → t0 + ticksUs (50 + 25 * d.natAbs) ≤ v.tickNow m →
      exec (.trackJumpTimeout t m) s = .next (((v.endOrder m 1).seekFails m).shiftFailed m d)) ∧
    (∀ (target : Nat) d, d = (target : Int) - v.moN m 0x30 3 → v.locked m 0 = true → target ≤ 141999 → d ≠ 0 →
      exec (.seek t m target) s = .next (v.order m (if d.natAbs ≤ 16 then .jump d 0 0 0 else .seek target 0 0 0 0))) ∧
    (∀ layer, v.locked m 3 = true → layer < v.objN (tkey ((v.tableOf m).getD 0) 0 3) →
      exec (.layerJump t m layer) s = .next (v.order m (.layer 0 layer 0 0 0 none false))) ∧
    (∀ x y a b t0 c d, v.seqn m = .layer x y a b t0 c d → (v.opt m).resumed = none →
      t0 + ticksUs (1000 + 500 * ((y : Int) - x).natAbs) ≤ v.tickNow m →
      exec (.layerJumpTimeout t m) s = .next (v.layerFail m (v.tickNow m) 1)) ∧
    (∀ x y a b t0 c d r, v.seqn m = .layer x y a b t0 c d → (v.opt m).resumed = some r → r + ticksUs 10000 ≤ v.tickNow m →
      exec (.layerJumpTimeout t m) s = .next (v.layerFail m (v.tickNow m) 2)) ∧
    (∀ q, ((v.updOpt m (fun x => { x with queued := x.queued ++ [q] })).opt m).seqn ≠ .none →
      v.order m q = v.updOpt m (fun x => { x with queued := x.queued ++ [q] }))

/-- A start that nothing refuses of a present mast's resting drive asks for the selector's commit, clears the observer,
begins, and orders homing where the sled is not referenced; a refused one fails the mast's waiting reads and its mount
with that status; a retry 10 s after a failed start is the same start. From 2 ms after the start the back-EMF
classifies it: too small or too slow aligns the rotor, above 50 rpm takes over driven, mirrored when reversed. After
the alignment time the ramp begins. 5 s of ramp without handover float the stage and count; the third makes the mast
faulted. Unless SYNC_IN is stuck, an edge 1,000 ns or more after the last accepted one sets the period and, from the
second, the locked state; a nearer one is counted. Held high too long it is stuck, with a CONDITION; with no edge for
STO it is lost. The pin's fall is the row's operand. The model's choices in it, not the spec's: log entries 34, 49,
142. -/
def Obligations.SpindlesStartAndSyncInIsFollowed : Prop :=
  ∀ (t m : Nat) (s v : State), v = s.at_ t →
    (m < 32 → v.linkUp m = true → (v.opt m).spnEn = false → v.driveState m = 0 → (v.mast m).st = .present →
      (v.startRefused m = none → ∀ c a u,
        c = v.selectorCtrl m ||| 0x12 →
        a = ((v.setMo m 0x2A 2 ((v.moN m 0x2A 2 ||| 0x12 : Nat))).updServo m (fun x =>
          { x with commits := x.commits ++ [⟨10, v.tickNow m, [(0x2A02, (c : Int))]⟩] })).showPend m →
        u = ((a.clearBlock m 7).updDrive m (fun x =>
          { x with t0 := v.tickNow m, mirror := false, handRun := 0, va := 0, vb := 0, furlAt := none, quietAt := none,
                   atTarget := 0, startDue := false })).setDriveState m 1 →
        exec (.spindleStart t m) s = .next (if (u.sled m).referenced = true then u else u.orderHoming m) ∧
        (0 < (v.drive m).fails → (v.drive m).rampAt + ticksUs 10000000 ≤ v.tickNow m → exec (.startRetry t m) s = .next (if (u.sled m).referenced = true then u else u.orderHoming m))) ∧
      (∀ st, v.startRefused m = some st → exec (.spindleStart t m) s = .next (v.startFails m st))) ∧
    (m < 32 → v.driveState m = 1 → ∀ since, since = (v.drive m).t0 + ticksUs 2000 → since ≤ v.tickNow m → ∀ o amp, o = (v.servo m).obs →
      amp = max (wq o.ea).natAbs (wq o.eb).natAbs →
      ((amp : Int) < v.par m 0x27 8 → exec (.startClassify t m) s = .next (v.alignStart m since)) ∧
      (v.par m 0x27 8 ≤ amp → v.fasterThan m o.w 50 = true → exec (.startClassify t m) s = .next ((v.driveOn m 4).becomeDriven m)) ∧
      (v.par m 0x27 8 ≤ amp → v.fasterThan m o.w 50 = false → v.fasterThan m (-o.w) 50 = false →
        exec (.startClassify t m) s = .next (v.alignStart m since)) ∧
      (v.par m 0x27 8 ≤ amp → v.fasterThan m o.w 50 = false → v.fasterThan m (-o.w) 50 = true → ∀ r : Observer,
        r = { o with th := wrapU (-o.th) 16, w := sat (-o.w) 32, ib := sat (-o.ib) 32, eb := sat (-o.eb) 32 } →
        exec (.startClassify t m) s =
          .next (((v.updServo m (fun x => { x with obs := r })).updDrive m (fun x => { x with mirror := true })).driveOn m 6))) ∧
    (m < 32 → v.driveState m = 2 → (v.drive m).alignAt + ticksUs (1000 * v.moN m 0x38 0x0D) ≤ v.tickNow m →
      exec (.alignEnd t m) s = .next ((v.updDrive m (fun x =>
        { x with rampAt := v.tickNow m, wc := 0, wcRem := 0, handRun := 0 })).setDriveState m 3)) ∧
    (m < 32 → v.driveState m = 3 → (v.drive m).rampAt + ticksUs 5000000 ≤ v.tickNow m → ∀ a u, a = (v.floatStage m 0).countM m 6 1 →
      u = a.updDrive m (fun x => { x with fails := x.fails + 1, rampAt := v.tickNow m }) →
      exec (.startTimeout t m) s =
        .next (if (u.drive m).fails ≥ 3 then (u.updDrive m (fun x => { x with fails := 0 })).faultMast m else u)) ∧
    (∀ fall ts a, ts = v.now / 25 * 25 →
      a = ({ v with pins := { v.pins with syncRise := ts, syncFall := fall } } : State).syncLost ts →
      (a.objN (okey 0x2130 1) = 2 → exec (.syncInEdge ⟨t, fall⟩) s = .next a) ∧
      (a.objN (okey 0x2130 1) ≠ 2 → a.pins.syncAt = none → a.pins.syncEdges = 0 →
        exec (.syncInEdge ⟨t, fall⟩) s = .next { a with pins := { a.pins with syncAt := some ts, syncEdges := 1 } }) ∧
      (∀ e, a.objN (okey 0x2130 1) ≠ 2 → a.pins.syncAt = some e → ts < e + 1000 →
        exec (.syncInEdge ⟨t, fall⟩) s = .next (a.count (okey 0x5430 1))) ∧
      (∀ e, a.objN (okey 0x2130 1) ≠ 2 → a.pins.syncAt = some e → e + 1000 ≤ ts → ∀ b d : State,
        b = ({ a with pins := { a.pins with syncP := ts - e } } : State).setObj (okey 0x2130 2) (min (ts - e) (2 ^ 32 - 1) : Nat) →
        d = { b with pins := { b.pins with syncAt := some ts, syncEdges := a.pins.syncEdges + 1 } } →
        exec (.syncInEdge ⟨t, fall⟩) s = .next (if 1 ≤ a.pins.syncEdges then d.setObj (okey 0x2130 1) 1 else d))) ∧
    (v.objN (okey 0x2130 1) ≠ 2 → v.pins.syncRise + us (v.objN (okey 0x2130 5)) < v.now →
      v.pins.syncRise + us (v.objN (okey 0x2130 5)) < v.pins.syncFall →
      exec (.syncInStuck t) s = .next (((v.setObj (okey 0x2130 1) 2).count (okey 0x5430 2)).condition 0x000A 4 0 0)) ∧
    (∀ e, v.pins.syncAt = some e → v.objN (okey 0x2130 1) = 1 → e + ms (v.objN (okey 0x2130 3)) ≤ v.now → ∀ a : State,
      a = { v with pins := { v.pins with syncEdges := 0 } } →
      exec (.syncInLost t) s = .next ((a.setObj (okey 0x2130 1) 0).count (okey 0x5430 3)))

/-- At a strobe of an up mast with k mod 64 = 3 the planner plans, at other ticks it does not. At the period boundary it
set, the planned velocity comes into force, 0 after a stop order, which also makes n the target; a new direction or a
rest starts the step accumulator afresh, and one that stops the sled at its target ends a homing leg. A step due at a
tick moves n by one in the direction of motion, counted when it passes the target; reaching the target slowly enough
it stops there, and a homing leg ends. Homing of an up mast that is not furling, faulted or retired, its sled not
retired and no homing running or waiting, is taken as an order; with no other it closes the gate, ends a calibration,
enables the sled, stops it where it is and begins; from 10 ms later it searches downward by HOMEMAX. The model's
choices in it, not the spec's: log entries 11, 12. -/
def Obligations.SledsMoveAndHome : Prop :=
  ∀ (t m : Nat) (s v : State), v = s.at_ t → m < 32 →
    (∀ T u, u = v.atStrobe m T 400 → exec (.sledPlanning t m T) s =
      .next (if u.linkUp m = true ∧ T % 400 = 0 ∧ T / 400 % 64 = 3 then u.planSled m T else u)) ∧
    (∀ T u x vn, u = v.atTick m T → x = u.sled m → vn = (if x.stop = true then 0 else x.vnext) → x.hasNext = true → T = x.tb → ∀ a w,
      a = (if x.stop = true then u.setMo m 0x3E 3 (u.sledN m) else u) →
      w = (a.updSled m (fun y => { y with
        num := if vn = 0 ∨ signI vn ≠ signI (u.sledV m) then sledU else x.num - (T - x.te : Nat) * (u.sledV m).natAbs,
        te := T, hasNext := false, stop := false, a := if x.stop then 0 else y.a, settled := y.settled && decide (vn = 0) })).setMo m 0x3E 4 vn →
      ∀ z, z = (if vn ≠ 0 then (w.setMo m 0x3E 7 (u.sp m 8)).updSled m (fun y => { y with lowered := false }) else w) →
      exec (.sledPeriodBoundary t m T) s = .next
        ((if vn = 0 ∧ z.sledN m = z.sledX m ∧ (z.sled m).xNext = none then z.homingLegEnd m else z).showSled m false)) ∧
    (∀ T u x n, u = v.atTick m T → x = u.sled m → u.stepDue m = some T → n = u.sledN m + signI (u.sledV m) → ∀ a w,
      a = (if u.sledN m = u.sledX m then u.countM m 7 3 else u) →
      w = (a.setMo m 0x3E 2 n).updSled m (fun y => { y with
        num := sledU + x.num.fmod (u.sledV m).natAbs, te := T, lastStep := T, recent := ((T, n) :: y.recent).take 12 }) →
      (¬(n = u.sledX m ∧ ((u.sledV m).natAbs : Int) ≤ max (u.sp m 6) (u.sp m 5)) → exec (.sledStep t m T) s = .next w) ∧
      (n = u.sledX m → ((u.sledV m).natAbs : Int) ≤ max (u.sp m 6) (u.sp m 5) → exec (.sledStep t m T) s =
        .next ((((w.updSled m (fun y => { y with num := sledU, a := 0 })).setMo m 0x3E 4 0).homingLegEnd m).showSled m false))) ∧
    (∀ T, (v.atTick m T).stepDue m ≠ some T → exec (.sledStep t m T) s = .next (v.atTick m T)) ∧
    (v.linkUp m = true → v.moN m 0x58 3 = 0 → (v.seqn m).homes = false → (v.opt m).queued.any Seqn.homes = false → (v.mast m).st ≠ .furling → (v.mast m).st ≠ .faulted → (v.mast m).st ≠ .retired →
      exec (.homing t m) s = .next (v.order m (.homing 0 0 0)) ∧
      (∀ z b c, z = v.updOpt m (fun x => { x with queued := x.queued ++ [.homing 0 0 0] }) → z.seqn m = .none →
        (z.opt m).queued = [.homing 0 0 0] → b = ((z.updOpt m (fun x => { x with queued := [] })).closeGate m).failCal m →
        c = (b.updOpt m (fun x => { x with sldEn := true })).updSled m (fun x => { x with
          tripped := false, stop := x.hasNext || decide (b.sledV m ≠ 0), xNext := some (b.sledN m), eRef := (b.enc m : Nat), nRef := b.sledN m,
          refSet := true, referenced := false, settled := true, lowered := false }) →
        exec (.homing t m) s = .next (((c.setMo m 0x3E 7 (b.sp m 8)).setSeqn m (.homing 1 0 (b.tickNow m))).showSled m false))) ∧
    (∀ x t0, v.seqn m = .homing 1 x t0 → t0 + ticksUs 10000 ≤ v.tickNow m → ∀ y, y = v.sledN m - v.sp m 0x0E →
      exec (.homingSeekStart t m) s = .next ((v.updSled m (fun z => { z with xNext := some y })).setSeqn m (.homing 2 y t0)))

/-- A mast that may read (tracking or reading, all loops locked, address known, no order, calibration or tag mismatch,
token held) schedules the wanted sectors readable here, in order, as the pool has room, the next slot of a log being
read among them; with too little room or a slow destination a deferral is counted; with none over whose track a sail
stands and none in flight it moves its yard; with none wanted it leaves reading when no read waits. A codeword whose
last LLR has come joins the pool; an erased one fails its step. A free decoder takes the codeword that waits longest.
A decode that ends judges its sector: a log slot whose first read found no sync is blank, a verification is judged, an
accepted sector delivered, a failure goes to the next attempt or ladder step. A memory error is counted against the
decoder, whose codeword is given up for a re-read unless the decoder is retired by it. A due self-test is noted, a
wrong answer retires the decoder. A peer's sector not back in time fails its step. The model's choices in it, not the
spec's: log entries 50, 135, 144, 145, 177. -/
def Obligations.SectorsAreScheduledDecodedAndJudged : Prop :=
  ∀ (t : Nat) (s v : State), v = s.at_ t →
    (∀ m a, m < 32 → a = (((v.dropOrphans m).nextLog m).rescheduleRetired m).skipShifts m →
      (a.mayRead m = false → exec (.mastRevolutionSchedule t m) s = .next a) ∧
      (a.mayRead m = true → ∀ w slow o later past here b c d,
        w = a.media.sectors.filter (fun x => decide (x.mast = m ∧ x.phase = .wanted)) → slow = a.slowMast m →
        o = w.filter (fun x => !(a.readSliceOver m || slow) || decide (1 ≤ x.step)) →
        later = (decide (a.inFlight m 5 ≠ []) || w.any (fun y => decide (3 ≤ y.step ∧ y.step ≤ 5))) →
        past = a.readable o later → b = a.offsetNow m past → here = b.offsetReads m past →
        (w = [] → exec (.mastRevolutionSchedule t m) s =
          .next (if (b.mast m).st = .reading ∧ b.readWaits m = false then b.setMastState m .tracking else b)) ∧
        (w ≠ [] → c = (if (b.mast m).st = .tracking then
            (b.setMastState m .reading).updMast m (fun x => { x with wr := { x.wr with periodAt := b.now } }) else b) →
          d = (if c.poolFree < here.length ∨ slow = true then c.countM m 0x0C 0x0B else c) →
          (past = [] → a.inFlight m 6 = [] → exec (.mastRevolutionSchedule t m) s = .next (d.moveYard m o later)) ∧
          (past ≠ [] ∨ a.inFlight m 6 ≠ [] → exec (.mastRevolutionSchedule t m) s =
            .next ((forEach (here.take c.poolFree) (fun p y => y.scheduleOne m p.1 p.2) d).showPoolQueue))))) ∧
    (∀ m (u : State) sl, u = v.dropOrphans m → u.logOpen m = true → u.mayRead m = true →
      u.logDone m ((u.tableOf m).getD 0) = false → (∀ x ∈ u.media.sectors, x.mast = m → x.use ≠ .log) →
      u.logSlot ((u.tableOf m).getD 0) (u.mast m).wr.log.length = some sl →
      u.nextLog m = u.addSector { logSector m sl .log with waiters := (u.mountCmds m).map (·.cid) }) ∧
    (∀ m k c u, m < 32 → (v.mast m).ready.find? (fun c => c.sail = k) = some c → c.sid ≠ calSid →
      u = (v.updMast m (fun x => { x with ready := x.ready.erase c })).updSector c.sid (fun x => { x with phase := .pool }) →
      ((u.sector c.sid).isNone = true → exec (.codewordReady t m k) s = .next u.showPoolQueue) ∧
      ((u.sector c.sid).isNone = false → c.erased = true → exec (.codewordReady t m k) s = .next (u.erasedFrame c.sid).showPoolQueue) ∧
      ((u.sector c.sid).isNone = false → c.erased = false → exec (.codewordReady t m k) s = .next (u.joinPool c).showPoolQueue)) ∧
    (∀ d c rest e, d < 128 → v.decoderFree d = true → v.media.queue = c :: rest → (List.range 128).find? v.decoderFree = some e → ∀ x : State,
      x = v.setDecoder e { v.decoder e with bufs := (v.decoder e).bufs ++ [c] } → ∀ q : State,
      q = { x with media := { x.media with queue := rest } } → exec (.codewordDispatch t d) s = .next q.showPoolQueue) ∧
    (∀ d c rest x llr r j u, (v.decoder d).bufs = c :: rest → v.sector c.sid = some x → c.forStep x = some llr →
      r = decodeCodeword c.str (v.moN x.mast 0x52 (if x.step = 0 then 1 else 2)) llr → j = judge x r.1.isSome r.2 →
      (x.use = .log → x.step = 0 → c.found = false →
        exec (.decodeDone t d) s = .next (((v.popDecoder d).dropSector x.sid).logFound x.mast .blank)) ∧
      (x.use.isVerify = true → exec (.decodeDone t d) s = .next (((v.popDecoder d).countVerdict x j).verifyEnds x c.found r.1 r.2)) ∧
      (x.use.isVerify = false → x.use ≠ .log ∨ x.step ≠ 0 ∨ c.found = true → j = .accepted →
        exec (.decodeDone t d) s = .next ((v.popDecoder d).acceptSector x r.2)) ∧
      (x.use.isVerify = false → x.use ≠ .log ∨ x.step ≠ 0 ∨ c.found = true → j ≠ .accepted → u = v.countVerdict x j → exec (.decodeDone t d) s =
        .next (if x.step < 2 then u.stepFailed x.sid
          else if x.step = 2 then (if x.tries + 1 < c.alternatives.length then u.updSector x.sid (fun z => { z with tries := z.tries + 1 })
            else (u.popDecoder d).stepFailed x.sid)
          else (u.popDecoder d).readFailedAt x.sid))) ∧
    (∀ d c rest u, (v.decoder d).bufs = c :: rest → u = v.failDecoder d →
      exec (.decoderMemoryError t d) s =
        .next (if u.decoderRetired d = true then u else (u.popDecoder d).restartCodeword c).showPoolQueue) ∧
    (∀ d ok x u, d < 128 → v.decoderRetired d = false → x = v.decoder d → x.bufs.length < 2 →
      x.untested = true ∨ (x.bufs = [] ∧ x.testedAt < x.idleSince + ms 1 ∧ x.idleSince + ms 1 ≤ v.now) ∨
        x.testedAt + ms (v.objN (okey 0x2660 4)) ≤ v.now →
      u = v.setDecoder d { x with testedAt := v.now, untested := false } →
      exec (.decoderSelfTest t d ok) s = .next (if ok = true then u else (u.retireDecoder d).showPoolQueue)) ∧
    (∀ sid x, v.sector sid = some x → x.phase = .fetch → x.fetchAt + ms (v.moN x.mast 0x52 4) ≤ v.now →
      exec (.peerFetchTimeout t sid) s = .next (v.stepFailed sid))

/-- At a pass boundary with the token held a writing mast whose work is done or whose slice is over while a read waits
closes its gate and leaves writing; a tracking or reading one with write work due, no calibration or tag mismatch and
no read in its way enters it. A slice over does the same at once when the mast is at a boundary. A mast that may burn,
its slice not over: a burn revolution burns the due slots under it and opens the gate, or moves the yard to the next;
a relocation pass places failed slots in spares; a record burn places the first closed record in the next log slot, or
moves the yard there. A verification revolution puts the burned slots' reads into the pool, or moves the yard to them.
The record delay closes the open record. A write not durable in the limit of M+54:07 fails. A log read while a MOUNT
waits applies its records, sets the frontier and completes the MOUNT; one that the map's loss asked for rebuilds the
mast's part of it. The model's choices in it, not the spec's: log entries 20, 21, 59, 62, 81, 146, 147. -/
def Obligations.WritesBurnVerifyAndBecomeDurable : Prop :=
  ∀ (t m : Nat) (s v : State), v = s.at_ t → m < 32 →
    (∀ c, c = .passBoundary t m ∨ (c = .sliceExpiry t m ∧ (v.writeSliceOver m = true ∨ v.readSliceOver m = true)) →
      v.atPassBoundary m = true → v.hasHolder = true →
      ((v.mast m).st = .writing → v.writeDue m = false ∨ v.writeSliceOver m = true → exec c s =
        .next ((v.closeGate m).enterPeriod m (if v.readWaits m = true then .reading else .tracking))) ∧
      ((v.mast m).st ≠ .writing → v.writeDue m = true → (v.opt m).cal = none → (v.opt m).mismatch = false → v.readsInFlight m = false →
        v.readWaits m = false ∨ v.readSliceOver m = true →
        exec c s = .next (((v.offsetFor m false).enterPeriod m .writing).showWidth m))) ∧
    (v.atPassBoundary m = false → exec (.passBoundary t m) s = .next v ∧ exec (.sliceExpiry t m) s = .next v) ∧
    (v.mayBurn m = true → v.writeSliceOver m = false → ∀ a all due,
      a = (v.showWidth m).placeDue m ((v.showWidth m).pendingOn m) → all = a.placedSlots m →
      due = sortBy (fun x y => decide (x.2.1.slot.sect ≤ y.2.1.slot.sect)) (all.filterMap (fun p =>
        if a.descends m all p.2.slot then (a.burnerOf m p.2.slot).map (fun k => (p.1, p.2, k)) else none)) →
      (due = [] → ∀ p, all.find? (fun p => a.descends m all p.2.slot) = some p →
        exec (.burnRevolution t m) s = .next (a.moveWrite m 0 p.2.slot)) ∧
      (due = [] → all.find? (fun p => a.descends m all p.2.slot) = none → exec (.burnRevolution t m) s = .next a) ∧
      (due ≠ [] → exec (.burnRevolution t m) s =
        .next (((forEach due (fun d b => b.burnSlot m d.1 d.2.1 d.2.2) a).updOpt m (fun x => { x with wrEn := true })).showWriteState m 1))) ∧
    (∀ k u, u = v.atTick m k → u.mayVerify m = true → ∀ a l first here, a = u.showWidth m → l = a.verifyDue m → first = (a.window m).1 + a.moN m 0x50 3 →
      here = l.filterMap (fun x => (a.writerOf m 1 x.slot).map (fun k => { x with sail := first + k, reader := first + k })) →
      (l = [] → exec (.verifyRevolution t m k) s = .next a) ∧
      (∀ x rest, l = x :: rest → here = [] → exec (.verifyRevolution t m k) s = .next (a.moveWrite m 1 x.slot)) ∧
      (here ≠ [] → exec (.verifyRevolution t m k) s = .next ((forEach (here.take a.poolFree)
        (fun x b => (b.addSector x).scheduleOne m { x with sid := b.media.nextSid } x.sail)
        (if a.poolFree < here.length then a.countM m 0x0C 0x0B else a)).showPoolQueue.showWriteState m 2))) ∧
    (v.mayBurn m = true → v.writeSliceOver m = false → ∀ a all due b, a = v.showWidth m →
      all = (a.pendingOn m).flatMap (fun w => w.slots.map (fun x => (w, x, slotStripe x.n ((a.planned w).getD x.n ⟨0, 0, 0⟩)))) →
      due = all.filter (fun p => decide (p.2.1.state = .failed) &&
        !((all.filter (fun q => decide (q.2.1.state = .burned))).map (fun q => q.2.2)).contains p.2.2) →
      b = forEach due (fun p x => x.relocateSlot m p.1 p.2.1) a →
      exec (.relocationPass t m) s = .next (if due = [] then a else if b.burnsLeft m = [] then b
        else (b.updOpt m (fun x => { x with wrEn := true })).showWriteState m 3)) ∧
    (∀ r, (v.mast m).wr.openRec = some r → r.firstAt + ms (v.moN m 0x54 6) ≤ v.now →
      exec (.recordDelayExpiry t m) s = .next (v.closeRec m)) ∧
    (∀ r rest sl i z, (v.mast m).wr.closed = r :: rest → v.mayBurn m = true → r.burnedAt = none →
      v.writeSliceOver m = false ∨ r.header ≠ none → i = (v.mast m).wr.logNext → z = v.showWidth m → z.burnsLeft m = [] →
      z.logSlot ((v.tableOf m).getD 0) i = some sl →
      (z.burnerOf m sl = none → exec (.recordBurn t m) s = .next (z.moveWrite m 0 sl)) ∧
      (∀ k x a b, z.burnerOf m sl = some k → x = { r with burnedAt := some i, header := some (r.header.getD (z.recHeader m r)) } →
        a = (z.updRec m r.seq (fun _ => x)).updMast m (fun y => { y with wr := { y.wr with logNext := i + 1 } }) →
        b = a.setMo m 0x54 9 (a.mo m 0x54 9 - 1) → exec (.recordBurn t m) s =
          .next (((b.burnFrame m k none r.seq 3 sl (x.info sl)).updOpt m (fun y => { y with wrEn := true })).showWriteState m 4))) ∧
    (∀ n w, v.write n = some w → w.accepted = true → w.acceptedAt + sec (v.moN w.mast 0x54 7) ≤ v.now →
      exec (.durableLimitExpiry t n) s = .next (v.failWrite n 0x0030)) ∧
    (∀ tb slots spares, v.tableOf m = some tb → v.logDone m tb = true →
      (v.mounting m = true → ∀ r a b y z,
        r = (v.updMast m (fun x => { x with wr := { periodAt := x.wr.periodAt } })).applyLog m none (v.mast m).wr.log →
        a = r.s.updMast m (fun x => { x with wr := { x.wr with lastSeq := r.last, logNext := r.next, relocPool := [] }, mountSaved := [] }) →
        b = ((((a.setMo m 0x50 4 (r.last : Nat)).setMo m 0x54 9 (a.logSlots tb - r.next : Nat)).setFrontier m tb (slots.zipWith max spares)).showWriteState m 0) →
        r.stopped = false → r.stale = false →
        y = forEach (b.host.cmds.filter (fun c => decide (c.stage = .mounting ∧ c.mast = some m))) (fun c y => y.complete c.cid 0 0) b →
        z = ({ y with media := { y.media with mapLost := y.media.mapLost.filter (· ≠ m) } } : State).logAnew m →
        exec (.mountLogRead t m slots spares) s = .next (z.startMapped m)) ∧
      (v.mounting m = false → v.media.mapLost.contains m = true → ∀ y z, y = v.mapRebuilt m →
        z = ({ y with media := { y.media with mapLost := y.media.mapLost.filter (· ≠ m) } } : State).logAnew m →
        exec (.mountLogRead t m slots spares) s = .next (z.startMapped m)))

/-- For an accepted packet for this rig. A CMD of 64 bytes waits with its EPOCH at its peer's SQ. An EVENT's records take
effect in order, copies over time ended first, and those within flow control are acknowledged by EQ_HEAD. EQ_HEAD
returns slots of the peer's EQ. WRITE_DATA, after grants over time have ended, is applied to its target or dropped and
counted, and its command's fence notes which. FENCE is answered once the packets it names are handled. FENCE_ACK
completes its command, TRANSFER_ERROR if any was dropped, PEER_TIMEOUT when its time is over. FETCH_REQ of another
epoch is answered EPOCH_MISMATCH. FETCH_REP in time that fits its sector accepts it, else fails its step. A packet for
another rig goes on with HOPS plus 1 and its reserved bits 0; at 127 it is counted and leaves its input buffer. A
reserved TYPE is counted. The model's choices in it, not the spec's: log entries 67, 74. -/
def Obligations.PeerPacketsTakeEffect : Prop :=
  ∀ (t port : Nat) (k : GPacket) (s v u : State), v = s.at_ t → port < 4 → v.portUp port = true → k.intact = true →
    hf k.header 31 20 = (v.port port).expect → u = v.linkAccept port k →
    (k.dst = u.addr →
      (∀ x, k.type = 0x10 → k.body.length = 64 → u.peerOf k.src = some x → exec (.gorcyCmd t port k) s =
        .next (u.setSq x.q { u.sq x.q with fetched := (u.sq x.q).fetched ++ [BitVec.ofNat 512 (leNat k.body)], epochs := (u.sq x.q).epochs ++ [k.epoch] })) ∧
      (k.type = 0x11 → ∀ recs n h a, recs = (List.range (k.body.length / 32)).map (fun i => leNat ((k.body.drop (32 * i)).take 32)) →
        n = (recs.filter (fun r => !outsideFlow r)).length → h = (tblGet (fun _ => 0) u.fabric.heads k.src + n) % 256 →
        a = forEach recs (fun r b => b.peerRecord k.src r) (forEach (List.range 16) (fun c b => b.copyExpires c) u) →
        exec (.gorcyEvent t port k) s = .next (if n = 0 then a
          else ({ a with fabric := { a.fabric with heads := tblPut (fun _ => 0) k.src h a.fabric.heads } }).sendPacket 0x12 0 k.src h [])) ∧
      (∀ x e h, k.type = 0x12 → u.peerOf k.src = some x → e = u.eq x.eq → h = k.tsf 15 0 → exec (.eqHead t port k) s =
        .next (if h < e.size ∧ (h + e.size - e.head) % e.size ≤ e.used
          then (u.setEq x.eq { e with head := h }).drainEq x.eq (e.waiting.length + 1) else u.count (okey 0x5420 2))) ∧
      (∀ a ok f, k.type = 0x20 → u.grantsExpire.remoteWrite k.src (k.tsf 63 0) k.body = (a, ok) → f = a.fenceOf k.src (k.tsf 95 64) →
        exec (.writeData t port k) s = .next (if ok = true then a.putFence { f with applied := f.applied + 1 }
          else (a.count (okey 0x5428 19)).putFence { f with dropped := f.dropped + 1 })) ∧
      (k.type = 0x21 → ∀ f, f = u.fenceOf k.src (k.tsf 31 0) →
        exec (.fence t port k) s = .next (u.putFence { f with due := some (k.tsf 63 32, k.xid) })) ∧
      (∀ c, k.type = 0x22 →
        u.host.cmds.find? (fun c => decide (c.stage = .fence ∧ c.cid % 2 ^ 32 = k.tsf 31 0 ∧ c.pf 266 256 = k.src)) = some c →
        exec (.fenceAck t port k) s = .next (u.complete c.cid (if c.fenceAt + ms (u.objN (okey 0x2300 6)) ≤ u.now then 0x0032 else if k.tsf 95 64 = 0 then c.finish else 0x0033) c.posted)) ∧
      (k.type = 0x30 → u.peerEpoch k.src ≠ u.epoch → exec (.fetchReq t port k) s = .next (u.fetchStatus k.src k.xid 0x0023)) ∧
      (∀ e tb sl, k.type = 0x30 → u.peerEpoch k.src = u.epoch → (u.replicaMast k).2 = 0 →
        u.extentOf (u.replicaMast k).1 (k.tsf 63 0) = some e → u.tableOf (u.replicaMast k).1 = some tb → k.tsf 75 64 < dataSectors (meLen e) →
        (u.walk tb (meStr e) (totalSlots (meLen e) (meXpe e)) (meLayer e) (meTrack e) (meCol e) 0)[slotOfEidx (meXpe e) (k.tsf 75 64)]? =
          some sl → ∀ sp, sp = ((u.relocsOf (u.replicaMast k).1 (meExt e) (meNrel e)).find? (fun r => r.1 = slotOfEidx (meXpe e)
          (k.tsf 75 64))).map (·.2) →
        exec (.fetchReq t port k) s = .next (u.addSector {
          sid := 0, mast := (u.replicaMast k).1, slot := sp.getD sl, sail := 0, reader := 0, str := meStr e, xpe := meXpe e,
          ext := meExt e, eidx := k.tsf 75 64, xpos := (secOfSlot (meLen e) (meXpe e) (slotOfEidx (meXpe e) (k.tsf 75 64))).2.2, kind := 1,
          reloc := sp.isSome, use := .replica k.src k.xid })) ∧
      (∀ x, k.type = 0x31 → u.media.sectors.find? (fun x => decide (x.phase = .fetch ∧ x.xid = k.xid)) = some x →
        u.now < x.fetchAt + ms (u.moN x.mast 0x52 4) → ∀ h, h = parseHeader (k.tsf 191 0) →
        exec (.fetchRep t port k) s = .next (if k.body.length = 4096 ∧ infoCrcOk (replyInfo k) = true ∧ h.kind = 1 ∧ h.ext = x.ext ∧
          h.eidx = x.eidx ∧ (u.extentOf x.mast x.ext).map meDig = some (k.tsf 319 256) then u.acceptSector x (replyInfo k)
          else u.stepFailed x.sid)) ∧
      (gorcyTypes.contains k.type = false → exec (.typeDiscard t port k) s = .next (u.count (okey 0x5428 20)))) ∧
    (k.dst ≠ u.addr → u.addrValid k.dst = true → exec (.packetForward t port k) s = .next (if 127 ≤ hf k.header 41 35 + 1
      then (u.count (okey 0x5428 18)).freeInput k.header (some (port, vcIndex k.header))
      else u.fabricPass (port / 2) (clearReserved (hfSet k.header 41 35 (hf k.header 41 35 + 1))) k.payload (some (port, vcIndex k.header))))

/-- A well-formed HELLO, after what has timed out by then, records its neighbour, brings up the port if both ways passed,
judges the wiring and epoch, chooses the root, measures time within one epoch and takes its lease entries, entries
over their age dropped first; HELLOs its changes call for are sent. An LCTL, after a replay that is due, acknowledges
packets up to its ACK, sets the credit limits, replays on NAK and sends what waits. A discarded packet is counted and
answered by a NAK on a port that is up. On a port that carries, 20,000 ns after the oldest unacknowledged packet every
such packet is sent again in order and counted; one sent again 8 times fails the port's lanes. An LCTL with the
cumulative ACK and credits clears what is owed. The timer owes each port that is not down a HELLO, sends those owed
and notes the lease entries carried and moves the rotation on by them. The model's choices in it, not the spec's: log
entries 66, 73, 171. -/
def Obligations.GorcyLinkExchangeTakesEffect : Prop :=
  ∀ (t p : Nat) (k : GPacket) (s v : State), v = s.at_ t →
    (∀ a, p < 4 → a = (v.portTimeout p).parentTimeout → a.objN (okey 0x2301 (p + 1)) ≠ 0 → k.type = 0x01 → k.intact = true →
      helloOk k.body = true → ∀ (b : List Byte) (u w x : State), b = k.body →
      u = a.setPort p { a.port p with
        helloAt := some a.now, nTSend := helloField b 0 8, nSrc := k.src, nEpoch := k.epoch, nFlags := helloField b 26 1
        nRank := helloField b 27 1, nRoot := helloField b 28 2, nDist := helloField b 30 1 } →
      w = (((u.portOn p).wiring p k.src b).noteEpoch k.src k.epoch).chooseRoot →
      x = (if k.epoch = w.epoch then w.measure p (helloField b 8 8) (helloField b 16 8) (helloField b 0 8) else w) →
      exec (.hello t p k) s = .next (forEach (List.range (helloField b 32 1)) (fun i a =>
        (a.leaseAges (helloField b (64 + 32 * i) 8)).leaseIn (helloField b (64 + 32 * i) 8) (helloField b (64 + 32 * i + 8) 8) (helloField b (64 + 32 * i + 16) 2 % 2048)) x).helloFlush) ∧
    (p < 4 → 2 ≤ v.objN (okey 0x2301 (p + 1)) → k.type = 0x02 → k.intact = true → k.payload = [] → ∀ a u, a = v.replayDue p →
      u = a.setPort p { a.port p with
        unacked := (a.port p).unacked.filter (fun y => !decide ((k.tsf 11 0 + 4096 - y.lseq) % 4096 < 2048))
        limit := (List.range 4).map (fun i => k.tsf (31 + 16 * i) (16 + 16 * i)) } →
      exec (.lctl t p k) s = .next (if k.tsf 12 12 = 1 then (u.replay p).unstall p else u.unstall p)) ∧
    (p < 4 → ∀ u, u = v.count (okey 0x5428 (p + 1)) →
      exec (.corruptedPacket t p) s = .next (if u.objN (okey 0x2301 (p + 1)) < 2 then u else u.sendLctl p true)) ∧
    (∀ y l, p < 4 → v.portUp p = true → (v.port p).unacked = y :: l → y.sentAt + 20000 ≤ v.now → ∀ r a,
      r = (y :: l).map (fun z => { z with replays := z.replays + 1, sentAt := v.now }) →
      a = forEach r (fun z b => (b.emitPacket p z.header z.payload).count (okey 0x5428 (5 + p))) (v.setPort p { v.port p with unacked := r }) →
      exec (.replayTimeout t p) s = .next (if r.any (fun z => decide (8 ≤ z.replays)) then a.replayFails p else a)) ∧
    (p < 4 → (v.port p).owed ≠ 0 → ∀ c,
      c = (((v.port p).freed.zipIdx.map (fun z => z.1 % 65536 * 2 ^ (16 * z.2))).foldl (· + ·) 0) * 2 ^ 16 →
      exec (.ackTimer t p) s = .next ((v.setPort p { v.port p with owed := 0 }).emitPacket p
        (v.mkHeader 0x02 0 (v.rigBehind p) 0 0 (((v.port p).expect + 4095) % 4096 + c)) [])) ∧
    (∀ a due u, a = v.oweHello → due = (List.range 4).filter (fun i => (a.port i).helloOwed) → due ≠ [] →
      u = forEach due (fun i b => b.helloOut i) a → exec (.helloTimer t) s = .next { u with fabric := { u.fabric with
        leaseSent := u.leaseTable.filter (fun x => u.fabric.leaseSent.contains x || u.helloLeases.contains x)
        leaseRot := (u.fabric.leaseRot + u.helloLeases.length) % (u.leaseTable.length + 1) } }) ∧
    (∀ a, a = v.oweHello → (∀ i, i < 4 → (a.port i).helloOwed = false) → exec (.helloTimer t) s = .next a)

/-- Signal on a training port takes its time t0 and its lanes that are not retired and sends an idle pair and a marker
pair. A port not up 20 ms after t0 starts over, counted, after 10 ms of PRBS13Q. A lane that goes down is noted, shown
and one failure; re-acquired within 2 ms it carries again; 2 ms down retires it. A parent unmeasured for 1 s makes the
rig time-unsure: counted, an event, the root chosen anew. A lease entry not carried for the age 2303:02 is dropped. A
peer idle for 2300:05 ms loses its SQ and EQ, counted. A copy without XFER_READY within 2300:06 ms, or without end
within 2300:07 s, settles PEER_TIMEOUT. The HELLOs that the change of a port, lane or parent calls for are sent. A
command whose fence is not answered within 2300:06 ms completes PEER_TIMEOUT. The model's choices in it, not the
spec's: log entries 72, 150, 171. -/
def Obligations.PortsPeersAndLeasesTimeOut : Prop :=
  ∀ (t p l : Nat) (s v : State), v = s.at_ t →
    (p < 4 → v.objN (okey 0x2301 (p + 1)) = 1 → (v.port p).t0 = none → (v.port p).prbsUntil ≤ v.now → exec (.portSignalDetect t p) s = .next (((v.setPort p { v.port p with
      t0 := some v.now, lane0 := !(v.objN (okey 0x2301 (5 + p))).testBit 0, lane1 := !(v.objN (okey 0x2301 (5 + p))).testBit 1
      lane0Down := none, lane1Down := none, helloAt := none, helloSentAt := none }).sendPair p .idle).sendPair p .marker)) ∧
    (∀ t0, p < 4 → (v.port p).t0 = some t0 → v.objN (okey 0x2301 (p + 1)) = 1 → t0 + 20000000 ≤ v.now →
      exec (.portTrainingTimeout t p) s = .next (((v.setPort p { v.port p with restarts := (v.port p).restarts + 1, prbsUntil := v.now + 10000000 }).portOff p).helloFlush)) ∧
    (p < 4 → (v.port p).lane0 = true → exec (.gorcyLaneDown t p 0) s =
      .next ((((v.setPort p { v.port p with lane0 := false, lane0Down := some v.now }).showPort p).failGorcyLane p 0).helloFlush)) ∧
    (p < 4 → (v.port p).lane1 = true → exec (.gorcyLaneDown t p 1) s =
      .next ((((v.setPort p { v.port p with lane1 := false, lane1Down := some v.now }).showPort p).failGorcyLane p 1).helloFlush)) ∧
    (p < 4 → 2 ≤ v.objN (okey 0x2301 (p + 1)) →
      (∀ d, (v.port p).lane0Down = some d → exec (.gorcyLaneReacquired t p 0) s = .next (if d + 2000000 ≤ v.now then v.retireGorcyLane p 0
        else (v.setPort p { v.port p with lane0 := true, lane0Down := none }).showPort p)) ∧
      (∀ d, (v.port p).lane1Down = some d → exec (.gorcyLaneReacquired t p 1) s = .next (if d + 2000000 ≤ v.now then v.retireGorcyLane p 1
        else (v.setPort p { v.port p with lane1 := true, lane1Down := none }).showPort p))) ∧
    (∀ d, p < 4 → l < 2 → (v.port p).laneDown l = some d → d + 2000000 ≤ v.now →
      exec (.gorcyLaneReacquireTimeout t p l) s = .next (v.retireGorcyLane p l).helloFlush) ∧
    (v.objN (okey 0x2302 4) ≠ 255 → v.fabric.parentAt + 1000000000 ≤ v.now → v.fabric.timeUnsure = false →
      exec (.timeParentTimeout t) s = .next ((((({ v with fabric := { v.fabric with timeUnsure := true } } : State).count
        (okey 0x5428 22)).fabricEvent v.addr 0 none).chooseRoot).helloFlush)) ∧
    (∀ x, v.fabric.leases.find? (fun y => y.disc = l) = some x → x.carried + v.objN (okey 0x2303 2) * 1000000000 ≤ v.now →
      exec (.leaseAgeExpiry t l) s = .next (({ v with fabric := { v.fabric with
        leases := v.fabric.leases.filter (fun y => y.disc ≠ l) } } : State).showLeases)) ∧
    (∀ x u, v.peerOf p = some x → x.lastAt + v.objN (okey 0x2300 5) * 1000000 ≤ v.now → u = (v.deleteSq x.q).setEq x.eq {} →
      exec (.peerIdleRelease t p) s = .next ((({ u with fabric := { u.fabric with
        peers := u.fabric.peers.filter (fun y => y.addr ≠ x.addr) } } : State).showQueues).count (okey 0x5428 24))) ∧
    (∀ c, v.copyOf l = some c → (c.goff = none ∧ c.startedAt + v.objN (okey 0x2300 6) * 1000000 ≤ v.now) ∨
      c.startedAt + v.objN (okey 0x2300 7) * 1000000000 ≤ v.now → exec (.copyTimeout t l) s = .next (v.settleCopy l 0x0032)) ∧
    (∀ c, v.cmd l = some c → c.stage = .fence → c.fenceAt + v.objN (okey 0x2300 6) * 1000000 ≤ v.now →
      exec (.fenceTimeout t l) s = .next (v.complete l 0x0032 c.posted))

/-- For a running engine whose next word is w, with width W, operands A and B (IMM when IM is set), signed readings SA and
SB, C the carry and D = B mod W: each of the 29 operations 0x00 to 0x1C writes to RD the value that Table 15.3 gives,
zero- or sign-filled, sets Z, N, C and V as the table says when SF is set, and takes the next address by NX under the
condition CC as it stood before the word. NOP changes nothing else; SEL chooses by CC and leaves the flags; CMP sets
flags only; MATCH8 and RANGE8 write a mask of 16 bits. That CC is judged before the operation is the model's reading
(log entry 55, DEDUCED). -/
def Obligations.MicrowordArithmeticTakesEffect : Prop :=
  ∀ (t e : Nat) (s v : State) (w : Mw) (x : EngCtx) (g : Segment), v = s.at_ t → v.runsWord e w x g →
    ∀ (W A B C D : Nat) (SA SB P LO HI S : Int) (LE h : Bool) (I J : Nat) (K : Nat → Nat → Nat),
      W = mwWidth w.sz → A = x.get w.ra W → B = (if w.im then w.imm % 2 ^ W else x.get w.rb W) → C = (if x.c then 1 else 0) → D = B % W →
      SA = toSigned A W → SB = toSigned B W → P = (if w.sg then SA * SB else ((A * B : Nat) : Int)) →
      LO = (if w.sg then -(2 ^ (W - 1)) else 0) → HI = (if w.sg then 2 ^ (W - 1) - 1 else 2 ^ W - 1) →
      S = (if w.sg then SA + SB else ((A + B : Nat) : Int)) → LE = (if w.sg then decide (SA ≤ SB) else decide (A ≤ B)) →
      h = ccHolds x g w.cc → I = w.imm % 256 → J = w.imm / 256 % 256 →
      K = (fun lo hi => ((x.bytes w.ra 16).mapIdx (fun i b => if lo ≤ b.toNat ∧ b.toNat ≤ hi then 2 ^ i else 0)).foldl (· + ·) 0) →
    ∀ R : Nat → Bool → Bool → Host.Outcome State Fault Refusal,
      R = (fun r c o => .next (v.takeNext v e w h ((x.put w.rd W r w.sg).flags w.sf W r c o) g)) →
    (w.op = 0 → exec (.wNop t e .clean) s = .next (v.takeNext v e w h x g)) ∧
    (w.op = 1 → exec (.wAdd t e .clean) s = R ((A + B) % 2 ^ W) (decide (2 ^ W ≤ A + B)) (decide (SA + SB < -(2 ^ (W - 1)) ∨ 2 ^ (W - 1) ≤ SA + SB))) ∧
    (w.op = 2 → exec (.wAddc t e .clean) s = R ((A + B + C) % 2 ^ W) (decide (2 ^ W ≤ A + B + C)) (decide (SA + SB + C < -(2 ^ (W - 1)) ∨ 2 ^ (W - 1) ≤ SA + SB + C))) ∧
    (w.op = 3 → exec (.wSub t e .clean) s = R ((A + 2 * 2 ^ W - B) % 2 ^ W) (decide (A < B)) (decide (SA - SB < -(2 ^ (W - 1)) ∨ 2 ^ (W - 1) ≤ SA - SB))) ∧
    (w.op = 4 → exec (.wSubb t e .clean) s = R ((A + 2 * 2 ^ W - B - C) % 2 ^ W) (decide (A < B + C)) (decide (SA - SB - C < -(2 ^ (W - 1)) ∨ 2 ^ (W - 1) ≤ SA - SB - C))) ∧
    (w.op = 5 → exec (.wAnd t e .clean) s = R (A &&& B) false false) ∧
    (w.op = 6 → exec (.wOr t e .clean) s = R (A ||| B) false false) ∧
    (w.op = 7 → exec (.wXor t e .clean) s = R (A ^^^ B) false false) ∧
    (w.op = 8 → exec (.wAndn t e .clean) s = R (A &&& (2 ^ W - 1 - B)) false false) ∧
    (w.op = 9 → exec (.wShl t e .clean) s = R (A * 2 ^ D % 2 ^ W) (decide (D ≠ 0) && A.testBit (W - D)) false) ∧
    (w.op = 10 → exec (.wShr t e .clean) s = R (A / 2 ^ D) (decide (D ≠ 0) && A.testBit (D - 1)) false) ∧
    (w.op = 11 → exec (.wSar t e .clean) s = R (toBits (asr SA D) W) (decide (D ≠ 0) && A.testBit (D - 1)) false) ∧
    (w.op = 12 → exec (.wRol t e .clean) s = R (A * 2 ^ D % 2 ^ W + A / 2 ^ (W - D)) false false) ∧
    (w.op = 13 → exec (.wMul t e .clean) s = R (toBits P W) (decide (P < LO ∨ HI < P)) (decide (P < LO ∨ HI < P))) ∧
    (w.op = 14 → exec (.wMulh t e .clean) s = R (toBits (asr P W) W) false false) ∧
    (w.op = 15 → exec (.wSadd t e .clean) s = R (toBits (max LO (min S HI)) W) false (decide (max LO (min S HI) ≠ S))) ∧
    (w.op = 16 → exec (.wMin t e .clean) s = R (if LE then A else B) false false) ∧
    (w.op = 17 → exec (.wMax t e .clean) s = R (if LE then B else A) false false) ∧
    (w.op = 18 → exec (.wSel t e .clean) s = .next (v.takeNext v e w h (x.put w.rd W (if h then A else B) w.sg) g)) ∧
    (w.op = 19 → exec (.wMov t e .clean) s = R B false false) ∧
    (w.op = 20 → ∀ p n, p = w.aux % 64 → n = (if w.aux / 256 % 64 = 0 then 64 else w.aux / 256 % 64) → exec (.wBfx t e .clean) s = R (A / 2 ^ p % 2 ^ n) false false) ∧
    (w.op = 21 → ∀ p n, p = w.aux % 64 → n = (if w.aux / 256 % 64 = 0 then 64 else w.aux / 256 % 64) → exec (.wBfi t e .clean) s = R ((x.reg w.rd - x.reg w.rd / 2 ^ p % 2 ^ n * 2 ^ p) + A % 2 ^ n * 2 ^ p) false false) ∧
    (w.op = 22 → exec (.wPopc t e .clean) s = R ((List.range W).filter (fun i => A.testBit i)).length false false) ∧
    (w.op = 23 → ∀ z, z ≤ W → (∀ i < z, A.testBit (W - 1 - i) = false) → (z < W → A.testBit (W - 1 - z) = true) → exec (.wClz t e .clean) s = R z false false) ∧
    (w.op = 24 → ∀ z, z ≤ W → (∀ i < z, A.testBit i = false) → (z < W → A.testBit z = true) → exec (.wCtz t e .clean) s = R z false false) ∧
    (w.op = 25 → exec (.wBswap t e .clean) s = R (leNat (leBytes (W / 8) A).reverse) false false) ∧
    (w.op = 26 → exec (.wMatch8 t e .clean) s = .next (v.takeNext v e w h ((x.setReg w.rd (K I I)).flags w.sf 128 (K I I) false false) g)) ∧
    (w.op = 27 → exec (.wRange8 t e .clean) s = .next (v.takeNext v e w h ((x.setReg w.rd (K I J)).flags w.sf 128 (K I J) false false) g)) ∧
    (w.op = 28 → exec (.wCmp t e .clean) s = .next (v.takeNext v e w h (x.flags w.sf W ((A + 2 * 2 ^ W - B) % 2 ^ W) (decide (A < B)) (decide (SA - SB < -(2 ^ (W - 1)) ∨ 2 ^ (W - 1) ≤ SA - SB))) g))

/-- IN takes the next min(16, left) input bytes, zero-filled, into pair RD; Z says that none was taken; LOST and LOSTN
follow the lost sectors of R412. OUT emits n bytes and moves OPOS; n above 16 or beyond OCAP faults with 0x8005. LDS,
STS reach scratch and LDW, STW the shared window at G[RA] + AUX when aligned to w/8 and inside; otherwise 0x8003 or
0x8004. CVF feeds n bytes; above 16 faults with 0x8005. GETS reads the register of Table 15.4, 14 and 15 as 0. PUTS
writes CVV, the polynomial, the initial value and the final XOR as their low bits, and a valid configuration; that an
invalid one leaves the unit unchanged is the model's choice (log entry 24). -/
def Obligations.StreamMicrowordsTakeEffect : Prop :=
  ∀ (t e : Nat) (s v : State) (w : Mw) (x : EngCtx) (g : Segment), v = s.at_ t → v.runsWord e w x g →
    ∀ (W N A B D S : Nat) (h : Bool) (go : State → EngCtx → Segment → Host.Outcome State Fault Refusal),
      W = mwWidth w.sz → N = (if w.im then w.imm % 32 else x.reg w.rb % 32) → A = x.get w.ra W →
      B = (if w.im then w.imm % 2 ^ W else x.get w.rb W) → D = (x.reg w.ra + w.aux) % 2 ^ 64 → S = v.objN (ekey e 3) * 1048576 →
      h = ccHolds x g w.cc → go = (fun u y k => .next (v.takeNext u e w h y k)) →
    (w.op = 0x20 → ∀ n l lost fresh, n = min 16 (g.len - g.ipos) → n ≤ g.input.length → l = g.input.take n →
      lost = (l.zipIdx.filter (fun p => p.1.2)).map (fun p => (g.mast, g.ext, (g.off + g.ipos + p.2) / 4096)) →
      fresh = (lost.filter (fun i => !(x.lostSeen.contains i))).eraseDups → ∀ r y, r = leNat (l.map (fun p => BitVec.ofNat 8 p.1)) →
      y = (if w.sf then { x.put w.rd 128 r false with z := decide (n = 0), n := r.testBit 127, c := false, v := false }
        else x.put w.rd 128 r false) →
      exec (.wIn t e .clean) s = go v { y with
          icnt := n, lostFlag := decide (lost ≠ []), lostSeen := x.lostSeen ++ fresh, lostN := y.lostN + fresh.length }
        { g with input := g.input.drop n, ipos := g.ipos + n }) ∧
    (w.op = 0x21 → (N ≤ 16 → g.opos + N ≤ g.ocap →
        exec (.wOut t e .clean) s = go (v.place g.cid g.opos (x.bytes w.ra N)) x { g with opos := g.opos + N }) ∧
      (16 < N ∨ g.ocap < g.opos + N → exec (.wOut t e .clean) s = .next (v.jobFault e 0x8005))) ∧
    (w.op = 0x22 → exec (.wLds t e .clean) s = if D % (W / 8) = 0 ∧ D + W / 8 ≤ 262144
      then go v (x.put w.rd W (leNat (bytesAt x.scratch D (W / 8))) w.sg) g else .next (v.jobFault e 0x8003)) ∧
    (w.op = 0x23 → exec (.wSts t e .clean) s = if D % (W / 8) = 0 ∧ D + W / 8 ≤ 262144
      then go v { x with scratch := putBytes x.scratch D (leBytes (W / 8) B) } g else .next (v.jobFault e 0x8003)) ∧
    (w.op = 0x24 → exec (.wLdw t e .clean) s = if D % (W / 8) = 0 ∧ D + W / 8 ≤ S
      then go v (x.put w.rd W (leNat (bytesAt (v.engine e).window D (W / 8))) w.sg) g else .next (v.jobFault e 0x8004)) ∧
    (w.op = 0x25 → exec (.wStw t e .clean) s = if D % (W / 8) = 0 ∧ D + W / 8 ≤ S
      then go (v.writeWindow e D (leBytes (W / 8) B)) x g
      else .next (v.jobFault e 0x8004)) ∧
    (w.op = 0x26 → exec (.wCvf t e .clean) s = if N ≤ 16
      then go v { x with cv := { x.cv with cvv := cvFeed (x.cv.cfg % 128) x.cv.poly (x.cv.cfg.testBit 8) x.cv.cvv (x.bytes w.ra N) } } g
      else .next (v.jobFault e 0x8005)) ∧
    (w.op = 0x27 → exec (.wGets t e .clean) s = go v (x.put w.rd 64
      ([x.icnt, g.ipos, g.len, g.opos, g.ocap, x.lostN, x.cv.cvv, x.cv.cfg, x.cv.poly, x.cv.init, x.cv.xorout, x.cv.result, x.segN,
        S].getD (w.imm % 16) 0) false) g) ∧
    (w.op = 0x28 → ∀ (c : CvUnit) (f : CvUnit → Host.Outcome State Fault Refusal), c = x.cv → f = (fun u => go v { x with cv := u } g) →
      (w.imm % 16 = 6 → exec (.wPuts t e .clean) s = f { c with cvv := A % 2 ^ (c.cfg % 128) }) ∧
      (w.imm % 16 = 7 → exec (.wPuts t e .clean) s = if 1 ≤ A % 128 ∧ A % 128 ≤ 64 ∧ A % 256 / 128 = 0 ∧ A < 1024
        then f { cfg := A, poly := c.poly % 2 ^ (A % 128), init := c.init % 2 ^ (A % 128), xorout := c.xorout % 2 ^ (A % 128),
                 cvv := c.cvv % 2 ^ (A % 128) } else f c) ∧
      (w.imm % 16 = 8 → exec (.wPuts t e .clean) s = f { c with poly := A % 2 ^ (c.cfg % 128) }) ∧
      (w.imm % 16 = 9 → exec (.wPuts t e .clean) s = f { c with init := A % 2 ^ (c.cfg % 128) }) ∧
      (w.imm % 16 = 10 → exec (.wPuts t e .clean) s = f { c with xorout := A % 2 ^ (c.cfg % 128) }))

/-- For a word w of a running engine e, carried out in the state v as a NOP, with h telling whether CC holds. CC not
holding or NX 0: PC becomes PC + 1. NX 1: TGT. NX 2: PC + 1 goes on the return stack, then TGT; a full stack of 8
faults the job with 0x8001. NX 3: the popped entry; an empty stack faults with 0x8002. NX 4: the segment ends with TGT
as resume word. NX 5: the job faults with AUX[14:0]. In an image word j has its bits [63:0] in the first 8 of its 24
bytes, and so on upward. The other operations take their next address by the same function. -/
def Obligations.NextAddressOfAMicroword : Prop :=
  (∀ (t e : Nat) (s v : State) (w : Mw) (x : EngCtx) (g : Segment), v = s.at_ t → v.runsWord e w x g → w.op = 0 →
    ∀ (h : Bool) (go : BitVec 13 → List (BitVec 13) → Host.Outcome State Fault Refusal), h = ccHolds x g w.cc →
      go = (fun pc st => .next (v.setEngine e { v.engine e with
        ctx := { x with pc := pc, stack := st }, seg := some { g with words := g.words + 1 } })) →
      (h = false ∨ w.nx = 0 → exec (.wNop t e .clean) s = go (x.pc + 1) x.stack) ∧
      (h = true → w.nx = 1 → exec (.wNop t e .clean) s = go (BitVec.ofNat 13 w.tgt) x.stack) ∧
      (h = true → w.nx = 2 → exec (.wNop t e .clean) s =
        if 8 ≤ x.stack.length then .next (v.jobFault e 0x8001) else go (BitVec.ofNat 13 w.tgt) ((x.pc + 1) :: x.stack)) ∧
      (h = true → w.nx = 3 → (x.stack = [] → exec (.wNop t e .clean) s = .next (v.jobFault e 0x8002)) ∧
        (∀ a l, x.stack = a :: l → exec (.wNop t e .clean) s = go a l)) ∧
      (h = true → w.nx = 4 → exec (.wNop t e .clean) s = .next (v.endSegment e x g w.tgt)) ∧
      (h = true → w.nx = 5 → w.res = 0 → exec (.wNop t e .clean) s = .next (v.jobFault e (w.aux % 2 ^ 15)))) ∧
  (∀ (b : List Byte) (i : Image), parseImage b = some i → ∀ j q : Nat, j < i.words.length → q < 24 →
    ((i.words.getD j 0).toNat / 2 ^ (8 * q)) % 256 = (b.getD (64 + 24 * j + q) 0).toNat)

/-- The next segment of an engine that runs none: with FIRST, registers, flags, stack and scratch are 0, the unit has the
engine record's parameters with CVV the initial value, and PC is ENTRY; otherwise the saved context, counted and its
slot freed, or the one held; where no job is open it fails INVALID_FIELD. The job holds the engine and its sectors are
read. At NX 4 PC is the resume word, 2500 + e :0B and :0C show CVV and its result, and the command ends with OPOS,
MEDIA_UNRECOVERED when its input held a lost sector; with LAST the engine, its context and the slot are freed and the
job's waiting segments fail INVALID_FIELD; with SAVE and a free slot the context is saved, counted. The load begun
first, when complete, writes each named engine's region, trap words elsewhere, shows IMAGE_ID, outcome 2, and is
counted. The model's choices in it, not the spec's: log entries 10, 28, 118. -/
def Obligations.SegmentsStartAndEndAndImagesLoad : Prop :=
  (∀ (t e : Nat) (s v : State) (c : Cmd) (en : Engine) (g : Segment) (x : EngCtx), v = s.at_ t → e < 64 → v.nextSegment e = some c → en = v.engine e →
    en.seg = none → en.loading = false → v.maskBit (okey 0x2542 2) e = false → c.stage = .job →
    g = { cid := c.cid, mast := c.pf 68 64, ext := c.pf 191 128, len := c.pf 255 224, ocap := c.ocap, last := c.pkt.getLsbD 11, save := c.pkt.getLsbD 12, off := c.pf 223 192,
          due := sectorRange (c.pf 223 192) (c.pf 255 224) } →
    ∀ go : State → EngCtx → Host.Outcome State Fault Refusal, go = (fun u y => .next (((u.setEngine e { en with
      ctx := y, seg := some g, holder := some c.sq, waiting := en.waiting.filter (fun i => i ≠ c.cid)
      saves := en.saves.filter (fun r => r.1 ≠ c.sq) }).showEngine e).startReads c.cid)) →
    (c.pkt.getLsbD 10 = true → ∀ (k : CvUnit) (n : Nat), n = v.objN (ekey e 7) % 128 →
      k = { cfg := v.objN (ekey e 7), poly := v.objN (ekey e 8) % 2 ^ n, init := v.objN (ekey e 9) % 2 ^ n, xorout := v.objN (ekey e 0x0A) % 2 ^ n
            cvv := v.objN (ekey e 9) % 2 ^ n } →
      x = { pc := BitVec.ofNat 13 (c.pf 92 80), segN := 1, cv := k } → exec (.jobSegmentStart t e) s = go v x) ∧
    (c.pkt.getLsbD 10 = false → en.openJobs.contains c.sq = false → exec (.jobSegmentStart t e) s = .next (v.failCmd c 0x0002)) ∧
    (c.pkt.getLsbD 10 = false → en.openJobs.contains c.sq = true →
      (∀ y, en.saves.find? (fun r => r.1 = c.sq) = some y →
        exec (.jobSegmentStart t e) s = go (v.count (okey 0x5426 4)) { y.2 with segN := y.2.segN + 1 }) ∧
      (en.saves.find? (fun r => r.1 = c.sq) = none →
        exec (.jobSegmentStart t e) s = go v { en.ctx with segN := en.ctx.segN + 1 }))) ∧
  (∀ (t e q : Nat) (s v : State) (w : Mw) (x y : EngCtx) (g : Segment) (en : Engine), v = s.at_ t → v.runsWord e w x g → w.op = 0 →
    w.nx = 4 → ccHolds x g w.cc = true → en = v.engine e → en.holder = some q → y = { x with pc := BitVec.ofNat 13 w.tgt } →
    ∀ (u : State) (fin : State → Host.Outcome State Fault Refusal),
      u = (v.setObj (ekey e 0x0B) (x.cv.cvv : Nat)).setObj (ekey e 0x0C) (x.cv.result : Nat) →
      fin = (fun a => .next (forEach (List.range 32) (fun m b => b.dropOrphans m)
        (a.finishData g.cid (if (a.cmd g.cid).map (fun c => c.lost) = some true then 0x0018 else 0)))) →
    (g.last = true → ∀ b, b = (u.setEngine e { en with
      seg := none, holder := none, ctx := {}, openJobs := en.openJobs.filter (· ≠ q), saves := en.saves.filter (fun r => r.1 ≠ q) }).showEngine e →
      ∀ d, d = b.setCmds (b.host.cmds.map (fun c => if c.opc = 5 ∧ c.sq = q ∧ c.pf 77 72 = e then { c with jobOver := true } else c)) →
      exec (.wNop t e .clean) s = fin (forEach (en.waiting.filterMap u.cmd) (fun c r => if c.sq = q then r.failCmd c 0x0002 else r) d)) ∧
    (g.last = false → g.save = true ∧ en.saves.length < u.objN (okey 0x2542 3) → exec (.wNop t e .clean) s = fin (((u.setEngine e { en with
      seg := none, holder := none, ctx := {}, saves := en.saves ++ [(q, y)] }).count (okey 0x5426 3)).showEngine e)) ∧
    (g.last = false → ¬(g.save = true ∧ en.saves.length < u.objN (okey 0x2542 3)) → exec (.wNop t e .clean) s =
      fin ((u.setEngine e { en with seg := none, ctx := y }).showEngine e))) ∧
  (∀ (t : Nat) (s v a : State) (i : Image), v = s.at_ t → ∀ l r, v.eng.loads = l :: r → parseImage l.2 = some i →
    a = forEach ((List.range 64).filter (fun e => l.1.testBit e)) (fun e b =>
      if i.region = 1 then ((b.setEngine e { b.engine e with loading := false, store := i.store (b.engine e).store }).showEngine e).setObj
        (ekey e 4) i.id
      else (b.setEngine e { b.engine e with loading := false, store := i.store (b.engine e).store }).showEngine e)
      { v with eng := { v.eng with loads := r } } →
    ∀ b, b = ((if i.region = 0 then a.setObj (okey 0x2542 4) i.id else a).setObj (okey 0x2541 4) 2).count (okey 0x5426 5) →
      exec (.imageLoadComplete t) s = .next b)

/-- A scrub of a healthy channel reads its next granule, wrapping at the last; before the fill of the channel is complete,
nothing more. Every check bit right: nothing more. An error that the second read does not show counts as corrected.
One that it shows counts as an error, loses the granule's contents by region, and the granule is written anew; when
the read-back shows it too, the granule takes a remap entry and is written there; and it is a failure of the channel
while it is healthy. A read is what the granule holds with the operand's wrong bits; check bit k is the parity of byte
k XOR bit k of the granule's number. Lost training is a failure, and retires a channel being filled at once. A filled
channel is healthy, holds zeros, waits for its home copy, and the pool and shares are shown. A share copied to a
rebuild area is complete, counted; copied home, its group's rebuild areas of that share are free. The model's choices
in it, not the spec's: log entries 22, 59, 117, 148. -/
def Obligations.MemoryChannelsTakeEffect : Prop :=
  (∀ (k g : Nat) (x : Granule), k < 32 → checkBit g k x.data = ((popCount (x.data.toNat / 2 ^ (8 * k) % 256) 8 % 2 == 1) ^^ g.testBit k)) ∧
  ∀ (t c k : Nat) (flips : List Granule) (s v : State), v = s.at_ t →
    (c < 16 → v.maskBit (okey 0x2400 2) c = true → ∀ (g : Nat) (u : State) (bad : State → Nat → Bool), g = tblGet (fun _ => 0) v.media.scrub c →
      u = { v with media := { v.media with scrub := tblPut (fun _ => 0) c ((g + 1) % max 1 (v.objN (okey 0x2400 4) * 33554432)) v.media.scrub } } →
      bad = (fun a i => decide ((flipGranule (a.granule c g) (flips.getD i ⟨0, 0⟩)).check ≠ BitVec.ofNat 32 (natOfBits ((List.range 32).map
        (fun n => checkBit (a.placed c g) n (flipGranule (a.granule c g) (flips.getD i ⟨0, 0⟩)).data))))) →
      (u.boot.filling = true ∨ u.media.filling.contains c = true → exec (.scrubRead t c flips) s = .next u) ∧
      (u.boot.filling = false → u.media.filling.contains c = false →
      (bad u 0 = false → exec (.scrubRead t c flips) s = .next u) ∧
      (bad u 0 = true → bad u 1 = false → exec (.scrubRead t c flips) s = .next (u.count (okey 0x5429 (c + 1)))) ∧
      (bad u 0 = true → bad u 1 = true → ∀ d a b, d = u.rewriteData c g →
        a = ((u.count (okey 0x542A (c + 1))).granuleLost c g flips).setGranule c g d → b = (if bad a 2 = true then (a.remap c g).setGranule c g d else a) →
        exec (.scrubRead t c flips) s = .next (if b.maskBit (okey 0x2400 2) c then b.failChannel c else b)))) ∧
    (c < 16 → v.media.filling.contains c = true → exec (.lossOfTraining t c) s = .next ((v.failChannel c).retireChannel c)) ∧
    (c < 16 → v.media.filling.contains c = false → v.maskBit (okey 0x2400 2) c = true →
      exec (.lossOfTraining t c) s = .next (v.failChannel c)) ∧
    (v.media.filling.contains c = true → ∀ u : State, u = { v with media := { v.media with
        filling := v.media.filling.filter (· ≠ c), homeCopy := v.media.homeCopy ++ [c]
        cells := tblDrop (fun i => decide (i / 2 ^ 29 = c)) v.media.cells } } →
      exec (.channelFillDone t c) s = .next ((u.setMaskBit (okey 0x2400 2) c).showPool.showShares)) ∧
    (v.media.rebuilds.contains (c, k, false) = true → ∀ u : State, u = { v.copyShare c 67108864 k with media := { (v.copyShare c 67108864 k).media with
        rebuilds := v.media.rebuilds.map (fun r => if r = (c, k, false) then (c, k, true) else r) } } →
      exec (.shareCopyDone t c k) s = .next ((u.count (okey 0x542C 1)).showShares)) ∧
    (v.media.rebuilds.contains (c, k, false) = false → v.media.homeCopy.contains c = true → c % 8 = k → ∀ u : State,
      u = { v.copyShare c 0 k with media := { (v.copyShare c 0 k).media with
        homeCopy := v.media.homeCopy.filter (· ≠ c)
        rebuilds := v.media.rebuilds.filter (fun r => !(decide (r.1 / 8 = c / 8 ∧ r.2.1 = k))) } } →
      exec (.shareCopyDone t c k) s = .next u.showShares)

/-- Before the fill of LPDDR6 is complete an access does nothing. With no way in use a read reads both granules in memory:
the Extent Map's even line groups from copy A, its odd ones from copy B, other structures from copy A, where that copy
is held. With a way in use, an access of a line of its structure: held by maintenance that covers it, it waits for the
last such operation; behind an earlier access of the line that waits, it waits; for a line being filled, it waits on
the fill. A hit counts, and all but a stream read set the line's bit. A line in the eviction buffer comes back to a
victim way, counted. Any other access is a miss, counted; a write miss does nothing more; a read miss reads memory,
takes the victim way and starts a fill, a demand miss then prefetches, or waits when no way, or no room in the
eviction buffer of 16, is there. A line in error is dropped, fails its way, and misses. A returned fill is installed
with its bit, releases what waits and ends maintenance; installed in error it retires its way. Ageing clears one set's
bits and moves on. The model's choices in it, not the spec's: log entry 60. -/
def Obligations.LocatorCacheTakesEffect : Prop :=
  ∀ (t st ln : Nat) (kind : CacheKind) (err : Bool) (me : List Granule) (s v : State), v = s.at_ t → ∀ (set : Nat) (r : CacheReq), set = cacheSet st ln → r = ⟨kind, st, ln, false⟩ →
    (v.boot.filling = true → exec (.cacheAccess t kind st ln err me) s = .next v) ∧
    (v.boot.filling = false → v.waysInUse = [] → ln < structLines st → ∀ g, g = v.lineGranule st ln → exec (.cacheAccess t kind st ln err me) s =
      .next (if kind = .write then v else (v.memoryRead g.1 g.2 (me.take 5)).memoryRead g.1 (g.2 + 1) (me.drop 5))) ∧
    (∀ c q, v.copyPlace (if st = 1 then (lineHome st ln).2 / 512 % 2 else 0) (lineHome st ln).1 = some (c, q) →
      v.lineGranule st ln = (c, (q + (lineHome st ln).2) / 32)) ∧
    (v.boot.filling = false → v.waysInUse ≠ [] → ln < structLines st →
      (v.media.maintNext.any (fun x => x.covers st ln) = true → exec (.cacheAccess t kind st ln err me) s =
        .next { v with media := { v.media with maintNext := maintWaiter r v.media.maintNext } }) ∧
      (∀ x, v.media.maintNext.any (fun x => x.covers st ln) = false → v.media.maint = some x → x.covers st ln = true →
        exec (.cacheAccess t kind st ln err me) s = .next { v with media := { v.media with maint := some { x with waiters := x.waiters ++ [r] } } }) ∧
      (v.maintHolds st ln = false → v.media.cacheWait.any (fun q => decide (q.st = st ∧ q.ln = ln)) = true →
        exec (.cacheAccess t kind st ln err me) s = .next { v with media := { v.media with cacheWait := v.media.cacheWait ++ [r] } }) ∧
      (v.maintHolds st ln = false → v.media.cacheWait.any (fun q => decide (q.st = st ∧ q.ln = ln)) = false →
        (v.media.fills.any (fun f => decide (f.st = st ∧ f.ln = ln)) = true → exec (.cacheAccess t kind st ln err me) s =
          .next { v with media := { v.media with fills := v.media.fills.map (fun f =>
            if f.st = st ∧ f.ln = ln then { f with waiters := f.waiters ++ [r] } else f) } }) ∧
        (v.media.fills.any (fun f => decide (f.st = st ∧ f.ln = ln)) = false →
          (∀ w, v.wayOf st ln = some w → exec (.cacheAccess t kind st ln false me) s = .next ((if kind = .streamRead then v
            else v.setLine set w { v.lineAt set w with nru := true }).count (okey 0x542D 1))) ∧
          (∀ u : State, (v.wayOf st ln = none ∧ u = v) ∨ (∃ w, v.wayOf st ln = some w ∧ err = true ∧ u = (v.setLine set w ⟨0, 0, false⟩).failWay w) →
            (∀ x w a b, u.media.evicted.find? (fun y => decide (y.st = st ∧ y.ln = ln)) = some x →
              a = ({ u with media := { u.media with evicted := u.media.evicted.erase x } } : State).count (okey 0x542C 4) →
              a.victim set = (some w, b) → exec (.cacheAccess t kind st ln err me) s = .next (b.setLine set w ⟨st, ln, true⟩)) ∧
            (u.media.evicted.find? (fun y => decide (y.st = st ∧ y.ln = ln)) = none →
              (kind = .write → exec (.cacheAccess t kind st ln err me) s = .next (u.count (okey 0x542D 2))) ∧
              (kind ≠ .write → ∀ a b, a = u.count (okey 0x542D 2) → b = (a.memoryRead (a.lineGranule st ln).1 (a.lineGranule st ln).2 (me.take 5)).memoryRead
                  (a.lineGranule st ln).1 ((a.lineGranule st ln).2 + 1) (me.drop 5) →
                exec (.cacheAccess t kind st ln err me) s = .next (match b.victim set with
                  | (none, d) => { d with media := { d.media with cacheWait := d.media.cacheWait ++ [r] } }
                  | (some w, d) => if (d.lineAt set w).st ≠ 0 ∧ 16 ≤ d.media.evicted.length
                    then { d with media := { d.media with cacheWait := d.media.cacheWait ++ [r] } }
                    else if kind = .demandRead then (d.startFill st ln w true [r]).prefetch st ln
                    else d.startFill st ln w false [r]))))))) ∧
    (∀ f a b, v.media.fills.find? (fun f => decide (f.st = st ∧ f.ln = ln)) = some f →
      a = ({ v with media := { v.media with
        fills := v.media.fills.erase f
        evicted := v.media.evicted.filter (fun x => !(decide (x.byStruct = st ∧ x.byLine = ln))) } } : State) →
      b = (if f.cancelled = true ∨ f.way ∉ a.waysInUse then a
        else if err = true then ((((a.setLine f.set f.way ⟨st, ln, fillNru f.demand f.waiters⟩).count (okey 0x542E (f.way + 1))).setLine f.set f.way
          ⟨0, 0, false⟩).retireWay f.way)
        else a.setLine f.set f.way ⟨st, ln, f.demand || f.waiters.any (fun q => decide (q.kind ≠ .streamRead))⟩) →
      exec (.cacheFillReturn t st ln (!err)) s =
        .next ((({ b with media := { b.media with cacheWait := [] } } : State).cacheRetry b.media.cacheWait).maintDone)) ∧
    (v.objN (okey 0x2410 3) ≠ 0 → ∀ (a : State), a = forEach v.waysInUse (fun w b =>
        b.setLine v.media.agePointer w { b.lineAt v.media.agePointer w with nru := false }) v →
      exec (.cacheAgeing t) s = .next { a with media := { a.media with agePointer := (v.media.agePointer + 1) % 4096 } })

/-- The rig at power-up, State.reset, is sound; its queue of commands is empty; every object of the dictionary reads its
default and every DOMAIN and string value is empty; every mast is at its reset value; the rig is held in reset with
RST_N asserted, and has sent nothing. The model's choices in it, not the spec's: log entries 63, 64. -/
def Obligations.ResetIsSound : Prop :=
  State.reset.Sound ∧ State.reset.pending = [] ∧ (∀ k, State.reset.obj k = objDefault k) ∧ (∀ k, State.reset.blob k = []) ∧
  (∀ m, State.reset.mast m = {}) ∧ State.reset.boot.inReset = true ∧ State.reset.boot.ready = false ∧ State.reset.pins.rstN = true ∧
  State.reset.hasHolder = false ∧ State.reset.out = []

/-- Whatever command is at the front of the queue of a sound state, and whatever its operands, if the step answers a next
state then that state is sound: the tables of the dictionary's objects, of its DOMAIN and string values and of the
masts list their keys strictly rising, and list no entry that equals its default. So two states with the same contents
are equal data after any run. -/
def Obligations.StepKeepsSound : Prop :=
  ∀ s t : State, s.Sound → step s = .next t → t.Sound

/-- For every microword whose fields lie in the widths of the spec's table of the microword, reading the word that encodes
it gives back every field; and encoding the fields read from any 192-bit word gives back that word. No bit of a
microword is dropped, and no two words have the same fields. -/
def Obligations.MicrowordsRoundTrip : Prop :=
  (∀ x : Mw, x.cyc < 4 → x.op < 64 → x.rd < 16 → x.ra < 16 → x.rb < 16 → x.cc < 16 → x.sz < 8 → x.nx < 8 → x.tgt < 2 ^ 13 →
    x.res < 2 ^ 18 → x.imm < 2 ^ 64 → x.aux < 2 ^ 64 → decodeMw (encodeMw x) = x) ∧
  (∀ w : Microword, encodeMw (decodeMw w) = w)

/-- Write-back to a Q1.15 destination is sat(rne(acc, 16), 16), and to a Q1.31 long state sat(acc, 32). Here rne(x, k)
with k at least 1 is the nearest integer to x divided by 2 to the k, the even one of two equally near; and sat(x, w)
with w at least 1 is the value nearest to x among those of w bits, x itself when it is one of them. So an accumulator
that rounds beyond 32,767 is written back as 32,767. -/
def Obligations.WriteBackRoundsThenSaturates : Prop :=
  (∀ (acc : Int) (f : Bool), (wb15 acc f).1 = sat (rne acc 16) 16 ∧ (wb31 acc f).1 = sat acc 32) ∧
  (∀ (x : Int) (k : Nat), 1 ≤ k → 2 * (rne x k * 2 ^ k - x) ≤ 2 ^ k ∧ -(2 ^ k) ≤ 2 * (rne x k * 2 ^ k - x) ∧
    (2 * (rne x k * 2 ^ k - x) = 2 ^ k ∨ 2 * (rne x k * 2 ^ k - x) = -(2 ^ k) → rne x k % 2 = 0)) ∧
  (∀ (x : Int) (w : Nat), 1 ≤ w → -(2 ^ (w - 1)) ≤ sat x w ∧ sat x w ≤ 2 ^ (w - 1) - 1 ∧
    (-(2 ^ (w - 1)) ≤ x → x ≤ 2 ^ (w - 1) - 1 → sat x w = x) ∧ (2 ^ (w - 1) - 1 < x → sat x w = 2 ^ (w - 1) - 1) ∧
    (x < -(2 ^ (w - 1)) → sat x w = -(2 ^ (w - 1)))) ∧
  (∀ (acc : Int) (f : Bool), 32767 * 65536 + 32768 ≤ acc → (wb15 acc f).1 = 32767)

/-- For any two 16-bit angles a and b, the signed difference is wrap(a − b, 16) read as a two's complement number of 16
bits: congruent to a − b modulo 65,536 and in −32,768 to 32,767. Two angles exactly half a turn apart differ by
−32,768. -/
def Obligations.AngleDifferences : Prop :=
  ∀ a b : Int, 0 ≤ a → a < 65536 → 0 ≤ b → b < 65536 →
    (angleDiff a b - wrapU (a - b) 16) % 65536 = 0 ∧ (angleDiff a b - (a - b)) % 65536 = 0 ∧ -32768 ≤ angleDiff a b ∧ angleDiff a b ≤ 32767 ∧
    (a - b = 32768 ∨ a - b = -32768 → angleDiff a b = -32768)

/-- In a torus of NX by NY rigs, 1 to 32 and 1 to 64, at coordinates (x, y): GL0 leads to ((x + 1) mod NX, y), GL1 to ((x
− 1) mod NX, y), GL2 to (x, (y + 1) mod NY) and GL3 to (x, (y − 1) mod NY), as addresses 32y + x; and an address names
a rig when its coordinates lie below NX and NY. With all four ports up, a packet that this rig sends to another rig of
the torus, RT 0, leaves on a port to a neighbour from which its distance, the shorter way round summed over both
dimensions, is one less; and its destination is unchanged. -/
def Obligations.RoutesMoveTowardsTheirDestination : Prop :=
  ∀ (s : State) (nx ny x y : Nat), 1 ≤ nx → nx ≤ 32 → 1 ≤ ny → ny ≤ 64 → s.objN (okey 0x2300 2) = nx → s.objN (okey 0x2300 3) = ny →
    x < nx → y < ny → s.addr = 32 * y + x →
    s.rigBehind 0 = 32 * y + (x + 1) % nx ∧ s.rigBehind 1 = 32 * y + (x + nx - 1) % nx ∧ s.rigBehind 2 = 32 * ((y + 1) % ny) + x ∧
    s.rigBehind 3 = 32 * ((y + ny - 1) % ny) + x ∧ (∀ u v, u < 32 → (s.addrValid (32 * v + u) = true ↔ u < nx ∧ v < ny)) ∧
    ∀ dist : Nat → Nat → Nat → Nat, dist = (fun n a b => min ((b + n - a) % n) ((a + n - b) % n)) →
    ((∀ p, p < 4 → s.portUp p = true) → ∀ (h : BitVec 512) (u v : Nat), u < nx → v < ny → hf h 63 53 = 32 * v + u →
      32 * v + u ≠ 32 * y + x → hf h 34 34 = 0 →
      ∃ p h' x' y', s.route 2 2 h = some (p, h') ∧ p < 4 ∧ hf h' 63 53 = 32 * v + u ∧ s.rigBehind p = 32 * y' + x' ∧ x' < nx ∧ y' < ny ∧
        dist nx x' u + dist ny y' v + 1 = dist nx x u + dist ny y v)

/-- In a sound state, after n counted events a counter that did not exceed its greatest value reads its former value plus
n, or its greatest value where that is less: it never wraps and never goes down. Every other object, and everything
that is not an object but the note of what was counted at this instant, reads as before. Where nothing was counted at
this instant before, a clear now leaves 0, and a clear after the n events, at their very instant, leaves n. -/
def Obligations.CountersSaturate : Prop :=
  ∀ (s u : State) (k n : Nat), s.Sound → s.obj k ≤ counterMax k → u = forEach (List.range n) (fun _ a => a.count k) s →
    u.obj k = min (s.obj k + n) (counterMax k) ∧ s.obj k ≤ u.obj k ∧ (∀ j, j ≠ k → u.obj j = s.obj j) ∧
    { u with objs := s.objs, countAt := s.countAt, counted := s.counted } = s ∧
    (s.countAt ≠ s.now → (s.clearCounter k).obj k = 0 ∧ (0 < n → (u.clearCounter k).obj k = min (n : Int) (counterMax k)))

/-- For an EQ of a function of size 2^e, whose head and tail lie in its ring, and a record due on it. When the EQ is full
or records wait, a record of types 0x01 to 0x11 joins the waiting ones at the end; otherwise it takes a slot: one more
is unconsumed, never more than 2^e − 1, and the phase changes when the tail returns to 0. A record of a later type
that finds the EQ full is dropped and counted. When slots are freed, waiting records are written from the first on;
any that still wait after as many tries as there were records wait because the EQ is full. -/
def Obligations.EventQueuesHoldTheirRecords : Prop :=
  ∀ (s : State) (e n : Nat) (f : Fn) (r : EvRec) (q : EQ), tblWf (fun _ => ({} : EQ)) s.host.eqs = true → q = s.eq e → q.owner = .fn f →
    q.head < q.size → q.tail < q.size → ∀ u w : State, u = s.postRec e r → w = s.drainEq e n →
    (r.type < 0x20 → q.full = true ∨ q.waiting ≠ [] → u.eq e = { q with waiting := q.waiting ++ [r] } ∧ u.out = s.out) ∧
    (0x20 ≤ r.type → q.full = true → u.eq e = { q with dropped := q.dropped + 1 } ∧
      u.obj (okey 0x5420 6) = (s.count (okey 0x5420 6)).obj (okey 0x5420 6) ∧ u.out = s.out) ∧
    (q.full = false → q.waiting = [] → q.dropped = 0 →
      (u.eq e).used = q.used + 1 ∧ q.used + 1 ≤ q.size - 1 ∧ (u.eq e).tail = (q.tail + 1) % q.size ∧ (u.eq e).waiting = [] ∧
      (u.eq e).phase = (if q.tail + 1 = q.size then !q.phase else q.phase)) ∧
    (∃ k, k ≤ n ∧ k ≤ q.waiting.length ∧ (w.eq e).waiting = q.waiting.drop k ∧ q.used + k ≤ (w.eq e).used ∧ (w.eq e).used ≤ q.used + k + 1 ∧
      (w.eq e).head = q.head ∧ (w.eq e).size = q.size ∧
      (q.waiting.length ≤ n → k < q.waiting.length → (w.eq e).full = true))

/-- A lookup answers entry i exactly when i lies in some bucket of the probe window, has STATE 2 and a matching key, no
earlier entry of the window has both, and no earlier bucket holds an entry with STATE 0. An insertion first looks the
key up; if it is found nothing changes and it is a duplicate. Otherwise the new entry takes the first entry of the
probe window with STATE 0 or 3, and every other entry is unchanged; a window with neither gives MAP_FULL, and no entry
changes. -/
def Obligations.MapLookupAndInsertion : Prop :=
  ∀ (s : State) (ext mast kind ord : Nat), tblWf (fun _ => 0) s.media.map = true → ∀ win, win = probeBuckets (mapHome ext mast kind ord) →
    (∀ i, s.mapLookup ext mast kind ord = some i ↔ ∃ pre post x y, win = pre ++ (x ++ i :: y) :: post ∧
      meState (s.mapAt i) = 2 ∧ meMatches (s.mapAt i) ext mast kind ord = true ∧
      (∀ j ∈ pre.flatten ++ x, ¬(meState (s.mapAt j) = 2 ∧ meMatches (s.mapAt j) ext mast kind ord = true)) ∧
      (∀ j ∈ pre.flatten, meState (s.mapAt j) ≠ 0)) ∧
    (∀ e, meMatches e ext mast kind ord = true →
      (∀ i, s.mapLookup ext mast kind ord = some i → s.mapInsert e = (s, .duplicate)) ∧
      (s.mapLookup ext mast kind ord = none →
        (∀ i, win.flatten.find? (fun j => decide (meState (s.mapAt j) = 0 ∨ meState (s.mapAt j) = 3)) = some i →
          (s.mapInsert e).2 = .inserted ∧ (s.mapInsert e).1.mapAt i = e ∧ ∀ j, j ≠ i → (s.mapInsert e).1.mapAt j = s.mapAt j) ∧
        ((∀ j ∈ win.flatten, meState (s.mapAt j) ≠ 0 ∧ meState (s.mapAt j) ≠ 3) →
          (s.mapInsert e).2 = .full ∧ ∀ j, (s.mapInsert e).1.mapAt j = s.mapAt j)))

end Statements
end

