-- ==== Sys2Proof/Laws/Codec.lean ====
section
/-! SUPPORT. Laws of the line code of a mast-link lane: what a lane sends, its receiver reads back (03 R79, R81). -/
namespace Sys2Proof.Machine

/-- The parity register's taps are those of the generator polynomial: α^b times its coefficients below x^30. -/
theorem rsTaps_generator : rsTaps = (List.range 10).map (fun b =>
    ((rsGenerator.take 30).zipIdx.map (fun p => gfMul (alphaPow b) p.1 * 1024 ^ p.2)).foldl (· + ·) 0) := by
  decide +kernel

/-- Bits 0, 2, 4, … below 2 n are those of (4^n - 1) / 3. -/
theorem testBit_evens (n i : Nat) : ((4 ^ n - 1) / 3).testBit i = decide (i % 2 = 0 ∧ i < 2 * n) := by
  induction n generalizing i with
  | zero => simp
  | succ n ih =>
    have h3 : (4 ^ n) % 3 = 1 := by simp [Nat.pow_mod]
    have h4 : (4 ^ (n + 1) - 1) / 3 = 2 * (2 * ((4 ^ n - 1) / 3)) + 1 := by
      have : 0 < 4 ^ n := Nat.pow_pos (by decide)
      rw [Nat.pow_succ]; omega
    rw [h4]
    match i with
    | 0 => simp
    | 1 => rw [Nat.testBit_succ]; simp; omega
    | i + 2 =>
      rw [Nat.testBit_succ, Nat.testBit_succ, show (2 * (2 * ((4 ^ n - 1) / 3)) + 1) / 2 / 2 = (4 ^ n - 1) / 3 by omega, ih]
      apply decide_eq_decide.2; omega

theorem testBit_evenBits (i : Nat) : evenBits.testBit i = decide (i % 2 = 0 ∧ i < 5440) := by
  rw [evenBits, testBit_evens]

theorem testBit_oddBits (i : Nat) : (evenBits * 2).testBit i = decide (i % 2 = 1 ∧ i < 5441) := by
  cases i with
  | zero => rw [Nat.mul_comm]; simp
  | succ i =>
    rw [Nat.testBit_succ, Nat.mul_div_cancel _ (by decide), testBit_evenBits]
    apply decide_eq_decide.2; omega

theorem grayLevels_lt (c : Nat) : grayLevels c < 2 ^ 5440 := by
  apply Nat.lt_pow_two_of_testBit
  intro i hi
  simp [grayLevels, Nat.testBit_or, Nat.testBit_and, testBit_evenBits, testBit_oddBits]
  omega

/-- The bit pairs of the levels of a codeword are the codeword's. -/
theorem grayBits_grayLevels (c : Nat) (h : c < 2 ^ 5440) : grayBits (grayLevels c) = c := by
  apply Nat.eq_of_testBit_eq
  intro i
  have hb : 5440 ≤ i → c.testBit i = false := fun hi => Nat.testBit_lt_two_pow (Nat.lt_of_lt_of_le h (Nat.pow_le_pow_right (by decide) hi))
  have d : ∀ (x j : Nat), (x / 2).testBit j = x.testBit (j + 1) := fun x j => (Nat.testBit_succ x j).symm
  have m0 : ∀ (x : Nat), (x * 2).testBit 0 = false := fun x => by rw [Nat.mul_comm]; simp
  have m1 : ∀ (x j : Nat), (x * 2).testBit (j + 1) = x.testBit j := fun x j => by rw [Nat.testBit_succ, Nat.mul_div_cancel _ (by decide)]
  cases i with
  | zero => simp [-Nat.testBit_zero, grayBits, grayLevels, d, m0, m1, testBit_evenBits, testBit_oddBits]
  | succ i =>
    by_cases hi : 5440 ≤ i + 1
    · rw [hb hi]
      simp [-Nat.testBit_zero, grayBits, grayLevels, d, m0, m1, testBit_evenBits, testBit_oddBits]
      omega
    · rcases Nat.mod_two_eq_zero_or_one i with h2 | h2
      · have e1 : (i + 1) % 2 = 1 := by omega
        simp [-Nat.testBit_zero, grayBits, grayLevels, d, m0, m1, testBit_evenBits, testBit_oddBits, h2, e1, show i < 5440 by omega, show i < 5440 + 1 by omega, show i + 1 < 5440 by omega]
      · have e1 : (i + 1) % 2 = 0 := by omega
        have e2 : (i + 1 + 1) % 2 = 1 := by omega
        simp [-Nat.testBit_zero, grayBits, grayLevels, d, m0, m1, testBit_evenBits, testBit_oddBits, h2, e1, e2, show i < 5440 by omega, show i + 1 < 5440 by omega]

theorem symReverse_lt (n p : Nat) : symReverse n p < 1024 ^ n := by
  induction n generalizing p with
  | zero => simp [symReverse]
  | succ n ih =>
    have h1 := ih (p / 1024)
    have h2 : p % 1024 * 1024 ^ n ≤ 1023 * 1024 ^ n := Nat.mul_le_mul_right _ (by omega)
    simp only [symReverse, Nat.pow_succ]
    omega

theorem rsParity_lt (msg : Nat) : rsParity msg < 2 ^ 300 := by
  have h := symReverse_lt 30 (rsRun 514 msg 0)
  unfold rsParity
  rw [show (1024 : Nat) ^ 30 = 2 ^ 300 by rw [show (1024 : Nat) = 2 ^ 10 by rfl, ← Nat.pow_mul]] at h
  exact h

theorem add_mul_lt {a p A P : Nat} (h1 : a < A) (h2 : p < P) : a + p * A < P * A := by
  have h3 : (p + 1) * A ≤ P * A := Nat.mul_le_mul_right _ h2
  rw [Nat.add_mul, Nat.one_mul] at h3
  omega

theorem encode_lt {a p n m k : Nat} (hk : k = m + n) (h1 : a < 2 ^ n) (h2 : p < 2 ^ m) : a + p * 2 ^ n < 2 ^ k := by
  subst hk
  rw [Nat.pow_add]
  exact add_mul_lt h1 h2

theorem rsEncode_lt (b : Sys2Proof.FrameBits) : rsEncode b < 2 ^ 5440 := encode_lt rfl b.isLt (rsParity_lt b.toNat)

theorem add_mul_mod_div {a p A : Nat} (h : a < A) : (a + p * A) % A = a ∧ (a + p * A) / A = p := by
  constructor
  · rw [Nat.add_mul_mod_self_right, Nat.mod_eq_of_lt h]
  · rw [Nat.add_mul_div_right _ _ (by omega), Nat.div_eq_of_lt h, Nat.zero_add]

/-- A codeword with its own parity decodes to its message. -/
theorem rsDecode_own (cw msg p : Nat) (h1 : cw % 2 ^ 5140 = msg) (h2 : cw / 2 ^ 5140 = p) (h3 : rsParity msg = p) :
    rsDecode cw = some (0, msg) := by
  unfold rsDecode
  rw [h1, h2]
  exact if_pos h3.symm

/-- What a lane sends for a message, its receiver reads back without a corrected symbol. -/
theorem result_lineOf (b : Sys2Proof.FrameBits) : Sys2Proof.RxFrame.result ⟨lineOf b⟩ = some (0, b.toNat) := by
  unfold Sys2Proof.RxFrame.result lineOf
  simp only
  rw [BitVec.toNat_ofNat, Nat.mod_eq_of_lt (grayLevels_lt _), grayBits_grayLevels _ (rsEncode_lt b)]
  have h := add_mul_mod_div (p := rsParity b.toNat) b.isLt
  exact rsDecode_own _ _ _ h.1 h.2 rfl

theorem decoded_lineOf (b : Sys2Proof.FrameBits) : Sys2Proof.RxFrame.decoded ⟨lineOf b⟩ = true := by
  simp [Sys2Proof.RxFrame.decoded, result_lineOf]

theorem corrected_lineOf (b : Sys2Proof.FrameBits) : Sys2Proof.RxFrame.corrected ⟨lineOf b⟩ = 0 := by
  simp [Sys2Proof.RxFrame.corrected, result_lineOf]

theorem bits_lineOf (b : Sys2Proof.FrameBits) : Sys2Proof.RxFrame.bits ⟨lineOf b⟩ = b := by
  simp [Sys2Proof.RxFrame.bits, result_lineOf]

end Sys2Proof.Machine
end

