-- ==== Sys2Proof/Laws/Table.lean ====
section
/-! SUPPORT. Laws of sparse tables: a read after a write, and that every operation keeps the canonical form. -/
namespace Sys2Proof.Machine
variable {α : Type}

/-- Reading where a value was written gives it. -/
theorem tblGet_put_same [DecidableEq α] (d : Nat → α) (k : Nat) (v : α) (t : List (Nat × α)) (h : tblWf d t = true) :
    tblGet d (tblPut d k v t) k = v := by
  induction t with
  | nil => by_cases hv : v = d k <;> simp [tblPut, tblGet, hv]
  | cons e t ih =>
    obtain ⟨i, w⟩ := e
    simp only [tblWf, Bool.and_eq_true, decide_eq_true_eq, List.all_eq_true] at h
    obtain ⟨⟨_, hlt⟩, hwf⟩ := h
    have absent : ∀ l : List (Nat × α), (∀ e ∈ l, k < e.1) → tblGet d l k = d k := by
      intro l hl
      induction l with
      | nil => rfl
      | cons e l ihl =>
        have := hl e (by simp)
        rw [tblGet, if_neg (by omega)]
        exact ihl (fun x hx => hl x (by simp [hx]))
    simp only [tblPut]
    split
    · split
      · rename_i hk hv
        rw [tblGet, if_neg (by omega), absent t (fun e he => lt_trans hk (hlt e he)), hv]
      · simp [tblGet]
    · split
      · rename_i hik
        subst hik
        split
        · rename_i hv; rw [absent t hlt, hv]
        · simp [tblGet]
      · rename_i hik
        rw [tblGet, if_neg hik]
        exact ih hwf

/-- Reading elsewhere gives what it gave. -/
theorem tblGet_put_ne [DecidableEq α] (d : Nat → α) (k j : Nat) (v : α) (t : List (Nat × α)) (h : j ≠ k) :
    tblGet d (tblPut d k v t) j = tblGet d t j := by
  induction t with
  | nil => by_cases hv : v = d k <;> simp [tblPut, tblGet, hv, Ne.symm h]
  | cons e t ih =>
    obtain ⟨i, w⟩ := e
    simp only [tblPut]
    split
    · split
      · rfl
      · simp [tblGet, Ne.symm h]
    · split
      · rename_i hik
        subst hik
        split <;> simp [tblGet, Ne.symm h]
      · simp only [tblGet]
        rw [ih]

/-- A key below every key of a table stays below after a write at a greater key. -/
theorem tblPut_lower [DecidableEq α] (d : Nat → α) (k : Nat) (v : α) (i : Nat) (t : List (Nat × α)) (hi : i < k)
    (h : ∀ e ∈ t, i < e.1) : ∀ e ∈ tblPut d k v t, i < e.1 := by
  induction t with
  | nil =>
    intro e he
    simp only [tblPut] at he
    split at he <;> simp at he
    subst he; exact hi
  | cons x t ih =>
    obtain ⟨j, w⟩ := x
    have hj := h (j, w) (by simp)
    have ht : ∀ e ∈ t, i < e.1 := fun e he => h e (by simp [he])
    intro e he
    simp only [tblPut] at he
    split at he
    · split at he
      · exact h e he
      · rcases List.mem_cons.1 he with rfl | he
        · exact hi
        · exact h e he
    · split at he
      · split at he
        · exact ht e he
        · rcases List.mem_cons.1 he with rfl | he
          · exact hi
          · exact ht e he
      · rcases List.mem_cons.1 he with rfl | he
        · exact hj
        · exact ih ht e he

/-- A write keeps the canonical form. -/
theorem tblPut_wf [DecidableEq α] (d : Nat → α) (k : Nat) (v : α) (t : List (Nat × α)) (h : tblWf d t = true) :
    tblWf d (tblPut d k v t) = true := by
  induction t with
  | nil => by_cases hv : v = d k <;> simp [tblPut, tblWf, hv]
  | cons e t ih =>
    obtain ⟨i, w⟩ := e
    have h0 := h
    simp only [tblWf, Bool.and_eq_true, decide_eq_true_eq, List.all_eq_true] at h
    obtain ⟨⟨hw, hlt⟩, hwf⟩ := h
    simp only [tblPut]
    split
    · rename_i hk
      split
      · exact h0
      · rename_i hv
        simp only [tblWf, Bool.and_eq_true, decide_eq_true_eq, List.all_eq_true]
        refine ⟨⟨hv, fun e he => ?_⟩, ⟨hw, hlt⟩, hwf⟩
        rcases List.mem_cons.1 he with rfl | he
        · exact hk
        · exact lt_trans hk (hlt e he)
    · rename_i hk
      split
      · rename_i hik
        subst hik
        split
        · exact hwf
        · rename_i hv
          simp only [tblWf, Bool.and_eq_true, decide_eq_true_eq, List.all_eq_true]
          exact ⟨⟨hv, hlt⟩, hwf⟩
      · rename_i hik
        simp only [tblWf, Bool.and_eq_true, decide_eq_true_eq, List.all_eq_true]
        exact ⟨⟨hw, tblPut_lower d k v i t (by omega) hlt⟩, ih hwf⟩

/-- Dropping entries keeps the canonical form. -/
theorem tblDrop_wf [DecidableEq α] (d : Nat → α) (p : Nat → Bool) (t : List (Nat × α)) (h : tblWf d t = true) :
    tblWf d (tblDrop p t) = true := by
  induction t with
  | nil => rfl
  | cons e t ih =>
    obtain ⟨i, w⟩ := e
    simp only [tblWf, Bool.and_eq_true, decide_eq_true_eq, List.all_eq_true] at h
    obtain ⟨⟨hw, hlt⟩, hwf⟩ := h
    have hd := ih hwf
    simp only [tblDrop] at hd ⊢
    rw [List.filter_cons]
    split
    · simp only [tblWf, Bool.and_eq_true, decide_eq_true_eq, List.all_eq_true]
      exact ⟨⟨hw, fun e he => hlt e (List.mem_of_mem_filter he)⟩, hd⟩
    · exact hd

/-- Reading a dropped key gives its default, another key what it gave. -/
theorem tblGet_drop [DecidableEq α] (d : Nat → α) (p : Nat → Bool) (k : Nat) (t : List (Nat × α)) :
    tblGet d (tblDrop p t) k = if p k then d k else tblGet d t k := by
  induction t with
  | nil => simp [tblDrop, tblGet]
  | cons e t ih =>
    obtain ⟨i, w⟩ := e
    simp only [tblDrop] at ih ⊢
    rw [List.filter_cons]
    by_cases hp : p i = true
    · simp only [hp, Bool.not_true, Bool.false_eq_true, if_false, ih, tblGet]
      by_cases hik : i = k
      · subst hik; simp [hp]
      · simp [hik]
    · simp only [hp, Bool.not_false, if_true, tblGet, ih]
      by_cases hik : i = k
      · subst hik; simp [hp]
      · simp [hik]

/-- Writing bytes keeps the canonical form of a byte store. -/
theorem putBytes_wf (t : List (Nat × Nat)) (a : Nat) (b : List Byte) (h : tblWf (fun _ => 0) t = true) :
    tblWf (fun _ => 0) (putBytes t a b) = true := by
  induction b generalizing t a with
  | nil => exact h
  | cons x b ih => exact ih _ _ (tblPut_wf _ _ _ _ h)

/-- Bytes written do not reach an address outside them. -/
theorem tblGet_putBytes_out (t : List (Nat × Nat)) (a k : Nat) (b : List Byte) (h : k < a ∨ a + b.length ≤ k) :
    tblGet (fun _ => 0) (putBytes t a b) k = tblGet (fun _ => 0) t k := by
  induction b generalizing t a with
  | nil => rfl
  | cons x b ih =>
    rw [putBytes, ih _ _ (by simp only [List.length_cons] at h; omega)]
    exact tblGet_put_ne _ _ _ _ _ (by simp only [List.length_cons] at h; omega)

/-- A byte written reads back. -/
theorem tblGet_putBytes_in (t : List (Nat × Nat)) (a i : Nat) (b : List Byte) (hw : tblWf (fun _ => 0) t = true) (h : i < b.length) :
    tblGet (fun _ => 0) (putBytes t a b) (a + i) = (b[i]).toNat := by
  induction b generalizing t a i with
  | nil => simp at h
  | cons x b ih =>
    rw [putBytes]
    cases i with
    | zero =>
      rw [tblGet_putBytes_out _ _ _ _ (by omega)]
      exact tblGet_put_same _ _ _ _ hw
    | succ i =>
      have := ih (tblPut (fun _ => 0) a x.toNat t) (a + 1) i (tblPut_wf _ _ _ _ hw) (by simpa using h)
      rw [show a + (i + 1) = a + 1 + i by omega, this]
      simp

end Sys2Proof.Machine
end

