-- ==== Sys2Proof/Laws/State.lean ====
section
/-! SUPPORT. One lemma per field per update of the state, and what the updates read back. -/
namespace Sys2Proof.Machine

@[simp] theorem atTime_pending (s : State) (t : Nat) : (s.at_ t).pending = s.pending := rfl
@[simp] theorem atTime_objs (s : State) (t : Nat) : (s.at_ t).objs = s.objs := rfl
@[simp] theorem atTime_blobs (s : State) (t : Nat) : (s.at_ t).blobs = s.blobs := rfl
@[simp] theorem atTime_masts (s : State) (t : Nat) : (s.at_ t).masts = s.masts := rfl
@[simp] theorem atTime_host (s : State) (t : Nat) : (s.at_ t).host = s.host := rfl
@[simp] theorem atTime_media (s : State) (t : Nat) : (s.at_ t).media = s.media := rfl
@[simp] theorem atTime_fabric (s : State) (t : Nat) : (s.at_ t).fabric = s.fabric := rfl
@[simp] theorem atTime_eng (s : State) (t : Nat) : (s.at_ t).eng = s.eng := rfl
@[simp] theorem atTime_nv (s : State) (t : Nat) : (s.at_ t).nv = s.nv := rfl
@[simp] theorem atTime_field (s : State) (t : Nat) : (s.at_ t).field = s.field := rfl
@[simp] theorem atTime_avail (s : State) (t : Nat) : (s.at_ t).avail = s.avail := rfl
@[simp] theorem atTime_pins (s : State) (t : Nat) : (s.at_ t).pins = s.pins := rfl
@[simp] theorem atTime_jtag (s : State) (t : Nat) : (s.at_ t).jtag = s.jtag := rfl
@[simp] theorem atTime_boot (s : State) (t : Nat) : (s.at_ t).boot = s.boot := rfl
@[simp] theorem atTime_out (s : State) (t : Nat) : (s.at_ t).out = s.out := rfl
@[simp] theorem atTime_freeCtr (s : State) (t : Nat) : (s.at_ t).freeCtr = s.freeCtr := rfl
@[simp] theorem atTime_countAt (s : State) (t : Nat) : (s.at_ t).countAt = s.countAt := rfl
@[simp] theorem atTime_counted (s : State) (t : Nat) : (s.at_ t).counted = s.counted := rfl

@[simp] theorem setObj_pending (s : State) (k : Nat) (v : Int) : (s.setObj k v).pending = s.pending := rfl
@[simp] theorem setObj_now (s : State) (k : Nat) (v : Int) : (s.setObj k v).now = s.now := rfl
@[simp] theorem setObj_blobs (s : State) (k : Nat) (v : Int) : (s.setObj k v).blobs = s.blobs := rfl
@[simp] theorem setObj_masts (s : State) (k : Nat) (v : Int) : (s.setObj k v).masts = s.masts := rfl
@[simp] theorem setObj_host (s : State) (k : Nat) (v : Int) : (s.setObj k v).host = s.host := rfl
@[simp] theorem setObj_media (s : State) (k : Nat) (v : Int) : (s.setObj k v).media = s.media := rfl
@[simp] theorem setObj_fabric (s : State) (k : Nat) (v : Int) : (s.setObj k v).fabric = s.fabric := rfl
@[simp] theorem setObj_eng (s : State) (k : Nat) (v : Int) : (s.setObj k v).eng = s.eng := rfl
@[simp] theorem setObj_nv (s : State) (k : Nat) (v : Int) : (s.setObj k v).nv = s.nv := rfl
@[simp] theorem setObj_field (s : State) (k : Nat) (v : Int) : (s.setObj k v).field = s.field := rfl
@[simp] theorem setObj_avail (s : State) (k : Nat) (v : Int) : (s.setObj k v).avail = s.avail := rfl
@[simp] theorem setObj_pins (s : State) (k : Nat) (v : Int) : (s.setObj k v).pins = s.pins := rfl
@[simp] theorem setObj_jtag (s : State) (k : Nat) (v : Int) : (s.setObj k v).jtag = s.jtag := rfl
@[simp] theorem setObj_boot (s : State) (k : Nat) (v : Int) : (s.setObj k v).boot = s.boot := rfl
@[simp] theorem setObj_out (s : State) (k : Nat) (v : Int) : (s.setObj k v).out = s.out := rfl
@[simp] theorem setObj_freeCtr (s : State) (k : Nat) (v : Int) : (s.setObj k v).freeCtr = s.freeCtr := rfl
@[simp] theorem setObj_countAt (s : State) (k : Nat) (v : Int) : (s.setObj k v).countAt = s.countAt := rfl
@[simp] theorem setObj_counted (s : State) (k : Nat) (v : Int) : (s.setObj k v).counted = s.counted := rfl

@[simp] theorem setBlob_pending (s : State) (k : Nat) (v : List Byte) : (s.setBlob k v).pending = s.pending := rfl
@[simp] theorem setBlob_now (s : State) (k : Nat) (v : List Byte) : (s.setBlob k v).now = s.now := rfl
@[simp] theorem setBlob_objs (s : State) (k : Nat) (v : List Byte) : (s.setBlob k v).objs = s.objs := rfl
@[simp] theorem setBlob_masts (s : State) (k : Nat) (v : List Byte) : (s.setBlob k v).masts = s.masts := rfl
@[simp] theorem setBlob_host (s : State) (k : Nat) (v : List Byte) : (s.setBlob k v).host = s.host := rfl
@[simp] theorem setBlob_media (s : State) (k : Nat) (v : List Byte) : (s.setBlob k v).media = s.media := rfl
@[simp] theorem setBlob_fabric (s : State) (k : Nat) (v : List Byte) : (s.setBlob k v).fabric = s.fabric := rfl
@[simp] theorem setBlob_eng (s : State) (k : Nat) (v : List Byte) : (s.setBlob k v).eng = s.eng := rfl
@[simp] theorem setBlob_nv (s : State) (k : Nat) (v : List Byte) : (s.setBlob k v).nv = s.nv := rfl
@[simp] theorem setBlob_field (s : State) (k : Nat) (v : List Byte) : (s.setBlob k v).field = s.field := rfl
@[simp] theorem setBlob_avail (s : State) (k : Nat) (v : List Byte) : (s.setBlob k v).avail = s.avail := rfl
@[simp] theorem setBlob_pins (s : State) (k : Nat) (v : List Byte) : (s.setBlob k v).pins = s.pins := rfl
@[simp] theorem setBlob_jtag (s : State) (k : Nat) (v : List Byte) : (s.setBlob k v).jtag = s.jtag := rfl
@[simp] theorem setBlob_boot (s : State) (k : Nat) (v : List Byte) : (s.setBlob k v).boot = s.boot := rfl
@[simp] theorem setBlob_out (s : State) (k : Nat) (v : List Byte) : (s.setBlob k v).out = s.out := rfl
@[simp] theorem setBlob_freeCtr (s : State) (k : Nat) (v : List Byte) : (s.setBlob k v).freeCtr = s.freeCtr := rfl
@[simp] theorem setBlob_countAt (s : State) (k : Nat) (v : List Byte) : (s.setBlob k v).countAt = s.countAt := rfl
@[simp] theorem setBlob_counted (s : State) (k : Nat) (v : List Byte) : (s.setBlob k v).counted = s.counted := rfl

@[simp] theorem setMast_pending (s : State) (m : Nat) (x : Mast) : (s.setMast m x).pending = s.pending := rfl
@[simp] theorem setMast_now (s : State) (m : Nat) (x : Mast) : (s.setMast m x).now = s.now := rfl
@[simp] theorem setMast_objs (s : State) (m : Nat) (x : Mast) : (s.setMast m x).objs = s.objs := rfl
@[simp] theorem setMast_blobs (s : State) (m : Nat) (x : Mast) : (s.setMast m x).blobs = s.blobs := rfl
@[simp] theorem setMast_host (s : State) (m : Nat) (x : Mast) : (s.setMast m x).host = s.host := rfl
@[simp] theorem setMast_media (s : State) (m : Nat) (x : Mast) : (s.setMast m x).media = s.media := rfl
@[simp] theorem setMast_fabric (s : State) (m : Nat) (x : Mast) : (s.setMast m x).fabric = s.fabric := rfl
@[simp] theorem setMast_eng (s : State) (m : Nat) (x : Mast) : (s.setMast m x).eng = s.eng := rfl
@[simp] theorem setMast_nv (s : State) (m : Nat) (x : Mast) : (s.setMast m x).nv = s.nv := rfl
@[simp] theorem setMast_field (s : State) (m : Nat) (x : Mast) : (s.setMast m x).field = s.field := rfl
@[simp] theorem setMast_avail (s : State) (m : Nat) (x : Mast) : (s.setMast m x).avail = s.avail := rfl
@[simp] theorem setMast_pins (s : State) (m : Nat) (x : Mast) : (s.setMast m x).pins = s.pins := rfl
@[simp] theorem setMast_jtag (s : State) (m : Nat) (x : Mast) : (s.setMast m x).jtag = s.jtag := rfl
@[simp] theorem setMast_boot (s : State) (m : Nat) (x : Mast) : (s.setMast m x).boot = s.boot := rfl
@[simp] theorem setMast_out (s : State) (m : Nat) (x : Mast) : (s.setMast m x).out = s.out := rfl
@[simp] theorem setMast_freeCtr (s : State) (m : Nat) (x : Mast) : (s.setMast m x).freeCtr = s.freeCtr := rfl
@[simp] theorem setMast_countAt (s : State) (m : Nat) (x : Mast) : (s.setMast m x).countAt = s.countAt := rfl
@[simp] theorem setMast_counted (s : State) (m : Nat) (x : Mast) : (s.setMast m x).counted = s.counted := rfl

@[simp] theorem updMast_pending (s : State) (m : Nat) (f : Mast → Mast) : (s.updMast m f).pending = s.pending := rfl
@[simp] theorem updMast_now (s : State) (m : Nat) (f : Mast → Mast) : (s.updMast m f).now = s.now := rfl
@[simp] theorem updMast_objs (s : State) (m : Nat) (f : Mast → Mast) : (s.updMast m f).objs = s.objs := rfl
@[simp] theorem updMast_blobs (s : State) (m : Nat) (f : Mast → Mast) : (s.updMast m f).blobs = s.blobs := rfl
@[simp] theorem updMast_host (s : State) (m : Nat) (f : Mast → Mast) : (s.updMast m f).host = s.host := rfl
@[simp] theorem updMast_media (s : State) (m : Nat) (f : Mast → Mast) : (s.updMast m f).media = s.media := rfl
@[simp] theorem updMast_fabric (s : State) (m : Nat) (f : Mast → Mast) : (s.updMast m f).fabric = s.fabric := rfl
@[simp] theorem updMast_eng (s : State) (m : Nat) (f : Mast → Mast) : (s.updMast m f).eng = s.eng := rfl
@[simp] theorem updMast_nv (s : State) (m : Nat) (f : Mast → Mast) : (s.updMast m f).nv = s.nv := rfl
@[simp] theorem updMast_field (s : State) (m : Nat) (f : Mast → Mast) : (s.updMast m f).field = s.field := rfl
@[simp] theorem updMast_avail (s : State) (m : Nat) (f : Mast → Mast) : (s.updMast m f).avail = s.avail := rfl
@[simp] theorem updMast_pins (s : State) (m : Nat) (f : Mast → Mast) : (s.updMast m f).pins = s.pins := rfl
@[simp] theorem updMast_jtag (s : State) (m : Nat) (f : Mast → Mast) : (s.updMast m f).jtag = s.jtag := rfl
@[simp] theorem updMast_boot (s : State) (m : Nat) (f : Mast → Mast) : (s.updMast m f).boot = s.boot := rfl
@[simp] theorem updMast_out (s : State) (m : Nat) (f : Mast → Mast) : (s.updMast m f).out = s.out := rfl
@[simp] theorem updMast_freeCtr (s : State) (m : Nat) (f : Mast → Mast) : (s.updMast m f).freeCtr = s.freeCtr := rfl
@[simp] theorem updMast_countAt (s : State) (m : Nat) (f : Mast → Mast) : (s.updMast m f).countAt = s.countAt := rfl
@[simp] theorem updMast_counted (s : State) (m : Nat) (f : Mast → Mast) : (s.updMast m f).counted = s.counted := rfl

@[simp] theorem setSq_pending (s : State) (q : Nat) (x : SQ) : (s.setSq q x).pending = s.pending := rfl
@[simp] theorem setSq_now (s : State) (q : Nat) (x : SQ) : (s.setSq q x).now = s.now := rfl
@[simp] theorem setSq_objs (s : State) (q : Nat) (x : SQ) : (s.setSq q x).objs = s.objs := rfl
@[simp] theorem setSq_blobs (s : State) (q : Nat) (x : SQ) : (s.setSq q x).blobs = s.blobs := rfl
@[simp] theorem setSq_masts (s : State) (q : Nat) (x : SQ) : (s.setSq q x).masts = s.masts := rfl
@[simp] theorem setSq_media (s : State) (q : Nat) (x : SQ) : (s.setSq q x).media = s.media := rfl
@[simp] theorem setSq_fabric (s : State) (q : Nat) (x : SQ) : (s.setSq q x).fabric = s.fabric := rfl
@[simp] theorem setSq_eng (s : State) (q : Nat) (x : SQ) : (s.setSq q x).eng = s.eng := rfl
@[simp] theorem setSq_nv (s : State) (q : Nat) (x : SQ) : (s.setSq q x).nv = s.nv := rfl
@[simp] theorem setSq_field (s : State) (q : Nat) (x : SQ) : (s.setSq q x).field = s.field := rfl
@[simp] theorem setSq_avail (s : State) (q : Nat) (x : SQ) : (s.setSq q x).avail = s.avail := rfl
@[simp] theorem setSq_pins (s : State) (q : Nat) (x : SQ) : (s.setSq q x).pins = s.pins := rfl
@[simp] theorem setSq_jtag (s : State) (q : Nat) (x : SQ) : (s.setSq q x).jtag = s.jtag := rfl
@[simp] theorem setSq_boot (s : State) (q : Nat) (x : SQ) : (s.setSq q x).boot = s.boot := rfl
@[simp] theorem setSq_out (s : State) (q : Nat) (x : SQ) : (s.setSq q x).out = s.out := rfl
@[simp] theorem setSq_freeCtr (s : State) (q : Nat) (x : SQ) : (s.setSq q x).freeCtr = s.freeCtr := rfl
@[simp] theorem setSq_countAt (s : State) (q : Nat) (x : SQ) : (s.setSq q x).countAt = s.countAt := rfl
@[simp] theorem setSq_counted (s : State) (q : Nat) (x : SQ) : (s.setSq q x).counted = s.counted := rfl

@[simp] theorem setEq_pending (s : State) (e : Nat) (x : EQ) : (s.setEq e x).pending = s.pending := rfl
@[simp] theorem setEq_now (s : State) (e : Nat) (x : EQ) : (s.setEq e x).now = s.now := rfl
@[simp] theorem setEq_objs (s : State) (e : Nat) (x : EQ) : (s.setEq e x).objs = s.objs := rfl
@[simp] theorem setEq_blobs (s : State) (e : Nat) (x : EQ) : (s.setEq e x).blobs = s.blobs := rfl
@[simp] theorem setEq_masts (s : State) (e : Nat) (x : EQ) : (s.setEq e x).masts = s.masts := rfl
@[simp] theorem setEq_media (s : State) (e : Nat) (x : EQ) : (s.setEq e x).media = s.media := rfl
@[simp] theorem setEq_fabric (s : State) (e : Nat) (x : EQ) : (s.setEq e x).fabric = s.fabric := rfl
@[simp] theorem setEq_eng (s : State) (e : Nat) (x : EQ) : (s.setEq e x).eng = s.eng := rfl
@[simp] theorem setEq_nv (s : State) (e : Nat) (x : EQ) : (s.setEq e x).nv = s.nv := rfl
@[simp] theorem setEq_field (s : State) (e : Nat) (x : EQ) : (s.setEq e x).field = s.field := rfl
@[simp] theorem setEq_avail (s : State) (e : Nat) (x : EQ) : (s.setEq e x).avail = s.avail := rfl
@[simp] theorem setEq_pins (s : State) (e : Nat) (x : EQ) : (s.setEq e x).pins = s.pins := rfl
@[simp] theorem setEq_jtag (s : State) (e : Nat) (x : EQ) : (s.setEq e x).jtag = s.jtag := rfl
@[simp] theorem setEq_boot (s : State) (e : Nat) (x : EQ) : (s.setEq e x).boot = s.boot := rfl
@[simp] theorem setEq_out (s : State) (e : Nat) (x : EQ) : (s.setEq e x).out = s.out := rfl
@[simp] theorem setEq_freeCtr (s : State) (e : Nat) (x : EQ) : (s.setEq e x).freeCtr = s.freeCtr := rfl
@[simp] theorem setEq_countAt (s : State) (e : Nat) (x : EQ) : (s.setEq e x).countAt = s.countAt := rfl
@[simp] theorem setEq_counted (s : State) (e : Nat) (x : EQ) : (s.setEq e x).counted = s.counted := rfl

@[simp] theorem setFnr_pending (s : State) (f : Fn) (x : FnRegs) : (s.setFnr f x).pending = s.pending := rfl
@[simp] theorem setFnr_now (s : State) (f : Fn) (x : FnRegs) : (s.setFnr f x).now = s.now := rfl
@[simp] theorem setFnr_objs (s : State) (f : Fn) (x : FnRegs) : (s.setFnr f x).objs = s.objs := rfl
@[simp] theorem setFnr_blobs (s : State) (f : Fn) (x : FnRegs) : (s.setFnr f x).blobs = s.blobs := rfl
@[simp] theorem setFnr_masts (s : State) (f : Fn) (x : FnRegs) : (s.setFnr f x).masts = s.masts := rfl
@[simp] theorem setFnr_media (s : State) (f : Fn) (x : FnRegs) : (s.setFnr f x).media = s.media := rfl
@[simp] theorem setFnr_fabric (s : State) (f : Fn) (x : FnRegs) : (s.setFnr f x).fabric = s.fabric := rfl
@[simp] theorem setFnr_eng (s : State) (f : Fn) (x : FnRegs) : (s.setFnr f x).eng = s.eng := rfl
@[simp] theorem setFnr_nv (s : State) (f : Fn) (x : FnRegs) : (s.setFnr f x).nv = s.nv := rfl
@[simp] theorem setFnr_field (s : State) (f : Fn) (x : FnRegs) : (s.setFnr f x).field = s.field := rfl
@[simp] theorem setFnr_avail (s : State) (f : Fn) (x : FnRegs) : (s.setFnr f x).avail = s.avail := rfl
@[simp] theorem setFnr_pins (s : State) (f : Fn) (x : FnRegs) : (s.setFnr f x).pins = s.pins := rfl
@[simp] theorem setFnr_jtag (s : State) (f : Fn) (x : FnRegs) : (s.setFnr f x).jtag = s.jtag := rfl
@[simp] theorem setFnr_boot (s : State) (f : Fn) (x : FnRegs) : (s.setFnr f x).boot = s.boot := rfl
@[simp] theorem setFnr_out (s : State) (f : Fn) (x : FnRegs) : (s.setFnr f x).out = s.out := rfl
@[simp] theorem setFnr_freeCtr (s : State) (f : Fn) (x : FnRegs) : (s.setFnr f x).freeCtr = s.freeCtr := rfl
@[simp] theorem setFnr_countAt (s : State) (f : Fn) (x : FnRegs) : (s.setFnr f x).countAt = s.countAt := rfl
@[simp] theorem setFnr_counted (s : State) (f : Fn) (x : FnRegs) : (s.setFnr f x).counted = s.counted := rfl

@[simp] theorem setPort_pending (s : State) (p : Nat) (x : Port) : (s.setPort p x).pending = s.pending := rfl
@[simp] theorem setPort_now (s : State) (p : Nat) (x : Port) : (s.setPort p x).now = s.now := rfl
@[simp] theorem setPort_objs (s : State) (p : Nat) (x : Port) : (s.setPort p x).objs = s.objs := rfl
@[simp] theorem setPort_blobs (s : State) (p : Nat) (x : Port) : (s.setPort p x).blobs = s.blobs := rfl
@[simp] theorem setPort_masts (s : State) (p : Nat) (x : Port) : (s.setPort p x).masts = s.masts := rfl
@[simp] theorem setPort_host (s : State) (p : Nat) (x : Port) : (s.setPort p x).host = s.host := rfl
@[simp] theorem setPort_media (s : State) (p : Nat) (x : Port) : (s.setPort p x).media = s.media := rfl
@[simp] theorem setPort_eng (s : State) (p : Nat) (x : Port) : (s.setPort p x).eng = s.eng := rfl
@[simp] theorem setPort_nv (s : State) (p : Nat) (x : Port) : (s.setPort p x).nv = s.nv := rfl
@[simp] theorem setPort_field (s : State) (p : Nat) (x : Port) : (s.setPort p x).field = s.field := rfl
@[simp] theorem setPort_avail (s : State) (p : Nat) (x : Port) : (s.setPort p x).avail = s.avail := rfl
@[simp] theorem setPort_pins (s : State) (p : Nat) (x : Port) : (s.setPort p x).pins = s.pins := rfl
@[simp] theorem setPort_jtag (s : State) (p : Nat) (x : Port) : (s.setPort p x).jtag = s.jtag := rfl
@[simp] theorem setPort_boot (s : State) (p : Nat) (x : Port) : (s.setPort p x).boot = s.boot := rfl
@[simp] theorem setPort_out (s : State) (p : Nat) (x : Port) : (s.setPort p x).out = s.out := rfl
@[simp] theorem setPort_freeCtr (s : State) (p : Nat) (x : Port) : (s.setPort p x).freeCtr = s.freeCtr := rfl
@[simp] theorem setPort_countAt (s : State) (p : Nat) (x : Port) : (s.setPort p x).countAt = s.countAt := rfl
@[simp] theorem setPort_counted (s : State) (p : Nat) (x : Port) : (s.setPort p x).counted = s.counted := rfl

@[simp] theorem setEngine_pending (s : State) (e : Nat) (x : Engine) : (s.setEngine e x).pending = s.pending := rfl
@[simp] theorem setEngine_now (s : State) (e : Nat) (x : Engine) : (s.setEngine e x).now = s.now := rfl
@[simp] theorem setEngine_objs (s : State) (e : Nat) (x : Engine) : (s.setEngine e x).objs = s.objs := rfl
@[simp] theorem setEngine_blobs (s : State) (e : Nat) (x : Engine) : (s.setEngine e x).blobs = s.blobs := rfl
@[simp] theorem setEngine_masts (s : State) (e : Nat) (x : Engine) : (s.setEngine e x).masts = s.masts := rfl
@[simp] theorem setEngine_host (s : State) (e : Nat) (x : Engine) : (s.setEngine e x).host = s.host := rfl
@[simp] theorem setEngine_media (s : State) (e : Nat) (x : Engine) : (s.setEngine e x).media = s.media := rfl
@[simp] theorem setEngine_fabric (s : State) (e : Nat) (x : Engine) : (s.setEngine e x).fabric = s.fabric := rfl
@[simp] theorem setEngine_nv (s : State) (e : Nat) (x : Engine) : (s.setEngine e x).nv = s.nv := rfl
@[simp] theorem setEngine_field (s : State) (e : Nat) (x : Engine) : (s.setEngine e x).field = s.field := rfl
@[simp] theorem setEngine_avail (s : State) (e : Nat) (x : Engine) : (s.setEngine e x).avail = s.avail := rfl
@[simp] theorem setEngine_pins (s : State) (e : Nat) (x : Engine) : (s.setEngine e x).pins = s.pins := rfl
@[simp] theorem setEngine_jtag (s : State) (e : Nat) (x : Engine) : (s.setEngine e x).jtag = s.jtag := rfl
@[simp] theorem setEngine_boot (s : State) (e : Nat) (x : Engine) : (s.setEngine e x).boot = s.boot := rfl
@[simp] theorem setEngine_out (s : State) (e : Nat) (x : Engine) : (s.setEngine e x).out = s.out := rfl
@[simp] theorem setEngine_freeCtr (s : State) (e : Nat) (x : Engine) : (s.setEngine e x).freeCtr = s.freeCtr := rfl
@[simp] theorem setEngine_countAt (s : State) (e : Nat) (x : Engine) : (s.setEngine e x).countAt = s.countAt := rfl
@[simp] theorem setEngine_counted (s : State) (e : Nat) (x : Engine) : (s.setEngine e x).counted = s.counted := rfl

@[simp] theorem setDecoder_pending (s : State) (d : Nat) (x : Decoder) : (s.setDecoder d x).pending = s.pending := rfl
@[simp] theorem setDecoder_now (s : State) (d : Nat) (x : Decoder) : (s.setDecoder d x).now = s.now := rfl
@[simp] theorem setDecoder_objs (s : State) (d : Nat) (x : Decoder) : (s.setDecoder d x).objs = s.objs := rfl
@[simp] theorem setDecoder_blobs (s : State) (d : Nat) (x : Decoder) : (s.setDecoder d x).blobs = s.blobs := rfl
@[simp] theorem setDecoder_masts (s : State) (d : Nat) (x : Decoder) : (s.setDecoder d x).masts = s.masts := rfl
@[simp] theorem setDecoder_host (s : State) (d : Nat) (x : Decoder) : (s.setDecoder d x).host = s.host := rfl
@[simp] theorem setDecoder_fabric (s : State) (d : Nat) (x : Decoder) : (s.setDecoder d x).fabric = s.fabric := rfl
@[simp] theorem setDecoder_eng (s : State) (d : Nat) (x : Decoder) : (s.setDecoder d x).eng = s.eng := rfl
@[simp] theorem setDecoder_nv (s : State) (d : Nat) (x : Decoder) : (s.setDecoder d x).nv = s.nv := rfl
@[simp] theorem setDecoder_field (s : State) (d : Nat) (x : Decoder) : (s.setDecoder d x).field = s.field := rfl
@[simp] theorem setDecoder_avail (s : State) (d : Nat) (x : Decoder) : (s.setDecoder d x).avail = s.avail := rfl
@[simp] theorem setDecoder_pins (s : State) (d : Nat) (x : Decoder) : (s.setDecoder d x).pins = s.pins := rfl
@[simp] theorem setDecoder_jtag (s : State) (d : Nat) (x : Decoder) : (s.setDecoder d x).jtag = s.jtag := rfl
@[simp] theorem setDecoder_boot (s : State) (d : Nat) (x : Decoder) : (s.setDecoder d x).boot = s.boot := rfl
@[simp] theorem setDecoder_out (s : State) (d : Nat) (x : Decoder) : (s.setDecoder d x).out = s.out := rfl
@[simp] theorem setDecoder_freeCtr (s : State) (d : Nat) (x : Decoder) : (s.setDecoder d x).freeCtr = s.freeCtr := rfl
@[simp] theorem setDecoder_countAt (s : State) (d : Nat) (x : Decoder) : (s.setDecoder d x).countAt = s.countAt := rfl
@[simp] theorem setDecoder_counted (s : State) (d : Nat) (x : Decoder) : (s.setDecoder d x).counted = s.counted := rfl

@[simp] theorem setCmds_pending (s : State) (l : List Cmd) : (s.setCmds l).pending = s.pending := rfl
@[simp] theorem setCmds_now (s : State) (l : List Cmd) : (s.setCmds l).now = s.now := rfl
@[simp] theorem setCmds_objs (s : State) (l : List Cmd) : (s.setCmds l).objs = s.objs := rfl
@[simp] theorem setCmds_blobs (s : State) (l : List Cmd) : (s.setCmds l).blobs = s.blobs := rfl
@[simp] theorem setCmds_masts (s : State) (l : List Cmd) : (s.setCmds l).masts = s.masts := rfl
@[simp] theorem setCmds_media (s : State) (l : List Cmd) : (s.setCmds l).media = s.media := rfl
@[simp] theorem setCmds_fabric (s : State) (l : List Cmd) : (s.setCmds l).fabric = s.fabric := rfl
@[simp] theorem setCmds_eng (s : State) (l : List Cmd) : (s.setCmds l).eng = s.eng := rfl
@[simp] theorem setCmds_nv (s : State) (l : List Cmd) : (s.setCmds l).nv = s.nv := rfl
@[simp] theorem setCmds_field (s : State) (l : List Cmd) : (s.setCmds l).field = s.field := rfl
@[simp] theorem setCmds_avail (s : State) (l : List Cmd) : (s.setCmds l).avail = s.avail := rfl
@[simp] theorem setCmds_pins (s : State) (l : List Cmd) : (s.setCmds l).pins = s.pins := rfl
@[simp] theorem setCmds_jtag (s : State) (l : List Cmd) : (s.setCmds l).jtag = s.jtag := rfl
@[simp] theorem setCmds_boot (s : State) (l : List Cmd) : (s.setCmds l).boot = s.boot := rfl
@[simp] theorem setCmds_out (s : State) (l : List Cmd) : (s.setCmds l).out = s.out := rfl
@[simp] theorem setCmds_freeCtr (s : State) (l : List Cmd) : (s.setCmds l).freeCtr = s.freeCtr := rfl
@[simp] theorem setCmds_countAt (s : State) (l : List Cmd) : (s.setCmds l).countAt = s.countAt := rfl
@[simp] theorem setCmds_counted (s : State) (l : List Cmd) : (s.setCmds l).counted = s.counted := rfl

@[simp] theorem emit_pending (s : State) (x : Emit) : (s.emit x).pending = s.pending := rfl
@[simp] theorem emit_now (s : State) (x : Emit) : (s.emit x).now = s.now := rfl
@[simp] theorem emit_objs (s : State) (x : Emit) : (s.emit x).objs = s.objs := rfl
@[simp] theorem emit_blobs (s : State) (x : Emit) : (s.emit x).blobs = s.blobs := rfl
@[simp] theorem emit_masts (s : State) (x : Emit) : (s.emit x).masts = s.masts := rfl
@[simp] theorem emit_host (s : State) (x : Emit) : (s.emit x).host = s.host := rfl
@[simp] theorem emit_media (s : State) (x : Emit) : (s.emit x).media = s.media := rfl
@[simp] theorem emit_fabric (s : State) (x : Emit) : (s.emit x).fabric = s.fabric := rfl
@[simp] theorem emit_eng (s : State) (x : Emit) : (s.emit x).eng = s.eng := rfl
@[simp] theorem emit_nv (s : State) (x : Emit) : (s.emit x).nv = s.nv := rfl
@[simp] theorem emit_field (s : State) (x : Emit) : (s.emit x).field = s.field := rfl
@[simp] theorem emit_avail (s : State) (x : Emit) : (s.emit x).avail = s.avail := rfl
@[simp] theorem emit_pins (s : State) (x : Emit) : (s.emit x).pins = s.pins := rfl
@[simp] theorem emit_jtag (s : State) (x : Emit) : (s.emit x).jtag = s.jtag := rfl
@[simp] theorem emit_boot (s : State) (x : Emit) : (s.emit x).boot = s.boot := rfl
@[simp] theorem emit_freeCtr (s : State) (x : Emit) : (s.emit x).freeCtr = s.freeCtr := rfl
@[simp] theorem emit_countAt (s : State) (x : Emit) : (s.emit x).countAt = s.countAt := rfl
@[simp] theorem emit_counted (s : State) (x : Emit) : (s.emit x).counted = s.counted := rfl

@[simp] theorem count_pending (s : State) (k : Nat) : (s.count k).pending = s.pending := rfl
@[simp] theorem count_now (s : State) (k : Nat) : (s.count k).now = s.now := rfl
@[simp] theorem count_blobs (s : State) (k : Nat) : (s.count k).blobs = s.blobs := rfl
@[simp] theorem count_masts (s : State) (k : Nat) : (s.count k).masts = s.masts := rfl
@[simp] theorem count_host (s : State) (k : Nat) : (s.count k).host = s.host := rfl
@[simp] theorem count_media (s : State) (k : Nat) : (s.count k).media = s.media := rfl
@[simp] theorem count_fabric (s : State) (k : Nat) : (s.count k).fabric = s.fabric := rfl
@[simp] theorem count_eng (s : State) (k : Nat) : (s.count k).eng = s.eng := rfl
@[simp] theorem count_nv (s : State) (k : Nat) : (s.count k).nv = s.nv := rfl
@[simp] theorem count_field (s : State) (k : Nat) : (s.count k).field = s.field := rfl
@[simp] theorem count_avail (s : State) (k : Nat) : (s.count k).avail = s.avail := rfl
@[simp] theorem count_pins (s : State) (k : Nat) : (s.count k).pins = s.pins := rfl
@[simp] theorem count_jtag (s : State) (k : Nat) : (s.count k).jtag = s.jtag := rfl
@[simp] theorem count_boot (s : State) (k : Nat) : (s.count k).boot = s.boot := rfl
@[simp] theorem count_out (s : State) (k : Nat) : (s.count k).out = s.out := rfl
@[simp] theorem count_freeCtr (s : State) (k : Nat) : (s.count k).freeCtr = s.freeCtr := rfl
@[simp] theorem count_countAt (s : State) (k : Nat) : (s.count k).countAt = s.now := rfl

@[simp] theorem countN_pending (s : State) (k n : Nat) : (s.countN k n).pending = s.pending := rfl
@[simp] theorem countN_now (s : State) (k n : Nat) : (s.countN k n).now = s.now := rfl
@[simp] theorem countN_blobs (s : State) (k n : Nat) : (s.countN k n).blobs = s.blobs := rfl
@[simp] theorem countN_masts (s : State) (k n : Nat) : (s.countN k n).masts = s.masts := rfl
@[simp] theorem countN_host (s : State) (k n : Nat) : (s.countN k n).host = s.host := rfl
@[simp] theorem countN_media (s : State) (k n : Nat) : (s.countN k n).media = s.media := rfl
@[simp] theorem countN_fabric (s : State) (k n : Nat) : (s.countN k n).fabric = s.fabric := rfl
@[simp] theorem countN_eng (s : State) (k n : Nat) : (s.countN k n).eng = s.eng := rfl
@[simp] theorem countN_nv (s : State) (k n : Nat) : (s.countN k n).nv = s.nv := rfl
@[simp] theorem countN_field (s : State) (k n : Nat) : (s.countN k n).field = s.field := rfl
@[simp] theorem countN_avail (s : State) (k n : Nat) : (s.countN k n).avail = s.avail := rfl
@[simp] theorem countN_pins (s : State) (k n : Nat) : (s.countN k n).pins = s.pins := rfl
@[simp] theorem countN_jtag (s : State) (k n : Nat) : (s.countN k n).jtag = s.jtag := rfl
@[simp] theorem countN_boot (s : State) (k n : Nat) : (s.countN k n).boot = s.boot := rfl
@[simp] theorem countN_out (s : State) (k n : Nat) : (s.countN k n).out = s.out := rfl
@[simp] theorem countN_freeCtr (s : State) (k n : Nat) : (s.countN k n).freeCtr = s.freeCtr := rfl
@[simp] theorem countN_countAt (s : State) (k n : Nat) : (s.countN k n).countAt = s.now := rfl

@[simp] theorem setMaskBit_pending (s : State) (k i : Nat) : (s.setMaskBit k i).pending = s.pending := rfl
@[simp] theorem setMaskBit_now (s : State) (k i : Nat) : (s.setMaskBit k i).now = s.now := rfl
@[simp] theorem setMaskBit_blobs (s : State) (k i : Nat) : (s.setMaskBit k i).blobs = s.blobs := rfl
@[simp] theorem setMaskBit_masts (s : State) (k i : Nat) : (s.setMaskBit k i).masts = s.masts := rfl
@[simp] theorem setMaskBit_host (s : State) (k i : Nat) : (s.setMaskBit k i).host = s.host := rfl
@[simp] theorem setMaskBit_media (s : State) (k i : Nat) : (s.setMaskBit k i).media = s.media := rfl
@[simp] theorem setMaskBit_fabric (s : State) (k i : Nat) : (s.setMaskBit k i).fabric = s.fabric := rfl
@[simp] theorem setMaskBit_eng (s : State) (k i : Nat) : (s.setMaskBit k i).eng = s.eng := rfl
@[simp] theorem setMaskBit_nv (s : State) (k i : Nat) : (s.setMaskBit k i).nv = s.nv := rfl
@[simp] theorem setMaskBit_field (s : State) (k i : Nat) : (s.setMaskBit k i).field = s.field := rfl
@[simp] theorem setMaskBit_avail (s : State) (k i : Nat) : (s.setMaskBit k i).avail = s.avail := rfl
@[simp] theorem setMaskBit_pins (s : State) (k i : Nat) : (s.setMaskBit k i).pins = s.pins := rfl
@[simp] theorem setMaskBit_jtag (s : State) (k i : Nat) : (s.setMaskBit k i).jtag = s.jtag := rfl
@[simp] theorem setMaskBit_boot (s : State) (k i : Nat) : (s.setMaskBit k i).boot = s.boot := rfl
@[simp] theorem setMaskBit_out (s : State) (k i : Nat) : (s.setMaskBit k i).out = s.out := rfl
@[simp] theorem setMaskBit_freeCtr (s : State) (k i : Nat) : (s.setMaskBit k i).freeCtr = s.freeCtr := rfl
@[simp] theorem setMaskBit_countAt (s : State) (k i : Nat) : (s.setMaskBit k i).countAt = s.countAt := rfl
@[simp] theorem setMaskBit_counted (s : State) (k i : Nat) : (s.setMaskBit k i).counted = s.counted := rfl

/-- The rig time of an event. -/
@[simp] theorem at_now (s : State) (t : Nat) : (s.at_ t).now = max s.now t := rfl
@[simp] theorem emit_out (s : State) (x : Emit) : (s.emit x).out = x :: s.out := rfl

@[simp] theorem setEp_pending (s : State) (e : Endpoint) (x : EpState) : (s.setEp e x).pending = s.pending := by cases e <;> rfl
@[simp] theorem setEp_now (s : State) (e : Endpoint) (x : EpState) : (s.setEp e x).now = s.now := by cases e <;> rfl
@[simp] theorem setEp_objs (s : State) (e : Endpoint) (x : EpState) : (s.setEp e x).objs = s.objs := by cases e <;> rfl
@[simp] theorem setEp_blobs (s : State) (e : Endpoint) (x : EpState) : (s.setEp e x).blobs = s.blobs := by cases e <;> rfl
@[simp] theorem setEp_masts (s : State) (e : Endpoint) (x : EpState) : (s.setEp e x).masts = s.masts := by cases e <;> rfl
@[simp] theorem setEp_media (s : State) (e : Endpoint) (x : EpState) : (s.setEp e x).media = s.media := by cases e <;> rfl
@[simp] theorem setEp_fabric (s : State) (e : Endpoint) (x : EpState) : (s.setEp e x).fabric = s.fabric := by cases e <;> rfl
@[simp] theorem setEp_eng (s : State) (e : Endpoint) (x : EpState) : (s.setEp e x).eng = s.eng := by cases e <;> rfl
@[simp] theorem setEp_nv (s : State) (e : Endpoint) (x : EpState) : (s.setEp e x).nv = s.nv := by cases e <;> rfl
@[simp] theorem setEp_field (s : State) (e : Endpoint) (x : EpState) : (s.setEp e x).field = s.field := by cases e <;> rfl
@[simp] theorem setEp_avail (s : State) (e : Endpoint) (x : EpState) : (s.setEp e x).avail = s.avail := by cases e <;> rfl
@[simp] theorem setEp_pins (s : State) (e : Endpoint) (x : EpState) : (s.setEp e x).pins = s.pins := by cases e <;> rfl
@[simp] theorem setEp_jtag (s : State) (e : Endpoint) (x : EpState) : (s.setEp e x).jtag = s.jtag := by cases e <;> rfl
@[simp] theorem setEp_boot (s : State) (e : Endpoint) (x : EpState) : (s.setEp e x).boot = s.boot := by cases e <;> rfl
@[simp] theorem setEp_out (s : State) (e : Endpoint) (x : EpState) : (s.setEp e x).out = s.out := by cases e <;> rfl
@[simp] theorem setEp_freeCtr (s : State) (e : Endpoint) (x : EpState) : (s.setEp e x).freeCtr = s.freeCtr := by cases e <;> rfl
@[simp] theorem setEp_countAt (s : State) (e : Endpoint) (x : EpState) : (s.setEp e x).countAt = s.countAt := by cases e <;> rfl
@[simp] theorem setEp_counted (s : State) (e : Endpoint) (x : EpState) : (s.setEp e x).counted = s.counted := by cases e <;> rfl

/-- Clearing a bit of a mask changes the dictionary alone. -/
theorem clearMaskBit_cases (s : State) (k i : Nat) : s.clearMaskBit k i = s ∨ ∃ v, s.clearMaskBit k i = s.setObj k v := by
  unfold State.clearMaskBit
  split
  · exact .inr ⟨_, rfl⟩
  · exact .inl rfl

/-! ## Reads after updates -/

/-- A dictionary value just set reads back. -/
theorem obj_setObj_same (s : State) (k : Nat) (v : Int) (h : tblWf objDefault s.objs = true) : (s.setObj k v).obj k = v :=
  tblGet_put_same _ _ _ _ h
/-- Another dictionary value is unchanged. -/
theorem obj_setObj_ne (s : State) (k j : Nat) (v : Int) (h : j ≠ k) : (s.setObj k v).obj j = s.obj j := tblGet_put_ne _ _ _ _ _ h
/-- Another dictionary value, read as a natural number. -/
theorem objN_setObj_ne (s : State) (k j : Nat) (v : Int) (h : j ≠ k) : (s.setObj k v).objN j = s.objN j :=
  congrArg Int.toNat (obj_setObj_ne s k j v h)
/-- A counter after one event (00 R28). -/
theorem obj_count_same (s : State) (k : Nat) (h : tblWf objDefault s.objs = true) :
    (s.count k).obj k = min (s.obj k + 1) (counterMax k) := obj_setObj_same s k _ h
/-- Counting leaves every other value. -/
theorem obj_count_ne (s : State) (k j : Nat) (h : j ≠ k) : (s.count k).obj j = s.obj j := obj_setObj_ne s k j _ h
/-- A mast just replaced. -/
theorem mast_setMast_same (s : State) (m : Nat) (x : Mast) (h : tblWf (fun _ => ({} : Mast)) s.masts = true) :
    (s.setMast m x).mast m = x := tblGet_put_same _ _ _ _ h
/-- Another mast is unchanged. -/
theorem mast_setMast_ne (s : State) (m j : Nat) (x : Mast) (h : j ≠ m) : (s.setMast m x).mast j = s.mast j :=
  tblGet_put_ne _ _ _ _ _ h
/-- Another mast is unchanged by a change of one. -/
theorem mast_updMast_ne (s : State) (m j : Nat) (f : Mast → Mast) (h : j ≠ m) : (s.updMast m f).mast j = s.mast j :=
  tblGet_put_ne _ _ _ _ _ h
/-- A submission queue just replaced. -/
theorem sq_setSq_same (s : State) (q : Nat) (x : SQ) (h : tblWf (fun _ => ({} : SQ)) s.host.sqs = true) : (s.setSq q x).sq q = x :=
  tblGet_put_same _ _ _ _ h
/-- Another submission queue is unchanged. -/
theorem sq_setSq_ne (s : State) (q j : Nat) (x : SQ) (h : j ≠ q) : (s.setSq q x).sq j = s.sq j := tblGet_put_ne _ _ _ _ _ h
/-- An event queue just replaced. -/
theorem eq_setEq_same (s : State) (e : Nat) (x : EQ) (h : tblWf (fun _ => ({} : EQ)) s.host.eqs = true) : (s.setEq e x).eq e = x :=
  tblGet_put_same _ _ _ _ h
/-- Another event queue is unchanged. -/
theorem eq_setEq_ne (s : State) (e j : Nat) (x : EQ) (h : j ≠ e) : (s.setEq e x).eq j = s.eq j := tblGet_put_ne _ _ _ _ _ h
/-- Another engine is unchanged. -/
theorem engine_setEngine_ne (s : State) (e j : Nat) (x : Engine) (h : j ≠ e) : (s.setEngine e x).engine j = s.engine j :=
  tblGet_put_ne _ _ _ _ _ h
/-- An engine just replaced. -/
theorem engine_setEngine_same (s : State) (e : Nat) (x : Engine) (h : tblWf (fun _ => ({} : Engine)) s.eng.engines = true) :
    (s.setEngine e x).engine e = x := tblGet_put_same _ _ _ _ h
/-- Another Gorcy port is unchanged. -/
theorem port_setPort_ne (s : State) (p j : Nat) (x : Port) (h : j ≠ p) : (s.setPort p x).port j = s.port j := tblGet_put_ne _ _ _ _ _ h
/-- A Gorcy port just replaced. -/
theorem port_setPort_same (s : State) (p : Nat) (x : Port) (h : tblWf (fun _ => ({} : Port)) s.fabric.ports = true) :
    (s.setPort p x).port p = x := tblGet_put_same _ _ _ _ h
/-- Another decoder is unchanged. -/
theorem decoder_setDecoder_ne (s : State) (d j : Nat) (x : Decoder) (h : j ≠ d) : (s.setDecoder d x).decoder j = s.decoder j :=
  tblGet_put_ne _ _ _ _ _ h

/-- Setting a dictionary value keeps the state's tables canonical. -/
theorem setObj_wf (s : State) (k : Nat) (v : Int) (h : tblWf objDefault s.objs = true) : tblWf objDefault (s.setObj k v).objs = true :=
  tblPut_wf _ _ _ _ h
/-- Setting a DOMAIN value keeps its table canonical. -/
theorem setBlob_wf (s : State) (k : Nat) (v : List Byte) (h : tblWf (fun _ => ([] : List Byte)) s.blobs = true) :
    tblWf (fun _ => ([] : List Byte)) (s.setBlob k v).blobs = true := tblPut_wf _ _ _ _ h
/-- Replacing a mast keeps the masts canonical. -/
theorem setMast_wf (s : State) (m : Nat) (x : Mast) (h : tblWf (fun _ => ({} : Mast)) s.masts = true) :
    tblWf (fun _ => ({} : Mast)) (s.setMast m x).masts = true := tblPut_wf _ _ _ _ h

end Sys2Proof.Machine
end

