-- ==== Sys2Proof/Laws/Commands.lean ====
section
/-! SUPPORT. Laws of the command processor: what an admitted packet does. -/
namespace Sys2Proof.Machine

/-- What an admitted packet passed, and the command it became. -/
theorem letIn_spec (s : State) (t q : Nat) (p : Sys2Proof.Packet) (c : Cmd) (b : State) (h : s.letIn t q p = some (c, b)) :
    (s.at_ t).nextPacket q p = true ∧ ∀ v, v = (s.at_ t).handed q → (v.sq q).owner ≠ .nobody ∧ v.hasHolder = true ∧
      (v.sq q).dups.find? (fun d => decide (d.tag = pk p 31 16 ∧ d.seq = pk p 63 32)) = none ∧ v.tagInUse q (pk p 31 16) = false ∧
      v.enter q p = (c.cid, b) ∧ b.cmd c.cid = some c ∧ b.arrivalStatus (b.sq q) p = none ∧ c.opc = pk p 7 0 ∧
      (∀ m, c.mast = some m → b.mastStop m = none ∧ b.pins.furlN = false ∧ b.media.mapLost.contains m = false ∧
        (c.opc = 0x01 ∨ c.opc = 0x05 → b.heldWrite c = none ∧ b.earlierWrite c = none)) := by
  unfold State.letIn at h
  simp only at h
  split at h
  · rename_i h1
    obtain ⟨a0, a1, a2, a3, a4⟩ := h1
    refine ⟨a0, ?_⟩
    intro v hv
    rw [← hv] at h a1 a2 a3 a4
    refine ⟨a1, a2, a3, a4, ?_⟩
    split at h
    · rename_i c' hc
      split at h
      · rename_i h2
        obtain ⟨b1, b2, b3, b4⟩ := h2
        injection h with h
        injection h with e1 e2
        subst e1; subst e2
        refine ⟨by rw [b2], ?_, b1, b3, ?_⟩
        · rw [← b2] at hc; exact hc
        · intro m hm
          rw [hm] at b4
          simp only [Option.all_some, Bool.and_eq_true, Bool.or_eq_true, Bool.not_eq_true', decide_eq_true_eq, Option.isNone_iff_eq_none] at b4
          refine ⟨b4.1.1.1, b4.1.1.2, b4.1.2, fun ho => ?_⟩
          rcases b4.2 with z | z
          · omega
          · exact z
      · simp at h
    · simp at h
  · simp at h

/-- An admitted packet of another opcode than JOB is dispatched. -/
theorem take_letIn (s : State) (t q : Nat) (p : Sys2Proof.Packet) (c : Cmd) (b : State) (h : s.letIn t q p = some (c, b))
    (hj : pk p 7 0 ≠ 0x05) : (s.at_ t).takePacket q p = b.dispatchCmd c := by
  obtain ⟨h0, hh⟩ := letIn_spec s t q p c b h
  obtain ⟨h1, h2, h3, h4, h5, h6, h7, h8, h9⟩ := hh _ rfl
  have e : (s.at_ t).takePacket q p = ((s.at_ t).handed q).arrive q p := by rw [State.takePacket, h0, if_pos rfl]
  rw [e]
  generalize (s.at_ t).handed q = v at *
  have hs : b.start c.cid = b.dispatchCmd c := by
    unfold State.start
    simp only [h6]
    cases hm : c.mast with
    | none => rfl
    | some m =>
      obtain ⟨m1, m2, m3, m4⟩ := h9 m hm
      simp only [m1, m2, m3]
      by_cases ho : c.opc = 0x01 ∨ c.opc = 0x05
      · simp [m4 ho]
      · simp [ho]
  unfold State.arrive
  simp only [h1, if_false, h2, Bool.not_true, Bool.false_eq_true, h3, h4]
  unfold State.execute
  simp only [h5, h7, h6]
  rw [if_neg (by rw [h8]; exact hj), hs]

end Sys2Proof.Machine
end

