-- ==== Sys2Proof/Laws/Dict.lean ====
section
/-! SUPPORT. Laws of the object dictionary's writes: what a write of one plain value that is taken does. -/
namespace Sys2Proof.Machine

/-- Little-endian bytes of a number that fits read back. -/
theorem leNat_leBytes (n v : Nat) (h : v < 2 ^ (8 * n)) : leNat (leBytes n v) = v := by
  induction n generalizing v with
  | zero => have : v = 0 := by simpa using h
            subst this; rfl
  | succ n ih =>
    have h2 : v / 256 < 2 ^ (8 * n) := by
      rw [Nat.div_lt_iff_lt_mul (by decide)]
      have : 2 ^ (8 * (n + 1)) = 2 ^ (8 * n) * 256 := by rw [Nat.mul_add, Nat.pow_add]
      omega
    rw [leBytes, leNat, ih _ h2, BitVec.toNat_ofNat]
    omega

/-- What a passed check of a plain unsigned value carries. -/
theorem canWrite_value (s : State) (p : Sys2Proof.Path) (index sub v i : Nat) (r : ObjRow) (w : Wr) (hr : rowAt index sub = some (i, r))
    (hs : r.ty.signed = false) (hf : r.ty.fixed = true) (hv : v < 2 ^ (8 * r.ty.bytes))
    (hc : s.canWrite p index sub (leBytes r.ty.bytes v) = .ok w) : w = { index := index, sub := i, row := r, num := v } := by
  unfold State.canWrite at hc
  cases hh : (rowsAt index).head? with
  | none => rw [hh] at hc; simp at hc
  | some r0 =>
    rw [hh] at hc
    simp only [hr] at hc
    split at hc
    · simp at hc
    · split at hc
      · simp at hc
      · cases hd : decodeValue index i r (leBytes r.ty.bytes v) with
        | error e => rw [hd] at hc; simp at hc
        | ok w' =>
          rw [hd] at hc
          simp only at hc
          split at hc
          · simp at hc
          · split at hc
            · simp at hc
            injection hc with hc
            subst hc
            unfold decodeValue at hd
            simp only [hf, if_true, hs, Bool.false_eq_true, if_false, leNat_leBytes _ _ hv] at hd
            split at hd
            · simp at hd
            · split at hd
              · simp at hd
              · split at hd
                · simp at hd
                · injection hd with hd
                  exact hd.symm

/-- What a write that is taken passed. -/
theorem takes_spec (s : State) (p : Sys2Proof.Path) (index sub v i : Nat) (r : ObjRow) (hr : rowAt index sub = some (i, r))
    (hs : r.ty.signed = false) (h : s.takes p index sub v = true) :
    s.pathThere p = true ∧ r.ty.fixed = true ∧ v < 2 ^ (8 * r.ty.bytes) ∧ s.hasHolder = true ∧ s.boot.ready = true ∧
    s.canWrite p index sub (leBytes r.ty.bytes v) = .ok { index := index, sub := i, row := r, num := v } ∧
    s.ownCheck (s.store1 { index := index, sub := i, row := r, num := v }) { index := index, sub := i, row := r, num := v } = none := by
  unfold State.takes at h
  rw [hr] at h
  simp only [Bool.and_eq_true, decide_eq_true_eq] at h
  obtain ⟨⟨⟨⟨⟨h1, h2⟩, h3⟩, h4⟩, h5⟩, h6⟩ := h
  cases hc : s.canWrite p index sub (leBytes r.ty.bytes v) with
  | error e => rw [hc] at h6; simp at h6
  | ok w =>
    rw [hc] at h6
    have hw := canWrite_value s p index sub v i r w hr hs h2 h3 hc
    subst hw
    exact ⟨h1, h2, h3, h4, h5, rfl, by simpa [Option.isNone_iff_eq_none] using h6⟩

/-- A plain write that is taken is the application of its one value. -/
theorem pathPut_takes (s : State) (p : Sys2Proof.Path) (index sub v i : Nat) (r : ObjRow) (env : WEnv)
    (hr : rowAt index sub = some (i, r)) (hs : r.ty.signed = false) (h : s.takes p index sub v = true) :
    s.pathPut p index sub v env = s.applyWrites env [{ index := index, sub := i, row := r, num := v }] := by
  obtain ⟨h1, h2, h3, h4, h5, h6, h7⟩ := takes_spec s p index sub v i r hr hs h
  unfold State.pathPut
  rw [hr]
  simp only [h1, h2, h3, and_self, if_true, State.pathWrite, h4, h5, Bool.and_self]
  unfold State.writeObj State.writeParts
  simp only [Bool.false_eq_true, if_false, State.checkWrites, h6, gather, forEach, List.foldl_cons, List.foldl_nil, h7, List.nil_append]

/-- A write-only value is its action alone (17 R457). -/
theorem applyWrites_action (s : State) (env : WEnv) (w : Wr) (ha : w.row.acc = .wo) (hk : retirementKeys.contains w.key = false)
    (hi : ¬(w.index = 0x2541 ∧ w.sub = 1)) (ht : trimIndex w.index = false) : s.applyWrites env [w] = s.act1 env w s := by
  have h1 : s.store1 w = s := by simp [State.store1, hi, ha]
  simp only [State.applyWrites, forEach, List.foldl_cons, List.foldl_nil, h1, List.any_cons, List.any_nil, List.find?_cons, List.find?_nil, ht,
    ha, hk]
  simp

/-- A write of a mask of retired units: its value, its action, and a save where it changed (17 R474). -/
theorem applyWrites_retirement (s : State) (env : WEnv) (w : Wr) (ha : w.row.acc = .rw) (hf : w.row.ty.fixed = true)
    (hu : unitParam w.index w.sub = false) (hm : flagMask w.index w.sub = false)
    (hk : retirementKeys.contains w.key = true) (hc : ¬(0x2440 ≤ w.index ∧ w.index ≤ 0x244F)) (hi : ¬(w.index = 0x2541 ∧ w.sub = 1))
    (hn : w.index < 0x5000) (ht : trimIndex w.index = false) :
    s.applyWrites env [w] = if s.obj w.key = w.num then s.act1 env w (s.setObj w.key w.num)
      else (s.act1 env w (s.setObj w.key w.num)).requestSave [] := by
  have h0 : ¬(0x5000 ≤ w.index ∧ w.index ≤ 0x5431) := by omega
  have h1 : s.store1 w = s.setObj w.key w.num := by simp [State.store1, hi, ha, hu, hm, hf, h0]
  have h2 : (decide (0x2440 ≤ w.index ∧ w.index ≤ 0x244F)) = false := decide_eq_false hc
  simp only [State.applyWrites, forEach, List.foldl_cons, List.foldl_nil, h1, List.any_cons, List.any_nil, List.find?_cons, List.find?_nil, ht,
    ha, hk, h2]
  by_cases h : s.obj w.key = w.num <;> simp [h]

/-- The action of a mast's object. -/
theorem act1_mast (old s : State) (env : WEnv) (w : Wr) (m ii : Nat) (hw : w.index = mIx m ii) (hm : m < 32) (hi : ii < 0x80) :
    old.act1 env w s = old.actMast s m ii w := by
  have h1 : 0x3000 ≤ w.index ∧ w.index < 0x4000 := by rw [hw]; unfold mIx; omega
  have h2 : (w.index - 0x3000) / 0x80 = m := by rw [hw]; unfold mIx; omega
  have h3 : (w.index - 0x3000) % 0x80 = ii := by rw [hw]; unfold mIx; omega
  simp [State.act1, h1, h2, h3]

/-- No object but M+42 is the sails' steps. -/
theorem trimIndex_rig (index : Nat) (h : index < 0x3000 ∨ 0x4000 ≤ index) : trimIndex index = false := by
  unfold trimIndex
  exact decide_eq_false (by omega)
theorem trimIndex_mast (m ii : Nat) (hi : ii < 0x80) (h : ii ≠ 0x42) : trimIndex (mIx m ii) = false := by
  unfold trimIndex mIx
  exact decide_eq_false (by omega)

/-- A write-only object of a mast: the write that is taken is its action. -/
theorem pathPut_mast_action (s : State) (p : Sys2Proof.Path) (m ii ss c : Nat) (env : WEnv) (r : ObjRow) (hm : m < 32) (hi : ii < 0x80) (h42 : ii ≠ 0x42)
    (hr : rowAt (mIx m ii) ss = some (ss, r)) (hs : r.ty.signed = false) (ha : r.acc = .wo)
    (hk : retirementKeys.contains (okey (mIx m ii) ss) = false) (ht : s.takes p (mIx m ii) ss c = true) :
    s.pathPut p (mIx m ii) ss c env = s.actMast s m ii { index := mIx m ii, sub := ss, row := r, num := c } := by
  have n1 : mIx m ii ≠ 0x2541 := by unfold mIx; omega
  have h1 := pathPut_takes s p (mIx m ii) ss c ss r env hr hs ht
  have h2 := applyWrites_action s env { index := mIx m ii, sub := ss, row := r, num := c } ha hk (fun h => n1 h.1)
    (trimIndex_mast m ii hi h42)
  have h3 := act1_mast s s env { index := mIx m ii, sub := ss, row := r, num := c } m ii rfl hm hi
  exact h1.trans (h2.trans h3)

/-- A write-only object of the rig: the write that is taken is its action. -/
theorem pathPut_rig_action (s : State) (p : Sys2Proof.Path) (index ss c : Nat) (env : WEnv) (r : ObjRow) (hi : index < 0x3000)
    (hr : rowAt index ss = some (ss, r)) (hs : r.ty.signed = false) (ha : r.acc = .wo)
    (hk : retirementKeys.contains (okey index ss) = false) (hn : ¬(index = 0x2541 ∧ ss = 1)) (ht : s.takes p index ss c = true) :
    s.pathPut p index ss c env = s.actRig s env { index := index, sub := ss, row := r, num := c } := by
  have h1 := pathPut_takes s p index ss c ss r env hr hs ht
  have h2 := applyWrites_action s env { index := index, sub := ss, row := r, num := c } ha hk hn (trimIndex_rig index (.inl hi))
  rw [h1, h2]
  have a : ¬(0x3000 ≤ index ∧ index < 0x4000) := by omega
  have b : ¬(0x4000 ≤ index ∧ index < 0x5000) := by omega
  simp [State.act1, a, b]

end Sys2Proof.Machine
end

