-- ==== Sys2Proof/Laws/Engine.lean ====
section
/-! SUPPORT. What one microword of a stream engine does. -/
namespace Sys2Proof.Machine

/-- A word without a check-bit error: its operation on the context, then its next address; a faulting operation faults the job. -/
theorem runWord_clean {v : State} {e : Nat} {w : Mw} {x : EngCtx} {g : Segment} (h : v.runsWord e w x g) {op : Nat} (hop : w.op = op)
    (f : WordCtx → OpOut) : v.runWord op f e .clean = match f ⟨v, e, x, g, w⟩ with
      | .fault code => v.jobFault e code
      | .ok s2 x' g' => v.takeNext s2 e w (ccHolds x g w.cc) x' g' := by
  obtain ⟨h1, h2, h3, h4⟩ := h
  have hn : v.nextWord e = w := by unfold State.nextWord; rw [h2, h3]
  unfold State.runWord
  simp only [h1, hn, hop, State.wordCheck, h2, ne_eq, not_true_eq_false, if_false, Bool.not_true, Bool.false_eq_true, Nat.not_le.2 h4,
    WordCtx.hold]
  all_goals rfl

/-- The first index below n with a bit set, or n. -/
theorem first_one {n z : Nat} (b : Nat → Bool) (h1 : z ≤ n) (h2 : ∀ i < z, b i = false) (h3 : z < n → b z = true) :
    ((List.range n).find? b).getD n = z := by
  rcases Nat.lt_or_ge z n with h | h
  · have : (List.range n).find? b = some z := by
      rw [List.find?_range_eq_some]
      exact ⟨h3 h, by simpa using h, fun j hj => by simp [h2 j hj]⟩
    rw [this]; rfl
  · have : (List.range n).find? b = none := by
      rw [List.find?_eq_none]
      intro i hi
      simp [h2 i (by have := List.mem_range.1 hi; omega)]
    rw [this]; simp; omega

end Sys2Proof.Machine
end

