-- ==== Sys2Proof/Laws/Link.lean ====
section
/-! SUPPORT. Laws of mast-link frames and Gorcy packets: what a lane sends sealed, its receiver reads back. -/
namespace Sys2Proof.Machine

/-- A number of n bits is below 2^n. -/
theorem natOfBits_lt (l : List Bool) : natOfBits l < 2 ^ l.length := by
  induction l with
  | nil => simp [natOfBits]
  | cons b l ih =>
    simp only [natOfBits, List.length_cons, Nat.pow_succ]
    cases b <;> simp <;> omega

theorem scrambler_length (n s : Nat) : (scrambler n s).length = n := by
  induction n generalizing s with
  | zero => rfl
  | succ n ih => simp [scrambler, ih]

/-- A CRC of width w stays below 2^w. -/
theorem crc16_lt (l : List Bool) : crc16 l < 2 ^ 16 := by
  have h : ∀ (l : List Bool) (c : Nat), c < 2 ^ 16 → l.foldl (fun c b => cvBit 16 0x1021 c b) c < 2 ^ 16 := by
    intro l
    induction l with
    | nil => intro c hc; simpa using hc
    | cons b l ih =>
      intro c hc
      simp only [List.foldl_cons]
      refine ih _ ?_
      unfold cvBit
      simp only
      split
      · exact Nat.xor_lt_two_pow (Nat.mod_lt _ (by decide)) (by decide)
      · exact Nat.mod_lt _ (by decide)
  exact h l _ (by decide)

/-- The receiver's unscrambled message of a sealed frame: its body and the CRC-16 of the body. -/
theorem unscramble_sealFrame (code n : Nat) :
    unscramble code (sealFrame code n) = n % 2 ^ 5124 + crc16 (bitsOf (n % 2 ^ 5124) 5124) * 2 ^ 5124 := by
  unfold unscramble sealFrame
  simp only
  generalize hb : n % 2 ^ 5124 = b
  have h1 : b < 2 ^ 5124 := by rw [← hb]; exact Nat.mod_lt _ (Nat.two_pow_pos _)
  generalize hc : crc16 (bitsOf b 5124) = c
  have h2 : c < 2 ^ 16 := by rw [← hc]; exact crc16_lt _
  have hp : (2 : Nat) ^ 5140 = 2 ^ 16 * 2 ^ 5124 := by rw [← Nat.pow_add]
  have h3 : b + c * 2 ^ 5124 < 2 ^ 5140 := by
    rw [hp]
    have : (c + 1) * 2 ^ 5124 ≤ 2 ^ 16 * 2 ^ 5124 := Nat.mul_le_mul_right _ h2
    rw [Nat.add_mul, Nat.one_mul] at this
    omega
  have h4 : laneScramble code < 2 ^ 5140 := by
    have := natOfBits_lt (scrambler 5140 (0x4D415300 + code))
    rwa [scrambler_length] at this
  rw [BitVec.toNat_ofNat, Nat.mod_eq_of_lt (Nat.xor_lt_two_pow h3 h4), Nat.xor_assoc, Nat.xor_self, Nat.xor_zero]

/-- A sealed frame passes its receiver's CRC. -/
theorem frameCrcOk_sealFrame (code n : Nat) : frameCrcOk (unscramble code (sealFrame code n)) = true := by
  rw [unscramble_sealFrame]
  generalize hb : n % 2 ^ 5124 = b
  have h1 : b < 2 ^ 5124 := by rw [← hb]; exact Nat.mod_lt _ (Nat.two_pow_pos _)
  generalize hc : crc16 (bitsOf b 5124) = c
  have h2 : c < 2 ^ 16 := by rw [← hc]; exact crc16_lt _
  unfold frameCrcOk fld
  have e1 : bitsOf (b + c * 2 ^ 5124) 5124 = bitsOf b 5124 := by
    unfold bitsOf
    apply List.map_congr_left
    intro i hi
    rw [List.mem_range] at hi
    rw [Nat.mul_comm, Nat.add_comm, Nat.testBit_two_pow_mul_add _ h1]
    simp [hi]
  have e2 : (b + c * 2 ^ 5124) / 2 ^ 5124 % 2 ^ (5139 + 1 - 5124) = c := by
    rw [Nat.add_mul_div_right _ _ (Nat.two_pow_pos _), Nat.div_eq_of_lt h1, Nat.zero_add]
    exact Nat.mod_eq_of_lt h2
  rw [e1, e2, hc]
  simp

/-- A sealed frame keeps its type. -/
theorem unscramble_type (code n : Nat) : unscramble code (sealFrame code n) % 16 = n % 16 := by
  rw [unscramble_sealFrame, show (2 : Nat) ^ 5124 = 16 * 2 ^ 5120 by rw [show (16 : Nat) = 2 ^ 4 by rfl, ← Nat.pow_add]]
  generalize crc16 _ = c
  rw [Nat.add_mod, show c * (16 * 2 ^ 5120) = 16 * (c * 2 ^ 5120) by rw [Nat.mul_left_comm], Nat.mul_mod_right, Nat.add_zero, Nat.mod_mod,
    Nat.mod_mul_right_mod]

/-- A valid frame of a used type on a locked lane of a training or up link is used, and ends the lane's run of bad frames. -/
theorem rxFrame_used (s : State) (m lane : Nat) (f : Sys2Proof.RxFrame) (h1 : 2 ≤ (s.heard m).linkSt m) (h2 : lane < 7)
    (h3 : (s.heard m).laneIn m lane = true) (h4 : f.decoded = true) (h5 : frameCrcOk (unscramble lane f.bits) = true)
    (h6 : unscramble lane f.bits % 16 = 1 ∨ unscramble lane f.bits % 16 = 2 ∨ unscramble lane f.bits % 16 = 3 ∨ unscramble lane f.bits % 16 = 14)
    (h7 : (((s.heard m).countN (ckey m 0 (lane + 1)) f.corrected).lane m lane).locked = true) :
    s.rxFrame m lane f = (((s.heard m).countN (ckey m 0 (lane + 1)) f.corrected).setLane m lane
      { ((s.heard m).countN (ckey m 0 (lane + 1)) f.corrected).lane m lane with bad := 0 }, some (unscramble lane f.bits)) := by
  unfold State.rxFrame
  have hu : (decide (unscramble lane f.bits % 16 = 1) || decide (unscramble lane f.bits % 16 = 2) || decide (unscramble lane f.bits % 16 = 3) ||
      decide (unscramble lane f.bits % 16 = 14)) = true := by
    rcases h6 with h | h | h | h <;> simp [h]
  rw [if_neg (by rw [h3]; simp; omega)]
  simp only [h4, h5, hu, Bool.and_self, if_true, h7]

/-- A CRC-32C stays below 2^32. -/
theorem crc32c_lt (l : List Byte) : crc32c l < 2 ^ 32 := Nat.mod_lt _ (Nat.two_pow_pos _)

/-- A Gorcy packet padded to 8 bytes that carries its CRC-32C is intact. -/
theorem intact_of_crc (k : GPacket) (hl : k.payload.length = (hf k.header 108 96 + 7) / 8 * 8)
    (hc : k.crc = BitVec.ofNat 32 (crc32c (leBytes 64 k.header.toNat ++ k.payload))) : k.intact = true := by
  unfold GPacket.intact
  rw [hc, BitVec.toNat_ofNat, Nat.mod_eq_of_lt (crc32c_lt _)]
  simp [hl]

end Sys2Proof.Machine
end

