-- ==== Sys2Proof/Laws/Sound.lean ====
section
/-! SUPPORT. Every operation of the model keeps the tables of a sound state in canonical form: one lemma per operation. -/
namespace Sys2Proof.Machine
set_option linter.unusedTactic false
set_option linter.unreachableTactic false


/-- The three tables are in canonical form. -/
def Tabs (o : List (Nat × Int)) (b : List (Nat × List Sys2Proof.Byte)) (m : List (Nat × Mast)) : Prop :=
  (tblWf objDefault o && tblWf (fun _ => ([] : List Sys2Proof.Byte)) b && tblWf (fun _ => ({} : Mast)) m) = true
theorem tabs_of {s : State} (h : s.Sound) : Tabs s.objs s.blobs s.masts := h
theorem mk_sound {p n o b m h me f e nv fi a pi j bo ca cd ou fr} (t : Tabs o b m) :
    State.Sound ⟨p, n, o, b, m, h, me, f, e, nv, fi, a, pi, j, bo, ca, cd, ou, fr⟩ := t
/-- A command that answers a next state answers a sound one. -/
def ResSound (r : Res) : Prop := ∀ u, r = .next u → u.Sound
theorem resSound_next {s : State} (h : s.Sound) : ResSound (.next s) := by intro u e; cases e; exact h
theorem fst_sound {α : Type} {p : State × α} {a : State} {b : α} (e : p = (a, b)) (h : p.1.Sound) : a.Sound := by subst e; exact h
theorem snd_sound {α : Type} {p : α × State} {a : State} {b : α} (e : p = (b, a)) (h : p.2.Sound) : a.Sound := by subst e; exact h

theorem State.setObj_sound (s : State) (k : Nat) (v : Int) (h : s.Sound) : (s.setObj k v).Sound := by
  simp only [State.Sound, State.tables, Bool.and_eq_true] at h ⊢
  exact ⟨⟨tblPut_wf _ _ _ _ h.1.1, h.1.2⟩, h.2⟩
theorem State.setBlob_sound (s : State) (k : Nat) (v : List Sys2Proof.Byte) (h : s.Sound) : (s.setBlob k v).Sound := by
  simp only [State.Sound, State.tables, Bool.and_eq_true] at h ⊢
  exact ⟨⟨h.1.1, tblPut_wf _ _ _ _ h.1.2⟩, h.2⟩
theorem State.setMast_sound (s : State) (m : Nat) (x : Mast) (h : s.Sound) : (s.setMast m x).Sound := by
  simp only [State.Sound, State.tables, Bool.and_eq_true] at h ⊢
  exact ⟨h.1, tblPut_wf _ _ _ _ h.2⟩
theorem forEach_sound {α : Type} (l : List α) (f : α → State → State) (s : State) (hf : ∀ a t, t.Sound → (f a t).Sound) (h : s.Sound) :
    (forEach l f s).Sound := by
  induction l generalizing s with
  | nil => exact h
  | cons a l ih => exact ih _ (hf a s h)
theorem foldl_sound {α : Type} (l : List α) (f : State → α → State) (s : State) (hf : ∀ t a, t.Sound → (f t a).Sound) (h : s.Sound) :
    (l.foldl f s).Sound := by
  induction l generalizing s with
  | nil => exact h
  | cons a l ih => exact ih _ (hf s a h)
theorem ite_sound {c : Prop} [Decidable c] {a b : State} (ha : a.Sound) (hb : b.Sound) : (if c then a else b).Sound := by
  split <;> assumption
/-- An operation of a microword that completes leaves a sound state. -/
def OutSound (o : OpOut) : Prop := ∀ s x g, o = .ok s x g → s.Sound
theorem outSound_ok {s : State} {x : EngCtx} {g : Segment} (h : s.Sound) : OutSound (.ok s x g) := by intro u y z e; cases e; exact h
theorem outSound_fault (c : Nat) : OutSound (.fault c) := by intro u y z e; cases e
/-- A state that may be missing is sound. -/
def OptSound (o : Option State) : Prop := ∀ s, o = some s → s.Sound
theorem optSound_some {s : State} (h : s.Sound) : OptSound (some s) := by intro u e; cases e; exact h
theorem optSound_none : OptSound none := by intro u e; cases e
theorem getD_sound {o : Option State} {d : State} (h : OptSound o) (hd : d.Sound) : (o.getD d).Sound := by
  cases o with
  | none => exact hd
  | some s => exact h s rfl

theorem State.reset_sound : (State.reset).Sound := by
  decide +kernel

theorem State.at__sound (x0 : State) (x1 : Nat) (h0 : x0.Sound) : (State.at_ x0 x1).Sound := by
  unfold State.at_
  with_reducible (repeat' first | assumption | dsimp only | fail_if_no_progress refine mk_sound (tabs_of ?_))

theorem State.clearCounter_sound (x0 : State) (x1 : Nat) (h0 : x0.Sound) : (State.clearCounter x0 x1).Sound := by
  unfold State.clearCounter
  with_reducible (repeat' first | assumption | apply State.setObj_sound | dsimp only)

theorem State.clearMaskBit_sound (x0 : State) (x1 : Nat) (x2 : Nat) (h0 : x0.Sound) : (State.clearMaskBit x0 x1 x2).Sound := by
  unfold State.clearMaskBit
  with_reducible (repeat' first | assumption | apply ite_sound | apply State.setObj_sound | split | dsimp only)

theorem State.noteCount_sound (x0 : State) (x1 : Nat) (x2 : Nat) (h0 : x0.Sound) : (State.noteCount x0 x1 x2).Sound := by
  unfold State.noteCount
  with_reducible (repeat' first | assumption | apply ite_sound | split | dsimp only | fail_if_no_progress refine mk_sound (tabs_of ?_))

theorem State.countN_sound (x0 : State) (x1 : Nat) (x2 : Nat) (h0 : x0.Sound) : (State.countN x0 x1 x2).Sound := by
  unfold State.countN
  with_reducible (repeat' first | assumption | apply State.setObj_sound | apply State.noteCount_sound | dsimp only)

theorem State.count_sound (x0 : State) (x1 : Nat) (h0 : x0.Sound) : (State.count x0 x1).Sound := by
  unfold State.count
  with_reducible (repeat' first | assumption | apply State.countN_sound | dsimp only)

theorem State.emit_sound (x0 : State) (x1 : Emit) (h0 : x0.Sound) : (State.emit x0 x1).Sound := by
  unfold State.emit
  with_reducible (repeat' first | assumption | dsimp only | fail_if_no_progress refine mk_sound (tabs_of ?_))

theorem State.setDecoder_sound (x0 : State) (x1 : Nat) (x2 : Decoder) (h0 : x0.Sound) : (State.setDecoder x0 x1 x2).Sound := by
  unfold State.setDecoder
  with_reducible (repeat' first | assumption | dsimp only | fail_if_no_progress refine mk_sound (tabs_of ?_))

theorem State.setEngine_sound (x0 : State) (x1 : Nat) (x2 : Engine) (h0 : x0.Sound) : (State.setEngine x0 x1 x2).Sound := by
  unfold State.setEngine
  with_reducible (repeat' first | assumption | dsimp only | fail_if_no_progress refine mk_sound (tabs_of ?_))

theorem State.setEp_sound (x0 : State) (x1 : Sys2Proof.Endpoint) (x2 : EpState) (h0 : x0.Sound) : (State.setEp x0 x1 x2).Sound := by
  unfold State.setEp
  with_reducible (repeat' first | assumption | split | dsimp only | fail_if_no_progress refine mk_sound (tabs_of ?_))

theorem State.setEq_sound (x0 : State) (x1 : Nat) (x2 : EQ) (h0 : x0.Sound) : (State.setEq x0 x1 x2).Sound := by
  unfold State.setEq
  with_reducible (repeat' first | assumption | dsimp only | fail_if_no_progress refine mk_sound (tabs_of ?_))

theorem State.setFnr_sound (x0 : State) (x1 : Sys2Proof.Fn) (x2 : FnRegs) (h0 : x0.Sound) : (State.setFnr x0 x1 x2).Sound := by
  unfold State.setFnr
  with_reducible (repeat' first | assumption | dsimp only | fail_if_no_progress refine mk_sound (tabs_of ?_))

theorem State.setMaskBit_sound (x0 : State) (x1 : Nat) (x2 : Nat) (h0 : x0.Sound) : (State.setMaskBit x0 x1 x2).Sound := by
  unfold State.setMaskBit
  with_reducible (repeat' first | assumption | apply State.setObj_sound | dsimp only)

theorem State.setPort_sound (x0 : State) (x1 : Nat) (x2 : Port) (h0 : x0.Sound) : (State.setPort x0 x1 x2).Sound := by
  unfold State.setPort
  with_reducible (repeat' first | assumption | dsimp only | fail_if_no_progress refine mk_sound (tabs_of ?_))

theorem State.setSq_sound (x0 : State) (x1 : Nat) (x2 : SQ) (h0 : x0.Sound) : (State.setSq x0 x1 x2).Sound := by
  unfold State.setSq
  with_reducible (repeat' first | assumption | dsimp only | fail_if_no_progress refine mk_sound (tabs_of ?_))

theorem State.takeFree_sound (x0 : State) (h0 : x0.Sound) : (State.takeFree x0).2.Sound := by
  unfold State.takeFree
  with_reducible (repeat' first | assumption | dsimp only | fail_if_no_progress refine mk_sound (tabs_of ?_))

theorem State.wakeLink_sound (x0 : State) (x1 : Sys2Proof.Endpoint) (h0 : x0.Sound) : (State.wakeLink x0 x1).Sound := by
  unfold State.wakeLink
  with_reducible (repeat' first | assumption | apply ite_sound | apply State.setObj_sound | split | dsimp only)

theorem State.tlp_sound (x0 : State) (x1 : Sys2Proof.Endpoint) (x2 : Emit) (h0 : x0.Sound) : (State.tlp x0 x1 x2).Sound := by
  unfold State.tlp
  with_reducible (repeat' first | assumption | apply getD_sound | apply ite_sound | apply State.setEp_sound | apply State.emit_sound
                                | apply State.wakeLink_sound | split | dsimp only | fail_if_no_progress refine mk_sound (tabs_of ?_))

theorem State.updMast_sound (x0 : State) (x1 : Nat) (x2 : Mast → Mast) (h0 : x0.Sound) : (State.updMast x0 x1 x2).Sound := by
  unfold State.updMast
  with_reducible (repeat' first | assumption | apply State.setMast_sound | dsimp only)

theorem State.sendBlock_sound (x0 : State) (x1 : Nat) (x2 : Nat) (x3 : GorcyBlock) (h0 : x0.Sound)
    : (State.sendBlock x0 x1 x2 x3).Sound := by
  unfold State.sendBlock
  with_reducible (repeat' first | assumption | apply State.emit_sound | dsimp only)

theorem LogRead.s_sound (x0 : LogRead) (h0 : x0.s.Sound) : (LogRead.s x0).Sound := by
  unfold LogRead.s
  with_reducible (repeat' first | assumption)

theorem State.sendPair_sound (x0 : State) (x1 : Nat) (x2 : BlockKind) (h0 : x0.Sound) : (State.sendPair x0 x1 x2).Sound := by
  unfold State.sendPair
  with_reducible (repeat' first | assumption | apply ite_sound | apply State.sendBlock_sound | split | dsimp only)

theorem State.otherPairs_sound (x0 : State) (x1 : Nat) (x2 : Nat) (h0 : x0.Sound) : (State.otherPairs x0 x1 x2).Sound := by
  induction x2 generalizing x0 x1 with
  | zero => unfold State.otherPairs; with_reducible (repeat' first | assumption | apply State.setPort_sound | apply LogRead.s_sound
                                                                   | apply State.sendPair_sound | apply WordCtx.s_sound | split
                                                                   | dsimp only | fail_if_no_progress refine mk_sound (tabs_of ?_))
  | succ n ih => unfold State.otherPairs; with_reducible (repeat' first | assumption | apply ih | apply State.setPort_sound
                                                                        | apply LogRead.s_sound | apply State.sendPair_sound
                                                                        | apply WordCtx.s_sound | split | dsimp only
                                                                        | fail_if_no_progress refine mk_sound (tabs_of ?_))

theorem State.streamBlock_sound (x0 : State) (x1 : Nat) (x2 : GorcyBlock) (h0 : x0.Sound) : (State.streamBlock x0 x1 x2).Sound := by
  unfold State.streamBlock
  with_reducible (repeat' first | assumption | apply ite_sound | apply State.sendBlock_sound | apply State.setPort_sound
                                | apply State.otherPairs_sound | split | dsimp only | fail_if_no_progress refine mk_sound (tabs_of ?_))

theorem State.emitPacket_sound (x0 : State) (x1 : Nat) (x2 : BitVec 512) (x3 : List Sys2Proof.Byte) (h0 : x0.Sound)
    : (State.emitPacket x0 x1 x2 x3).Sound := by
  unfold State.emitPacket
  with_reducible (repeat' first | assumption | intro _ | apply State.emit_sound | apply State.setPort_sound
                                | apply State.streamBlock_sound | apply forEach_sound | dsimp only
                                | fail_if_no_progress refine mk_sound (tabs_of ?_))

theorem State.oweHello_sound (x0 : State) (h0 : x0.Sound) : (State.oweHello x0).Sound := by
  unfold State.oweHello
  with_reducible (repeat' first | assumption | intro _ | apply ite_sound | apply State.setPort_sound | apply forEach_sound | split
                                | dsimp only | fail_if_no_progress refine mk_sound (tabs_of ?_))

theorem State.advertise_sound (x0 : State) (h0 : x0.Sound) : (State.advertise x0).Sound := by
  unfold State.advertise
  with_reducible (repeat' first | assumption | apply ite_sound | apply State.oweHello_sound | split | dsimp only
                                | fail_if_no_progress refine mk_sound (tabs_of ?_))

theorem State.chooseRoot_sound (x0 : State) (h0 : x0.Sound) : (State.chooseRoot x0).Sound := by
  unfold State.chooseRoot
  with_reducible (repeat' first | assumption | apply ite_sound | apply State.setObj_sound | apply State.advertise_sound | split
                                | dsimp only | fail_if_no_progress refine mk_sound (tabs_of ?_))

theorem State.freeInput_sound (x0 : State) (x1 : BitVec 512) (x2 : Option (Nat × Nat)) (h0 : x0.Sound)
    : (State.freeInput x0 x1 x2).Sound := by
  unfold State.freeInput
  with_reducible (repeat' first | assumption | apply getD_sound | apply State.setPort_sound | split | dsimp only
                                | fail_if_no_progress refine mk_sound (tabs_of ?_))

theorem State.linkSend_sound (x0 : State) (x1 : Nat) (x2 : WaitPkt) (h0 : x0.Sound) : (State.linkSend x0 x1 x2).Sound := by
  unfold State.linkSend
  with_reducible (repeat' first | assumption | apply getD_sound | apply ite_sound | apply State.emitPacket_sound
                                | apply State.freeInput_sound | apply State.setPort_sound | split | dsimp only
                                | fail_if_no_progress refine mk_sound (tabs_of ?_))

theorem State.fabricPass_sound (x0 : State) (x1 : Nat) (x2 : BitVec 512) (x3 : List Sys2Proof.Byte) (x4 : Option (Nat × Nat))
    (h0 : x0.Sound) : (State.fabricPass x0 x1 x2 x3 x4).Sound := by
  unfold State.fabricPass
  with_reducible (repeat' first | assumption | apply ite_sound | apply State.freeInput_sound | apply State.count_sound
                                | apply State.linkSend_sound | split | dsimp only | fail_if_no_progress refine mk_sound (tabs_of ?_))

theorem State.fabricSend_sound (x0 : State) (x1 : Nat) (x2 : BitVec 512) (x3 : List Sys2Proof.Byte) (h0 : x0.Sound)
    : (State.fabricSend x0 x1 x2 x3).Sound := by
  unfold State.fabricSend
  with_reducible (repeat' first | assumption | apply State.fabricPass_sound | dsimp only)

theorem State.freshXid_sound (x0 : State) (h0 : x0.Sound) : (State.freshXid x0).2.Sound := by
  unfold State.freshXid
  with_reducible (repeat' first | assumption | dsimp only | fail_if_no_progress refine mk_sound (tabs_of ?_))

theorem State.portOff_sound (x0 : State) (x1 : Nat) (h0 : x0.Sound) : (State.portOff x0 x1).Sound := by
  unfold State.portOff
  with_reducible (repeat' first | assumption | intro _ | apply ite_sound | apply State.setPort_sound | apply State.setObj_sound
                                | apply State.chooseRoot_sound | apply State.emit_sound | apply State.fabricPass_sound
                                | apply forEach_sound | split | dsimp only | fail_if_no_progress refine mk_sound (tabs_of ?_))

theorem State.sendPacket_sound (x0 : State) (x1 : Nat) (x2 : Nat) (x3 : Nat) (x4 : Nat) (x5 : List Sys2Proof.Byte) (h0 : x0.Sound)
    : (State.sendPacket x0 x1 x2 x3 x4 x5).Sound := by
  unfold State.sendPacket
  with_reducible (repeat' first | assumption | apply State.freshXid_sound | apply State.fabricSend_sound | split | dsimp only
                                | refine fst_sound (by assumption) ?_ | refine snd_sound (by assumption) ?_)

theorem State.sendReply_sound (x0 : State) (x1 : Nat) (x2 : Nat) (x3 : Nat) (x4 : Nat) (x5 : List Sys2Proof.Byte) (h0 : x0.Sound)
    : (State.sendReply x0 x1 x2 x3 x4 x5).Sound := by
  unfold State.sendReply
  with_reducible (repeat' first | assumption | apply State.fabricSend_sound | dsimp only)

theorem State.setCmds_sound (x0 : State) (x1 : List Cmd) (h0 : x0.Sound) : (State.setCmds x0 x1).Sound := by
  unfold State.setCmds
  with_reducible (repeat' first | assumption | dsimp only | fail_if_no_progress refine mk_sound (tabs_of ?_))

theorem State.signal_sound (x0 : State) (x1 : Nat) (h0 : x0.Sound) : (State.signal x0 x1).Sound := by
  unfold State.signal
  with_reducible (repeat' first | assumption | apply ite_sound | apply State.setFnr_sound | apply State.setEq_sound
                                | apply State.tlp_sound | split | dsimp only | fail_if_no_progress refine mk_sound (tabs_of ?_))

theorem State.writeRec_sound (x0 : State) (x1 : Nat) (x2 : EvRec) (h0 : x0.Sound) : (State.writeRec x0 x1 x2).Sound := by
  unfold State.writeRec
  with_reducible (repeat' first | assumption | apply ite_sound | apply State.tlp_sound | apply State.setEq_sound
                                | apply State.signal_sound | apply State.sendPacket_sound | split | dsimp only
                                | fail_if_no_progress refine mk_sound (tabs_of ?_))

theorem State.postRec_sound (x0 : State) (x1 : Nat) (x2 : EvRec) (h0 : x0.Sound) : (State.postRec x0 x1 x2).Sound := by
  unfold State.postRec
  with_reducible (repeat' first | assumption | apply ite_sound | apply State.setEq_sound | apply State.writeRec_sound
                                | apply State.count_sound | split | dsimp only | fail_if_no_progress refine mk_sound (tabs_of ?_))

theorem State.publish_sound (x0 : State) (x1 : Nat) (x2 : EvRec) (h0 : x0.Sound) : (State.publish x0 x1 x2).Sound := by
  unfold State.publish
  with_reducible (repeat' first | assumption | intro _ | apply State.postRec_sound | apply forEach_sound | dsimp only)

theorem State.fabricEvent_sound (x0 : State) (x1 : Nat) (x2 : Nat) (x3 : Option Nat) (h0 : x0.Sound)
    : (State.fabricEvent x0 x1 x2 x3).Sound := by
  unfold State.fabricEvent
  with_reducible (repeat' first | assumption | apply getD_sound | apply State.takeFree_sound | apply State.publish_sound | split
                                | dsimp only | refine fst_sound (by assumption) ?_ | refine snd_sound (by assumption) ?_)

theorem State.settleCopy_sound (x0 : State) (x1 : Nat) (x2 : Nat) (h0 : x0.Sound) : (State.settleCopy x0 x1 x2).Sound := by
  unfold State.settleCopy
  with_reducible (repeat' first | assumption | apply ite_sound | apply State.setCmds_sound | apply State.setObj_sound
                                | apply State.fabricEvent_sound | apply State.count_sound | split | dsimp only
                                | fail_if_no_progress refine mk_sound (tabs_of ?_))

theorem State.lostRecord_sound (x0 : State) (x1 : Owner) (h0 : x0.Sound) : (State.lostRecord x0 x1).Sound := by
  unfold State.lostRecord
  with_reducible (repeat' first | assumption | apply State.count_sound | split)

theorem State.lostRecords_sound (x0 : State) (x1 : Nat) (x2 : Owner) (h0 : x0.Sound) : (State.lostRecords x0 x1 x2).Sound := by
  unfold State.lostRecords
  with_reducible (repeat' first | assumption | intro _ | apply State.lostRecord_sound | apply foldl_sound | dsimp only)

theorem State.postCompletion_sound (x0 : State) (x1 : Option Nat) (x2 : Nat) (x3 : Nat) (x4 : Nat) (x5 : Nat) (x6 : Nat) (x7 : Bool)
    (h0 : x0.Sound) : (State.postCompletion x0 x1 x2 x3 x4 x5 x6 x7).Sound := by
  unfold State.postCompletion
  with_reducible (repeat' first | assumption | apply State.postRec_sound | apply State.setSq_sound | dsimp only
                                | fail_if_no_progress refine mk_sound (tabs_of ?_))

theorem State.ltrUpdate_sound (x0 : State) (x1 : Sys2Proof.Endpoint) (h0 : x0.Sound) : (State.ltrUpdate x0 x1).Sound := by
  unfold State.ltrUpdate
  with_reducible (repeat' first | assumption | apply ite_sound | apply State.tlp_sound | apply State.setEp_sound | split | dsimp only
                                | fail_if_no_progress refine mk_sound (tabs_of ?_))

theorem State.completeOne_sound (x0 : State) (x1 : Nat) (x2 : Nat) (x3 : Nat) (h0 : x0.Sound)
    : (State.completeOne x0 x1 x2 x3).Sound := by
  unfold State.completeOne
  with_reducible (repeat' first | assumption | intro _ | apply ite_sound | apply State.setCmds_sound | apply State.settleCopy_sound
                                | apply State.lostRecords_sound | apply State.postRec_sound | apply State.setSq_sound
                                | apply State.postCompletion_sound | apply State.ltrUpdate_sound | apply forEach_sound | apply foldl_sound
                                | split | dsimp only | fail_if_no_progress refine mk_sound (tabs_of ?_))

theorem State.showQueues_sound (x0 : State) (h0 : x0.Sound) : (State.showQueues x0).Sound := by
  unfold State.showQueues
  with_reducible (repeat' first | assumption | apply State.setObj_sound | dsimp only)

theorem State.complete_sound (x0 : State) (x1 : Nat) (x2 : Nat) (x3 : Nat) (h0 : x0.Sound) : (State.complete x0 x1 x2 x3).Sound := by
  unfold State.complete
  with_reducible (repeat' first | assumption | intro _ | apply ite_sound | apply State.completeOne_sound | apply State.setCmds_sound
                                | apply State.showQueues_sound | apply State.setSq_sound | apply forEach_sound | split | dsimp only
                                | fail_if_no_progress refine mk_sound (tabs_of ?_))

theorem State.condition_sound (x0 : State) (x1 : Nat) (x2 : Nat) (x3 : Nat) (x4 : Nat) (h0 : x0.Sound)
    : (State.condition x0 x1 x2 x3 x4).Sound := by
  unfold State.condition
  with_reducible (repeat' first | assumption | apply State.publish_sound | dsimp only)

theorem State.conditionTo_sound (x0 : State) (x1 : Owner) (x2 : Nat) (x3 : Nat) (x4 : Nat) (x5 : Nat) (h0 : x0.Sound)
    : (State.conditionTo x0 x1 x2 x3 x4 x5).Sound := by
  unfold State.conditionTo
  with_reducible (repeat' first | assumption | apply State.postRec_sound | split | dsimp only)

theorem State.cutVerify_sound (x0 : State) (x1 : Nat) (h0 : x0.Sound) : (State.cutVerify x0 x1).Sound := by
  unfold State.cutVerify
  with_reducible (repeat' first | assumption | dsimp only | fail_if_no_progress refine mk_sound (tabs_of ?_))

theorem State.drainEq_sound (x0 : State) (x1 : Nat) (x2 : Nat) (h0 : x0.Sound) : (State.drainEq x0 x1 x2).Sound := by
  induction x2 generalizing x0 x1 with
  | zero => unfold State.drainEq; with_reducible (repeat' first | assumption | apply ite_sound | apply LogRead.s_sound
                                                                | apply WordCtx.s_sound | apply State.setEq_sound
                                                                | apply State.writeRec_sound | split | dsimp only
                                                                | fail_if_no_progress refine mk_sound (tabs_of ?_))
  | succ n ih => unfold State.drainEq; with_reducible (repeat' first | assumption | apply ih | apply ite_sound | apply LogRead.s_sound
                                                                     | apply WordCtx.s_sound | apply State.setEq_sound
                                                                     | apply State.writeRec_sound | split | dsimp only
                                                                     | fail_if_no_progress refine mk_sound (tabs_of ?_))

theorem State.setMastState_sound (x0 : State) (x1 : Nat) (x2 : MastState) (h0 : x0.Sound) : (State.setMastState x0 x1 x2).Sound := by
  unfold State.setMastState
  with_reducible (repeat' first | assumption | apply ite_sound | apply State.publish_sound | apply State.updMast_sound
                                | apply State.cutVerify_sound | apply State.setObj_sound | split | dsimp only
                                | fail_if_no_progress refine mk_sound (tabs_of ?_))

theorem State.updCmd_sound (x0 : State) (x1 : Nat) (x2 : Cmd → Cmd) (h0 : x0.Sound) : (State.updCmd x0 x1 x2).Sound := by
  unfold State.updCmd
  with_reducible (repeat' first | assumption | apply ite_sound | apply State.setCmds_sound | split | dsimp only)

theorem State.writeEvent_sound (x0 : State) (x1 : Write) (x2 : Nat) (x3 : Nat) (x4 : Nat) (x5 : Nat) (x6 : Nat) (h0 : x0.Sound)
    : (State.writeEvent x0 x1 x2 x3 x4 x5 x6).Sound := by
  unfold State.writeEvent
  with_reducible (repeat' first | assumption | apply ite_sound | apply State.lostRecord_sound | apply State.postRec_sound | split
                                | dsimp only)

theorem State.setCell_sound (x0 : State) (x1 : Nat) (x2 : Nat) (x3 : Sys2Proof.Granule) (h0 : x0.Sound)
    : (State.setCell x0 x1 x2 x3).Sound := by
  unfold State.setCell
  with_reducible (repeat' first | assumption | dsimp only | fail_if_no_progress refine mk_sound (tabs_of ?_))

theorem State.setGranule_sound (x0 : State) (x1 : Nat) (x2 : Nat) (x3 : BitVec 256) (h0 : x0.Sound)
    : (State.setGranule x0 x1 x2 x3).Sound := by
  unfold State.setGranule
  with_reducible (repeat' first | assumption | apply State.setCell_sound | dsimp only)

theorem State.copyShare_sound (x0 : State) (x1 : Nat) (x2 : Nat) (x3 : Nat) (h0 : x0.Sound) : (State.copyShare x0 x1 x2 x3).Sound := by
  unfold State.copyShare
  with_reducible (repeat' first | assumption | intro _ | apply ite_sound | apply State.setGranule_sound | apply forEach_sound | split
                                | dsimp only | fail_if_no_progress refine mk_sound (tabs_of ?_))

theorem State.writeLocal_sound (x0 : State) (x1 : Nat) (x2 : Nat) (x3 : List Sys2Proof.Byte) (h0 : x0.Sound)
    : (State.writeLocal x0 x1 x2 x3).Sound := by
  unfold State.writeLocal
  with_reducible (repeat' first | assumption | intro _ | apply State.setCell_sound | apply forEach_sound | dsimp only)

theorem State.shareWrite_sound (x0 : State) (x1 : Nat) (x2 : Nat) (x3 : List Sys2Proof.Byte) (h0 : x0.Sound)
    : (State.shareWrite x0 x1 x2 x3).Sound := by
  unfold State.shareWrite
  with_reducible (repeat' first | assumption | intro _ | apply State.writeLocal_sound | apply forEach_sound | split | dsimp only)

theorem State.showFree_sound (x0 : State) (h0 : x0.Sound) : (State.showFree x0).Sound := by
  unfold State.showFree
  with_reducible (repeat' first | assumption | apply State.setObj_sound | dsimp only)

theorem State.cacheDefer_sound (x0 : State) (x1 : CacheReq) (h0 : x0.Sound) : (State.cacheDefer x0 x1).Sound := by
  unfold State.cacheDefer
  with_reducible (repeat' first | assumption | dsimp only | fail_if_no_progress refine mk_sound (tabs_of ?_))

theorem State.setLine_sound (x0 : State) (x1 : Nat) (x2 : Nat) (x3 : CacheLine) (h0 : x0.Sound) : (State.setLine x0 x1 x2 x3).Sound := by
  unfold State.setLine
  with_reducible (repeat' first | assumption | dsimp only | fail_if_no_progress refine mk_sound (tabs_of ?_))

theorem State.victim_sound (x0 : State) (x1 : Nat) (h0 : x0.Sound) : (State.victim x0 x1).2.Sound := by
  unfold State.victim
  with_reducible (repeat' first | assumption | intro _ | apply State.setLine_sound | apply forEach_sound | split | dsimp only
                                | fail_if_no_progress refine mk_sound (tabs_of ?_))

theorem State.cacheReclaim_sound (x0 : State) (x1 : CacheReq) (x2 : Evicted) (h0 : x0.Sound) : (State.cacheReclaim x0 x1 x2).Sound := by
  unfold State.cacheReclaim
  with_reducible (repeat' first | assumption | apply State.count_sound | apply State.victim_sound | apply State.setLine_sound | split
                                | dsimp only | fail_if_no_progress refine mk_sound (tabs_of ?_) | refine fst_sound (by assumption) ?_
                                | refine snd_sound (by assumption) ?_)

theorem State.cacheStore_sound (x0 : State) (x1 : CacheReq) (h0 : x0.Sound) : (State.cacheStore x0 x1).Sound := by
  unfold State.cacheStore
  with_reducible (repeat' first | assumption | apply State.count_sound | apply State.setLine_sound | apply State.cacheReclaim_sound
                                | split | dsimp only | fail_if_no_progress refine mk_sound (tabs_of ?_))

theorem State.maintWait_sound (x0 : State) (x1 : CacheReq) (h0 : x0.Sound) : (State.maintWait x0 x1).Sound := by
  unfold State.maintWait
  with_reducible (repeat' first | assumption | apply ite_sound | split | dsimp only | fail_if_no_progress refine mk_sound (tabs_of ?_))

theorem State.fillWait_sound (x0 : State) (x1 : CacheReq) (h0 : x0.Sound) : (State.fillWait x0 x1).Sound := by
  unfold State.fillWait
  with_reducible (repeat' first | assumption | apply ite_sound | split | dsimp only | fail_if_no_progress refine mk_sound (tabs_of ?_))

theorem State.cacheWrite_sound (x0 : State) (x1 : Nat) (x2 : Nat) (h0 : x0.Sound) : (State.cacheWrite x0 x1 x2).Sound := by
  unfold State.cacheWrite
  with_reducible (repeat' first | assumption | apply ite_sound | apply State.maintWait_sound | apply State.cacheDefer_sound
                                | apply State.fillWait_sound | apply State.cacheStore_sound | split | dsimp only
                                | fail_if_no_progress refine mk_sound (tabs_of ?_))

theorem State.dropLines_sound (x0 : State) (x1 : Nat → Nat → Bool) (h0 : x0.Sound) : (State.dropLines x0 x1).Sound := by
  unfold State.dropLines
  with_reducible (repeat' first | assumption | apply ite_sound | split | dsimp only | fail_if_no_progress refine mk_sound (tabs_of ?_))

theorem State.startMaint_sound (x0 : State) (x1 : Maint) (h0 : x0.Sound) : (State.startMaint x0 x1).Sound := by
  unfold State.startMaint
  with_reducible (repeat' first | assumption | apply State.dropLines_sound | dsimp only
                                | fail_if_no_progress refine mk_sound (tabs_of ?_))

theorem State.issueMaint_sound (x0 : State) (x1 : Nat) (x2 : Nat) (x3 : Nat) (h0 : x0.Sound) : (State.issueMaint x0 x1 x2 x3).Sound := by
  unfold State.issueMaint
  with_reducible (repeat' first | assumption | apply ite_sound | apply State.setObj_sound | apply State.startMaint_sound | split
                                | dsimp only | fail_if_no_progress refine mk_sound (tabs_of ?_))

theorem State.settleFlush_sound (x0 : State) (x1 : Nat) (x2 : Nat) (h0 : x0.Sound) : (State.settleFlush x0 x1 x2).Sound := by
  unfold State.settleFlush
  with_reducible (repeat' first | assumption | intro _ | apply ite_sound | apply State.setCmds_sound | apply State.complete_sound
                                | apply forEach_sound | split | dsimp only | fail_if_no_progress refine mk_sound (tabs_of ?_))

theorem State.reportFailure_sound (x0 : State) (x1 : Write) (x2 : Nat) (h0 : x0.Sound) : (State.reportFailure x0 x1 x2).Sound := by
  unfold State.reportFailure
  with_reducible (repeat' first | assumption | apply ite_sound | apply State.count_sound | apply State.writeEvent_sound
                                | apply State.setSq_sound | apply State.complete_sound | split | dsimp only
                                | fail_if_no_progress refine mk_sound (tabs_of ?_))

theorem State.uncache_sound (x0 : State) (x1 : Write) (h0 : x0.Sound) : (State.uncache x0 x1).Sound := by
  unfold State.uncache
  with_reducible (repeat' first | assumption | apply ite_sound | apply State.showFree_sound | split | dsimp only
                                | fail_if_no_progress refine mk_sound (tabs_of ?_))

theorem State.setWrites_sound (x0 : State) (x1 : List Write) (h0 : x0.Sound) : (State.setWrites x0 x1).Sound := by
  unfold State.setWrites
  with_reducible (repeat' first | assumption | dsimp only | fail_if_no_progress refine mk_sound (tabs_of ?_))

theorem State.mapPut_sound (x0 : State) (x1 : Nat) (x2 : Nat) (h0 : x0.Sound) : (State.mapPut x0 x1 x2).Sound := by
  unfold State.mapPut
  with_reducible (repeat' first | assumption | apply ite_sound | apply State.setObj_sound | apply State.shareWrite_sound
                                | apply State.cacheWrite_sound | split | dsimp only | fail_if_no_progress refine mk_sound (tabs_of ?_))

theorem State.mapRelease_sound (x0 : State) (x1 : Nat) (x2 : Nat) (h0 : x0.Sound) : (State.mapRelease x0 x1 x2).Sound := by
  unfold State.mapRelease
  with_reducible (repeat' first | assumption | apply State.mapPut_sound | split | dsimp only)

theorem State.stopBurn_sound (x0 : State) (x1 : Write) (h0 : x0.Sound) : (State.stopBurn x0 x1).Sound := by
  unfold State.stopBurn
  with_reducible (repeat' first | assumption | apply State.updMast_sound | dsimp only | fail_if_no_progress refine mk_sound (tabs_of ?_))

theorem State.showPending_sound (x0 : State) (x1 : Nat) (h0 : x0.Sound) : (State.showPending x0 x1).Sound := by
  unfold State.showPending
  with_reducible (repeat' first | assumption | apply State.setObj_sound | dsimp only)

theorem State.dropWrite_sound (x0 : State) (x1 : Write) (h0 : x0.Sound) : (State.dropWrite x0 x1).Sound := by
  unfold State.dropWrite
  with_reducible (repeat' first | assumption | apply ite_sound | apply State.setWrites_sound | apply State.showFree_sound
                                | apply State.mapRelease_sound | apply State.updMast_sound | apply State.stopBurn_sound
                                | apply State.showPending_sound | split | dsimp only | fail_if_no_progress refine mk_sound (tabs_of ?_))

theorem State.failOne_sound (x0 : State) (x1 : Nat) (x2 : Write) (h0 : x0.Sound) : (State.failOne x0 x1 x2).Sound := by
  unfold State.failOne
  with_reducible (repeat' first | assumption | apply State.settleFlush_sound | apply State.reportFailure_sound | apply State.uncache_sound
                                | apply State.dropWrite_sound | dsimp only)

theorem State.failWrite_sound (x0 : State) (x1 : Nat) (x2 : Nat) (h0 : x0.Sound) : (State.failWrite x0 x1 x2).Sound := by
  unfold State.failWrite
  with_reducible (repeat' first | assumption | intro _ | apply State.failOne_sound | apply forEach_sound | split | dsimp only)

theorem State.updWrite_sound (x0 : State) (x1 : Nat) (x2 : Write → Write) (h0 : x0.Sound) : (State.updWrite x0 x1 x2).Sound := by
  unfold State.updWrite
  with_reducible (repeat' first | assumption | apply ite_sound | apply State.setWrites_sound | split | dsimp only)

theorem State.abandonWrite_sound (x0 : State) (x1 : Write) (h0 : x0.Sound) : (State.abandonWrite x0 x1).Sound := by
  unfold State.abandonWrite
  with_reducible (repeat' first | assumption | apply ite_sound | apply State.count_sound | apply State.failWrite_sound
                                | apply State.updWrite_sound | apply State.stopBurn_sound | split | dsimp only
                                | fail_if_no_progress refine mk_sound (tabs_of ?_))

theorem State.durableOne_sound (x0 : State) (x1 : Write) (h0 : x0.Sound) : (State.durableOne x0 x1).Sound := by
  unfold State.durableOne
  with_reducible (repeat' first | assumption | apply ite_sound | apply State.dropWrite_sound | apply State.writeEvent_sound
                                | apply State.complete_sound | apply State.settleFlush_sound | split | dsimp only
                                | fail_if_no_progress refine mk_sound (tabs_of ?_))

theorem State.durableWrite_sound (x0 : State) (x1 : Nat) (h0 : x0.Sound) : (State.durableWrite x0 x1).Sound := by
  unfold State.durableWrite
  with_reducible (repeat' first | assumption | intro _ | apply ite_sound | apply State.failOne_sound | apply State.durableOne_sound
                                | apply forEach_sound | split | dsimp only)

theorem State.failPending_sound (x0 : State) (x1 : Nat) (x2 : Nat) (h0 : x0.Sound) : (State.failPending x0 x1 x2).Sound := by
  unfold State.failPending
  with_reducible (repeat' first | assumption | intro _ | apply State.failWrite_sound | apply forEach_sound | dsimp only)

theorem State.failUnaccepted_sound (x0 : State) (x1 : Nat) (x2 : Nat) (h0 : x0.Sound) : (State.failUnaccepted x0 x1 x2).Sound := by
  unfold State.failUnaccepted
  with_reducible (repeat' first | assumption | intro _ | apply State.failOne_sound | apply forEach_sound | dsimp only)

theorem State.logAnew_sound (x0 : State) (x1 : Nat) (h0 : x0.Sound) : (State.logAnew x0 x1).Sound := by
  unfold State.logAnew
  with_reducible (repeat' first | assumption | apply State.updMast_sound | dsimp only | fail_if_no_progress refine mk_sound (tabs_of ?_))

theorem State.logFound_sound (x0 : State) (x1 : Nat) (x2 : LogFound) (h0 : x0.Sound) : (State.logFound x0 x1 x2).Sound := by
  unfold State.logFound
  with_reducible (repeat' first | assumption | apply State.updMast_sound | dsimp only | fail_if_no_progress refine mk_sound (tabs_of ?_))

theorem State.mapInsert_sound (x0 : State) (x1 : Nat) (h0 : x0.Sound) : (State.mapInsert x0 x1).1.Sound := by
  unfold State.mapInsert
  with_reducible (repeat' first | assumption | apply State.setObj_sound | apply State.mapPut_sound | split | dsimp only)

theorem State.mapUnmount_sound (x0 : State) (x1 : Nat) (h0 : x0.Sound) : (State.mapUnmount x0 x1).Sound := by
  unfold State.mapUnmount
  with_reducible (repeat' first | assumption | intro _ | apply State.mapPut_sound | apply forEach_sound | dsimp only)

theorem State.sendData_sound (x0 : State) (x1 : Nat) (x2 : Nat) (x3 : List Sys2Proof.Byte) (h0 : x0.Sound)
    : (State.sendData x0 x1 x2 x3).Sound := by
  unfold State.sendData
  with_reducible (repeat' first | assumption | apply State.updCmd_sound | apply State.sendPacket_sound | split | dsimp only
                                | fail_if_no_progress refine mk_sound (tabs_of ?_))

theorem State.addFrag_sound (x0 : State) (x1 : Nat) (x2 : Nat) (x3 : Nat) (x4 : List Sys2Proof.Byte) (h0 : x0.Sound)
    : (State.addFrag x0 x1 x2 x3 x4).Sound := by
  unfold State.addFrag
  with_reducible (repeat' first | assumption | apply ite_sound | apply State.updCmd_sound | apply State.sendData_sound | split
                                | dsimp only | fail_if_no_progress refine mk_sound (tabs_of ?_))

theorem State.aerError_sound (x0 : State) (x1 : Sys2Proof.Fn) (x2 : Nat) (x3 : Option (Nat × Nat × Nat)) (h0 : x0.Sound)
    : (State.aerError x0 x1 x2 x3).Sound := by
  unfold State.aerError
  with_reducible (repeat' first | assumption | apply ite_sound | apply State.setEp_sound | apply State.tlp_sound | split | dsimp only
                                | fail_if_no_progress refine mk_sound (tabs_of ?_))

theorem State.sendRead_sound (x0 : State) (x1 : HostRead) (h0 : x0.Sound) : (State.sendRead x0 x1).Sound := by
  unfold State.sendRead
  with_reducible (repeat' first | assumption | apply State.setEp_sound | apply State.tlp_sound | split | dsimp only
                                | fail_if_no_progress refine mk_sound (tabs_of ?_))

theorem State.askRead_sound (x0 : State) (x1 : HostRead) (h0 : x0.Sound) : (State.askRead x0 x1).Sound := by
  unfold State.askRead
  with_reducible (repeat' first | assumption | apply ite_sound | apply State.setEp_sound | apply State.sendRead_sound | split | dsimp only
                                | fail_if_no_progress refine mk_sound (tabs_of ?_))

theorem State.sendFrags_sound (x0 : State) (x1 : Nat) (h0 : x0.Sound) : (State.sendFrags x0 x1).Sound := by
  unfold State.sendFrags
  with_reducible (repeat' first | assumption | intro _ | apply State.sendData_sound | apply State.updCmd_sound | apply forEach_sound
                                | split | dsimp only | fail_if_no_progress refine mk_sound (tabs_of ?_))

theorem State.detach_sound (x0 : State) (x1 : Nat) (h0 : x0.Sound) : (State.detach x0 x1).Sound := by
  unfold State.detach
  with_reducible (repeat' first | assumption | dsimp only | fail_if_no_progress refine mk_sound (tabs_of ?_))

theorem State.finishData_sound (x0 : State) (x1 : Nat) (x2 : Nat) (h0 : x0.Sound) : (State.finishData x0 x1 x2).Sound := by
  unfold State.finishData
  with_reducible (repeat' first | assumption | intro _ | apply ite_sound | apply State.sendFrags_sound | apply State.detach_sound
                                | apply State.complete_sound | apply State.sendPacket_sound | apply State.updCmd_sound
                                | apply State.countN_sound | apply State.askRead_sound | apply forEach_sound | split | dsimp only
                                | fail_if_no_progress refine mk_sound (tabs_of ?_))

theorem State.endData_sound (x0 : State) (x1 : Nat) (x2 : Nat) (h0 : x0.Sound) : (State.endData x0 x1 x2).Sound := by
  unfold State.endData
  with_reducible (repeat' first | assumption | apply ite_sound | apply State.complete_sound | apply State.updCmd_sound
                                | apply State.finishData_sound | split | dsimp only | fail_if_no_progress refine mk_sound (tabs_of ?_))

theorem State.showEngine_sound (x0 : State) (x1 : Nat) (h0 : x0.Sound) : (State.showEngine x0 x1).Sound := by
  unfold State.showEngine
  with_reducible (repeat' first | assumption | apply ite_sound | apply State.setObj_sound | split | dsimp only)

theorem State.closeJob_sound (x0 : State) (x1 : Nat) (x2 : Nat) (x3 : Nat) (h0 : x0.Sound) : (State.closeJob x0 x1 x2 x3).Sound := by
  unfold State.closeJob
  with_reducible (repeat' first | assumption | intro _ | apply ite_sound | apply State.setCmds_sound | apply State.endData_sound
                                | apply State.showEngine_sound | apply State.setEngine_sound | apply forEach_sound | split | dsimp only
                                | fail_if_no_progress refine mk_sound (tabs_of ?_))

theorem State.deliverJob_sound (x0 : State) (x1 : Cmd) (x2 : Nat) (x3 : Option (List Sys2Proof.Byte)) (h0 : x0.Sound)
    : (State.deliverJob x0 x1 x2 x3).Sound := by
  unfold State.deliverJob
  with_reducible (repeat' first | assumption | apply ite_sound | apply State.setEngine_sound | split | dsimp only
                                | fail_if_no_progress refine mk_sound (tabs_of ?_))

theorem State.sendPiece_sound (x0 : State) (x1 : Nat) (x2 : Piece) (x3 : List Sys2Proof.Byte) (h0 : x0.Sound)
    : (State.sendPiece x0 x1 x2 x3).Sound := by
  unfold State.sendPiece
  with_reducible (repeat' first | assumption | intro _ | apply State.addFrag_sound | apply State.sendData_sound | apply forEach_sound
                                | dsimp only)

theorem State.place_sound (x0 : State) (x1 : Nat) (x2 : Nat) (x3 : List Sys2Proof.Byte) (h0 : x0.Sound)
    : (State.place x0 x1 x2 x3).Sound := by
  unfold State.place
  with_reducible (repeat' first | assumption | intro _ | apply ite_sound | apply State.updCmd_sound | apply State.sendPiece_sound
                                | apply State.tlp_sound | apply forEach_sound | apply foldl_sound | split | dsimp only
                                | fail_if_no_progress refine mk_sound (tabs_of ?_))

theorem State.takePages_sound (x0 : State) (x1 : Nat) (h0 : x0.Sound) : (State.takePages x0 x1).2.Sound := by
  unfold State.takePages
  with_reducible (repeat' first | assumption | apply getD_sound | dsimp only | fail_if_no_progress refine mk_sound (tabs_of ?_))

theorem State.retain_sound (x0 : State) (x1 : Nat) (x2 : Nat) (x3 : Nat) (x4 : List Sys2Proof.Byte) (h0 : x0.Sound)
    : (State.retain x0 x1 x2 x3 x4).Sound := by
  unfold State.retain
  with_reducible (repeat' first | assumption | apply State.takePages_sound | apply State.showFree_sound | split | dsimp only
                                | fail_if_no_progress refine mk_sound (tabs_of ?_) | refine fst_sound (by assumption) ?_
                                | refine snd_sound (by assumption) ?_)

theorem State.finishRead_sound (x0 : State) (x1 : Nat) (h0 : x0.Sound) : (State.finishRead x0 x1).Sound := by
  unfold State.finishRead
  with_reducible (repeat' first | assumption | apply ite_sound | apply State.finishData_sound | split | dsimp only)

theorem State.deliver_sound (x0 : State) (x1 : Nat) (x2 : Nat) (x3 : Nat) (x4 : List Sys2Proof.Byte) (x5 : Nat) (h0 : x0.Sound)
    : (State.deliver x0 x1 x2 x3 x4 x5).Sound := by
  unfold State.deliver
  with_reducible (repeat' first | assumption | apply ite_sound | apply State.updCmd_sound | apply State.deliverJob_sound
                                | apply State.place_sound | apply State.retain_sound | apply State.finishRead_sound | split | dsimp only
                                | fail_if_no_progress refine mk_sound (tabs_of ?_))

theorem State.deliverLost_sound (x0 : State) (x1 : Nat) (x2 : Nat) (h0 : x0.Sound) : (State.deliverLost x0 x1 x2).Sound := by
  unfold State.deliverLost
  with_reducible (repeat' first | assumption | apply ite_sound | apply State.updCmd_sound | apply State.deliverJob_sound
                                | apply State.finishRead_sound | split | dsimp only | fail_if_no_progress refine mk_sound (tabs_of ?_))

theorem State.failCmd_sound (x0 : State) (x1 : Cmd) (x2 : Nat) (h0 : x0.Sound) : (State.failCmd x0 x1 x2).Sound := by
  unfold State.failCmd
  with_reducible (repeat' first | assumption | apply ite_sound | apply State.complete_sound | apply State.closeJob_sound
                                | apply State.setEngine_sound | split | dsimp only | fail_if_no_progress refine mk_sound (tabs_of ?_))

theorem State.haltSq_sound (x0 : State) (x1 : Nat) (h0 : x0.Sound) : (State.haltSq x0 x1).Sound := by
  unfold State.haltSq
  with_reducible (repeat' first | assumption | apply ite_sound | apply State.conditionTo_sound | apply State.count_sound
                                | apply State.setSq_sound | split | dsimp only | fail_if_no_progress refine mk_sound (tabs_of ?_))

theorem State.flushEnds_sound (x0 : State) (x1 : Nat) (x2 : Bool) (h0 : x0.Sound) : (State.flushEnds x0 x1 x2).Sound := by
  unfold State.flushEnds
  with_reducible (repeat' first | assumption | apply ite_sound | apply State.complete_sound | apply State.updCmd_sound | split
                                | dsimp only | fail_if_no_progress refine mk_sound (tabs_of ?_))

theorem State.readFailed_sound (x0 : State) (x1 : HostRead) (h0 : x0.Sound) : (State.readFailed x0 x1).Sound := by
  unfold State.readFailed
  with_reducible (repeat' first | assumption | apply State.haltSq_sound | apply State.failCmd_sound | apply State.complete_sound
                                | apply State.flushEnds_sound | apply State.count_sound | split | dsimp only)

theorem State.needRead_sound (x0 : State) (x1 : Sys2Proof.Fn) (x2 : Nat) (x3 : Nat) (x4 : ReadPurpose) (h0 : x0.Sound)
    : (State.needRead x0 x1 x2 x3 x4).Sound := by
  unfold State.needRead
  with_reducible (repeat' first | assumption | apply ite_sound | apply State.readFailed_sound | apply State.askRead_sound | split
                                | dsimp only | fail_if_no_progress refine mk_sound (tabs_of ?_))

theorem State.fetchSq_sound (x0 : State) (x1 : Nat) (h0 : x0.Sound) : (State.fetchSq x0 x1).Sound := by
  unfold State.fetchSq
  with_reducible (repeat' first | assumption | apply ite_sound | apply State.needRead_sound | apply State.setSq_sound | split | dsimp only
                                | fail_if_no_progress refine mk_sound (tabs_of ?_))

theorem State.fetchBound_sound (x0 : State) (x1 : Nat) (h0 : x0.Sound) : (State.fetchBound x0 x1).Sound := by
  unfold State.fetchBound
  with_reducible (repeat' first | assumption | intro _ | apply State.fetchSq_sound | apply forEach_sound | dsimp only)

theorem State.issueWaiting_sound (x0 : State) (x1 : Sys2Proof.Endpoint) (x2 : Nat) (h0 : x0.Sound)
    : (State.issueWaiting x0 x1 x2).Sound := by
  induction x2 generalizing x0 x1 with
  | zero => unfold State.issueWaiting; with_reducible (repeat' first | assumption | apply ite_sound | apply State.sendRead_sound
                                                                     | apply LogRead.s_sound | apply WordCtx.s_sound
                                                                     | apply State.setEp_sound | split | dsimp only
                                                                     | fail_if_no_progress refine mk_sound (tabs_of ?_))
  | succ n ih => unfold State.issueWaiting; with_reducible (repeat' first | assumption | apply ih | apply ite_sound
                                                                          | apply State.sendRead_sound | apply LogRead.s_sound
                                                                          | apply WordCtx.s_sound | apply State.setEp_sound | split
                                                                          | dsimp only | fail_if_no_progress refine mk_sound (tabs_of ?_))

theorem State.stopRead_sound (x0 : State) (x1 : Cmd) (x2 : Nat) (h0 : x0.Sound) : (State.stopRead x0 x1 x2).Sound := by
  unfold State.stopRead
  with_reducible (repeat' first | assumption | apply ite_sound | apply State.endData_sound | apply State.closeJob_sound
                                | apply State.failCmd_sound | split | dsimp only)

theorem State.setSectors_sound (x0 : State) (x1 : List Sector) (h0 : x0.Sound) : (State.setSectors x0 x1).Sound := by
  unfold State.setSectors
  with_reducible (repeat' first | assumption | dsimp only | fail_if_no_progress refine mk_sound (tabs_of ?_))

theorem State.dropSector_sound (x0 : State) (x1 : Nat) (h0 : x0.Sound) : (State.dropSector x0 x1).Sound := by
  unfold State.dropSector
  with_reducible (repeat' first | assumption | apply State.setSectors_sound | dsimp only)

theorem State.fetchAnswer_sound (x0 : State) (x1 : Sector) (x2 : Nat) (x3 : Nat) (x4 : List Sys2Proof.Byte) (h0 : x0.Sound)
    : (State.fetchAnswer x0 x1 x2 x3 x4).Sound := by
  unfold State.fetchAnswer
  with_reducible (repeat' first | assumption | apply getD_sound | apply State.sendReply_sound | dsimp only)

theorem State.acceptData_sound (x0 : State) (x1 : Sector) (x2 : List Sys2Proof.Byte) (h0 : x0.Sound)
    : (State.acceptData x0 x1 x2).Sound := by
  unfold State.acceptData
  with_reducible (repeat' first | assumption | intro _ | apply State.deliver_sound | apply State.dropSector_sound
                                | apply State.fetchAnswer_sound | apply State.logFound_sound | apply forEach_sound | split | dsimp only)

theorem State.addSector_sound (x0 : State) (x1 : Sector) (h0 : x0.Sound) : (State.addSector x0 x1).Sound := by
  unfold State.addSector
  with_reducible (repeat' first | assumption | dsimp only | fail_if_no_progress refine mk_sound (tabs_of ?_))

theorem State.groupDone_sound (x0 : State) (x1 : Sector) (h0 : x0.Sound) : (State.groupDone x0 x1).Sound := by
  unfold State.groupDone
  with_reducible (repeat' first | assumption | apply ite_sound | split | dsimp only | fail_if_no_progress refine mk_sound (tabs_of ?_))

theorem State.dropOrphans_sound (x0 : State) (x1 : Nat) (h0 : x0.Sound) : (State.dropOrphans x0 x1).Sound := by
  unfold State.dropOrphans
  with_reducible (repeat' first | assumption | intro _ | apply State.groupDone_sound | apply State.dropSector_sound | apply forEach_sound
                                | dsimp only)

theorem State.fetchStatus_sound (x0 : State) (x1 : Nat) (x2 : Nat) (x3 : Nat) (h0 : x0.Sound)
    : (State.fetchStatus x0 x1 x2 x3).Sound := by
  unfold State.fetchStatus
  with_reducible (repeat' first | assumption | apply State.sendReply_sound | dsimp only)

theorem State.dropReplicas_sound (x0 : State) (x1 : Nat) (h0 : x0.Sound) : (State.dropReplicas x0 x1).Sound := by
  unfold State.dropReplicas
  with_reducible (repeat' first | assumption | intro _ | apply State.fetchStatus_sound | apply State.groupDone_sound
                                | apply State.dropSector_sound | apply forEach_sound | split | dsimp only)

theorem State.dropSectors_sound (x0 : State) (x1 : Nat) (x2 : Nat) (h0 : x0.Sound) : (State.dropSectors x0 x1 x2).Sound := by
  unfold State.dropSectors
  with_reducible (repeat' first | assumption | intro _ | apply State.fetchStatus_sound | apply State.setSectors_sound
                                | apply forEach_sound | split | dsimp only)

theorem State.readMembers_sound (x0 : State) (x1 : Sector) (h0 : x0.Sound) : (State.readMembers x0 x1).Sound := by
  unfold State.readMembers
  with_reducible (repeat' first | assumption | intro _ | apply getD_sound | apply ite_sound | apply State.addSector_sound
                                | apply forEach_sound | split | dsimp only | fail_if_no_progress refine mk_sound (tabs_of ?_))

theorem State.updSector_sound (x0 : State) (x1 : Nat) (x2 : Sector → Sector) (h0 : x0.Sound) : (State.updSector x0 x1 x2).Sound := by
  unfold State.updSector
  with_reducible (repeat' first | assumption | apply ite_sound | apply State.setSectors_sound | split | dsimp only)

theorem State.sectorEvent_sound (x0 : State) (x1 : Sector) (x2 : Nat) (x3 : Nat) (h0 : x0.Sound)
    : (State.sectorEvent x0 x1 x2 x3).Sound := by
  unfold State.sectorEvent
  with_reducible (repeat' first | assumption | apply State.postRec_sound | apply State.publish_sound | split | dsimp only)

theorem State.rebuildNow_sound (x0 : State) (x1 : Sector) (h0 : x0.Sound) : ∀ b, State.rebuildNow x0 x1 = some (some b) → b.Sound := by
  unfold State.rebuildNow
  intro b hb
  split at hb
  · cases hb
  · dsimp only at hb
    split at hb
    · cases hb
    · split at hb
      · simp only [Option.some.injEq] at hb
        subst hb
        exact State.groupDone_sound _ _ (State.acceptData_sound _ _ _ (State.sectorEvent_sound _ _ _ _
          (State.count_sound _ _ (State.count_sound _ _ (State.count_sound _ _ h0)))))
      · cases hb

theorem State.setGroup_sound (x0 : State) (x1 : Group) (h0 : x0.Sound) : (State.setGroup x0 x1).Sound := by
  unfold State.setGroup
  with_reducible (repeat' first | assumption | dsimp only | fail_if_no_progress refine mk_sound (tabs_of ?_))

theorem State.loseMember_sound (x0 : State) (x1 : Sector) (h0 : x0.Sound) : (State.loseMember x0 x1).Sound := by
  unfold State.loseMember
  with_reducible (repeat' first | assumption | apply ite_sound | apply State.groupDone_sound | apply State.setGroup_sound | split
                                | dsimp only | fail_if_no_progress refine mk_sound (tabs_of ?_))

theorem State.unrecoverable_sound (x0 : State) (x1 : Sector) (h0 : x0.Sound) : (State.unrecoverable x0 x1).Sound := by
  unfold State.unrecoverable
  with_reducible (repeat' first | assumption | intro _ | apply ite_sound | apply State.sectorEvent_sound | apply State.loseMember_sound
                                | apply State.dropSector_sound | apply State.deliverLost_sound | apply State.count_sound
                                | apply State.fetchStatus_sound | apply State.logFound_sound | apply State.updSector_sound
                                | apply forEach_sound | split | dsimp only | fail_if_no_progress refine mk_sound (tabs_of ?_))

theorem State.enterStep_sound (x0 : State) (x1 : Nat) (x2 : Nat) (x3 : Nat) (h0 : x0.Sound) : (State.enterStep x0 x1 x2 x3).Sound := by
  induction x1 generalizing x0 x2 x3 with
  | zero => unfold State.enterStep; with_reducible (repeat' first | assumption | refine State.rebuildNow_sound _ _ ?_ _ (by assumption)
                                                                  | intro _ | apply ite_sound | apply State.count_sound
                                                                  | apply State.dropSector_sound | apply LogRead.s_sound
                                                                  | apply State.readMembers_sound | apply State.freshXid_sound
                                                                  | apply WordCtx.s_sound | apply State.fabricSend_sound
                                                                  | apply State.updSector_sound | apply State.loseMember_sound
                                                                  | apply State.groupDone_sound | apply State.unrecoverable_sound
                                                                  | apply forEach_sound | split | dsimp only
                                                                  | fail_if_no_progress refine mk_sound (tabs_of ?_)
                                                                  | refine fst_sound (by assumption) ?_
                                                                  | refine snd_sound (by assumption) ?_)
  | succ n ih => unfold State.enterStep; with_reducible (repeat' first | assumption | apply ih
                                                                       | refine State.rebuildNow_sound _ _ ?_ _ (by assumption) | intro _
                                                                       | apply ite_sound | apply State.count_sound
                                                                       | apply State.dropSector_sound | apply LogRead.s_sound
                                                                       | apply State.readMembers_sound | apply State.freshXid_sound
                                                                       | apply WordCtx.s_sound | apply State.fabricSend_sound
                                                                       | apply State.updSector_sound | apply State.loseMember_sound
                                                                       | apply State.groupDone_sound | apply State.unrecoverable_sound
                                                                       | apply forEach_sound | split | dsimp only
                                                                       | fail_if_no_progress refine mk_sound (tabs_of ?_)
                                                                       | refine fst_sound (by assumption) ?_
                                                                       | refine snd_sound (by assumption) ?_)

theorem State.ladderOff_sound (x0 : State) (x1 : Nat) (h0 : x0.Sound) : (State.ladderOff x0 x1).Sound := by
  unfold State.ladderOff
  with_reducible (repeat' first | assumption | intro _ | apply State.enterStep_sound | apply forEach_sound | dsimp only)

theorem State.mountFails_sound (x0 : State) (x1 : Nat) (x2 : Nat) (h0 : x0.Sound) : (State.mountFails x0 x1 x2).Sound := by
  unfold State.mountFails
  with_reducible (repeat' first | assumption | intro _ | apply State.setObj_sound | apply State.updMast_sound | apply State.complete_sound
                                | apply forEach_sound | dsimp only | fail_if_no_progress refine mk_sound (tabs_of ?_))

theorem State.failOver_sound (x0 : State) (x1 : Nat) (x2 : Nat) (h0 : x0.Sound) : (State.failOver x0 x1 x2).Sound := by
  unfold State.failOver
  with_reducible (repeat' first | assumption | intro _ | apply ite_sound | apply State.ladderOff_sound | apply State.enterStep_sound
                                | apply State.stopRead_sound | apply State.failCmd_sound | apply State.complete_sound
                                | apply State.dropOrphans_sound | apply State.dropReplicas_sound | apply State.failUnaccepted_sound
                                | apply State.mountFails_sound | apply forEach_sound | split | dsimp only)

theorem State.stepFailed_sound (x0 : State) (x1 : Nat) (h0 : x0.Sound) : (State.stepFailed x0 x1).Sound := by
  unfold State.stepFailed
  with_reducible (repeat' first | assumption | apply State.enterStep_sound | split | dsimp only)

theorem State.shiftEnds_sound (x0 : State) (x1 : Sector) (x2 : Nat) (h0 : x0.Sound) : (State.shiftEnds x0 x1 x2).Sound := by
  unfold State.shiftEnds
  with_reducible (repeat' first | assumption | apply ite_sound | apply State.updSector_sound | apply State.stepFailed_sound | split
                                | dsimp only | fail_if_no_progress refine mk_sound (tabs_of ?_))

theorem State.readFailedAt_sound (x0 : State) (x1 : Nat) (h0 : x0.Sound) : (State.readFailedAt x0 x1).Sound := by
  unfold State.readFailedAt
  with_reducible (repeat' first | assumption | apply ite_sound | apply State.stepFailed_sound | apply State.updSector_sound
                                | apply State.shiftEnds_sound | split | dsimp only | fail_if_no_progress refine mk_sound (tabs_of ?_))

theorem State.rereadSector_sound (x0 : State) (x1 : Nat) (h0 : x0.Sound) : (State.rereadSector x0 x1).Sound := by
  unfold State.rereadSector
  with_reducible (repeat' first | assumption | apply ite_sound | apply State.dropSector_sound | apply State.enterStep_sound
                                | apply State.updSector_sound | split | dsimp only)

theorem State.shiftFailed_sound (x0 : State) (x1 : Nat) (x2 : Int) (h0 : x0.Sound) : (State.shiftFailed x0 x1 x2).Sound := by
  unfold State.shiftFailed
  with_reducible (repeat' first | assumption | intro _ | apply ite_sound | apply State.shiftEnds_sound | apply forEach_sound | split
                                | dsimp only)

theorem State.skipShifts_sound (x0 : State) (x1 : Nat) (h0 : x0.Sound) : (State.skipShifts x0 x1).Sound := by
  unfold State.skipShifts
  with_reducible (repeat' first | assumption | intro _ | apply State.stepFailed_sound | apply forEach_sound | dsimp only)

theorem State.abortWrite_sound (x0 : State) (x1 : Write) (h0 : x0.Sound) : (State.abortWrite x0 x1).1.Sound := by
  unfold State.abortWrite
  with_reducible (repeat' first | assumption | intro _ | apply ite_sound | apply State.uncache_sound | apply State.dropWrite_sound
                                | apply State.complete_sound | apply State.settleFlush_sound | apply State.failOne_sound
                                | apply forEach_sound | split | dsimp only)

theorem State.closeJobsOf_sound (x0 : State) (x1 : Nat) (h0 : x0.Sound) : (State.closeJobsOf x0 x1).Sound := by
  unfold State.closeJobsOf
  with_reducible (repeat' first | assumption | intro _ | apply State.closeJob_sound | apply forEach_sound | dsimp only)

theorem State.settle_sound (x0 : State) (x1 : Nat) (h0 : x0.Sound) : (State.settle x0 x1).1.Sound := by
  unfold State.settle
  with_reducible (repeat' first | assumption | apply ite_sound | apply State.endData_sound | apply State.closeJob_sound
                                | apply State.dropOrphans_sound | apply State.abortWrite_sound | apply State.complete_sound | split
                                | dsimp only | refine fst_sound (by assumption) ?_ | refine snd_sound (by assumption) ?_)

theorem State.stopSq_sound (x0 : State) (x1 : Nat) (h0 : x0.Sound) : (State.stopSq x0 x1).Sound := by
  unfold State.stopSq
  with_reducible (repeat' first | assumption | intro _ | apply ite_sound | apply State.closeJobsOf_sound | apply State.settle_sound
                                | apply State.setCmds_sound | apply State.setWrites_sound | apply State.setSq_sound | apply forEach_sound
                                | split | dsimp only | fail_if_no_progress refine mk_sound (tabs_of ?_)
                                | refine fst_sound (by assumption) ?_ | refine snd_sound (by assumption) ?_)

theorem State.deleteSq_sound (x0 : State) (x1 : Nat) (h0 : x0.Sound) : (State.deleteSq x0 x1).Sound := by
  unfold State.deleteSq
  with_reducible (repeat' first | assumption | apply ite_sound | apply State.stopSq_sound | apply State.showQueues_sound
                                | apply State.setSq_sound | apply State.setCmds_sound | split | dsimp only
                                | fail_if_no_progress refine mk_sound (tabs_of ?_))

theorem State.dropQueues_sound (x0 : State) (x1 : Owner) (h0 : x0.Sound) : (State.dropQueues x0 x1).Sound := by
  unfold State.dropQueues
  with_reducible (repeat' first | assumption | intro _ | apply ite_sound | apply State.setCmds_sound | apply State.setWrites_sound
                                | apply State.settle_sound | apply State.complete_sound | apply State.setSq_sound
                                | apply State.closeJobsOf_sound | apply State.setEq_sound | apply State.lostRecords_sound
                                | apply State.showQueues_sound | apply forEach_sound | split | dsimp only
                                | fail_if_no_progress refine mk_sound (tabs_of ?_) | refine fst_sound (by assumption) ?_
                                | refine snd_sound (by assumption) ?_)

theorem State.endReads_sound (x0 : State) (x1 : Nat) (x2 : Nat) (h0 : x0.Sound) : (State.endReads x0 x1 x2).Sound := by
  unfold State.endReads
  with_reducible (repeat' first | assumption | intro _ | apply State.dropOrphans_sound | apply State.stopRead_sound | apply forEach_sound
                                | dsimp only)

theorem State.failDisc_sound (x0 : State) (x1 : Nat) (x2 : Nat) (h0 : x0.Sound) : (State.failDisc x0 x1 x2).Sound := by
  unfold State.failDisc
  with_reducible (repeat' first | assumption | apply State.failUnaccepted_sound | apply State.failPending_sound
                                | apply State.dropSectors_sound | apply State.endReads_sound | dsimp only)

theorem State.functionReset_sound (x0 : State) (x1 : Sys2Proof.Fn) (h0 : x0.Sound) : (State.functionReset x0 x1).Sound := by
  unfold State.functionReset
  with_reducible (repeat' first | assumption | apply State.dropQueues_sound | apply State.setEp_sound | apply State.setFnr_sound | split
                                | dsimp only | fail_if_no_progress refine mk_sound (tabs_of ?_))

theorem State.functionResets_sound (x0 : State) (x1 : List Sys2Proof.Fn) (h0 : x0.Sound) : (State.functionResets x0 x1).Sound := by
  unfold State.functionResets
  with_reducible (repeat' first | assumption | intro _ | apply State.functionReset_sound | apply forEach_sound | dsimp only)

theorem State.jobFault_sound (x0 : State) (x1 : Nat) (x2 : Nat) (h0 : x0.Sound) : (State.jobFault x0 x1 x2).Sound := by
  unfold State.jobFault
  with_reducible (repeat' first | assumption | apply State.count_sound | apply State.setObj_sound | apply State.finishData_sound
                                | apply State.closeJob_sound | split | dsimp only)

theorem State.abandonAttempts_sound (x0 : State) (x1 : Nat) (h0 : x0.Sound) : (State.abandonAttempts x0 x1).Sound := by
  unfold State.abandonAttempts
  with_reducible (repeat' first | assumption | intro _ | apply State.abandonWrite_sound | apply forEach_sound | dsimp only)

theorem State.beginSave_sound (x0 : State) (x1 : List Waiter) (h0 : x0.Sound) : (State.beginSave x0 x1).Sound := by
  unfold State.beginSave
  with_reducible (repeat' first | assumption | apply ite_sound | apply State.setObj_sound | split | dsimp only
                                | fail_if_no_progress refine mk_sound (tabs_of ?_))

theorem State.failCalFor_sound (x0 : State) (x1 : Nat) (x2 : List Nat) (h0 : x0.Sound) : (State.failCalFor x0 x1 x2).Sound := by
  unfold State.failCalFor
  with_reducible (repeat' first | assumption | intro _ | apply ite_sound | apply State.setObj_sound | apply State.updMast_sound
                                | apply State.count_sound | apply forEach_sound | apply foldl_sound | split | dsimp only
                                | fail_if_no_progress refine mk_sound (tabs_of ?_))

theorem State.calHealth_sound (x0 : State) (x1 : Nat) (h0 : x0.Sound) : (State.calHealth x0 x1).Sound := by
  unfold State.calHealth
  with_reducible (repeat' first | assumption | apply ite_sound | apply State.failCalFor_sound | split | dsimp only)

theorem State.windowsLost_sound (x0 : State) (x1 : Nat) (h0 : x0.Sound) : (State.windowsLost x0 x1).Sound := by
  unfold State.windowsLost
  with_reducible (repeat' first | assumption | intro _ | apply getD_sound | apply ite_sound | apply State.jobFault_sound
                                | apply State.setEngine_sound | apply forEach_sound | apply foldl_sound | split | dsimp only
                                | fail_if_no_progress refine mk_sound (tabs_of ?_))

theorem State.tableLost_sound (x0 : State) (x1 : Nat) (h0 : x0.Sound) : (State.tableLost x0 x1).Sound := by
  unfold State.tableLost
  with_reducible (repeat' first | assumption | apply State.setObj_sound | apply State.issueMaint_sound | dsimp only)

theorem State.leasesLost_sound (x0 : State) (h0 : x0.Sound) : (State.leasesLost x0).Sound := by
  unfold State.leasesLost
  with_reducible (repeat' first | assumption | apply State.issueMaint_sound | dsimp only
                                | fail_if_no_progress refine mk_sound (tabs_of ?_))

theorem State.dupsLost_sound (x0 : State) (x1 : Nat) (x2 : Nat) (x3 : Nat) (h0 : x0.Sound) : (State.dupsLost x0 x1 x2 x3).Sound := by
  unfold State.dupsLost
  with_reducible (repeat' first | assumption | apply ite_sound | apply State.issueMaint_sound | split | dsimp only
                                | fail_if_no_progress refine mk_sound (tabs_of ?_))

theorem State.loseMap_sound (x0 : State) (h0 : x0.Sound) : (State.loseMap x0).Sound := by
  unfold State.loseMap
  with_reducible (repeat' first | assumption | intro _ | apply State.mapPut_sound | apply State.issueMaint_sound
                                | apply State.logAnew_sound | apply forEach_sound | dsimp only
                                | fail_if_no_progress refine mk_sound (tabs_of ?_))

theorem State.shareLost_sound (x0 : State) (x1 : Nat) (h0 : x0.Sound) : (State.shareLost x0 x1).Sound := by
  unfold State.shareLost
  with_reducible (repeat' first | assumption | intro _ | apply State.tableLost_sound | apply State.leasesLost_sound
                                | apply State.dupsLost_sound | apply State.loseMap_sound | apply forEach_sound | dsimp only)

theorem State.showPool_sound (x0 : State) (h0 : x0.Sound) : (State.showPool x0).Sound := by
  unfold State.showPool
  with_reducible (repeat' first | assumption | apply State.setObj_sound | apply State.showFree_sound | dsimp only
                                | fail_if_no_progress refine mk_sound (tabs_of ?_))

theorem State.showShares_sound (x0 : State) (h0 : x0.Sound) : (State.showShares x0).Sound := by
  unfold State.showShares
  with_reducible (repeat' first | assumption | intro _ | apply ite_sound | apply State.setObj_sound | apply foldl_sound | split
                                | dsimp only)

theorem State.channelLost_sound (x0 : State) (x1 : Nat) (h0 : x0.Sound) : (State.channelLost x0 x1).Sound := by
  unfold State.channelLost
  with_reducible (repeat' first | assumption | intro _ | apply ite_sound | apply State.windowsLost_sound | apply State.clearMaskBit_sound
                                | apply State.shareLost_sound | apply State.condition_sound | apply State.count_sound
                                | apply State.showPool_sound | apply State.failWrite_sound | apply State.showShares_sound
                                | apply forEach_sound | split | dsimp only | fail_if_no_progress refine mk_sound (tabs_of ?_))

theorem State.retiredEvent_sound (x0 : State) (x1 : FaultClass) (x2 : Nat) (x3 : Nat) (x4 : Nat) (h0 : x0.Sound)
    : (State.retiredEvent x0 x1 x2 x3 x4).Sound := by
  unfold State.retiredEvent
  with_reducible (repeat' first | assumption | apply State.publish_sound | dsimp only)

theorem State.requestSave_sound (x0 : State) (x1 : List Waiter) (h0 : x0.Sound) : (State.requestSave x0 x1).Sound := by
  unfold State.requestSave
  with_reducible (repeat' first | assumption | apply getD_sound | apply State.beginSave_sound | split | dsimp only
                                | fail_if_no_progress refine mk_sound (tabs_of ?_))

theorem State.gateMast_sound (x0 : State) (x1 : Nat) (h0 : x0.Sound) : (State.gateMast x0 x1).Sound := by
  unfold State.gateMast
  with_reducible (repeat' first | assumption | apply ite_sound | apply State.setObj_sound | apply State.updMast_sound | split | dsimp only
                                | fail_if_no_progress refine mk_sound (tabs_of ?_))

theorem State.retireMast_sound (x0 : State) (x1 : Nat) (h0 : x0.Sound) : (State.retireMast x0 x1).Sound := by
  unfold State.retireMast
  with_reducible (repeat' first | assumption | apply ite_sound | apply State.retiredEvent_sound | apply State.setMastState_sound
                                | apply State.setMaskBit_sound | apply State.failOver_sound | apply State.failPending_sound
                                | apply State.requestSave_sound | apply State.setObj_sound | apply State.gateMast_sound | split
                                | dsimp only)

theorem State.checkMast_sound (x0 : State) (x1 : Nat) (h0 : x0.Sound) : (State.checkMast x0 x1).Sound := by
  unfold State.checkMast
  with_reducible (repeat' first | assumption | apply ite_sound | apply State.retireMast_sound | split | dsimp only)

theorem State.dropWays_sound (x0 : State) (x1 : Nat → Bool) (h0 : x0.Sound) : (State.dropWays x0 x1).Sound := by
  unfold State.dropWays
  with_reducible (repeat' first | assumption | dsimp only | fail_if_no_progress refine mk_sound (tabs_of ?_))

theorem State.failCal_sound (x0 : State) (x1 : Nat) (h0 : x0.Sound) : (State.failCal x0 x1).Sound := by
  unfold State.failCal
  with_reducible (repeat' first | assumption | apply State.failCalFor_sound | dsimp only)

theorem State.noteFailure_sound (x0 : State) (x1 : FaultClass) (x2 : Nat) (x3 : Nat) (h0 : x0.Sound)
    : (State.noteFailure x0 x1 x2 x3).1.Sound := by
  unfold State.noteFailure
  with_reducible (repeat' first | assumption | split | dsimp only | fail_if_no_progress refine mk_sound (tabs_of ?_))

theorem State.retireChannel_sound (x0 : State) (x1 : Nat) (h0 : x0.Sound) : (State.retireChannel x0 x1).Sound := by
  unfold State.retireChannel
  with_reducible (repeat' first | assumption | apply ite_sound | apply State.requestSave_sound | apply State.retiredEvent_sound
                                | apply State.channelLost_sound | apply State.setMaskBit_sound | split | dsimp only)

theorem State.failChannel_sound (x0 : State) (x1 : Nat) (h0 : x0.Sound) : (State.failChannel x0 x1).Sound := by
  unfold State.failChannel
  with_reducible (repeat' first | assumption | apply ite_sound | apply State.noteFailure_sound | apply State.retireChannel_sound | split
                                | dsimp only | refine fst_sound (by assumption) ?_ | refine snd_sound (by assumption) ?_)

theorem State.restartCodeword_sound (x0 : State) (x1 : Codeword) (h0 : x0.Sound) : (State.restartCodeword x0 x1).Sound := by
  unfold State.restartCodeword
  with_reducible (repeat' first | assumption | apply ite_sound | apply State.count_sound | apply State.updMast_sound
                                | apply State.rereadSector_sound | split | dsimp only | fail_if_no_progress refine mk_sound (tabs_of ?_))

theorem State.noDecoders_sound (x0 : State) (h0 : x0.Sound) : (State.noDecoders x0).Sound := by
  unfold State.noDecoders
  with_reducible (repeat' first | assumption | intro _ | apply ite_sound | apply State.stopRead_sound | apply State.dropOrphans_sound
                                | apply forEach_sound | split | dsimp only)

theorem State.retireDecoder_sound (x0 : State) (x1 : Nat) (h0 : x0.Sound) : (State.retireDecoder x0 x1).Sound := by
  unfold State.retireDecoder
  with_reducible (repeat' first | assumption | apply ite_sound | apply State.setMaskBit_sound | apply State.setDecoder_sound
                                | apply State.setObj_sound | apply State.restartCodeword_sound | apply State.noDecoders_sound
                                | apply State.requestSave_sound | apply State.retiredEvent_sound | split | dsimp only
                                | fail_if_no_progress refine mk_sound (tabs_of ?_))

theorem State.failDecoder_sound (x0 : State) (x1 : Nat) (h0 : x0.Sound) : (State.failDecoder x0 x1).Sound := by
  unfold State.failDecoder
  with_reducible (repeat' first | assumption | apply ite_sound | apply State.noteFailure_sound | apply State.count_sound
                                | apply State.retireDecoder_sound | split | dsimp only | refine fst_sound (by assumption) ?_
                                | refine snd_sound (by assumption) ?_)

theorem State.linkOff_sound (x0 : State) (x1 : Sys2Proof.Endpoint) (x2 : Nat) (h0 : x0.Sound) : (State.linkOff x0 x1 x2).Sound := by
  unfold State.linkOff
  with_reducible (repeat' first | assumption | apply State.setObj_sound | dsimp only)

theorem State.showTags_sound (x0 : State) (x1 : Sys2Proof.Endpoint) (h0 : x0.Sound) : (State.showTags x0 x1).Sound := by
  unfold State.showTags
  with_reducible (repeat' first | assumption | apply ite_sound | apply State.setObj_sound | split | dsimp only)

theorem State.retireEndpoint_sound (x0 : State) (x1 : Sys2Proof.Endpoint) (h0 : x0.Sound) : (State.retireEndpoint x0 x1).Sound := by
  unfold State.retireEndpoint
  with_reducible (repeat' first | assumption | apply State.functionResets_sound | apply State.setMaskBit_sound | apply State.linkOff_sound
                                | apply State.setEp_sound | apply State.requestSave_sound | apply State.retiredEvent_sound
                                | apply State.showTags_sound | dsimp only)

theorem State.failEndpoint_sound (x0 : State) (x1 : Sys2Proof.Endpoint) (h0 : x0.Sound) : (State.failEndpoint x0 x1).Sound := by
  unfold State.failEndpoint
  with_reducible (repeat' first | assumption | apply ite_sound | apply State.noteFailure_sound | apply State.retireEndpoint_sound | split
                                | dsimp only | refine fst_sound (by assumption) ?_ | refine snd_sound (by assumption) ?_)

theorem State.showEngines_sound (x0 : State) (h0 : x0.Sound) : (State.showEngines x0).Sound := by
  unfold State.showEngines
  with_reducible (repeat' first | assumption | apply State.setObj_sound | dsimp only)

theorem State.retireEngine_sound (x0 : State) (x1 : Nat) (h0 : x0.Sound) : (State.retireEngine x0 x1).Sound := by
  unfold State.retireEngine
  with_reducible (repeat' first | assumption | intro _ | apply State.showEngines_sound | apply State.setMaskBit_sound
                                | apply State.jobFault_sound | apply State.failCmd_sound | apply State.requestSave_sound
                                | apply State.retiredEvent_sound | apply State.showEngine_sound | apply forEach_sound | dsimp only)

theorem State.failEngine_sound (x0 : State) (x1 : Nat) (h0 : x0.Sound) : (State.failEngine x0 x1).Sound := by
  unfold State.failEngine
  with_reducible (repeat' first | assumption | apply ite_sound | apply State.noteFailure_sound | apply State.count_sound
                                | apply State.retireEngine_sound | split | dsimp only | refine fst_sound (by assumption) ?_
                                | refine snd_sound (by assumption) ?_)

theorem State.showPort_sound (x0 : State) (x1 : Nat) (h0 : x0.Sound) : (State.showPort x0 x1).Sound := by
  unfold State.showPort
  with_reducible (repeat' first | assumption | apply ite_sound | apply State.portOff_sound | apply State.chooseRoot_sound
                                | apply State.setObj_sound | split | dsimp only)

theorem State.retireGorcyLane_sound (x0 : State) (x1 : Nat) (x2 : Nat) (h0 : x0.Sound) : (State.retireGorcyLane x0 x1 x2).Sound := by
  unfold State.retireGorcyLane
  with_reducible (repeat' first | assumption | apply ite_sound | apply State.setPort_sound | apply State.requestSave_sound
                                | apply State.retiredEvent_sound | apply State.showPort_sound | apply State.setMaskBit_sound | split
                                | dsimp only | fail_if_no_progress refine mk_sound (tabs_of ?_))

theorem State.failGorcyLane_sound (x0 : State) (x1 : Nat) (x2 : Nat) (h0 : x0.Sound) : (State.failGorcyLane x0 x1 x2).Sound := by
  unfold State.failGorcyLane
  with_reducible (repeat' first | assumption | apply ite_sound | apply State.noteFailure_sound | apply State.count_sound
                                | apply State.retireGorcyLane_sound | split | dsimp only | refine fst_sound (by assumption) ?_
                                | refine snd_sound (by assumption) ?_)

theorem State.retireLane_sound (x0 : State) (x1 : Nat) (x2 : Nat) (h0 : x0.Sound) : (State.retireLane x0 x1 x2).Sound := by
  unfold State.retireLane
  with_reducible (repeat' first | assumption | apply ite_sound | apply State.setMaskBit_sound | apply State.checkMast_sound
                                | apply State.requestSave_sound | apply State.retiredEvent_sound | apply State.calHealth_sound | split
                                | dsimp only)

theorem State.failLane_sound (x0 : State) (x1 : Nat) (x2 : Nat) (h0 : x0.Sound) : (State.failLane x0 x1 x2).Sound := by
  unfold State.failLane
  with_reducible (repeat' first | assumption | apply ite_sound | apply State.noteFailure_sound | apply State.count_sound
                                | apply State.retireLane_sound | split | dsimp only | refine fst_sound (by assumption) ?_
                                | refine snd_sound (by assumption) ?_)

theorem State.retirePositioning_sound (x0 : State) (x1 : Nat) (h0 : x0.Sound) : (State.retirePositioning x0 x1).Sound := by
  unfold State.retirePositioning
  with_reducible (repeat' first | assumption | apply State.retireMast_sound | apply State.retiredEvent_sound | dsimp only)

theorem State.failPositioning_sound (x0 : State) (x1 : Nat) (h0 : x0.Sound) : (State.failPositioning x0 x1).Sound := by
  unfold State.failPositioning
  with_reducible (repeat' first | assumption | apply ite_sound | apply State.noteFailure_sound | apply State.count_sound
                                | apply State.retirePositioning_sound | split | dsimp only | refine fst_sound (by assumption) ?_
                                | refine snd_sound (by assumption) ?_)

theorem State.retireSail_sound (x0 : State) (x1 : Nat) (x2 : Nat) (h0 : x0.Sound) : (State.retireSail x0 x1 x2).Sound := by
  unfold State.retireSail
  with_reducible (repeat' first | assumption | apply State.checkMast_sound | apply State.requestSave_sound
                                | apply State.retiredEvent_sound | apply State.calHealth_sound | apply State.setMaskBit_sound
                                | dsimp only)

theorem State.failSail_sound (x0 : State) (x1 : Nat) (x2 : Nat) (h0 : x0.Sound) : (State.failSail x0 x1 x2).Sound := by
  unfold State.failSail
  with_reducible (repeat' first | assumption | apply ite_sound | apply State.noteFailure_sound | apply State.count_sound
                                | apply State.retireSail_sound | split | dsimp only | refine fst_sound (by assumption) ?_
                                | refine snd_sound (by assumption) ?_)

theorem State.switchSail_sound (x0 : State) (x1 : Nat) (x2 : Bool) (h0 : x0.Sound) : (State.switchSail x0 x1 x2).Sound := by
  unfold State.switchSail
  with_reducible (repeat' first | assumption | apply ite_sound | apply State.setMaskBit_sound | apply State.clearMaskBit_sound
                                | apply State.count_sound | apply State.updMast_sound | split | dsimp only
                                | fail_if_no_progress refine mk_sound (tabs_of ?_))

theorem State.retireServoSail_sound (x0 : State) (x1 : Nat) (x2 : Nat) (h0 : x0.Sound) : (State.retireServoSail x0 x1 x2).Sound := by
  unfold State.retireServoSail
  with_reducible (repeat' first | assumption | apply State.requestSave_sound | apply State.retiredEvent_sound
                                | apply State.setMaskBit_sound | apply State.checkMast_sound | apply State.switchSail_sound | dsimp only)

theorem State.failServoSail_sound (x0 : State) (x1 : Nat) (x2 : Nat) (h0 : x0.Sound) : (State.failServoSail x0 x1 x2).Sound := by
  unfold State.failServoSail
  with_reducible (repeat' first | assumption | apply ite_sound | apply State.noteFailure_sound | apply State.count_sound
                                | apply State.retireServoSail_sound | split | dsimp only | refine fst_sound (by assumption) ?_
                                | refine snd_sound (by assumption) ?_)

theorem State.retireShroud_sound (x0 : State) (x1 : Sys2Proof.Shroud) (h0 : x0.Sound) : (State.retireShroud x0 x1).Sound := by
  unfold State.retireShroud
  with_reducible (repeat' first | assumption | apply State.requestSave_sound | apply State.retiredEvent_sound | apply State.setObj_sound
                                | apply State.setMaskBit_sound | dsimp only)

theorem State.failShroud_sound (x0 : State) (x1 : Sys2Proof.Shroud) (h0 : x0.Sound) : (State.failShroud x0 x1).Sound := by
  unfold State.failShroud
  with_reducible (repeat' first | assumption | apply ite_sound | apply State.noteFailure_sound | apply State.retireShroud_sound | split
                                | dsimp only | refine fst_sound (by assumption) ?_ | refine snd_sound (by assumption) ?_)

theorem State.faultMast_sound (x0 : State) (x1 : Nat) (h0 : x0.Sound) : (State.faultMast x0 x1).Sound := by
  unfold State.faultMast
  with_reducible (repeat' first | assumption | apply ite_sound | apply State.updMast_sound | apply State.count_sound
                                | apply State.setMastState_sound | apply State.failOver_sound | apply State.abandonAttempts_sound
                                | apply State.noteFailure_sound | apply State.retireMast_sound | split | dsimp only
                                | fail_if_no_progress refine mk_sound (tabs_of ?_) | refine fst_sound (by assumption) ?_
                                | refine snd_sound (by assumption) ?_)

theorem State.retireSled_sound (x0 : State) (x1 : Nat) (h0 : x0.Sound) : (State.retireSled x0 x1).Sound := by
  unfold State.retireSled
  with_reducible (repeat' first | assumption | apply ite_sound | apply State.requestSave_sound | apply State.retiredEvent_sound
                                | apply State.setObj_sound | apply State.updMast_sound | apply State.faultMast_sound | split | dsimp only
                                | fail_if_no_progress refine mk_sound (tabs_of ?_))

theorem State.failSled_sound (x0 : State) (x1 : Nat) (h0 : x0.Sound) : (State.failSled x0 x1).Sound := by
  unfold State.failSled
  with_reducible (repeat' first | assumption | apply ite_sound | apply State.noteFailure_sound | apply State.count_sound
                                | apply State.retireSled_sound | split | dsimp only | refine fst_sound (by assumption) ?_
                                | refine snd_sound (by assumption) ?_)

theorem State.retireWay_sound (x0 : State) (x1 : Nat) (h0 : x0.Sound) : (State.retireWay x0 x1).Sound := by
  unfold State.retireWay
  with_reducible (repeat' first | assumption | apply State.requestSave_sound | apply State.retiredEvent_sound | apply State.dropWays_sound
                                | apply State.setMaskBit_sound | dsimp only)

theorem State.failWay_sound (x0 : State) (x1 : Nat) (h0 : x0.Sound) : (State.failWay x0 x1).Sound := by
  unfold State.failWay
  with_reducible (repeat' first | assumption | apply ite_sound | apply State.noteFailure_sound | apply State.count_sound
                                | apply State.retireWay_sound | split | dsimp only | refine fst_sound (by assumption) ?_
                                | refine snd_sound (by assumption) ?_)

theorem State.forgetFailures_sound (x0 : State) (x1 : FaultClass) (x2 : Nat) (x3 : Nat) (h0 : x0.Sound)
    : (State.forgetFailures x0 x1 x2 x3).Sound := by
  unfold State.forgetFailures
  with_reducible (repeat' first | assumption | dsimp only | fail_if_no_progress refine mk_sound (tabs_of ?_))

theorem State.givePages_sound (x0 : State) (x1 : Nat) (h0 : x0.Sound) : (State.givePages x0 x1).Sound := by
  unfold State.givePages
  with_reducible (repeat' first | assumption | apply State.setEngine_sound | dsimp only
                                | fail_if_no_progress refine mk_sound (tabs_of ?_))

theorem State.showWindow_sound (x0 : State) (x1 : Nat) (h0 : x0.Sound) : (State.showWindow x0 x1).Sound := by
  unfold State.showWindow
  with_reducible (repeat' first | assumption | apply State.setObj_sound | dsimp only)

theorem State.zeroWindowPage_sound (x0 : State) (x1 : Nat) (x2 : Nat) (h0 : x0.Sound) : (State.zeroWindowPage x0 x1 x2).Sound := by
  unfold State.zeroWindowPage
  with_reducible (repeat' first | assumption | apply State.setEngine_sound | dsimp only
                                | fail_if_no_progress refine mk_sound (tabs_of ?_))

theorem State.setMo_sound (x0 : State) (x1 : Nat) (x2 : Nat) (x3 : Nat) (x4 : Int) (h0 : x0.Sound)
    : (State.setMo x0 x1 x2 x3 x4).Sound := by
  unfold State.setMo
  with_reducible (repeat' first | assumption | apply State.setObj_sound | dsimp only)

theorem State.updServo_sound (x0 : State) (x1 : Nat) (x2 : ServoSt → ServoSt) (h0 : x0.Sound) : (State.updServo x0 x1 x2).Sound := by
  unfold State.updServo
  with_reducible (repeat' first | assumption | apply State.updMast_sound | dsimp only | fail_if_no_progress refine mk_sound (tabs_of ?_))

theorem State.setTarget_sound (x0 : State) (x1 : Nat) (x2 : Nat) (x3 : Int) (h0 : x0.Sound) : (State.setTarget x0 x1 x2 x3).Sound := by
  unfold State.setTarget
  with_reducible (repeat' first | assumption | apply State.updServo_sound | dsimp only | fail_if_no_progress refine mk_sound (tabs_of ?_))

theorem State.setFeed_sound (x0 : State) (x1 : Nat) (x2 : Nat) (x3 : Int) (h0 : x0.Sound) : (State.setFeed x0 x1 x2 x3).Sound := by
  unfold State.setFeed
  with_reducible (repeat' first | assumption | apply State.updServo_sound | dsimp only | fail_if_no_progress refine mk_sound (tabs_of ?_))

theorem State.updOpt_sound (x0 : State) (x1 : Nat) (x2 : OptSt → OptSt) (h0 : x0.Sound) : (State.updOpt x0 x1 x2).Sound := by
  unfold State.updOpt
  with_reducible (repeat' first | assumption | apply State.updMast_sound | dsimp only | fail_if_no_progress refine mk_sound (tabs_of ?_))

theorem State.updSled_sound (x0 : State) (x1 : Nat) (x2 : SledSt → SledSt) (h0 : x0.Sound) : (State.updSled x0 x1 x2).Sound := by
  unfold State.updSled
  with_reducible (repeat' first | assumption | apply State.updMast_sound | dsimp only | fail_if_no_progress refine mk_sound (tabs_of ?_))

theorem State.sledTo_sound (x0 : State) (x1 : Nat) (x2 : Int) (h0 : x0.Sound) : (State.sledTo x0 x1 x2).Sound := by
  unfold State.sledTo
  with_reducible (repeat' first | assumption | apply State.updSled_sound | dsimp only | fail_if_no_progress refine mk_sound (tabs_of ?_))

theorem State.offTrack_sound (x0 : State) (x1 : Nat) (h0 : x0.Sound) : (State.offTrack x0 x1).Sound := by
  unfold State.offTrack
  with_reducible (repeat' first | assumption | apply ite_sound | apply State.setMastState_sound | split | dsimp only)

theorem State.countM_sound (x0 : State) (x1 : Nat) (x2 : Nat) (x3 : Nat) (h0 : x0.Sound) : (State.countM x0 x1 x2 x3).Sound := by
  unfold State.countM
  with_reducible (repeat' first | assumption | apply State.count_sound | dsimp only)

theorem State.seekFails_sound (x0 : State) (x1 : Nat) (h0 : x0.Sound) : (State.seekFails x0 x1).Sound := by
  unfold State.seekFails
  with_reducible (repeat' first | assumption | apply State.failPositioning_sound | apply State.offTrack_sound | apply State.countM_sound
                                | dsimp only)

theorem State.applyTarget_sound (x0 : State) (x1 : Nat) (x2 : Sys2Proof.YardCmd) (h0 : x0.Sound)
    : (State.applyTarget x0 x1 x2).Sound := by
  unfold State.applyTarget
  with_reducible (repeat' first | assumption | apply ite_sound | apply State.setMo_sound | apply State.setTarget_sound
                                | apply State.setFeed_sound | apply State.updOpt_sound | apply State.sledTo_sound
                                | apply State.seekFails_sound | split | dsimp only | fail_if_no_progress refine mk_sound (tabs_of ?_))

theorem State.atStrobe_sound (x0 : State) (x1 : Nat) (x2 : Nat) (x3 : Nat) (h0 : x0.Sound) : (State.atStrobe x0 x1 x2 x3).Sound := by
  unfold State.atStrobe
  with_reducible (repeat' first | assumption | apply ite_sound | apply State.updMast_sound | split | dsimp only
                                | fail_if_no_progress refine mk_sound (tabs_of ?_))

theorem State.atTick_sound (x0 : State) (x1 : Nat) (x2 : Nat) (h0 : x0.Sound) : (State.atTick x0 x1 x2).Sound := by
  unfold State.atTick
  with_reducible (repeat' first | assumption | apply ite_sound | apply State.updMast_sound | split | dsimp only
                                | fail_if_no_progress refine mk_sound (tabs_of ?_))

theorem State.closeGate_sound (x0 : State) (x1 : Nat) (h0 : x0.Sound) : (State.closeGate x0 x1).Sound := by
  unfold State.closeGate
  with_reducible (repeat' first | assumption | intro _ | apply ite_sound | apply State.cutVerify_sound | apply State.updMast_sound
                                | apply State.updWrite_sound | apply forEach_sound | split | dsimp only
                                | fail_if_no_progress refine mk_sound (tabs_of ?_))

theorem State.setSeqn_sound (x0 : State) (x1 : Nat) (x2 : Seqn) (h0 : x0.Sound) : (State.setSeqn x0 x1 x2).Sound := by
  unfold State.setSeqn
  with_reducible (repeat' first | assumption | apply State.setMo_sound | apply State.updOpt_sound | dsimp only
                                | fail_if_no_progress refine mk_sound (tabs_of ?_))

theorem State.endOrder_sound (x0 : State) (x1 : Nat) (x2 : Nat) (h0 : x0.Sound) : (State.endOrder x0 x1 x2).Sound := by
  unfold State.endOrder
  with_reducible (repeat' first | assumption | intro _ | apply State.updOpt_sound | apply State.setSeqn_sound | apply State.updServo_sound
                                | apply State.setMo_sound | apply State.updMast_sound | apply State.applyTarget_sound
                                | apply forEach_sound | dsimp only | fail_if_no_progress refine mk_sound (tabs_of ?_))

theorem State.holdOut_sound (x0 : State) (x1 : Nat) (x2 : Nat) (h0 : x0.Sound) : (State.holdOut x0 x1 x2).Sound := by
  unfold State.holdOut
  with_reducible (repeat' first | assumption | apply State.updMast_sound | dsimp only | fail_if_no_progress refine mk_sound (tabs_of ?_))

theorem State.setSail_sound (x0 : State) (x1 : Nat) (x2 : Nat) (x3 : SailSt) (h0 : x0.Sound) : (State.setSail x0 x1 x2 x3).Sound := by
  unfold State.setSail
  with_reducible (repeat' first | assumption | apply State.updMast_sound | dsimp only | fail_if_no_progress refine mk_sound (tabs_of ?_))

theorem State.traceEvent_sound (x0 : State) (x1 : Nat) (x2 : Nat) (h0 : x0.Sound) : (State.traceEvent x0 x1 x2).Sound := by
  unfold State.traceEvent
  with_reducible (repeat' first | assumption | apply State.updMast_sound | dsimp only | fail_if_no_progress refine mk_sound (tabs_of ?_))

theorem State.updDrive_sound (x0 : State) (x1 : Nat) (x2 : DriveSt → DriveSt) (h0 : x0.Sound) : (State.updDrive x0 x1 x2).Sound := by
  unfold State.updDrive
  with_reducible (repeat' first | assumption | apply State.updMast_sound | dsimp only | fail_if_no_progress refine mk_sound (tabs_of ?_))

theorem State.updLink_sound (x0 : State) (x1 : Nat) (x2 : LinkSt → LinkSt) (h0 : x0.Sound) : (State.updLink x0 x1 x2).Sound := by
  unfold State.updLink
  with_reducible (repeat' first | assumption | apply State.updMast_sound | dsimp only | fail_if_no_progress refine mk_sound (tabs_of ?_))

theorem State.raiseFlag_sound (x0 : State) (x1 : Nat) (x2 : Nat) (x3 : Nat) (h0 : x0.Sound) : (State.raiseFlag x0 x1 x2 x3).Sound := by
  unfold State.raiseFlag
  with_reducible (repeat' first | assumption | apply ite_sound | apply State.updServo_sound | apply State.setMaskBit_sound | split
                                | dsimp only | fail_if_no_progress refine mk_sound (tabs_of ?_))

theorem State.blockFlags_sound (x0 : State) (x1 : Nat) (x2 : Nat) (x3 : Bool) (x4 : Bool) (h0 : x0.Sound)
    : (State.blockFlags x0 x1 x2 x3 x4).Sound := by
  unfold State.blockFlags
  with_reducible (repeat' first | assumption | apply ite_sound | apply State.traceEvent_sound | apply State.countM_sound
                                | apply State.raiseFlag_sound | split | dsimp only)

theorem State.clearBlock_sound (x0 : State) (x1 : Nat) (x2 : Nat) (h0 : x0.Sound) : (State.clearBlock x0 x1 x2).Sound := by
  unfold State.clearBlock
  with_reducible (repeat' first | assumption | apply ite_sound | apply State.updServo_sound | split | dsimp only
                                | fail_if_no_progress refine mk_sound (tabs_of ?_))

theorem State.clearFlags_sound (x0 : State) (x1 : Nat) (x2 : Nat) (x3 : Nat) (h0 : x0.Sound) : (State.clearFlags x0 x1 x2 x3).Sound := by
  unfold State.clearFlags
  with_reducible (repeat' first | assumption | intro _ | apply State.clearMaskBit_sound | apply forEach_sound | dsimp only)

theorem State.showPend_sound (x0 : State) (x1 : Nat) (h0 : x0.Sound) : (State.showPend x0 x1).Sound := by
  unfold State.showPend
  with_reducible (repeat' first | assumption | intro _ | apply State.setMo_sound | apply foldl_sound | dsimp only)

theorem State.commitBlocks_sound (x0 : State) (x1 : Nat) (x2 : Nat) (h0 : x0.Sound) : (State.commitBlocks x0 x1 x2).Sound := by
  unfold State.commitBlocks
  with_reducible (repeat' first | assumption | apply State.showPend_sound | apply State.updServo_sound | dsimp only
                                | fail_if_no_progress refine mk_sound (tabs_of ?_))

theorem State.setPar_sound (x0 : State) (x1 : Nat) (x2 : Nat) (x3 : Int) (h0 : x0.Sound) : (State.setPar x0 x1 x2 x3).Sound := by
  unfold State.setPar
  with_reducible (repeat' first | assumption | apply State.updServo_sound | dsimp only | fail_if_no_progress refine mk_sound (tabs_of ?_))

theorem State.enableBlock_sound (x0 : State) (x1 : Nat) (x2 : Nat) (x3 : Bool) (h0 : x0.Sound)
    : (State.enableBlock x0 x1 x2 x3).Sound := by
  unfold State.enableBlock
  with_reducible (repeat' first | assumption | apply ite_sound | apply State.clearBlock_sound | apply State.setMo_sound
                                | apply State.setPar_sound | split | dsimp only)

theorem State.evalSections_sound (x0 : State) (x1 : Nat) (x2 : Nat) (x3 : Nat) (x4 : Nat) (x5 : Int) (x6 : Bool) (h0 : x0.Sound)
    : (State.evalSections x0 x1 x2 x3 x4 x5 x6).1.Sound := by
  induction x3 generalizing x0 x1 x2 x4 x5 x6 with
  | zero => unfold State.evalSections; with_reducible (repeat' first | assumption | apply ite_sound | apply LogRead.s_sound
                                                                     | apply WordCtx.s_sound | apply State.updServo_sound | split
                                                                     | dsimp only | fail_if_no_progress refine mk_sound (tabs_of ?_))
  | succ n ih => unfold State.evalSections; with_reducible (repeat' first | assumption | apply ih | apply ite_sound
                                                                          | apply LogRead.s_sound | apply WordCtx.s_sound
                                                                          | apply State.updServo_sound | split | dsimp only
                                                                          | fail_if_no_progress refine mk_sound (tabs_of ?_))

theorem State.evalChain_sound (x0 : State) (x1 : Nat) (x2 : Nat) (x3 : Int) (h0 : x0.Sound) : (State.evalChain x0 x1 x2 x3).Sound := by
  unfold State.evalChain
  with_reducible (repeat' first | assumption | apply State.evalSections_sound | apply State.blockFlags_sound | apply State.updServo_sound
                                | split | dsimp only | fail_if_no_progress refine mk_sound (tabs_of ?_)
                                | refine fst_sound (by assumption) ?_ | refine snd_sound (by assumption) ?_)

theorem State.setPid_sound (x0 : State) (x1 : Nat) (x2 : Nat) (x3 : Pid) (h0 : x0.Sound) : (State.setPid x0 x1 x2 x3).Sound := by
  unfold State.setPid
  with_reducible (repeat' first | assumption | apply State.updServo_sound | dsimp only | fail_if_no_progress refine mk_sound (tabs_of ?_))

theorem State.evalPid_sound (x0 : State) (x1 : Nat) (x2 : Nat) (x3 : Int) (h0 : x0.Sound) : (State.evalPid x0 x1 x2 x3).Sound := by
  unfold State.evalPid
  with_reducible (repeat' first | assumption | apply ite_sound | apply State.blockFlags_sound | apply State.setPid_sound | split
                                | dsimp only | fail_if_no_progress refine mk_sound (tabs_of ?_))

theorem State.settleWinner_sound (x0 : State) (x1 : Nat) (x2 : Nat) (h0 : x0.Sound) : (State.settleWinner x0 x1 x2).Sound := by
  unfold State.settleWinner
  with_reducible (repeat' first | assumption | apply State.blockFlags_sound | apply State.setPid_sound | split | dsimp only
                                | fail_if_no_progress refine mk_sound (tabs_of ?_))

theorem State.settleLoser_sound (x0 : State) (x1 : Nat) (x2 : Nat) (x3 : Int) (h0 : x0.Sound)
    : (State.settleLoser x0 x1 x2 x3).1.Sound := by
  unfold State.settleLoser
  with_reducible (repeat' first | assumption | apply State.blockFlags_sound | apply State.setPid_sound | split | dsimp only
                                | fail_if_no_progress refine mk_sound (tabs_of ?_))

theorem State.evalSelector_sound (x0 : State) (x1 : Nat) (h0 : x0.Sound) : (State.evalSelector x0 x1).Sound := by
  unfold State.evalSelector
  with_reducible (repeat' first | assumption | intro _ | apply ite_sound | apply State.settleWinner_sound | apply State.settleLoser_sound
                                | apply State.blockFlags_sound | apply State.traceEvent_sound | apply State.countM_sound
                                | apply State.setMo_sound | apply State.updServo_sound | apply foldl_sound | split | dsimp only
                                | fail_if_no_progress refine mk_sound (tabs_of ?_) | refine fst_sound (by assumption) ?_
                                | refine snd_sound (by assumption) ?_)

theorem State.traceStep_sound (x0 : State) (x1 : Nat) (x2 : Nat) (h0 : x0.Sound) : (State.traceStep x0 x1 x2).Sound := by
  unfold State.traceStep
  with_reducible (repeat' first | assumption | apply getD_sound | apply ite_sound | apply State.updMast_sound | apply State.takeFree_sound
                                | apply State.setMo_sound | split | dsimp only | fail_if_no_progress refine mk_sound (tabs_of ?_)
                                | refine fst_sound (by assumption) ?_ | refine snd_sound (by assumption) ?_)

theorem State.traceLoop_sound (x0 : State) (x1 : Nat) (x2 : Nat) (h0 : x0.Sound) : (State.traceLoop x0 x1 x2).Sound := by
  unfold State.traceLoop
  with_reducible (repeat' first | assumption | apply ite_sound | apply State.traceStep_sound | split | dsimp only)

theorem State.holdLoop_sound (x0 : State) (x1 : Nat) (x2 : Nat) (h0 : x0.Sound) : (State.holdLoop x0 x1 x2).Sound := by
  unfold State.holdLoop
  with_reducible (repeat' first | assumption | apply State.traceLoop_sound | apply State.traceEvent_sound | apply State.countM_sound
                                | dsimp only)

theorem State.loopUsed_sound (x0 : State) (x1 : Nat) (x2 : Nat) (h0 : x0.Sound) : (State.loopUsed x0 x1 x2).Sound := by
  unfold State.loopUsed
  with_reducible (repeat' first | assumption | apply State.updServo_sound | dsimp only | fail_if_no_progress refine mk_sound (tabs_of ?_))

theorem State.takeCommits_sound (x0 : State) (x1 : Nat) (x2 : Nat) (x3 : Nat) (h0 : x0.Sound)
    : (State.takeCommits x0 x1 x2 x3).Sound := by
  unfold State.takeCommits
  with_reducible (repeat' first | assumption | intro _ | apply ite_sound | apply State.setPar_sound | apply State.clearBlock_sound
                                | apply State.setMo_sound | apply State.showPend_sound | apply State.updServo_sound | apply forEach_sound
                                | split | dsimp only | fail_if_no_progress refine mk_sound (tabs_of ?_))

theorem State.traceArm_sound (x0 : State) (x1 : Nat) (h0 : x0.Sound) : (State.traceArm x0 x1).Sound := by
  unfold State.traceArm
  with_reducible (repeat' first | assumption | apply State.setMo_sound | apply State.updMast_sound | dsimp only
                                | fail_if_no_progress refine mk_sound (tabs_of ?_))

theorem State.traceFire_sound (x0 : State) (x1 : Nat) (h0 : x0.Sound) : (State.traceFire x0 x1).Sound := by
  unfold State.traceFire
  with_reducible (repeat' first | assumption | apply State.updMast_sound | dsimp only | fail_if_no_progress refine mk_sound (tabs_of ?_))

theorem State.traceOpen_sound (x0 : State) (x1 : Nat) (x2 : Nat) (h0 : x0.Sound) : (State.traceOpen x0 x1 x2).Sound := by
  unfold State.traceOpen
  with_reducible (repeat' first | assumption | apply ite_sound | apply State.updMast_sound | split | dsimp only
                                | fail_if_no_progress refine mk_sound (tabs_of ?_))

theorem State.traceStop_sound (x0 : State) (x1 : Nat) (h0 : x0.Sound) : (State.traceStop x0 x1).Sound := by
  unfold State.traceStop
  with_reducible (repeat' first | assumption | apply State.setMo_sound | dsimp only)

theorem State.showSled_sound (x0 : State) (x1 : Nat) (x2 : Bool) (h0 : x0.Sound) : (State.showSled x0 x1 x2).Sound := by
  unfold State.showSled
  with_reducible (repeat' first | assumption | apply ite_sound | apply State.setMo_sound | split | dsimp only)

theorem State.unreference_sound (x0 : State) (x1 : Nat) (x2 : Bool) (x3 : Bool) (h0 : x0.Sound)
    : (State.unreference x0 x1 x2 x3).Sound := by
  unfold State.unreference
  with_reducible (repeat' first | assumption | apply ite_sound | apply State.updSled_sound | apply State.updOpt_sound
                                | apply State.seekFails_sound | apply State.endOrder_sound | apply State.countM_sound
                                | apply State.showSled_sound | split | dsimp only | fail_if_no_progress refine mk_sound (tabs_of ?_))

theorem State.sledStall_sound (x0 : State) (x1 : Nat) (h0 : x0.Sound) : (State.sledStall x0 x1).Sound := by
  unfold State.sledStall
  with_reducible (repeat' first | assumption | apply State.updSled_sound | apply State.setMo_sound | apply State.unreference_sound
                                | apply State.seekFails_sound | apply State.endOrder_sound | apply State.failPositioning_sound
                                | apply State.countM_sound | apply State.failSled_sound | apply State.condition_sound | split | dsimp only
                                | fail_if_no_progress refine mk_sound (tabs_of ?_))

theorem State.deviationTest_sound (x0 : State) (x1 : Nat) (x2 : Nat) (h0 : x0.Sound) : (State.deviationTest x0 x1 x2).Sound := by
  unfold State.deviationTest
  with_reducible (repeat' first | assumption | apply ite_sound | apply State.countM_sound | apply State.setMo_sound
                                | apply State.updSled_sound | apply State.sledStall_sound | split | dsimp only
                                | fail_if_no_progress refine mk_sound (tabs_of ?_))

theorem State.homingLegEnd_sound (x0 : State) (x1 : Nat) (h0 : x0.Sound) : (State.homingLegEnd x0 x1).Sound := by
  unfold State.homingLegEnd
  with_reducible (repeat' first | assumption | apply State.setSeqn_sound | apply State.sledTo_sound | apply State.unreference_sound
                                | apply State.showSled_sound | apply State.endOrder_sound | split | dsimp only)

theorem State.homingIndex_sound (x0 : State) (x1 : Nat) (x2 : Nat) (h0 : x0.Sound) : (State.homingIndex x0 x1 x2).Sound := by
  unfold State.homingIndex
  with_reducible (repeat' first | assumption | apply ite_sound | apply State.updSled_sound | apply State.setSeqn_sound
                                | apply State.sledTo_sound | apply State.homingLegEnd_sound | split | dsimp only
                                | fail_if_no_progress refine mk_sound (tabs_of ?_))

theorem State.homingSeek_sound (x0 : State) (x1 : Nat) (h0 : x0.Sound) : (State.homingSeek x0 x1).Sound := by
  unfold State.homingSeek
  with_reducible (repeat' first | assumption | apply State.setSeqn_sound | apply State.sledTo_sound | split | dsimp only)

theorem State.homingStart_sound (x0 : State) (x1 : Nat) (h0 : x0.Sound) : (State.homingStart x0 x1).Sound := by
  unfold State.homingStart
  with_reducible (repeat' first | assumption | apply State.updOpt_sound | apply State.updSled_sound | apply State.showSled_sound
                                | apply State.setSeqn_sound | apply State.setMo_sound | dsimp only
                                | fail_if_no_progress refine mk_sound (tabs_of ?_))

theorem State.orderPark_sound (x0 : State) (x1 : Nat) (h0 : x0.Sound) : (State.orderPark x0 x1).Sound := by
  unfold State.orderPark
  with_reducible (repeat' first | assumption | apply ite_sound | apply State.sledTo_sound | split | dsimp only)

theorem State.planSled_sound (x0 : State) (x1 : Nat) (x2 : Nat) (h0 : x0.Sound) : (State.planSled x0 x1 x2).Sound := by
  unfold State.planSled
  with_reducible (repeat' first | assumption | apply ite_sound | apply State.deviationTest_sound | apply State.updSled_sound
                                | apply State.setMo_sound | apply State.showSled_sound | split | dsimp only
                                | fail_if_no_progress refine mk_sound (tabs_of ?_))

theorem State.sledBoundary_sound (x0 : State) (x1 : Nat) (x2 : Nat) (h0 : x0.Sound) : (State.sledBoundary x0 x1 x2).Sound := by
  unfold State.sledBoundary
  with_reducible (repeat' first | assumption | apply ite_sound | apply State.setMo_sound | apply State.updSled_sound
                                | apply State.homingLegEnd_sound | apply State.showSled_sound | split | dsimp only
                                | fail_if_no_progress refine mk_sound (tabs_of ?_))

theorem State.sledOff_sound (x0 : State) (x1 : Nat) (h0 : x0.Sound) : (State.sledOff x0 x1).Sound := by
  unfold State.sledOff
  with_reducible (repeat' first | assumption | apply ite_sound | apply State.updOpt_sound | apply State.updSled_sound
                                | apply State.unreference_sound | split | dsimp only | fail_if_no_progress refine mk_sound (tabs_of ?_))

theorem State.sledStep_sound (x0 : State) (x1 : Nat) (x2 : Nat) (h0 : x0.Sound) : (State.sledStep x0 x1 x2).Sound := by
  unfold State.sledStep
  with_reducible (repeat' first | assumption | apply ite_sound | apply State.countM_sound | apply State.updSled_sound
                                | apply State.setMo_sound | apply State.showSled_sound | apply State.homingLegEnd_sound | split
                                | dsimp only | fail_if_no_progress refine mk_sound (tabs_of ?_))

theorem State.sledTelemetry_sound (x0 : State) (x1 : Nat) (x2 : Nat) (h0 : x0.Sound) : (State.sledTelemetry x0 x1 x2).Sound := by
  unfold State.sledTelemetry
  with_reducible (repeat' first | assumption | apply ite_sound | apply State.retireSled_sound | apply State.unreference_sound
                                | apply State.failSled_sound | apply State.homingIndex_sound | apply State.updSled_sound | split
                                | dsimp only | fail_if_no_progress refine mk_sound (tabs_of ?_))

theorem State.measureSpan_sound (x0 : State) (x1 : Nat) (x2 : Nat) (x3 : Nat) (x4 : Int) (x5 : Option Int) (h0 : x0.Sound)
    : (State.measureSpan x0 x1 x2 x3 x4 x5).Sound := by
  unfold State.measureSpan
  with_reducible (repeat' first | assumption | apply getD_sound | apply ite_sound | apply State.setSail_sound | split | dsimp only
                                | fail_if_no_progress refine mk_sound (tabs_of ?_))

theorem State.adaptAt_sound (x0 : State) (x1 : Nat) (x2 : Nat) (x3 : Target) (x4 : Nat) (x5 : PosOut) (h0 : x0.Sound)
    : (State.adaptAt x0 x1 x2 x3 x4 x5).Sound := by
  unfold State.adaptAt
  with_reducible (repeat' first | assumption | intro _ | apply ite_sound | apply State.measureSpan_sound | apply State.countM_sound
                                | apply State.setSail_sound | apply State.countN_sound | apply foldl_sound | split | dsimp only
                                | fail_if_no_progress refine mk_sound (tabs_of ?_))

theorem State.beginFrame_sound (x0 : State) (x1 : Nat) (x2 : Nat) (x3 : FrameRead) (h0 : x0.Sound)
    : (State.beginFrame x0 x1 x2 x3).Sound := by
  unfold State.beginFrame
  with_reducible (repeat' first | assumption | apply State.setSail_sound | dsimp only | fail_if_no_progress refine mk_sound (tabs_of ?_))

theorem State.calSync_sound (x0 : State) (x1 : Nat) (x2 : Nat) (h0 : x0.Sound) : (State.calSync x0 x1 x2).Sound := by
  unfold State.calSync
  with_reducible (repeat' first | assumption | apply ite_sound | apply State.failCalFor_sound | split | dsimp only)

theorem State.finishFrame_sound (x0 : State) (x1 : Nat) (x2 : Nat) (x3 : FrameRead) (x4 : Slot) (h0 : x0.Sound)
    : (State.finishFrame x0 x1 x2 x3 x4).Sound := by
  unfold State.finishFrame
  with_reducible (repeat' first | assumption | apply getD_sound | apply ite_sound | apply State.countM_sound | apply State.setSail_sound
                                | apply State.calSync_sound | apply State.updMast_sound | split | dsimp only
                                | fail_if_no_progress refine mk_sound (tabs_of ?_))

theorem State.endSail_sound (x0 : State) (x1 : Nat) (x2 : Nat) (h0 : x0.Sound) : (State.endSail x0 x1 x2).Sound := by
  unfold State.endSail
  with_reducible (repeat' first | assumption | intro _ | apply getD_sound | apply State.finishFrame_sound | apply State.setSail_sound
                                | apply forEach_sound | split | dsimp only | fail_if_no_progress refine mk_sound (tabs_of ?_))

theorem State.erasedRaw_sound (x0 : State) (h0 : x0.Sound) : (State.erasedRaw x0).2.Sound := by
  unfold State.erasedRaw
  with_reducible (repeat' first | assumption | apply State.takeFree_sound | split | dsimp only
                                | fail_if_no_progress refine mk_sound (tabs_of ?_) | refine fst_sound (by assumption) ?_
                                | refine snd_sound (by assumption) ?_)

theorem State.erasedRaws_sound (x0 : State) (x1 : Nat) (h0 : x0.Sound) : (State.erasedRaws x0 x1).2.Sound := by
  induction x1 generalizing x0 with
  | zero => unfold State.erasedRaws; with_reducible (repeat' first | assumption | apply LogRead.s_sound | apply WordCtx.s_sound
                                                                   | apply State.erasedRaw_sound | split | dsimp only
                                                                   | refine fst_sound (by assumption) ?_
                                                                   | refine snd_sound (by assumption) ?_)
  | succ n ih => unfold State.erasedRaws; with_reducible (repeat' first | assumption | apply ih | apply LogRead.s_sound
                                                                        | apply WordCtx.s_sound | apply State.erasedRaw_sound | split
                                                                        | dsimp only | refine fst_sound (by assumption) ?_
                                                                        | refine snd_sound (by assumption) ?_)

theorem State.finishFrames_sound (x0 : State) (x1 : Nat) (x2 : Nat) (h0 : x0.Sound) : (State.finishFrames x0 x1 x2).Sound := by
  unfold State.finishFrames
  with_reducible (repeat' first | assumption | intro _ | apply State.finishFrame_sound | apply forEach_sound | split | dsimp only)

theorem State.frameBegins_sound (x0 : State) (x1 : Nat) (x2 : Nat) (x3 : FrameRead) (h0 : x0.Sound)
    : (State.frameBegins x0 x1 x2 x3).Sound := by
  unfold State.frameBegins
  with_reducible (repeat' first | assumption | apply ite_sound | apply State.setSail_sound | split | dsimp only
                                | fail_if_no_progress refine mk_sound (tabs_of ?_))

theorem State.framesBegin_sound (x0 : State) (x1 : Nat) (x2 : Nat) (h0 : x0.Sound) : (State.framesBegin x0 x1 x2).Sound := by
  unfold State.framesBegin
  with_reducible (repeat' first | assumption | intro _ | apply State.frameBegins_sound | apply forEach_sound | dsimp only)

theorem State.keepSteps_sound (x0 : State) (x1 : Nat) (h0 : x0.Sound) : (State.keepSteps x0 x1).Sound := by
  unfold State.keepSteps
  with_reducible (repeat' first | assumption | intro _ | apply ite_sound | apply State.setSail_sound | apply forEach_sound | split
                                | dsimp only | fail_if_no_progress refine mk_sound (tabs_of ?_))

theorem State.pushSamples_sound (x0 : State) (x1 : Nat) (x2 : Nat) (x3 : Nat) (x4 : List Int) (x5 : Bool) (h0 : x0.Sound)
    : (State.pushSamples x0 x1 x2 x3 x4 x5).Sound := by
  have h : ∀ g, ((if x2 < 64 then x0.countN (ckey x1 0x0A (x2 + 1)) g else x0).erasedRaws g).2.Sound := fun g =>
    State.erasedRaws_sound _ _ (ite_sound (State.countN_sound _ _ _ h0) h0)
  unfold State.pushSamples
  dsimp only
  have h' := h ((x0.sail x1 x2).gapTo x3 (x4.map (fun v => (⟨v, false, x5⟩ : Raw)))).1
  generalize ((x0.sail x1 x2).gapTo x3 (x4.map (fun v => (⟨v, false, x5⟩ : Raw)))) = g at h' ⊢
  generalize (if x2 < 64 then x0.countN (ckey x1 0x0A (x2 + 1)) g.1 else x0).erasedRaws g.1 = er at h' ⊢
  split
  · exact State.endSail_sound _ _ _ h0
  · split
    · exact State.setSail_sound _ _ _ _ h0
    · exact State.setSail_sound _ _ _ _ h'

theorem State.runBlock_sound (x0 : State) (x1 : Nat) (x2 : Nat) (h0 : x0.Sound) : (State.runBlock x0 x1 x2).Sound := by
  unfold State.runBlock
  with_reducible (repeat' first | assumption | intro _ | apply getD_sound | apply ite_sound | apply State.framesBegin_sound
                                | apply State.setSail_sound | apply State.countN_sound | apply State.adaptAt_sound
                                | apply State.finishFrames_sound | apply foldl_sound | split | dsimp only
                                | fail_if_no_progress refine mk_sound (tabs_of ?_))

theorem State.runSail_sound (x0 : State) (x1 : Nat) (x2 : Nat) (x3 : Nat) (h0 : x0.Sound) : (State.runSail x0 x1 x2 x3).Sound := by
  induction x3 generalizing x0 x1 x2 with
  | zero => unfold State.runSail; with_reducible (repeat' first | assumption | apply ite_sound | apply State.runBlock_sound
                                                                | apply LogRead.s_sound | apply WordCtx.s_sound | split)
  | succ n ih => unfold State.runSail; with_reducible (repeat' first | assumption | apply ih | apply ite_sound
                                                                     | apply State.runBlock_sound | apply LogRead.s_sound
                                                                     | apply WordCtx.s_sound | split)

theorem State.runChannels_sound (x0 : State) (x1 : Nat) (h0 : x0.Sound) : (State.runChannels x0 x1).Sound := by
  unfold State.runChannels
  with_reducible (repeat' first | assumption | intro _ | apply State.runSail_sound | apply forEach_sound | dsimp only)

theorem State.unlock_sound (x0 : State) (x1 : Nat) (x2 : Nat) (h0 : x0.Sound) : (State.unlock x0 x1 x2).Sound := by
  unfold State.unlock
  with_reducible (repeat' first | assumption | apply State.updOpt_sound | apply State.clearMaskBit_sound | dsimp only
                                | fail_if_no_progress refine mk_sound (tabs_of ?_))

theorem State.openLoop_sound (x0 : State) (x1 : Nat) (x2 : Nat) (h0 : x0.Sound) : (State.openLoop x0 x1 x2).Sound := by
  unfold State.openLoop
  with_reducible (repeat' first | assumption | apply ite_sound | apply State.enableBlock_sound | apply State.unlock_sound
                                | apply State.clearBlock_sound | apply State.updOpt_sound | split | dsimp only
                                | fail_if_no_progress refine mk_sound (tabs_of ?_))

theorem State.showClock_sound (x0 : State) (x1 : Nat) (h0 : x0.Sound) : (State.showClock x0 x1).Sound := by
  unfold State.showClock
  with_reducible (repeat' first | assumption | apply State.setMo_sound | dsimp only)

theorem State.clockStart_sound (x0 : State) (x1 : Nat) (x2 : Nat) (h0 : x0.Sound) : (State.clockStart x0 x1 x2).Sound := by
  unfold State.clockStart
  with_reducible (repeat' first | assumption | apply ite_sound | apply State.takeFree_sound | apply State.enableBlock_sound
                                | apply State.unlock_sound | apply State.updOpt_sound | apply State.showClock_sound
                                | apply State.setMo_sound | split | dsimp only | fail_if_no_progress refine mk_sound (tabs_of ?_)
                                | refine fst_sound (by assumption) ?_ | refine snd_sound (by assumption) ?_)

theorem State.acqAction_sound (x0 : State) (x1 : Nat) (x2 : Nat) (h0 : x0.Sound) : (State.acqAction x0 x1 x2).Sound := by
  unfold State.acqAction
  with_reducible (repeat' first | assumption | apply getD_sound | apply ite_sound | apply State.setTarget_sound | apply State.updOpt_sound
                                | apply State.enableBlock_sound | apply State.clearBlock_sound | apply State.openLoop_sound
                                | apply State.clockStart_sound | apply State.setFeed_sound | apply State.setMo_sound | split | dsimp only
                                | fail_if_no_progress refine mk_sound (tabs_of ?_))

theorem State.openOptical_sound (x0 : State) (x1 : Nat) (h0 : x0.Sound) : (State.openOptical x0 x1).Sound := by
  unfold State.openOptical
  with_reducible (repeat' first | assumption | intro _ | apply State.openLoop_sound | apply forEach_sound | dsimp only)

theorem State.acqFail_sound (x0 : State) (x1 : Nat) (x2 : Nat) (h0 : x0.Sound) : (State.acqFail x0 x1 x2).Sound := by
  unfold State.acqFail
  with_reducible (repeat' first | assumption | apply ite_sound | apply State.countM_sound | apply State.updOpt_sound
                                | apply State.openOptical_sound | apply State.faultMast_sound | apply State.endOrder_sound
                                | apply State.setSeqn_sound | split | dsimp only | fail_if_no_progress refine mk_sound (tabs_of ?_))

theorem State.acqTimeout_sound (x0 : State) (x1 : Nat) (h0 : x0.Sound) : (State.acqTimeout x0 x1).Sound := by
  unfold State.acqTimeout
  with_reducible (repeat' first | assumption | apply ite_sound | apply State.acqFail_sound | split | dsimp only)

theorem State.acqDone_sound (x0 : State) (x1 : Nat) (h0 : x0.Sound) : (State.acqDone x0 x1).Sound := by
  unfold State.acqDone
  with_reducible (repeat' first | assumption | apply ite_sound | apply State.acqTimeout_sound | apply State.updOpt_sound
                                | apply State.endOrder_sound | apply State.showWindow_sound | apply State.setMastState_sound | split
                                | dsimp only | fail_if_no_progress refine mk_sound (tabs_of ?_))

theorem State.acqEnter_sound (x0 : State) (x1 : Nat) (x2 : Nat) (x3 : Nat) (x4 : Nat) (h0 : x0.Sound)
    : (State.acqEnter x0 x1 x2 x3 x4).Sound := by
  unfold State.acqEnter
  with_reducible (repeat' first | assumption | apply State.setSeqn_sound | apply State.acqAction_sound | dsimp only)

theorem State.beginOrder_sound (x0 : State) (x1 : Nat) (h0 : x0.Sound) : (State.beginOrder x0 x1).Sound := by
  unfold State.beginOrder
  with_reducible (repeat' first | assumption | apply State.failCal_sound | apply State.closeGate_sound | dsimp only)

theorem State.acquireStart_sound (x0 : State) (x1 : Nat) (x2 : Nat) (h0 : x0.Sound) : (State.acquireStart x0 x1 x2).Sound := by
  unfold State.acquireStart
  with_reducible (repeat' first | assumption | apply ite_sound | apply State.updOpt_sound | apply State.beginOrder_sound
                                | apply State.switchSail_sound | apply State.acqEnter_sound | split | dsimp only
                                | fail_if_no_progress refine mk_sound (tabs_of ?_))

theorem State.checkTag_sound (x0 : State) (x1 : Nat) (x2 : Nat) (h0 : x0.Sound) : (State.checkTag x0 x1 x2).1.Sound := by
  unfold State.checkTag
  with_reducible (repeat' first | assumption | apply getD_sound | apply ite_sound | apply State.countM_sound
                                | apply State.mountFails_sound | apply State.updOpt_sound | apply State.endOrder_sound
                                | apply State.openOptical_sound | apply State.failDisc_sound | split | dsimp only
                                | fail_if_no_progress refine mk_sound (tabs_of ?_))

theorem State.jumpStart_sound (x0 : State) (x1 : Nat) (x2 : Int) (h0 : x0.Sound) : (State.jumpStart x0 x1 x2).Sound := by
  unfold State.jumpStart
  with_reducible (repeat' first | assumption | apply State.unlock_sound | apply State.beginOrder_sound | apply State.setSeqn_sound
                                | apply State.updOpt_sound | dsimp only | fail_if_no_progress refine mk_sound (tabs_of ?_))

theorem State.seekStart_sound (x0 : State) (x1 : Nat) (x2 : Nat) (x3 : Nat) (h0 : x0.Sound) : (State.seekStart x0 x1 x2 x3).Sound := by
  unfold State.seekStart
  with_reducible (repeat' first | assumption | apply ite_sound | apply State.unlock_sound | apply State.openLoop_sound
                                | apply State.beginOrder_sound | apply State.setSeqn_sound | apply State.seekFails_sound
                                | apply State.endOrder_sound | split | dsimp only)

theorem State.arrivedAt_sound (x0 : State) (x1 : Nat) (x2 : Nat) (x3 : Nat) (x4 : Bool) (h0 : x0.Sound)
    : (State.arrivedAt x0 x1 x2 x3 x4).Sound := by
  unfold State.arrivedAt
  with_reducible (repeat' first | assumption | apply ite_sound | apply State.updOpt_sound | apply State.endOrder_sound
                                | apply State.seekFails_sound | apply State.countM_sound | apply State.jumpStart_sound
                                | apply State.seekStart_sound | split | dsimp only | fail_if_no_progress refine mk_sound (tabs_of ?_))

theorem State.addressTaken_sound (x0 : State) (x1 : Nat) (x2 : Nat) (x3 : Nat) (h0 : x0.Sound)
    : (State.addressTaken x0 x1 x2 x3).Sound := by
  unfold State.addressTaken
  with_reducible (repeat' first | assumption | apply ite_sound | apply State.checkTag_sound | apply State.setMo_sound
                                | apply State.setSeqn_sound | apply State.clockStart_sound | apply State.countM_sound
                                | apply State.acqEnter_sound | apply State.arrivedAt_sound | split | dsimp only
                                | refine fst_sound (by assumption) ?_ | refine snd_sound (by assumption) ?_)

theorem State.addressUnit_sound (x0 : State) (x1 : Nat) (x2 : Nat) (h0 : x0.Sound) : (State.addressUnit x0 x1 x2).Sound := by
  unfold State.addressUnit
  with_reducible (repeat' first | assumption | apply ite_sound | apply State.updOpt_sound | apply State.countM_sound
                                | apply State.addressTaken_sound | split | dsimp only | fail_if_no_progress refine mk_sound (tabs_of ?_))

theorem State.calMarks_sound (x0 : State) (x1 : Nat) (x2 : List Int) (h0 : x0.Sound) : (State.calMarks x0 x1 x2).Sound := by
  unfold State.calMarks
  with_reducible (repeat' first | assumption | intro _ | apply ite_sound | apply State.updOpt_sound | apply foldl_sound | split
                                | dsimp only | fail_if_no_progress refine mk_sound (tabs_of ?_))

theorem State.layerFail_sound (x0 : State) (x1 : Nat) (x2 : Nat) (x3 : Nat) (h0 : x0.Sound) : (State.layerFail x0 x1 x2 x3).Sound := by
  unfold State.layerFail
  with_reducible (repeat' first | assumption | apply ite_sound | apply State.failPositioning_sound | apply State.updOpt_sound
                                | apply State.endOrder_sound | apply State.acqEnter_sound | apply State.openLoop_sound | split
                                | dsimp only | fail_if_no_progress refine mk_sound (tabs_of ?_))

theorem State.orderLost_sound (x0 : State) (x1 : Nat) (x2 : Nat) (x3 : Nat) (h0 : x0.Sound) : (State.orderLost x0 x1 x2 x3).Sound := by
  unfold State.orderLost
  with_reducible (repeat' first | assumption | apply ite_sound | apply State.shiftFailed_sound | apply State.seekFails_sound
                                | apply State.endOrder_sound | apply State.layerFail_sound | split | dsimp only)

theorem State.loopLost_sound (x0 : State) (x1 : Nat) (x2 : Nat) (x3 : Nat) (h0 : x0.Sound) : (State.loopLost x0 x1 x2 x3).Sound := by
  unfold State.loopLost
  with_reducible (repeat' first | assumption | apply ite_sound | apply State.failCal_sound | apply State.closeGate_sound
                                | apply State.countM_sound | apply State.unlock_sound | apply State.openLoop_sound
                                | apply State.setMastState_sound | apply State.orderLost_sound | apply State.switchSail_sound
                                | apply State.failServoSail_sound | split | dsimp only)

theorem State.loopGained_sound (x0 : State) (x1 : Nat) (x2 : Nat) (x3 : Nat) (h0 : x0.Sound) : (State.loopGained x0 x1 x2 x3).Sound := by
  unfold State.loopGained
  with_reducible (repeat' first | assumption | apply getD_sound | apply ite_sound | apply State.setMaskBit_sound
                                | apply State.acqEnter_sound | apply State.setSeqn_sound | apply State.clockStart_sound
                                | apply State.updOpt_sound | apply State.endOrder_sound | apply State.acqDone_sound | split | dsimp only
                                | fail_if_no_progress refine mk_sound (tabs_of ?_))

theorem State.lockTest_sound (x0 : State) (x1 : Nat) (x2 : Nat) (x3 : Nat) (x4 : Bool) (x5 : Bool) (x6 : Nat) (x7 : Nat) (h0 : x0.Sound)
    : (State.lockTest x0 x1 x2 x3 x4 x5 x6 x7).Sound := by
  unfold State.lockTest
  with_reducible (repeat' first | assumption | apply ite_sound | apply State.unlock_sound | apply State.loopLost_sound
                                | apply State.updOpt_sound | apply State.loopGained_sound | split | dsimp only
                                | fail_if_no_progress refine mk_sound (tabs_of ?_))

theorem State.clockRun_sound (x0 : State) (x1 : Nat) (x2 : Nat) (h0 : x0.Sound) : (State.clockRun x0 x1 x2).Sound := by
  unfold State.clockRun
  with_reducible (repeat' first | assumption | intro _ | apply getD_sound | apply ite_sound | apply State.updOpt_sound
                                | apply State.traceOpen_sound | apply State.calMarks_sound | apply State.closeGate_sound
                                | apply State.countM_sound | apply State.evalPid_sound | apply State.takeCommits_sound
                                | apply State.blockFlags_sound | apply State.enableBlock_sound | apply State.lockTest_sound
                                | apply State.showClock_sound | apply State.traceLoop_sound | apply foldl_sound | split | dsimp only
                                | fail_if_no_progress refine mk_sound (tabs_of ?_))

theorem State.evalBrace_sound (x0 : State) (x1 : Nat) (x2 : Nat) (h0 : x0.Sound) : (State.evalBrace x0 x1 x2).Sound := by
  unfold State.evalBrace
  with_reducible (repeat' first | assumption | apply ite_sound | apply State.holdLoop_sound | apply State.traceOpen_sound
                                | apply State.takeCommits_sound | apply State.loopUsed_sound | apply State.evalPid_sound
                                | apply State.updOpt_sound | apply State.traceLoop_sound | apply State.lockTest_sound | split | dsimp only
                                | fail_if_no_progress refine mk_sound (tabs_of ?_))

theorem State.evalFocus_sound (x0 : State) (x1 : Nat) (x2 : Nat) (h0 : x0.Sound) : (State.evalFocus x0 x1 x2).Sound := by
  unfold State.evalFocus
  with_reducible (repeat' first | assumption | apply ite_sound | apply State.holdLoop_sound | apply State.traceOpen_sound
                                | apply State.takeCommits_sound | apply State.loopUsed_sound | apply State.evalPid_sound
                                | apply State.evalChain_sound | apply State.updOpt_sound | apply State.acqEnter_sound
                                | apply State.acqFail_sound | apply State.traceLoop_sound | apply State.lockTest_sound | split
                                | dsimp only | fail_if_no_progress refine mk_sound (tabs_of ?_))

theorem State.layerTimeout_sound (x0 : State) (x1 : Nat) (h0 : x0.Sound) : (State.layerTimeout x0 x1).Sound := by
  unfold State.layerTimeout
  with_reducible (repeat' first | assumption | apply ite_sound | apply State.layerFail_sound | split | dsimp only)

theorem State.layerSettled_sound (x0 : State) (x1 : Nat) (x2 : Nat) (h0 : x0.Sound) : (State.layerSettled x0 x1 x2).Sound := by
  unfold State.layerSettled
  with_reducible (repeat' first | assumption | apply ite_sound | apply State.updOpt_sound | split | dsimp only
                                | fail_if_no_progress refine mk_sound (tabs_of ?_))

theorem State.slewHsa_sound (x0 : State) (x1 : Nat) (x2 : Nat) (h0 : x0.Sound) : (State.slewHsa x0 x1 x2).Sound := by
  unfold State.slewHsa
  with_reducible (repeat' first | assumption | apply ite_sound | apply State.updOpt_sound | split | dsimp only
                                | fail_if_no_progress refine mk_sound (tabs_of ?_))

theorem State.evalHalyard_sound (x0 : State) (x1 : Nat) (x2 : Nat) (h0 : x0.Sound) : (State.evalHalyard x0 x1 x2).Sound := by
  unfold State.evalHalyard
  with_reducible (repeat' first | assumption | apply getD_sound | apply ite_sound | apply State.holdLoop_sound
                                | apply State.traceOpen_sound | apply State.layerTimeout_sound | apply State.layerSettled_sound
                                | apply State.slewHsa_sound | apply State.takeCommits_sound | apply State.loopUsed_sound
                                | apply State.updOpt_sound | apply State.acqEnter_sound | apply State.evalPid_sound
                                | apply State.setMo_sound | apply State.setTarget_sound | apply State.setFeed_sound
                                | apply State.setSeqn_sound | apply State.lockTest_sound | apply State.traceLoop_sound
                                | apply State.acqDone_sound | split | dsimp only | fail_if_no_progress refine mk_sound (tabs_of ?_))

theorem State.jumpTimeout_sound (x0 : State) (x1 : Nat) (h0 : x0.Sound) : (State.jumpTimeout x0 x1).Sound := by
  unfold State.jumpTimeout
  with_reducible (repeat' first | assumption | apply ite_sound | apply State.shiftFailed_sound | apply State.seekFails_sound
                                | apply State.endOrder_sound | split | dsimp only)

theorem State.jumpCross_sound (x0 : State) (x1 : Nat) (h0 : x0.Sound) : (State.jumpCross x0 x1).Sound := by
  unfold State.jumpCross
  with_reducible (repeat' first | assumption | apply ite_sound | apply State.setSeqn_sound | apply State.updOpt_sound | split | dsimp only
                                | fail_if_no_progress refine mk_sound (tabs_of ?_))

theorem State.evalTracking_sound (x0 : State) (x1 : Nat) (x2 : Nat) (h0 : x0.Sound) : (State.evalTracking x0 x1 x2).Sound := by
  unfold State.evalTracking
  with_reducible (repeat' first | assumption | intro _ | apply ite_sound | apply State.holdLoop_sound | apply State.traceOpen_sound
                                | apply State.takeCommits_sound | apply State.loopUsed_sound | apply State.updOpt_sound
                                | apply State.jumpTimeout_sound | apply State.jumpCross_sound | apply State.evalPid_sound
                                | apply State.evalChain_sound | apply State.setMo_sound | apply State.acqEnter_sound
                                | apply State.setSeqn_sound | apply State.clearBlock_sound | apply State.enableBlock_sound
                                | apply State.setTarget_sound | apply State.closeGate_sound | apply State.lockTest_sound
                                | apply State.traceLoop_sound | apply foldl_sound | split | dsimp only
                                | fail_if_no_progress refine mk_sound (tabs_of ?_))

theorem State.layerStart_sound (x0 : State) (x1 : Nat) (x2 : Nat) (h0 : x0.Sound) : (State.layerStart x0 x1 x2).Sound := by
  unfold State.layerStart
  with_reducible (repeat' first | assumption | apply ite_sound | apply State.updOpt_sound | apply State.unlock_sound
                                | apply State.beginOrder_sound | apply State.endOrder_sound | apply State.setSeqn_sound | split
                                | dsimp only | fail_if_no_progress refine mk_sound (tabs_of ?_))

theorem State.startQueued_sound (x0 : State) (x1 : Nat) (h0 : x0.Sound) : (State.startQueued x0 x1).Sound := by
  unfold State.startQueued
  with_reducible (repeat' first | assumption | apply State.updOpt_sound | apply State.acquireStart_sound | apply State.jumpStart_sound
                                | apply State.seekStart_sound | apply State.layerStart_sound | apply State.homingStart_sound
                                | apply State.beginOrder_sound | split | dsimp only | fail_if_no_progress refine mk_sound (tabs_of ?_))

theorem State.order_sound (x0 : State) (x1 : Nat) (x2 : Seqn) (h0 : x0.Sound) : (State.order x0 x1 x2).Sound := by
  unfold State.order
  with_reducible (repeat' first | assumption | apply State.startQueued_sound | apply State.updOpt_sound | dsimp only
                                | fail_if_no_progress refine mk_sound (tabs_of ?_))

theorem State.seekMove_sound (x0 : State) (x1 : Nat) (x2 : Nat) (x3 : Nat) (x4 : Nat) (h0 : x0.Sound)
    : (State.seekMove x0 x1 x2 x3 x4).Sound := by
  unfold State.seekMove
  with_reducible (repeat' first | assumption | apply ite_sound | apply State.seekFails_sound | apply State.endOrder_sound
                                | apply State.setSeqn_sound | apply State.sledTo_sound | split | dsimp only)

theorem State.seekProgress_sound (x0 : State) (x1 : Nat) (x2 : Nat) (x3 : Bool) (h0 : x0.Sound)
    : (State.seekProgress x0 x1 x2 x3).Sound := by
  unfold State.seekProgress
  with_reducible (repeat' first | assumption | apply ite_sound | apply State.seekMove_sound | apply State.setSeqn_sound
                                | apply State.acqAction_sound | split | dsimp only)

theorem State.unschedule_sound (x0 : State) (x1 : Nat) (h0 : x0.Sound) : (State.unschedule x0 x1).Sound := by
  unfold State.unschedule
  with_reducible (repeat' first | assumption | apply ite_sound | apply State.setSectors_sound | apply State.updMast_sound | split
                                | dsimp only | fail_if_no_progress refine mk_sound (tabs_of ?_))

theorem State.setDriveState_sound (x0 : State) (x1 : Nat) (x2 : Nat) (h0 : x0.Sound) : (State.setDriveState x0 x1 x2).Sound := by
  unfold State.setDriveState
  with_reducible (repeat' first | assumption | apply State.setMo_sound | dsimp only)

theorem State.alignEnd_sound (x0 : State) (x1 : Nat) (h0 : x0.Sound) : (State.alignEnd x0 x1).Sound := by
  unfold State.alignEnd
  with_reducible (repeat' first | assumption | apply State.setDriveState_sound | apply State.updDrive_sound | dsimp only
                                | fail_if_no_progress refine mk_sound (tabs_of ?_))

theorem State.alignStart_sound (x0 : State) (x1 : Nat) (x2 : Nat) (h0 : x0.Sound) : (State.alignStart x0 x1 x2).Sound := by
  unfold State.alignStart
  with_reducible (repeat' first | assumption | apply State.updDrive_sound | apply State.setDriveState_sound | apply State.updOpt_sound
                                | dsimp only | fail_if_no_progress refine mk_sound (tabs_of ?_))

theorem State.becomeDriven_sound (x0 : State) (x1 : Nat) (h0 : x0.Sound) : (State.becomeDriven x0 x1).Sound := by
  unfold State.becomeDriven
  with_reducible (repeat' first | assumption | apply ite_sound | apply State.updDrive_sound | apply State.setMastState_sound | split
                                | dsimp only | fail_if_no_progress refine mk_sound (tabs_of ?_))

theorem State.chopperFails_sound (x0 : State) (x1 : Nat) (h0 : x0.Sound) : (State.chopperFails x0 x1).Sound := by
  unfold State.chopperFails
  with_reducible (repeat' first | assumption | apply ite_sound | apply State.requestSave_sound | apply State.condition_sound
                                | apply State.countM_sound | apply State.setMo_sound | split | dsimp only)

theorem State.chopperTimeout_sound (x0 : State) (x1 : Nat) (h0 : x0.Sound) : (State.chopperTimeout x0 x1).Sound := by
  unfold State.chopperTimeout
  with_reducible (repeat' first | assumption | apply ite_sound | apply State.chopperFails_sound | split | dsimp only)

theorem State.chopper_sound (x0 : State) (x1 : Nat) (x2 : Nat) (h0 : x0.Sound) : (State.chopper x0 x1 x2).Sound := by
  unfold State.chopper
  with_reducible (repeat' first | assumption | apply getD_sound | apply ite_sound | apply State.chopperTimeout_sound
                                | apply State.updDrive_sound | apply State.chopperFails_sound | split | dsimp only
                                | fail_if_no_progress refine mk_sound (tabs_of ?_))

theorem State.driveOn_sound (x0 : State) (x1 : Nat) (x2 : Nat) (h0 : x0.Sound) : (State.driveOn x0 x1 x2).Sound := by
  unfold State.driveOn
  with_reducible (repeat' first | assumption | apply ite_sound | apply State.takeFree_sound | apply State.setPid_sound
                                | apply State.updDrive_sound | apply State.setDriveState_sound | apply State.updOpt_sound | split
                                | dsimp only | fail_if_no_progress refine mk_sound (tabs_of ?_) | refine fst_sound (by assumption) ?_
                                | refine snd_sound (by assumption) ?_)

theorem State.classify_sound (x0 : State) (x1 : Nat) (h0 : x0.Sound) : (State.classify x0 x1).Sound := by
  unfold State.classify
  with_reducible (repeat' first | assumption | apply ite_sound | apply State.alignStart_sound | apply State.becomeDriven_sound
                                | apply State.driveOn_sound | apply State.updDrive_sound | apply State.updServo_sound | split | dsimp only
                                | fail_if_no_progress refine mk_sound (tabs_of ?_))

theorem State.floatStage_sound (x0 : State) (x1 : Nat) (x2 : Nat) (h0 : x0.Sound) : (State.floatStage x0 x1 x2).Sound := by
  unfold State.floatStage
  with_reducible (repeat' first | assumption | apply State.setDriveState_sound | apply State.updDrive_sound | apply State.updOpt_sound
                                | dsimp only | fail_if_no_progress refine mk_sound (tabs_of ?_))

theorem State.coast_sound (x0 : State) (x1 : Nat) (h0 : x0.Sound) : (State.coast x0 x1).Sound := by
  unfold State.coast
  with_reducible (repeat' first | assumption | apply ite_sound | apply State.countM_sound | apply State.floatStage_sound
                                | apply State.driveOn_sound | apply State.becomeDriven_sound | split | dsimp only)

theorem State.currentLoops_sound (x0 : State) (x1 : Nat) (x2 : Int) (x3 : Int) (h0 : x0.Sound)
    : (State.currentLoops x0 x1 x2 x3).Sound := by
  unfold State.currentLoops
  with_reducible (repeat' first | assumption | apply ite_sound | apply State.evalPid_sound | apply State.updDrive_sound
                                | apply State.countN_sound | split | dsimp only | fail_if_no_progress refine mk_sound (tabs_of ?_))

theorem State.startFails_sound (x0 : State) (x1 : Nat) (x2 : Nat) (h0 : x0.Sound) : (State.startFails x0 x1 x2).Sound := by
  unfold State.startFails
  with_reducible (repeat' first | assumption | intro _ | apply State.stopRead_sound | apply State.mountFails_sound
                                | apply State.dropOrphans_sound | apply forEach_sound | dsimp only)

theorem State.driveCommit_sound (x0 : State) (x1 : Nat) (h0 : x0.Sound) : (State.driveCommit x0 x1).Sound := by
  unfold State.driveCommit
  with_reducible (repeat' first | assumption | apply State.setMo_sound | apply State.showPend_sound | apply State.updServo_sound
                                | dsimp only | fail_if_no_progress refine mk_sound (tabs_of ?_))

theorem State.orderHoming_sound (x0 : State) (x1 : Nat) (h0 : x0.Sound) : (State.orderHoming x0 x1).Sound := by
  unfold State.orderHoming
  with_reducible (repeat' first | assumption | apply ite_sound | apply State.order_sound | split | dsimp only)

theorem State.homeFirst_sound (x0 : State) (x1 : Nat) (h0 : x0.Sound) : (State.homeFirst x0 x1).Sound := by
  unfold State.homeFirst
  with_reducible (repeat' first | assumption | apply ite_sound | apply State.orderHoming_sound | split | dsimp only)

theorem State.spindleStart_sound (x0 : State) (x1 : Nat) (h0 : x0.Sound) : (State.spindleStart x0 x1).Sound := by
  unfold State.spindleStart
  with_reducible (repeat' first | assumption | apply ite_sound | apply State.startFails_sound | apply State.updDrive_sound
                                | apply State.clearBlock_sound | apply State.driveCommit_sound | apply State.homeFirst_sound
                                | apply State.setDriveState_sound | split | dsimp only | fail_if_no_progress refine mk_sound (tabs_of ?_))

theorem State.furlMast_sound (x0 : State) (x1 : Nat) (h0 : x0.Sound) : (State.furlMast x0 x1).Sound := by
  unfold State.furlMast
  with_reducible (repeat' first | assumption | apply ite_sound | apply State.updOpt_sound | apply State.failCal_sound
                                | apply State.closeGate_sound | apply State.setMastState_sound | apply State.abandonAttempts_sound
                                | apply State.unschedule_sound | apply State.ladderOff_sound | apply State.updDrive_sound
                                | apply State.orderPark_sound | split | dsimp only | fail_if_no_progress refine mk_sound (tabs_of ?_))

theorem State.demandStep_sound (x0 : State) (x1 : Nat) (h0 : x0.Sound) : (State.demandStep x0 x1).Sound := by
  unfold State.demandStep
  with_reducible (repeat' first | assumption | apply ite_sound | apply State.updDrive_sound | apply State.setMo_sound
                                | apply State.spindleStart_sound | apply State.furlMast_sound | split | dsimp only
                                | fail_if_no_progress refine mk_sound (tabs_of ?_))

theorem State.endByFurl_sound (x0 : State) (x1 : Nat) (h0 : x0.Sound) : (State.endByFurl x0 x1).Sound := by
  unfold State.endByFurl
  with_reducible (repeat' first | assumption | apply ite_sound | apply State.endOrder_sound | apply State.sledTo_sound | split
                                | dsimp only)

theorem State.syncStep_sound (x0 : State) (x1 : Nat) (h0 : x0.Sound) : (State.syncStep x0 x1).Sound := by
  unfold State.syncStep
  with_reducible (repeat' first | assumption | apply ite_sound | apply State.updDrive_sound | apply State.setMo_sound | split | dsimp only
                                | fail_if_no_progress refine mk_sound (tabs_of ?_))

theorem State.speedStep_sound (x0 : State) (x1 : Nat) (x2 : Nat) (h0 : x0.Sound) : (State.speedStep x0 x1 x2).Sound := by
  unfold State.speedStep
  with_reducible (repeat' first | assumption | apply ite_sound | apply State.syncStep_sound | apply State.demandStep_sound
                                | apply State.takeCommits_sound | apply State.loopUsed_sound | apply State.traceOpen_sound
                                | apply State.updDrive_sound | apply State.evalPid_sound | apply State.setMo_sound | split | dsimp only
                                | fail_if_no_progress refine mk_sound (tabs_of ?_))

theorem State.evalSpeed_sound (x0 : State) (x1 : Nat) (x2 : Nat) (h0 : x0.Sound) : (State.evalSpeed x0 x1 x2).Sound := by
  unfold State.evalSpeed
  with_reducible (repeat' first | assumption | apply ite_sound | apply State.holdLoop_sound | apply State.traceOpen_sound
                                | apply State.speedStep_sound | split | dsimp only)

theorem State.settleAlone_sound (x0 : State) (x1 : Nat) (h0 : x0.Sound) : (State.settleAlone x0 x1).Sound := by
  unfold State.settleAlone
  with_reducible (repeat' first | assumption | apply ite_sound | apply State.settleWinner_sound | apply State.blockFlags_sound
                                | apply State.setPid_sound | split | dsimp only | fail_if_no_progress refine mk_sound (tabs_of ?_))

theorem State.showSpeed_sound (x0 : State) (x1 : Nat) (h0 : x0.Sound) : (State.showSpeed x0 x1).Sound := by
  unfold State.showSpeed
  with_reducible (repeat' first | assumption | apply ite_sound | apply State.setMo_sound | split | dsimp only)

theorem State.startTimeout_sound (x0 : State) (x1 : Nat) (h0 : x0.Sound) : (State.startTimeout x0 x1).Sound := by
  unfold State.startTimeout
  with_reducible (repeat' first | assumption | apply ite_sound | apply State.updDrive_sound | apply State.countM_sound
                                | apply State.floatStage_sound | apply State.faultMast_sound | split | dsimp only
                                | fail_if_no_progress refine mk_sound (tabs_of ?_))

theorem State.rampStep_sound (x0 : State) (x1 : Nat) (h0 : x0.Sound) : (State.rampStep x0 x1).Sound := by
  unfold State.rampStep
  with_reducible (repeat' first | assumption | apply ite_sound | apply State.updDrive_sound | apply State.startTimeout_sound
                                | apply State.clearBlock_sound | apply State.becomeDriven_sound | apply State.setDriveState_sound | split
                                | dsimp only | fail_if_no_progress refine mk_sound (tabs_of ?_))

theorem State.noteTarget_sound (x0 : State) (x1 : Nat) (h0 : x0.Sound) : (State.noteTarget x0 x1).Sound := by
  unfold State.noteTarget
  with_reducible (repeat' first | assumption | apply ite_sound | apply State.updDrive_sound | split | dsimp only
                                | fail_if_no_progress refine mk_sound (tabs_of ?_))

theorem State.furlDone_sound (x0 : State) (x1 : Nat) (h0 : x0.Sound) : (State.furlDone x0 x1).Sound := by
  unfold State.furlDone
  with_reducible (repeat' first | assumption | intro _ | apply ite_sound | apply State.updDrive_sound | apply State.setMastState_sound
                                | apply State.complete_sound | apply State.spindleStart_sound | apply forEach_sound | split | dsimp only
                                | fail_if_no_progress refine mk_sound (tabs_of ?_))

theorem State.furlStep_sound (x0 : State) (x1 : Nat) (x2 : Nat) (h0 : x0.Sound) : (State.furlStep x0 x1 x2).Sound := by
  unfold State.furlStep
  with_reducible (repeat' first | assumption | apply getD_sound | apply ite_sound | apply State.updDrive_sound
                                | apply State.furlDone_sound | apply State.floatStage_sound | apply State.driveOn_sound | split
                                | dsimp only | fail_if_no_progress refine mk_sound (tabs_of ?_))

theorem State.mirrorEnd_sound (x0 : State) (x1 : Nat) (h0 : x0.Sound) : (State.mirrorEnd x0 x1).Sound := by
  unfold State.mirrorEnd
  with_reducible (repeat' first | assumption | apply ite_sound | apply State.updDrive_sound | apply State.floatStage_sound
                                | apply State.alignStart_sound | split | dsimp only | fail_if_no_progress refine mk_sound (tabs_of ?_))

theorem State.evalSpindle_sound (x0 : State) (x1 : Nat) (x2 : Nat) (x3 : Bool) (h0 : x0.Sound)
    : (State.evalSpindle x0 x1 x2 x3).Sound := by
  unfold State.evalSpindle
  with_reducible (repeat' first | assumption | intro _ | apply ite_sound | apply State.holdLoop_sound | apply State.traceOpen_sound
                                | apply State.settleAlone_sound | apply State.evalSpeed_sound | apply State.traceLoop_sound
                                | apply State.takeCommits_sound | apply State.loopUsed_sound | apply State.blockFlags_sound
                                | apply State.updServo_sound | apply State.showSpeed_sound | apply State.evalSelector_sound
                                | apply State.evalPid_sound | apply State.currentLoops_sound | apply State.rampStep_sound
                                | apply State.chopper_sound | apply State.noteTarget_sound | apply State.furlStep_sound
                                | apply State.coast_sound | apply State.mirrorEnd_sound | apply forEach_sound | split | dsimp only
                                | fail_if_no_progress refine mk_sound (tabs_of ?_))

theorem State.furlOpen_sound (x0 : State) (x1 : Nat) (x2 : Nat) (h0 : x0.Sound) : (State.furlOpen x0 x1 x2).Sound := by
  unfold State.furlOpen
  with_reducible (repeat' first | assumption | apply ite_sound | apply State.endByFurl_sound | apply State.updDrive_sound
                                | apply State.updOpt_sound | apply State.openOptical_sound | apply State.orderPark_sound | split
                                | dsimp only | fail_if_no_progress refine mk_sound (tabs_of ?_))

theorem State.seekSlows_sound (x0 : State) (x1 : Nat) (h0 : x0.Sound) : (State.seekSlows x0 x1).Sound := by
  unfold State.seekSlows
  with_reducible (repeat' first | assumption | apply ite_sound | apply State.setMastState_sound | split | dsimp only)

theorem State.yardSafe_sound (x0 : State) (x1 : Nat) (h0 : x0.Sound) : (State.yardSafe x0 x1).Sound := by
  unfold State.yardSafe
  with_reducible (repeat' first | assumption | apply ite_sound | apply State.endOrder_sound | apply State.updOpt_sound
                                | apply State.openOptical_sound | apply State.failCal_sound | apply State.sledOff_sound
                                | apply State.floatStage_sound | split | dsimp only | fail_if_no_progress refine mk_sound (tabs_of ?_))

theorem State.calSet_sound (x0 : State) (x1 : Nat) (x2 : Nat) (x3 : Nat) (x4 : Int) (h0 : x0.Sound)
    : (State.calSet x0 x1 x2 x3 x4).Sound := by
  unfold State.calSet
  with_reducible (repeat' first | assumption | apply ite_sound | apply State.setTarget_sound | apply State.updOpt_sound | split
                                | dsimp only | fail_if_no_progress refine mk_sound (tabs_of ?_))

theorem State.loadNow_sound (x0 : State) (x1 : Nat) (x2 : Nat) (x3 : Taps → Taps) (h0 : x0.Sound)
    : (State.loadNow x0 x1 x2 x3).Sound := by
  unfold State.loadNow
  with_reducible (repeat' first | assumption | apply State.setSail_sound | dsimp only | fail_if_no_progress refine mk_sound (tabs_of ?_))

theorem State.calApply_sound (x0 : State) (x1 : Nat) (h0 : x0.Sound) : (State.calApply x0 x1).Sound := by
  unfold State.calApply
  with_reducible (repeat' first | assumption | intro _ | apply ite_sound | apply State.updOpt_sound | apply State.calSet_sound
                                | apply State.setMo_sound | apply State.loadNow_sound | apply State.setObj_sound | apply forEach_sound
                                | split | dsimp only | fail_if_no_progress refine mk_sound (tabs_of ?_))

theorem State.calRefill_sound (x0 : State) (x1 : Nat) (x2 : Calib) (h0 : x0.Sound) : (State.calRefill x0 x1 x2).Sound := by
  unfold State.calRefill
  with_reducible (repeat' first | assumption | intro _ | apply ite_sound | apply State.updOpt_sound | apply State.countM_sound
                                | apply State.beginFrame_sound | apply State.setSail_sound | apply forEach_sound | split | dsimp only
                                | fail_if_no_progress refine mk_sound (tabs_of ?_))

theorem State.calArm_sound (x0 : State) (x1 : Nat) (x2 : Nat) (h0 : x0.Sound) : (State.calArm x0 x1 x2).Sound := by
  unfold State.calArm
  with_reducible (repeat' first | assumption | intro _ | apply ite_sound | apply State.calRefill_sound | apply State.calApply_sound
                                | apply State.updOpt_sound | apply State.setSail_sound | apply forEach_sound | split | dsimp only
                                | fail_if_no_progress refine mk_sound (tabs_of ?_))

theorem State.passCal_sound (x0 : State) (x1 : Nat) (x2 : Calib) (x3 : List (Nat × Int)) (h0 : x0.Sound)
    : (State.passCal x0 x1 x2 x3).Sound := by
  unfold State.passCal
  with_reducible (repeat' first | assumption | intro _ | apply ite_sound | apply State.setObj_sound | apply State.updMast_sound
                                | apply State.setMo_sound | apply forEach_sound | split | dsimp only
                                | fail_if_no_progress refine mk_sound (tabs_of ?_))

theorem State.calFinish_sound (x0 : State) (x1 : Nat) (x2 : Calib) (h0 : x0.Sound) : (State.calFinish x0 x1 x2).Sound := by
  unfold State.calFinish
  with_reducible (repeat' first | assumption | intro _ | apply getD_sound | apply ite_sound | apply State.calSet_sound
                                | apply State.passCal_sound | apply State.failCal_sound | apply State.calApply_sound
                                | apply State.updOpt_sound | apply State.failCalFor_sound | apply State.setObj_sound | apply foldl_sound
                                | split | dsimp only | fail_if_no_progress refine mk_sound (tabs_of ?_))

theorem State.calDone_sound (x0 : State) (x1 : Nat) (x2 : Sys2Proof.CalKind) (h0 : x0.Sound) : (State.calDone x0 x1 x2).Sound := by
  unfold State.calDone
  with_reducible (repeat' first | assumption | apply ite_sound | apply State.calApply_sound | apply State.updOpt_sound
                                | apply State.calFinish_sound | split | dsimp only | fail_if_no_progress refine mk_sound (tabs_of ?_))

theorem State.calStart_sound (x0 : State) (x1 : Nat) (x2 : Sys2Proof.CalKind) (x3 : Nat) (h0 : x0.Sound)
    : OptSound (State.calStart x0 x1 x2 x3) := by
  unfold State.calStart
  with_reducible (repeat' first | assumption | intro _ | apply optSound_some | exact optSound_none | apply ite_sound
                                | apply State.setObj_sound | apply State.setMo_sound | apply State.updOpt_sound
                                | apply State.setSail_sound | apply State.failCal_sound | apply State.calApply_sound | apply forEach_sound
                                | split | dsimp only | fail_if_no_progress refine mk_sound (tabs_of ?_))

theorem State.showLanes_sound (x0 : State) (x1 : Nat) (h0 : x0.Sound) : (State.showLanes x0 x1).Sound := by
  unfold State.showLanes
  with_reducible (repeat' first | assumption | intro _ | apply ite_sound | apply State.setMo_sound | apply foldl_sound | split
                                | dsimp only)

theorem State.setLinkSt_sound (x0 : State) (x1 : Nat) (x2 : Nat) (h0 : x0.Sound) : (State.setLinkSt x0 x1 x2).Sound := by
  unfold State.setLinkSt
  with_reducible (repeat' first | assumption | apply State.setMo_sound | dsimp only)

theorem State.sendPrbs_sound (x0 : State) (x1 : Nat) (h0 : x0.Sound) : (State.sendPrbs x0 x1).Sound := by
  unfold State.sendPrbs
  with_reducible (repeat' first | assumption | apply State.emit_sound | dsimp only)

theorem State.absentTimeout_sound (x0 : State) (x1 : Nat) (h0 : x0.Sound) : (State.absentTimeout x0 x1).Sound := by
  unfold State.absentTimeout
  with_reducible (repeat' first | assumption | apply ite_sound | apply State.updLink_sound | apply State.setMastState_sound
                                | apply State.showLanes_sound | apply State.setLinkSt_sound | apply State.sendPrbs_sound | split
                                | dsimp only | fail_if_no_progress refine mk_sound (tabs_of ?_))

theorem State.dropSails_sound (x0 : State) (x1 : Nat) (h0 : x0.Sound) : (State.dropSails x0 x1).Sound := by
  unfold State.dropSails
  with_reducible (repeat' first | assumption | apply ite_sound | apply State.updMast_sound | apply State.setSectors_sound | split
                                | dsimp only | fail_if_no_progress refine mk_sound (tabs_of ?_))

theorem State.endSails_sound (x0 : State) (x1 : Nat) (x2 : List Nat) (h0 : x0.Sound) : (State.endSails x0 x1 x2).Sound := by
  unfold State.endSails
  with_reducible (repeat' first | assumption | intro _ | apply State.endSail_sound | apply forEach_sound | dsimp only)

theorem State.setLane_sound (x0 : State) (x1 : Nat) (x2 : Nat) (x3 : LaneRx) (h0 : x0.Sound) : (State.setLane x0 x1 x2 x3).Sound := by
  unfold State.setLane
  with_reducible (repeat' first | assumption | apply State.updLink_sound | dsimp only)

theorem State.equalisationEnd_sound (x0 : State) (x1 : Nat) (h0 : x0.Sound) : (State.equalisationEnd x0 x1).Sound := by
  unfold State.equalisationEnd
  with_reducible (repeat' first | assumption | intro _ | apply ite_sound | apply State.setLane_sound | apply State.setLinkSt_sound
                                | apply State.updLink_sound | apply State.setMo_sound | apply forEach_sound | split | dsimp only
                                | fail_if_no_progress refine mk_sound (tabs_of ?_))

theorem State.phaseSent_sound (x0 : State) (x1 : Nat) (x2 : Nat) (x3 : Nat) (x4 : Nat) (h0 : x0.Sound)
    : (State.phaseSent x0 x1 x2 x3 x4).Sound := by
  unfold State.phaseSent
  with_reducible (repeat' first | assumption | apply State.updOpt_sound | dsimp only | fail_if_no_progress refine mk_sound (tabs_of ?_))

theorem State.frameClock_sound (x0 : State) (x1 : Nat) (x2 : Nat) (h0 : x0.Sound) : (State.frameClock x0 x1 x2).2.2.Sound := by
  unfold State.frameClock
  with_reducible (repeat' first | assumption | apply ite_sound | apply State.takeFree_sound | apply State.phaseSent_sound
                                | apply State.updOpt_sound | split | dsimp only | fail_if_no_progress refine mk_sound (tabs_of ?_)
                                | refine fst_sound (by assumption) ?_ | refine snd_sound (by assumption) ?_)

theorem State.frontEndFaults_sound (x0 : State) (x1 : Nat) (x2 : Nat) (h0 : x0.Sound) : (State.frontEndFaults x0 x1 x2).Sound := by
  unfold State.frontEndFaults
  with_reducible (repeat' first | assumption | apply ite_sound | apply State.updLink_sound | apply State.faultMast_sound | split
                                | dsimp only | fail_if_no_progress refine mk_sound (tabs_of ?_))

theorem State.heard_sound (x0 : State) (x1 : Nat) (h0 : x0.Sound) : (State.heard x0 x1).Sound := by
  unfold State.heard
  with_reducible (repeat' first | assumption | apply State.updLink_sound | apply State.absentTimeout_sound | dsimp only
                                | fail_if_no_progress refine mk_sound (tabs_of ?_))

theorem State.stopSails_sound (x0 : State) (x1 : Nat) (x2 : List Nat) (h0 : x0.Sound) : (State.stopSails x0 x1 x2).Sound := by
  unfold State.stopSails
  with_reducible (repeat' first | assumption | intro _ | apply State.setSail_sound | apply forEach_sound | dsimp only
                                | fail_if_no_progress refine mk_sound (tabs_of ?_))

theorem State.laneGone_sound (x0 : State) (x1 : Nat) (x2 : Nat) (h0 : x0.Sound) : (State.laneGone x0 x1 x2).Sound := by
  unfold State.laneGone
  with_reducible (repeat' first | assumption | apply ite_sound | apply State.endSails_sound | apply State.showLanes_sound
                                | apply State.setLane_sound | split | dsimp only | fail_if_no_progress refine mk_sound (tabs_of ?_))

theorem State.laneGoesDown_sound (x0 : State) (x1 : Nat) (x2 : Nat) (h0 : x0.Sound) : (State.laneGoesDown x0 x1 x2).Sound := by
  unfold State.laneGoesDown
  with_reducible (repeat' first | assumption | apply ite_sound | apply State.setLane_sound | apply State.updLink_sound
                                | apply State.stopSails_sound | apply State.setMo_sound | apply State.failLane_sound
                                | apply State.showLanes_sound | apply State.laneGone_sound | split | dsimp only
                                | fail_if_no_progress refine mk_sound (tabs_of ?_))

theorem State.trainLock_sound (x0 : State) (x1 : Nat) (x2 : Nat) (x3 : Bool) (h0 : x0.Sound) : (State.trainLock x0 x1 x2 x3).Sound := by
  unfold State.trainLock
  with_reducible (repeat' first | assumption | apply ite_sound | apply State.setLane_sound | apply State.showLanes_sound
                                | apply State.setLinkSt_sound | split | dsimp only | fail_if_no_progress refine mk_sound (tabs_of ?_))

theorem State.rxFrame_sound (x0 : State) (x1 : Nat) (x2 : Nat) (x3 : Sys2Proof.RxFrame) (h0 : x0.Sound)
    : (State.rxFrame x0 x1 x2 x3).1.Sound := by
  unfold State.rxFrame
  with_reducible (repeat' first | assumption | apply ite_sound | apply State.heard_sound | apply State.countN_sound
                                | apply State.countM_sound | apply State.setLane_sound | apply State.laneGoesDown_sound
                                | apply State.showLanes_sound | apply State.trainLock_sound | split | dsimp only
                                | fail_if_no_progress refine mk_sound (tabs_of ?_))

theorem State.trainingEnds_sound (x0 : State) (x1 : Nat) (h0 : x0.Sound) : (State.trainingEnds x0 x1).Sound := by
  unfold State.trainingEnds
  with_reducible (repeat' first | assumption | apply State.updLink_sound | apply State.setLinkSt_sound | apply State.emit_sound
                                | apply State.showLanes_sound | dsimp only | fail_if_no_progress refine mk_sound (tabs_of ?_))

theorem State.takeIdentity_sound (x0 : State) (x1 : Nat) (x2 : Nat) (x3 : Nat) (h0 : x0.Sound)
    : (State.takeIdentity x0 x1 x2 x3).Sound := by
  unfold State.takeIdentity
  with_reducible (repeat' first | assumption | intro _ | apply ite_sound | apply State.setMo_sound | apply State.trainingEnds_sound
                                | apply State.updLink_sound | apply State.faultMast_sound | apply foldl_sound | split | dsimp only
                                | fail_if_no_progress refine mk_sound (tabs_of ?_))

theorem State.identityFrame_sound (x0 : State) (x1 : Nat) (x2 : Nat) (x3 : Sys2Proof.RxFrame) (x4 : Nat) (h0 : x0.Sound)
    : (State.identityFrame x0 x1 x2 x3 x4).Sound := by
  unfold State.identityFrame
  with_reducible (repeat' first | assumption | apply ite_sound | apply State.rxFrame_sound | apply State.takeIdentity_sound | split
                                | dsimp only | refine fst_sound (by assumption) ?_ | refine snd_sound (by assumption) ?_)

theorem State.judgeEye_sound (x0 : State) (x1 : Nat) (x2 : Nat) (x3 : Option (Nat × Nat)) (h0 : x0.Sound)
    : (State.judgeEye x0 x1 x2 x3).Sound := by
  unfold State.judgeEye
  with_reducible (repeat' first | assumption | apply ite_sound | apply State.setLane_sound | split | dsimp only
                                | fail_if_no_progress refine mk_sound (tabs_of ?_))

theorem State.laneOut_sound (x0 : State) (x1 : Nat) (x2 : Nat) (h0 : x0.Sound) : (State.laneOut x0 x1 x2).Sound := by
  unfold State.laneOut
  with_reducible (repeat' first | assumption | apply State.laneGone_sound | apply State.retireLane_sound | dsimp only)

theorem State.laneNotBack_sound (x0 : State) (x1 : Nat) (x2 : Nat) (h0 : x0.Sound) : (State.laneNotBack x0 x1 x2).Sound := by
  unfold State.laneNotBack
  with_reducible (repeat' first | assumption | apply ite_sound | apply State.laneOut_sound | split | dsimp only)

theorem State.laneReturns_sound (x0 : State) (x1 : Nat) (x2 : Nat) (h0 : x0.Sound) : (State.laneReturns x0 x1 x2).Sound := by
  unfold State.laneReturns
  with_reducible (repeat' first | assumption | apply ite_sound | apply State.laneNotBack_sound | apply State.setLane_sound
                                | apply State.updLink_sound | apply State.showLanes_sound | split | dsimp only
                                | fail_if_no_progress refine mk_sound (tabs_of ?_))

theorem State.lateBits_sound (x0 : State) (x1 : Nat) (x2 : Nat) (h0 : x0.Sound) : (State.lateBits x0 x1 x2).Sound := by
  unfold State.lateBits
  with_reducible (repeat' first | assumption | apply ite_sound | apply State.updMast_sound | split | dsimp only
                                | fail_if_no_progress refine mk_sound (tabs_of ?_))

theorem State.linkComesUp_sound (x0 : State) (x1 : Nat) (h0 : x0.Sound) : (State.linkComesUp x0 x1).Sound := by
  unfold State.linkComesUp
  with_reducible (repeat' first | assumption | intro _ | apply ite_sound | apply State.setLinkSt_sound | apply State.laneOut_sound
                                | apply State.updSled_sound | apply State.updLink_sound | apply State.setDriveState_sound
                                | apply State.yardSafe_sound | apply State.setMastState_sound | apply State.showWindow_sound
                                | apply State.showLanes_sound | apply State.setMo_sound | apply State.laneGoesDown_sound
                                | apply forEach_sound | split | dsimp only | fail_if_no_progress refine mk_sound (tabs_of ?_))

theorem State.linkLost_sound (x0 : State) (x1 : Nat) (h0 : x0.Sound) : (State.linkLost x0 x1).Sound := by
  unfold State.linkLost
  with_reducible (repeat' first | assumption | apply State.sendPrbs_sound | apply State.showLanes_sound | apply State.updLink_sound
                                | apply State.setMo_sound | apply State.yardSafe_sound | apply State.setLinkSt_sound
                                | apply State.dropSails_sound | apply State.faultMast_sound | dsimp only
                                | fail_if_no_progress refine mk_sound (tabs_of ?_))

theorem State.linkLostTimeout_sound (x0 : State) (x1 : Nat) (h0 : x0.Sound) : (State.linkLostTimeout x0 x1).Sound := by
  unfold State.linkLostTimeout
  with_reducible (repeat' first | assumption | apply ite_sound | apply State.linkLost_sound | split | dsimp only)

theorem State.lmapEnds_sound (x0 : State) (x1 : Nat) (h0 : x0.Sound) : (State.lmapEnds x0 x1).Sound := by
  unfold State.lmapEnds
  with_reducible (repeat' first | assumption | apply ite_sound | apply State.setMo_sound | apply State.laneOut_sound | split | dsimp only)

theorem State.outboundCheck_sound (x0 : State) (x1 : Nat) (h0 : x0.Sound) : (State.outboundCheck x0 x1).Sound := by
  unfold State.outboundCheck
  with_reducible (repeat' first | assumption | apply ite_sound | apply State.updLink_sound | apply State.laneGoesDown_sound | split
                                | dsimp only | fail_if_no_progress refine mk_sound (tabs_of ?_))

theorem State.regSlots_sound (x0 : State) (x1 : Nat) (h0 : x0.Sound) : (State.regSlots x0 x1).2.Sound := by
  unfold State.regSlots
  with_reducible (repeat' first | assumption | intro _ | apply getD_sound | apply ite_sound | apply State.updLink_sound
                                | apply foldl_sound | split | dsimp only | fail_if_no_progress refine mk_sound (tabs_of ?_))

theorem State.rimgCheck_sound (x0 : State) (x1 : Nat) (h0 : x0.Sound) : (State.rimgCheck x0 x1).Sound := by
  unfold State.rimgCheck
  with_reducible (repeat' first | assumption | apply ite_sound | apply State.linkComesUp_sound | apply State.updLink_sound
                                | apply State.linkLost_sound | apply State.countM_sound | split | dsimp only
                                | fail_if_no_progress refine mk_sound (tabs_of ?_))

theorem State.takeSamples_sound (x0 : State) (x1 : Nat) (x2 : Nat) (x3 : List Nat) (x4 : Nat) (h0 : x0.Sound)
    : (State.takeSamples x0 x1 x2 x3 x4).Sound := by
  unfold State.takeSamples
  with_reducible (repeat' first | assumption | intro _ | apply State.pushSamples_sound | apply State.runChannels_sound
                                | apply forEach_sound | split | dsimp only)

theorem State.setMapped_sound (x0 : State) (x1 : Nat) (x2 : Bool) (h0 : x0.Sound) : (State.setMapped x0 x1 x2).Sound := by
  unfold State.setMapped
  with_reducible (repeat' first | assumption | apply ite_sound | apply State.updLink_sound | apply State.endSails_sound | split
                                | dsimp only | fail_if_no_progress refine mk_sound (tabs_of ?_))

theorem State.sampleFrame_sound (x0 : State) (x1 : Nat) (x2 : Nat) (x3 : Sys2Proof.RxFrame) (h0 : x0.Sound)
    : (State.sampleFrame x0 x1 x2 x3).Sound := by
  unfold State.sampleFrame
  with_reducible (repeat' first | assumption | apply ite_sound | apply State.rxFrame_sound | apply State.takeSamples_sound
                                | apply State.setMapped_sound | split | dsimp only | refine fst_sound (by assumption) ?_
                                | refine snd_sound (by assumption) ?_)

theorem State.sendFrames_sound (x0 : State) (x1 : Nat) (x2 : Nat) (x3 : Nat → Nat) (h0 : x0.Sound)
    : (State.sendFrames x0 x1 x2 x3).Sound := by
  unfold State.sendFrames
  with_reducible (repeat' first | assumption | intro _ | apply State.emit_sound | apply State.updLink_sound | apply forEach_sound
                                | dsimp only | fail_if_no_progress refine mk_sound (tabs_of ?_))

theorem State.sentBlocks_sound (x0 : State) (x1 : Nat) (x2 : Nat) (x3 : List (Nat × Nat × List Bool)) (h0 : x0.Sound)
    : (State.sentBlocks x0 x1 x2 x3).Sound := by
  unfold State.sentBlocks
  with_reducible (repeat' first | assumption | intro _ | apply ite_sound | apply State.updMast_sound | apply foldl_sound | split
                                | dsimp only | fail_if_no_progress refine mk_sound (tabs_of ?_))

theorem State.sendCommand_sound (x0 : State) (x1 : Nat) (x2 : Nat) (h0 : x0.Sound) : (State.sendCommand x0 x1 x2).Sound := by
  unfold State.sendCommand
  with_reducible (repeat' first | assumption | apply ite_sound | apply State.atTick_sound | apply State.frameClock_sound
                                | apply State.regSlots_sound | apply State.lateBits_sound | apply State.sendFrames_sound
                                | apply State.sentBlocks_sound | split | dsimp only | refine fst_sound (by assumption) ?_
                                | refine snd_sound (by assumption) ?_)

theorem State.sendIdle_sound (x0 : State) (x1 : Nat) (x2 : Nat) (h0 : x0.Sound) : (State.sendIdle x0 x1 x2).Sound := by
  unfold State.sendIdle
  with_reducible (repeat' first | assumption | apply ite_sound | apply State.atTick_sound | apply State.regSlots_sound
                                | apply State.sendFrames_sound | apply State.updLink_sound | apply State.setLinkSt_sound | split
                                | dsimp only | fail_if_no_progress refine mk_sound (tabs_of ?_) | refine fst_sound (by assumption) ?_
                                | refine snd_sound (by assumption) ?_)

theorem State.trainingStart_sound (x0 : State) (x1 : Nat) (h0 : x0.Sound) : (State.trainingStart x0 x1).Sound := by
  unfold State.trainingStart
  with_reducible (repeat' first | assumption | apply State.updLink_sound | apply State.showLanes_sound | apply State.setLinkSt_sound
                                | apply State.setMo_sound | dsimp only | fail_if_no_progress refine mk_sound (tabs_of ?_))

theorem State.signalDetect_sound (x0 : State) (x1 : Nat) (h0 : x0.Sound) : (State.signalDetect x0 x1).Sound := by
  unfold State.signalDetect
  with_reducible (repeat' first | assumption | apply ite_sound | apply State.heard_sound | apply State.trainingStart_sound | split
                                | dsimp only)

theorem State.trainingTimeout_sound (x0 : State) (x1 : Nat) (h0 : x0.Sound) : (State.trainingTimeout x0 x1).Sound := by
  unfold State.trainingTimeout
  with_reducible (repeat' first | assumption | apply ite_sound | apply State.trainingEnds_sound | apply State.updLink_sound
                                | apply State.countM_sound | apply State.faultMast_sound | split | dsimp only
                                | fail_if_no_progress refine mk_sound (tabs_of ?_))

theorem State.wrapCounts_sound (x0 : State) (x1 : Nat) (h0 : x0.Sound) : (State.wrapCounts x0 x1).Sound := by
  unfold State.wrapCounts
  with_reducible (repeat' first | assumption | apply getD_sound | apply ite_sound | apply State.countN_sound | apply State.updLink_sound
                                | split | dsimp only | fail_if_no_progress refine mk_sound (tabs_of ?_))

theorem State.takeTelemetry_sound (x0 : State) (x1 : Nat) (x2 : Nat) (h0 : x0.Sound) : (State.takeTelemetry x0 x1 x2).Sound := by
  unfold State.takeTelemetry
  with_reducible (repeat' first | assumption | apply getD_sound | apply ite_sound | apply State.trainingTimeout_sound
                                | apply State.atStrobe_sound | apply State.traceEvent_sound | apply State.countM_sound
                                | apply State.updLink_sound | apply State.wrapCounts_sound | apply State.rimgCheck_sound
                                | apply State.sledTelemetry_sound | apply State.frontEndFaults_sound | apply State.outboundCheck_sound
                                | split | dsimp only | fail_if_no_progress refine mk_sound (tabs_of ?_))

theorem State.telemetryFrame_sound (x0 : State) (x1 : Nat) (x2 : Nat) (x3 : Sys2Proof.RxFrame) (h0 : x0.Sound)
    : (State.telemetryFrame x0 x1 x2 x3).Sound := by
  unfold State.telemetryFrame
  with_reducible (repeat' first | assumption | apply ite_sound | apply State.rxFrame_sound | apply State.takeSamples_sound
                                | apply State.updLink_sound | apply State.setMapped_sound | split | dsimp only
                                | fail_if_no_progress refine mk_sound (tabs_of ?_) | refine fst_sound (by assumption) ?_
                                | refine snd_sound (by assumption) ?_)

theorem State.trainingRetry_sound (x0 : State) (x1 : Nat) (h0 : x0.Sound) : (State.trainingRetry x0 x1).Sound := by
  unfold State.trainingRetry
  with_reducible (repeat' first | assumption | apply ite_sound | apply State.trainingStart_sound | split | dsimp only)

theorem State.evalStrobe_sound (x0 : State) (x1 : Nat) (x2 : Nat) (h0 : x0.Sound) : (State.evalStrobe x0 x1 x2).Sound := by
  unfold State.evalStrobe
  with_reducible (repeat' first | assumption | apply ite_sound | apply State.atStrobe_sound | apply State.startQueued_sound
                                | apply State.furlOpen_sound | apply State.holdOut_sound | apply State.evalTracking_sound
                                | apply State.evalFocus_sound | apply State.evalHalyard_sound | apply State.evalBrace_sound
                                | apply State.evalSpindle_sound | apply State.calArm_sound | apply State.seekProgress_sound
                                | apply State.seekSlows_sound | split | dsimp only)

theorem State.planStrobe_sound (x0 : State) (x1 : Nat) (x2 : Nat) (h0 : x0.Sound) : (State.planStrobe x0 x1 x2).Sound := by
  unfold State.planStrobe
  with_reducible (repeat' first | assumption | apply ite_sound | apply State.atStrobe_sound | apply State.planSled_sound | split
                                | dsimp only)

theorem State.servoSailMode_sound (x0 : State) (x1 : Nat) (x2 : Nat) (h0 : x0.Sound) : (State.servoSailMode x0 x1 x2).Sound := by
  unfold State.servoSailMode
  with_reducible (repeat' first | assumption | apply ite_sound | apply State.switchSail_sound | split | dsimp only)

theorem State.yardCmd_sound (x0 : State) (x1 : Nat) (x2 : Nat) (x3 : Sys2Proof.YardCmd) (h0 : x0.Sound)
    : (State.yardCmd x0 x1 x2 x3).Sound := by
  unfold State.yardCmd
  with_reducible (repeat' first | assumption | apply ite_sound | apply State.count_sound | apply State.updServo_sound
                                | apply State.closeGate_sound | apply State.applyTarget_sound | split | dsimp only
                                | fail_if_no_progress refine mk_sound (tabs_of ?_))

theorem State.syncAccept_sound (x0 : State) (x1 : Nat) (h0 : x0.Sound) : (State.syncAccept x0 x1).Sound := by
  unfold State.syncAccept
  with_reducible (repeat' first | assumption | apply ite_sound | apply State.setObj_sound | split | dsimp only
                                | fail_if_no_progress refine mk_sound (tabs_of ?_))

theorem State.syncLost_sound (x0 : State) (x1 : Nat) (h0 : x0.Sound) : (State.syncLost x0 x1).Sound := by
  unfold State.syncLost
  with_reducible (repeat' first | assumption | apply ite_sound | apply State.count_sound | apply State.setObj_sound | split | dsimp only
                                | fail_if_no_progress refine mk_sound (tabs_of ?_))

theorem onMast_sound (x0 : Nat) (x1 : State) (x2 : State → State) (h1 : x1.Sound) (h2 : ∀ (a0 : State), a0.Sound → (x2 a0).Sound)
    : (onMast x0 x1 x2).Sound := by
  unfold onMast; split; exact h2 _ h1; exact h1

theorem State.tryRebuild_sound (x0 : State) (x1 : Sector) (h0 : x0.Sound) : (State.tryRebuild x0 x1).Sound := by
  unfold State.tryRebuild
  with_reducible (repeat' first | assumption | refine State.rebuildNow_sound _ _ ?_ _ (by assumption) | intro _
                                | apply State.enterStep_sound | apply forEach_sound | split | dsimp only)

theorem State.groupTake_sound (x0 : State) (x1 : Sector) (x2 : List Sys2Proof.Byte) (h0 : x0.Sound)
    : (State.groupTake x0 x1 x2).Sound := by
  unfold State.groupTake
  with_reducible (repeat' first | assumption | apply ite_sound | apply State.groupDone_sound | apply State.tryRebuild_sound
                                | apply State.setGroup_sound | split | dsimp only | fail_if_no_progress refine mk_sound (tabs_of ?_))

theorem State.ladderAccepted_sound (x0 : State) (x1 : Sector) (h0 : x0.Sound) : (State.ladderAccepted x0 x1).Sound := by
  unfold State.ladderAccepted
  with_reducible (repeat' first | assumption | apply ite_sound | apply State.countM_sound | apply State.sectorEvent_sound
                                | apply State.failSail_sound | split | dsimp only)

theorem State.acceptSector_sound (x0 : State) (x1 : Sector) (x2 : List Sys2Proof.Byte) (h0 : x0.Sound)
    : (State.acceptSector x0 x1 x2).Sound := by
  unfold State.acceptSector
  with_reducible (repeat' first | assumption | apply State.groupTake_sound | apply State.acceptData_sound
                                | apply State.ladderAccepted_sound | dsimp only)

theorem State.badDecode_sound (x0 : State) (x1 : Nat) (x2 : Nat) (x3 : Verdict) (h0 : x0.Sound)
    : (State.badDecode x0 x1 x2 x3).Sound := by
  unfold State.badDecode
  with_reducible (repeat' first | assumption | apply ite_sound | apply State.countM_sound | apply State.order_sound
                                | apply State.setMo_sound | split | dsimp only)

theorem State.beginReading_sound (x0 : State) (x1 : Nat) (h0 : x0.Sound) : (State.beginReading x0 x1).Sound := by
  unfold State.beginReading
  with_reducible (repeat' first | assumption | apply ite_sound | apply State.updMast_sound | apply State.setMastState_sound | split
                                | dsimp only | fail_if_no_progress refine mk_sound (tabs_of ?_))

theorem State.countVerdict_sound (x0 : State) (x1 : Sector) (x2 : Verdict) (h0 : x0.Sound) : (State.countVerdict x0 x1 x2).Sound := by
  unfold State.countVerdict
  with_reducible (repeat' first | assumption | apply State.badDecode_sound | dsimp only)

theorem State.showPoolQueue_sound (x0 : State) (h0 : x0.Sound) : (State.showPoolQueue x0).Sound := by
  unfold State.showPoolQueue
  with_reducible (repeat' first | assumption | apply State.setObj_sound | dsimp only)

theorem State.dispatchHead_sound (x0 : State) (h0 : x0.Sound) : (State.dispatchHead x0).Sound := by
  unfold State.dispatchHead
  with_reducible (repeat' first | assumption | apply State.setDecoder_sound | apply State.showPoolQueue_sound | split | dsimp only
                                | fail_if_no_progress refine mk_sound (tabs_of ?_))

theorem State.moveTo_sound (x0 : State) (x1 : Nat) (x2 : Nat) (x3 : Nat) (h0 : x0.Sound) : (State.moveTo x0 x1 x2 x3).Sound := by
  unfold State.moveTo
  with_reducible (repeat' first | assumption | apply ite_sound | apply State.order_sound | split | dsimp only)

theorem State.moveYard_sound (x0 : State) (x1 : Nat) (x2 : List Sector) (x3 : Bool) (h0 : x0.Sound)
    : (State.moveYard x0 x1 x2 x3).Sound := by
  unfold State.moveYard
  with_reducible (repeat' first | assumption | apply ite_sound | apply State.showWindow_sound | apply State.order_sound
                                | apply State.moveTo_sound | split | dsimp only)

theorem State.nextLog_sound (x0 : State) (x1 : Nat) (h0 : x0.Sound) : (State.nextLog x0 x1).Sound := by
  unfold State.nextLog
  with_reducible (repeat' first | assumption | apply getD_sound | apply ite_sound | apply State.addSector_sound | split | dsimp only
                                | fail_if_no_progress refine mk_sound (tabs_of ?_))

theorem State.setOffset_sound (x0 : State) (x1 : Nat) (x2 : Option Nat) (h0 : x0.Sound) : (State.setOffset x0 x1 x2).Sound := by
  unfold State.setOffset
  with_reducible (repeat' first | assumption | apply State.updOpt_sound | apply State.setTarget_sound | split | dsimp only
                                | fail_if_no_progress refine mk_sound (tabs_of ?_))

theorem State.offsetFor_sound (x0 : State) (x1 : Nat) (x2 : Bool) (h0 : x0.Sound) : (State.offsetFor x0 x1 x2).Sound := by
  unfold State.offsetFor
  with_reducible (repeat' first | assumption | apply State.setOffset_sound | split | dsimp only)

theorem State.offsetNow_sound (x0 : State) (x1 : Nat) (x2 : List (Sector × Nat)) (h0 : x0.Sound) : (State.offsetNow x0 x1 x2).Sound := by
  unfold State.offsetNow
  with_reducible (repeat' first | assumption | apply ite_sound | apply State.offsetFor_sound | split | dsimp only)

theorem State.popDecoder_sound (x0 : State) (x1 : Nat) (h0 : x0.Sound) : (State.popDecoder x0 x1).Sound := by
  unfold State.popDecoder
  with_reducible (repeat' first | assumption | apply ite_sound | apply State.setDecoder_sound | split | dsimp only
                                | fail_if_no_progress refine mk_sound (tabs_of ?_))

theorem State.rescheduleRetired_sound (x0 : State) (x1 : Nat) (h0 : x0.Sound) : (State.rescheduleRetired x0 x1).Sound := by
  unfold State.rescheduleRetired
  with_reducible (repeat' first | assumption | intro _ | apply ite_sound | apply State.countM_sound | apply State.dropSector_sound
                                | apply State.updSector_sound | apply forEach_sound | split | dsimp only)

theorem State.scheduleOne_sound (x0 : State) (x1 : Nat) (x2 : Sector) (x3 : Nat) (h0 : x0.Sound)
    : (State.scheduleOne x0 x1 x2 x3).Sound := by
  unfold State.scheduleOne
  with_reducible (repeat' first | assumption | apply ite_sound | apply State.beginFrame_sound | apply State.updSector_sound | split
                                | dsimp only | fail_if_no_progress refine mk_sound (tabs_of ?_))

theorem State.schedule_sound (x0 : State) (x1 : Nat) (h0 : x0.Sound) : (State.schedule x0 x1).Sound := by
  unfold State.schedule
  with_reducible (repeat' first | assumption | intro _ | apply ite_sound | apply State.skipShifts_sound
                                | apply State.rescheduleRetired_sound | apply State.nextLog_sound | apply State.dropOrphans_sound
                                | apply State.offsetNow_sound | apply State.setMastState_sound | apply State.beginReading_sound
                                | apply State.countM_sound | apply State.moveYard_sound | apply State.showPoolQueue_sound
                                | apply State.scheduleOne_sound | apply forEach_sound | split | dsimp only)

theorem State.leaseStale_sound (x0 : State) (x1 : Nat) (h0 : x0.Sound) : (State.leaseStale x0 x1).Sound := by
  unfold State.leaseStale
  with_reducible (repeat' first | assumption | intro _ | apply State.updMast_sound | apply State.fabricEvent_sound
                                | apply State.count_sound | apply State.setMo_sound | apply State.dropSectors_sound
                                | apply State.mountFails_sound | apply State.endReads_sound | apply State.complete_sound
                                | apply State.failUnaccepted_sound | apply State.failPending_sound | apply forEach_sound | dsimp only
                                | fail_if_no_progress refine mk_sound (tabs_of ?_))

theorem State.showLease_sound (x0 : State) (x1 : Nat) (h0 : x0.Sound) : (State.showLease x0 x1).Sound := by
  unfold State.showLease
  with_reducible (repeat' first | assumption | apply ite_sound | apply State.setMo_sound | split | dsimp only)

theorem State.accept_sound (x0 : State) (x1 : Nat) (x2 : WPhase) (h0 : x0.Sound) : (State.accept x0 x1 x2).Sound := by
  unfold State.accept
  with_reducible (repeat' first | assumption | apply ite_sound | apply State.updWrite_sound | apply State.showPending_sound
                                | apply State.complete_sound | split | dsimp only | fail_if_no_progress refine mk_sound (tabs_of ?_))

theorem State.acceptPoint_sound (x0 : State) (x1 : Nat) (h0 : x0.Sound) : (State.acceptPoint x0 x1).Sound := by
  unfold State.acceptPoint
  with_reducible (repeat' first | assumption | apply getD_sound | apply ite_sound | apply State.updWrite_sound | apply State.failOne_sound
                                | apply State.durableWrite_sound | apply State.count_sound | apply State.accept_sound | split | dsimp only
                                | fail_if_no_progress refine mk_sound (tabs_of ?_))

theorem State.closeRec_sound (x0 : State) (x1 : Nat) (h0 : x0.Sound) : (State.closeRec x0 x1).Sound := by
  unfold State.closeRec
  with_reducible (repeat' first | assumption | intro _ | apply ite_sound | apply State.updMast_sound | apply State.updWrite_sound
                                | apply forEach_sound | split | dsimp only | fail_if_no_progress refine mk_sound (tabs_of ?_))

theorem State.addEntry_sound (x0 : State) (x1 : Nat) (x2 : Nat × Option Nat) (h0 : x0.Sound) : (State.addEntry x0 x1 x2).Sound := by
  unfold State.addEntry
  with_reducible (repeat' first | assumption | apply getD_sound | apply ite_sound | apply State.updMast_sound | apply State.updWrite_sound
                                | apply State.closeRec_sound | split | dsimp only | fail_if_no_progress refine mk_sound (tabs_of ?_))

theorem State.commitEntry_sound (x0 : State) (x1 : Nat) (x2 : Nat) (h0 : x0.Sound) : (State.commitEntry x0 x1 x2).Sound := by
  unfold State.commitEntry
  with_reducible (repeat' first | assumption | intro _ | apply ite_sound | apply State.countM_sound | apply State.updMast_sound
                                | apply State.mapInsert_sound | apply State.mapPut_sound | apply forEach_sound | split | dsimp only
                                | fail_if_no_progress refine mk_sound (tabs_of ?_) | refine fst_sound (by assumption) ?_
                                | refine snd_sound (by assumption) ?_)

theorem State.poolRelocs_sound (x0 : State) (x1 : Nat) (x2 : List Nat) (h0 : x0.Sound) : (State.poolRelocs x0 x1 x2).Sound := by
  unfold State.poolRelocs
  with_reducible (repeat' first | assumption | apply State.updMast_sound | dsimp only | fail_if_no_progress refine mk_sound (tabs_of ?_))

theorem logStep_sound (x0 : Nat) (x1 : LogRead) (x2 : Nat) (x3 : LogFound) (h1 : x1.s.Sound) : (logStep x0 x1 x2 x3).s.Sound := by
  unfold logStep
  split
  · exact h1
  · cases x3 with
    | blank => exact h1
    | unreadable => exact h1
    | record user =>
      dsimp only
      split
      · exact forEach_sound _ _ _ (fun _ _ h => State.commitEntry_sound _ _ _ h) (State.poolRelocs_sound _ _ _ h1)
      · split <;> exact h1

theorem State.applyLog_sound (x0 : State) (x1 : Nat) (x2 : Option Nat) (x3 : List LogFound) (h0 : x0.Sound)
    : (State.applyLog x0 x1 x2 x3).s.Sound := by
  unfold State.applyLog
  have hl : ∀ (l : List (LogFound × Nat)) (a : LogRead), a.s.Sound →
      (l.foldl (fun (a : LogRead) p => logStep x1 a p.2 p.1) a).s.Sound := by
    intro l
    induction l with
    | nil => intro a h; exact h
    | cons p l ih => intro a h; exact ih _ (logStep_sound _ _ _ _ h)
  exact hl _ _ h0

theorem State.burnFrame_sound (x0 : State) (x1 : Nat) (x2 : Nat) (x3 : Option Nat) (x4 : Nat) (x5 : Nat) (x6 : Slot)
    (x7 : List Sys2Proof.Byte) (h0 : x0.Sound) : (State.burnFrame x0 x1 x2 x3 x4 x5 x6 x7).Sound := by
  unfold State.burnFrame
  with_reducible (repeat' first | assumption | apply State.updMast_sound | dsimp only | fail_if_no_progress refine mk_sound (tabs_of ?_))

theorem State.updRec_sound (x0 : State) (x1 : Nat) (x2 : Nat) (x3 : CommitRec → CommitRec) (h0 : x0.Sound)
    : (State.updRec x0 x1 x2 x3).Sound := by
  unfold State.updRec
  with_reducible (repeat' first | assumption | apply ite_sound | apply State.updMast_sound | split | dsimp only
                                | fail_if_no_progress refine mk_sound (tabs_of ?_))

theorem State.showWriteState_sound (x0 : State) (x1 : Nat) (x2 : Nat) (h0 : x0.Sound) : (State.showWriteState x0 x1 x2).Sound := by
  unfold State.showWriteState
  with_reducible (repeat' first | assumption | apply ite_sound | apply State.setMo_sound | split | dsimp only)

theorem State.burnRecord_sound (x0 : State) (x1 : Nat) (x2 : CommitRec) (x3 : Nat) (x4 : Slot) (x5 : Nat) (h0 : x0.Sound)
    : (State.burnRecord x0 x1 x2 x3 x4 x5).Sound := by
  unfold State.burnRecord
  with_reducible (repeat' first | assumption | apply getD_sound | apply State.updMast_sound | apply State.updRec_sound
                                | apply State.setMo_sound | apply State.showWriteState_sound | apply State.updOpt_sound
                                | apply State.burnFrame_sound | dsimp only | fail_if_no_progress refine mk_sound (tabs_of ?_))

theorem State.showWidth_sound (x0 : State) (x1 : Nat) (h0 : x0.Sound) : (State.showWidth x0 x1).Sound := by
  unfold State.showWidth
  with_reducible (repeat' first | assumption | apply State.setMo_sound | dsimp only)

theorem State.showFrontier_sound (x0 : State) (x1 : Nat) (h0 : x0.Sound) : (State.showFrontier x0 x1).Sound := by
  unfold State.showFrontier
  with_reducible (repeat' first | assumption | apply State.setMo_sound | dsimp only)

theorem State.fixSlots_sound (x0 : State) (x1 : Write) (x2 : List Slot) (h0 : x0.Sound) : (State.fixSlots x0 x1 x2).Sound := by
  unfold State.fixSlots
  with_reducible (repeat' first | assumption | apply State.updWrite_sound | apply State.showFrontier_sound | apply State.updMast_sound
                                | split | dsimp only | fail_if_no_progress refine mk_sound (tabs_of ?_))

theorem State.placeDue_sound (x0 : State) (x1 : Nat) (x2 : List Write) (h0 : x0.Sound) : (State.placeDue x0 x1 x2).Sound := by
  induction x2 generalizing x0 x1 with
  | nil => unfold State.placeDue; with_reducible (repeat' first | assumption | apply getD_sound | apply ite_sound
                                                                | apply State.fixSlots_sound | apply LogRead.s_sound
                                                                | apply WordCtx.s_sound | apply State.failWrite_sound | split)
  | cons y l ih => unfold State.placeDue; with_reducible (repeat' first | assumption | apply ih | apply getD_sound | apply ite_sound
                                                                        | apply State.fixSlots_sound | apply LogRead.s_sound
                                                                        | apply WordCtx.s_sound | apply State.failWrite_sound | split)

theorem State.moveWrite_sound (x0 : State) (x1 : Nat) (x2 : Nat) (x3 : Slot) (h0 : x0.Sound) : (State.moveWrite x0 x1 x2 x3).Sound := by
  unfold State.moveWrite
  with_reducible (repeat' first | assumption | apply ite_sound | apply State.moveTo_sound | split | dsimp only)

theorem State.burnSlot_sound (x0 : State) (x1 : Nat) (x2 : Write) (x3 : WSlot) (x4 : Nat) (h0 : x0.Sound)
    : (State.burnSlot x0 x1 x2 x3 x4).Sound := by
  unfold State.burnSlot
  with_reducible (repeat' first | assumption | apply ite_sound | apply State.updMast_sound | apply State.updWrite_sound
                                | apply State.burnFrame_sound | split | dsimp only | fail_if_no_progress refine mk_sound (tabs_of ?_))

theorem State.burnRevolution_sound (x0 : State) (x1 : Nat) (h0 : x0.Sound) : (State.burnRevolution x0 x1).Sound := by
  unfold State.burnRevolution
  with_reducible (repeat' first | assumption | intro _ | apply ite_sound | apply State.showWidth_sound | apply State.placeDue_sound
                                | apply State.moveWrite_sound | apply State.burnSlot_sound | apply State.showWriteState_sound
                                | apply State.updOpt_sound | apply forEach_sound | split | dsimp only
                                | fail_if_no_progress refine mk_sound (tabs_of ?_))

theorem State.closeDisc_sound (x0 : State) (x1 : Nat) (h0 : x0.Sound) : (State.closeDisc x0 x1).Sound := by
  unfold State.closeDisc
  with_reducible (repeat' first | assumption | apply State.condition_sound | apply State.showWriteState_sound | apply State.updMast_sound
                                | dsimp only | fail_if_no_progress refine mk_sound (tabs_of ?_))

theorem State.enterPeriod_sound (x0 : State) (x1 : Nat) (x2 : MastState) (h0 : x0.Sound) : (State.enterPeriod x0 x1 x2).Sound := by
  unfold State.enterPeriod
  with_reducible (repeat' first | assumption | apply State.updMast_sound | apply State.setMastState_sound | dsimp only
                                | fail_if_no_progress refine mk_sound (tabs_of ?_))

theorem State.enterRecord_sound (x0 : State) (x1 : Nat) (x2 : Write) (h0 : x0.Sound) : (State.enterRecord x0 x1 x2).Sound := by
  unfold State.enterRecord
  with_reducible (repeat' first | assumption | intro _ | apply getD_sound | apply ite_sound | apply State.mapInsert_sound
                                | apply State.addEntry_sound | apply State.durableWrite_sound | apply State.count_sound
                                | apply State.failWrite_sound | apply forEach_sound | split | dsimp only
                                | refine fst_sound (by assumption) ?_ | refine snd_sound (by assumption) ?_)

theorem State.enterVerified_sound (x0 : State) (x1 : Nat) (h0 : x0.Sound) : (State.enterVerified x0 x1).Sound := by
  unfold State.enterVerified
  with_reducible (repeat' first | assumption | intro _ | apply State.enterRecord_sound | apply forEach_sound | dsimp only)

theorem State.setFrontier_sound (x0 : State) (x1 : Nat) (x2 : Nat) (x3 : List Int) (h0 : x0.Sound)
    : (State.setFrontier x0 x1 x2 x3).Sound := by
  unfold State.setFrontier
  with_reducible (repeat' first | assumption | intro _ | apply ite_sound | apply State.showFrontier_sound | apply State.updMast_sound
                                | apply State.setMo_sound | apply foldl_sound | split | dsimp only
                                | fail_if_no_progress refine mk_sound (tabs_of ?_))

theorem State.mountLogRead_sound (x0 : State) (x1 : Nat) (x2 : List Int) (h0 : x0.Sound) : (State.mountLogRead x0 x1 x2).Sound := by
  unfold State.mountLogRead
  split
  · have h1 := State.applyLog_sound _ x1 none (x0.mast x1).wr.log
      (State.updMast_sound x0 x1 (fun x => { x with wr := { periodAt := x.wr.periodAt } }) h0)
    dsimp only
    generalize State.applyLog _ _ _ _ = l at h1 ⊢
    with_reducible (repeat' first | assumption | apply ite_sound | apply State.leaseStale_sound | apply forEach_sound
                                  | apply State.closeDisc_sound | apply State.countM_sound | apply State.showWriteState_sound
                                  | apply State.setFrontier_sound | apply State.setMo_sound | apply State.updMast_sound
                                  | apply State.complete_sound | intro _)
  · exact h0

theorem State.mapRebuilt_sound (x0 : State) (x1 : Nat) (h0 : x0.Sound) : (State.mapRebuilt x0 x1).Sound := by
  unfold State.mapRebuilt
  exact State.updMast_sound _ _ _ (State.applyLog_sound _ _ _ _ (State.updMast_sound _ _ _ h0))

theorem State.logRead_sound (x0 : State) (x1 : Nat) (x2 : List Int) (h0 : x0.Sound) : (State.logRead x0 x1 x2).Sound := by
  unfold State.logRead
  with_reducible (repeat' first | assumption | apply ite_sound | apply State.mountLogRead_sound | apply State.mapRebuilt_sound
                                | apply State.logAnew_sound | split | dsimp only | fail_if_no_progress refine mk_sound (tabs_of ?_))

theorem State.passBoundary_sound (x0 : State) (x1 : Nat) (h0 : x0.Sound) : (State.passBoundary x0 x1).Sound := by
  unfold State.passBoundary
  with_reducible (repeat' first | assumption | apply ite_sound | apply State.enterPeriod_sound | apply State.closeGate_sound
                                | apply State.showWidth_sound | apply State.offsetFor_sound | split | dsimp only)

theorem State.recordBurn_sound (x0 : State) (x1 : Nat) (h0 : x0.Sound) : (State.recordBurn x0 x1).Sound := by
  unfold State.recordBurn
  with_reducible (repeat' first | assumption | apply getD_sound | apply ite_sound | apply State.showWidth_sound
                                | apply State.moveWrite_sound | apply State.burnRecord_sound | split | dsimp only)

theorem State.recordFails_sound (x0 : State) (x1 : Nat) (x2 : CommitRec) (h0 : x0.Sound) : (State.recordFails x0 x1 x2).Sound := by
  unfold State.recordFails
  with_reducible (repeat' first | assumption | apply ite_sound | apply State.countM_sound | apply State.updRec_sound
                                | apply State.failPending_sound | apply State.closeDisc_sound | apply State.updMast_sound | split
                                | dsimp only | fail_if_no_progress refine mk_sound (tabs_of ?_))

theorem State.recordPasses_sound (x0 : State) (x1 : Nat) (x2 : CommitRec) (h0 : x0.Sound) : (State.recordPasses x0 x1 x2).Sound := by
  unfold State.recordPasses
  with_reducible (repeat' first | assumption | intro _ | apply ite_sound | apply State.setMo_sound | apply State.updMast_sound
                                | apply State.commitEntry_sound | apply State.durableWrite_sound | apply State.poolRelocs_sound
                                | apply forEach_sound | split | dsimp only | fail_if_no_progress refine mk_sound (tabs_of ?_))

theorem State.relocateSlot_sound (x0 : State) (x1 : Nat) (x2 : Write) (x3 : WSlot) (h0 : x0.Sound)
    : (State.relocateSlot x0 x1 x2 x3).Sound := by
  unfold State.relocateSlot
  with_reducible (repeat' first | assumption | apply getD_sound | apply ite_sound | apply State.abandonWrite_sound
                                | apply State.moveWrite_sound | apply State.updMast_sound | apply State.countM_sound
                                | apply State.setMo_sound | apply State.burnSlot_sound | split | dsimp only
                                | fail_if_no_progress refine mk_sound (tabs_of ?_))

theorem State.relocationPass_sound (x0 : State) (x1 : Nat) (h0 : x0.Sound) : (State.relocationPass x0 x1).Sound := by
  unfold State.relocationPass
  with_reducible (repeat' first | assumption | intro _ | apply getD_sound | apply ite_sound | apply State.showWidth_sound
                                | apply State.relocateSlot_sound | apply State.showWriteState_sound | apply State.updOpt_sound
                                | apply forEach_sound | split | dsimp only | fail_if_no_progress refine mk_sound (tabs_of ?_))

theorem State.sliceExpiry_sound (x0 : State) (x1 : Nat) (h0 : x0.Sound) : (State.sliceExpiry x0 x1).Sound := by
  unfold State.sliceExpiry
  with_reducible (repeat' first | assumption | apply ite_sound | apply State.passBoundary_sound | split | dsimp only)

theorem State.slotVerified_sound (x0 : State) (x1 : Write) (x2 : Nat) (x3 : Slot) (x4 : Bool) (h0 : x0.Sound)
    : (State.slotVerified x0 x1 x2 x3 x4).Sound := by
  unfold State.slotVerified
  with_reducible (repeat' first | assumption | apply ite_sound | apply State.abandonWrite_sound | apply State.updWrite_sound | split
                                | dsimp only | fail_if_no_progress refine mk_sound (tabs_of ?_))

theorem State.verifyEnds_sound (x0 : State) (x1 : Sector) (x2 : Bool) (x3 : Option Nat) (x4 : List Sys2Proof.Byte) (h0 : x0.Sound)
    : (State.verifyEnds x0 x1 x2 x3 x4).Sound := by
  unfold State.verifyEnds
  with_reducible (repeat' first | assumption | apply ite_sound | apply State.dropSector_sound | apply State.recordPasses_sound
                                | apply State.recordFails_sound | apply State.enterVerified_sound | apply State.slotVerified_sound | split
                                | dsimp only)

theorem State.verifyRevolution_sound (x0 : State) (x1 : Nat) (h0 : x0.Sound) : (State.verifyRevolution x0 x1).Sound := by
  unfold State.verifyRevolution
  with_reducible (repeat' first | assumption | intro _ | apply ite_sound | apply State.showWidth_sound | apply State.moveWrite_sound
                                | apply State.countM_sound | apply State.scheduleOne_sound | apply State.addSector_sound
                                | apply State.showWriteState_sound | apply State.showPoolQueue_sound | apply forEach_sound | split
                                | dsimp only | fail_if_no_progress refine mk_sound (tabs_of ?_))

theorem State.partLost_sound (x0 : State) (x1 : Nat) (x2 : Nat) (h0 : x0.Sound) : (State.partLost x0 x1 x2).Sound := by
  unfold State.partLost
  with_reducible (repeat' first | assumption | apply ite_sound | apply State.loseMap_sound | apply State.dupsLost_sound
                                | apply State.leasesLost_sound | apply State.tableLost_sound | split | dsimp only)

theorem State.shareGranule_sound (x0 : State) (x1 : Nat) (x2 : Nat) (x3 : Nat) (x4 : List Sys2Proof.Granule) (h0 : x0.Sound)
    : (State.shareGranule x0 x1 x2 x3 x4).Sound := by
  unfold State.shareGranule
  with_reducible (repeat' first | assumption | apply ite_sound | apply State.partLost_sound | apply State.count_sound
                                | apply State.setGranule_sound | split | dsimp only)

theorem State.pageGranule_sound (x0 : State) (x1 : Nat) (x2 : Nat) (h0 : x0.Sound) : (State.pageGranule x0 x1 x2).Sound := by
  unfold State.pageGranule
  with_reducible (repeat' first | assumption | apply State.zeroWindowPage_sound | apply State.failWrite_sound | apply State.showFree_sound
                                | split | dsimp only | fail_if_no_progress refine mk_sound (tabs_of ?_))

theorem State.granuleLost_sound (x0 : State) (x1 : Nat) (x2 : Nat) (x3 : List Sys2Proof.Granule) (h0 : x0.Sound)
    : (State.granuleLost x0 x1 x2 x3).Sound := by
  unfold State.granuleLost
  with_reducible (repeat' first | assumption | apply ite_sound | apply State.shareGranule_sound | apply State.pageGranule_sound | split
                                | dsimp only)

theorem State.remap_sound (x0 : State) (x1 : Nat) (x2 : Nat) (h0 : x0.Sound) : (State.remap x0 x1 x2).Sound := by
  unfold State.remap
  with_reducible (repeat' first | assumption | apply ite_sound | apply State.requestSave_sound | apply State.count_sound
                                | apply State.setObj_sound | apply State.retireChannel_sound | split | dsimp only)

theorem State.memoryRead_sound (x0 : State) (x1 : Nat) (x2 : Nat) (x3 : List Sys2Proof.Granule) (h0 : x0.Sound)
    : (State.memoryRead x0 x1 x2 x3).Sound := by
  unfold State.memoryRead
  with_reducible (repeat' first | assumption | apply ite_sound | apply State.count_sound | apply State.setGranule_sound
                                | apply State.granuleLost_sound | apply State.remap_sound | apply State.failChannel_sound | split
                                | dsimp only)

theorem State.startFill_sound (x0 : State) (x1 : Nat) (x2 : Nat) (x3 : Nat) (x4 : Bool) (x5 : List CacheReq) (h0 : x0.Sound)
    : (State.startFill x0 x1 x2 x3 x4 x5).Sound := by
  unfold State.startFill
  with_reducible (repeat' first | assumption | apply ite_sound | apply State.setLine_sound | split | dsimp only
                                | fail_if_no_progress refine mk_sound (tabs_of ?_))

theorem State.prefetchLine_sound (x0 : State) (x1 : Nat) (x2 : Nat) (h0 : x0.Sound) : (State.prefetchLine x0 x1 x2).Sound := by
  unfold State.prefetchLine
  with_reducible (repeat' first | assumption | apply ite_sound | apply State.cacheDefer_sound | apply State.startFill_sound
                                | apply State.count_sound | split | dsimp only | fail_if_no_progress refine mk_sound (tabs_of ?_))

theorem State.prefetch_sound (x0 : State) (x1 : Nat) (x2 : Nat) (h0 : x0.Sound) : (State.prefetch x0 x1 x2).Sound := by
  unfold State.prefetch
  with_reducible (repeat' first | assumption | apply State.prefetchLine_sound | dsimp only)

theorem State.cacheFetch_sound (x0 : State) (x1 : CacheReq) (x2 : List Sys2Proof.Granule) (h0 : x0.Sound)
    : (State.cacheFetch x0 x1 x2).Sound := by
  unfold State.cacheFetch
  with_reducible (repeat' first | assumption | apply ite_sound | apply State.memoryRead_sound | apply State.victim_sound
                                | apply State.cacheDefer_sound | apply State.startFill_sound | apply State.prefetch_sound | split
                                | dsimp only | refine fst_sound (by assumption) ?_ | refine snd_sound (by assumption) ?_)

theorem State.cacheMiss_sound (x0 : State) (x1 : CacheReq) (x2 : List Sys2Proof.Granule) (h0 : x0.Sound)
    : (State.cacheMiss x0 x1 x2).Sound := by
  unfold State.cacheMiss
  with_reducible (repeat' first | assumption | apply ite_sound | apply State.cacheReclaim_sound | apply State.count_sound
                                | apply State.cacheFetch_sound | split | dsimp only)

theorem State.cacheLookup_sound (x0 : State) (x1 : CacheReq) (x2 : Bool) (x3 : List Sys2Proof.Granule) (h0 : x0.Sound)
    : (State.cacheLookup x0 x1 x2 x3).Sound := by
  unfold State.cacheLookup
  with_reducible (repeat' first | assumption | apply ite_sound | apply State.cacheMiss_sound | apply State.failWay_sound
                                | apply State.setLine_sound | apply State.count_sound | split | dsimp only
                                | fail_if_no_progress refine mk_sound (tabs_of ?_))

theorem State.cacheAccess_sound (x0 : State) (x1 : CacheReq) (x2 : Bool) (x3 : List Sys2Proof.Granule) (h0 : x0.Sound)
    : (State.cacheAccess x0 x1 x2 x3).Sound := by
  unfold State.cacheAccess
  with_reducible (repeat' first | assumption | apply ite_sound | apply State.memoryRead_sound | apply State.maintWait_sound
                                | apply State.cacheDefer_sound | apply State.fillWait_sound | apply State.cacheLookup_sound | split
                                | dsimp only)

theorem State.cacheAgain_sound (x0 : State) (x1 : CacheReq) (h0 : x0.Sound) : (State.cacheAgain x0 x1).Sound := by
  unfold State.cacheAgain
  with_reducible (repeat' first | assumption | apply ite_sound | apply State.cacheDefer_sound | apply State.prefetchLine_sound
                                | apply State.fillWait_sound | apply State.cacheLookup_sound | split | dsimp only)

theorem State.cacheAge_sound (x0 : State) (h0 : x0.Sound) : (State.cacheAge x0).Sound := by
  unfold State.cacheAge
  with_reducible (repeat' first | assumption | intro _ | apply ite_sound | apply State.setLine_sound | apply forEach_sound | split
                                | dsimp only | fail_if_no_progress refine mk_sound (tabs_of ?_))

theorem State.cacheRetry_sound (x0 : State) (x1 : List CacheReq) (h0 : x0.Sound) : (State.cacheRetry x0 x1).Sound := by
  unfold State.cacheRetry
  with_reducible (repeat' first | assumption | intro _ | apply State.cacheAgain_sound | apply forEach_sound | dsimp only)

theorem State.channelFilled_sound (x0 : State) (x1 : Nat) (h0 : x0.Sound) : (State.channelFilled x0 x1).Sound := by
  unfold State.channelFilled
  with_reducible (repeat' first | assumption | apply ite_sound | apply State.showShares_sound | apply State.showPool_sound
                                | apply State.setMaskBit_sound | split | dsimp only | fail_if_no_progress refine mk_sound (tabs_of ?_))

theorem State.channelsCleared_sound (x0 : State) (x1 : Nat) (h0 : x0.Sound) : (State.channelsCleared x0 x1).Sound := by
  unfold State.channelsCleared
  with_reducible (repeat' first | assumption | intro _ | apply State.forgetFailures_sound | apply forEach_sound | dsimp only
                                | fail_if_no_progress refine mk_sound (tabs_of ?_))

theorem State.maintGo_sound (x0 : State) (x1 : Nat) (h0 : x0.Sound) : (State.maintGo x0 x1).Sound := by
  induction x1 generalizing x0 with
  | zero => unfold State.maintGo; with_reducible (repeat' first | assumption | apply ite_sound | apply State.setObj_sound
                                                                | apply LogRead.s_sound | apply WordCtx.s_sound
                                                                | apply State.cacheRetry_sound | apply State.startMaint_sound | split
                                                                | dsimp only | fail_if_no_progress refine mk_sound (tabs_of ?_))
  | succ n ih => unfold State.maintGo; with_reducible (repeat' first | assumption | apply ih | apply ite_sound | apply State.setObj_sound
                                                                     | apply LogRead.s_sound | apply WordCtx.s_sound
                                                                     | apply State.cacheRetry_sound | apply State.startMaint_sound | split
                                                                     | dsimp only | fail_if_no_progress refine mk_sound (tabs_of ?_))

theorem State.maintDone_sound (x0 : State) (h0 : x0.Sound) : (State.maintDone x0).Sound := by
  unfold State.maintDone
  with_reducible (repeat' first | assumption | apply ite_sound | apply State.maintGo_sound | split | dsimp only)

theorem State.fillReturn_sound (x0 : State) (x1 : Nat) (x2 : Nat) (x3 : Bool) (h0 : x0.Sound) : (State.fillReturn x0 x1 x2 x3).Sound := by
  unfold State.fillReturn
  with_reducible (repeat' first | assumption | apply ite_sound | apply State.setLine_sound | apply State.retireWay_sound
                                | apply State.count_sound | apply State.maintDone_sound | apply State.cacheRetry_sound | split
                                | dsimp only | fail_if_no_progress refine mk_sound (tabs_of ?_))

theorem State.maintain_sound (x0 : State) (x1 : Nat) (x2 : Nat) (x3 : Nat) (h0 : x0.Sound) : (State.maintain x0 x1 x2 x3).Sound := by
  unfold State.maintain
  with_reducible (repeat' first | assumption | apply State.maintDone_sound | apply State.issueMaint_sound | dsimp only)

theorem State.remapFree_sound (x0 : State) (x1 : Nat) (x2 : List (Nat × Sys2Proof.Granule)) (x3 : Nat) (h0 : x0.Sound)
    : (State.remapFree x0 x1 x2 x3).Sound := by
  unfold State.remapFree
  with_reducible (repeat' first | assumption | apply ite_sound | apply State.setCell_sound | apply State.setObj_sound | split | dsimp only
                                | fail_if_no_progress refine mk_sound (tabs_of ?_))

theorem State.remapCleared_sound (x0 : State) (x1 : Nat) (x2 : List (Nat × Sys2Proof.Granule)) (h0 : x0.Sound)
    : (State.remapCleared x0 x1 x2).Sound := by
  unfold State.remapCleared
  with_reducible (repeat' first | assumption | intro _ | apply State.remapFree_sound | apply State.requestSave_sound
                                | apply State.setObj_sound | apply forEach_sound | dsimp only)

theorem State.scrubRead_sound (x0 : State) (x1 : Nat) (x2 : List Sys2Proof.Granule) (h0 : x0.Sound)
    : (State.scrubRead x0 x1 x2).Sound := by
  unfold State.scrubRead
  with_reducible (repeat' first | assumption | apply ite_sound | apply State.memoryRead_sound | split | dsimp only
                                | fail_if_no_progress refine mk_sound (tabs_of ?_))

theorem State.shareCopied_sound (x0 : State) (x1 : Nat) (x2 : Nat) (h0 : x0.Sound) : (State.shareCopied x0 x1 x2).Sound := by
  unfold State.shareCopied
  with_reducible (repeat' first | assumption | apply ite_sound | apply State.showShares_sound | apply State.count_sound
                                | apply State.copyShare_sound | split | dsimp only | fail_if_no_progress refine mk_sound (tabs_of ?_))

theorem State.trainingLost_sound (x0 : State) (x1 : Nat) (h0 : x0.Sound) : (State.trainingLost x0 x1).Sound := by
  unfold State.trainingLost
  with_reducible (repeat' first | assumption | apply ite_sound | apply State.retireChannel_sound | apply State.failChannel_sound | split
                                | dsimp only)

theorem State.writeWindow_sound (x0 : State) (x1 : Nat) (x2 : Nat) (x3 : List Sys2Proof.Byte) (h0 : x0.Sound)
    : (State.writeWindow x0 x1 x2 x3).Sound := by
  unfold State.writeWindow
  with_reducible (repeat' first | assumption | intro _ | apply State.writeLocal_sound | apply State.setEngine_sound | apply forEach_sound
                                | dsimp only | fail_if_no_progress refine mk_sound (tabs_of ?_))

theorem State.wantSector_sound (x0 : State) (x1 : Nat) (x2 : Nat) (x3 : Nat) (x4 : Nat) (x5 : Nat) (x6 : List Slot)
    (x7 : List (Nat × Slot)) (h0 : x0.Sound) : (State.wantSector x0 x1 x2 x3 x4 x5 x6 x7).Sound := by
  unfold State.wantSector
  with_reducible (repeat' first | assumption | apply getD_sound | apply State.updSector_sound | apply State.addSector_sound | split
                                | dsimp only | fail_if_no_progress refine mk_sound (tabs_of ?_))

theorem State.startReads_sound (x0 : State) (x1 : Nat) (h0 : x0.Sound) : (State.startReads x0 x1).Sound := by
  unfold State.startReads
  with_reducible (repeat' first | assumption | intro _ | apply ite_sound | apply State.updCmd_sound | apply State.deliver_sound
                                | apply State.countN_sound | apply State.stopRead_sound | apply State.wantSector_sound
                                | apply State.complete_sound | apply forEach_sound | split | dsimp only
                                | fail_if_no_progress refine mk_sound (tabs_of ?_))

theorem State.releaseJob_sound (x0 : State) (x1 : Nat) (x2 : Nat) (h0 : x0.Sound) : (State.releaseJob x0 x1 x2).Sound := by
  unfold State.releaseJob
  with_reducible (repeat' first | assumption | intro _ | apply ite_sound | apply State.showEngine_sound | apply State.setEngine_sound
                                | apply State.setCmds_sound | apply State.failCmd_sound | apply forEach_sound | split | dsimp only
                                | fail_if_no_progress refine mk_sound (tabs_of ?_))

theorem State.endSegment_sound (x0 : State) (x1 : Nat) (x2 : EngCtx) (x3 : Segment) (x4 : Nat) (h0 : x0.Sound)
    : (State.endSegment x0 x1 x2 x3 x4).Sound := by
  unfold State.endSegment
  with_reducible (repeat' first | assumption | intro _ | apply getD_sound | apply ite_sound | apply State.setObj_sound
                                | apply State.releaseJob_sound | apply State.showEngine_sound | apply State.count_sound
                                | apply State.setEngine_sound | apply State.finishData_sound | apply State.dropOrphans_sound
                                | apply forEach_sound | split | dsimp only | fail_if_no_progress refine mk_sound (tabs_of ?_))

theorem State.wordCheck_sound (x0 : State) (x1 : Nat) (x2 : Nat) (x3 : Sys2Proof.WordCheck) (h0 : x0.Sound)
    : (State.wordCheck x0 x1 x2 x3).1.Sound := by
  unfold State.wordCheck
  with_reducible (repeat' first | assumption | apply ite_sound | apply State.count_sound | apply State.failEngine_sound
                                | apply State.jobFault_sound | apply State.memoryRead_sound | split | dsimp only)

theorem State.wordFailure_sound (x0 : State) (x1 : Nat) (x2 : Sys2Proof.WordCheck) (h0 : x0.Sound)
    : (State.wordFailure x0 x1 x2).Sound := by
  unfold State.wordFailure
  with_reducible (repeat' first | assumption | apply State.failEngine_sound | split)

theorem State.setRun_sound (x0 : State) (x1 : Nat) (x2 : EngCtx) (x3 : Segment) (h0 : x0.Sound) : (State.setRun x0 x1 x2 x3).Sound := by
  unfold State.setRun
  with_reducible (repeat' first | assumption | apply State.setEngine_sound | dsimp only
                                | fail_if_no_progress refine mk_sound (tabs_of ?_))

theorem State.takeNext_sound (x0 : State) (x1 : State) (x2 : Nat) (x3 : Mw) (x4 : Bool) (x5 : EngCtx) (x6 : Segment) (h0 : x0.Sound)
    (h1 : x1.Sound) : (State.takeNext x0 x1 x2 x3 x4 x5 x6).Sound := by
  unfold State.takeNext
  with_reducible (repeat' first | assumption | apply ite_sound | apply State.setRun_sound | apply State.jobFault_sound
                                | apply State.endSegment_sound | split | dsimp only | fail_if_no_progress refine mk_sound (tabs_of ?_))

theorem State.runWord_sound (x0 : State) (x1 : Nat) (x2 : WordCtx → OpOut) (x3 : Nat) (x4 : Sys2Proof.WordCheck) (h0 : x0.Sound)
    (h2 : ∀ k, k.s.Sound → OutSound (x2 k)) : (State.runWord x0 x1 x2 x3 x4).Sound := by
  unfold State.runWord
  split
  · exact h0
  · refine ite_sound h0 ?_
    have h1 := State.wordCheck_sound x0 x3 x1 x4 h0
    generalize State.wordCheck x0 x3 x1 x4 = p at h1 ⊢
    obtain ⟨s1, run⟩ := p
    dsimp only
    split
    · exact h1
    · refine ite_sound h1 (ite_sound (State.wordFailure_sound _ _ _ (State.jobFault_sound _ _ _ h1)) ?_)
      split
      · exact State.wordFailure_sound _ _ _ (State.jobFault_sound _ _ _ h1)
      · rename_i e
        exact State.wordFailure_sound _ _ _ (State.takeNext_sound _ _ _ _ _ _ _ h1 (h2 _ h1 _ _ _ e))

theorem State.segmentStart_sound (x0 : State) (x1 : Nat) (h0 : x0.Sound) : (State.segmentStart x0 x1).Sound := by
  unfold State.segmentStart
  with_reducible (repeat' first | assumption | apply ite_sound | apply State.failCmd_sound | apply State.count_sound
                                | apply State.setEngine_sound | apply State.startReads_sound | apply State.showEngine_sound | split
                                | dsimp only | fail_if_no_progress refine mk_sound (tabs_of ?_))

theorem WordCtx.done_sound (x0 : WordCtx) (x1 : EngCtx) (h0 : x0.s.Sound) : OutSound (WordCtx.done x0 x1) := by
  unfold WordCtx.done
  with_reducible (repeat' first | assumption | apply outSound_ok | apply outSound_fault | intro _ | apply WordCtx.s_sound | dsimp only)

theorem WordCtx.result_sound (x0 : WordCtx) (x1 : Nat) (x2 : Bool) (x3 : Bool) (h0 : x0.s.Sound)
    : OutSound (WordCtx.result x0 x1 x2 x3) := by
  unfold WordCtx.result
  with_reducible (repeat' first | assumption | apply outSound_ok | apply outSound_fault | intro _ | apply WordCtx.done_sound | dsimp only)

theorem WordCtx.addWith_sound (x0 : WordCtx) (x1 : Nat) (h0 : x0.s.Sound) : OutSound (WordCtx.addWith x0 x1) := by
  unfold WordCtx.addWith
  with_reducible (repeat' first | assumption | apply outSound_ok | apply outSound_fault | intro _ | apply WordCtx.result_sound
                                | dsimp only)

theorem WordCtx.byteMask_sound (x0 : WordCtx) (x1 : Nat) (x2 : Nat) (h0 : x0.s.Sound) : OutSound (WordCtx.byteMask x0 x1 x2) := by
  unfold WordCtx.byteMask
  with_reducible (repeat' first | assumption | apply outSound_ok | apply outSound_fault | intro _ | apply ite_sound
                                | apply WordCtx.done_sound | apply foldl_sound | split | dsimp only)

theorem WordCtx.logic_sound (x0 : WordCtx) (x1 : Nat) (h0 : x0.s.Sound) : OutSound (WordCtx.logic x0 x1) := by
  unfold WordCtx.logic
  with_reducible (repeat' first | assumption | apply outSound_ok | apply outSound_fault | intro _ | apply WordCtx.result_sound
                                | dsimp only)

theorem WordCtx.subWith_sound (x0 : WordCtx) (x1 : Nat) (h0 : x0.s.Sound) : OutSound (WordCtx.subWith x0 x1) := by
  unfold WordCtx.subWith
  with_reducible (repeat' first | assumption | apply outSound_ok | apply outSound_fault | intro _ | apply WordCtx.result_sound
                                | dsimp only)

theorem wordRow_sound (x0 : Nat) (x1 : WordCtx → OpOut) (x2 : Nat) (x3 : Nat) (x4 : Sys2Proof.WordCheck) (x5 : State)
    (h1 : ∀ k, k.s.Sound → OutSound (x1 k)) (h5 : x5.Sound) : ResSound (wordRow x0 x1 x2 x3 x4 x5) := by
  unfold wordRow
  with_reducible (repeat' first | assumption | apply resSound_next | intro _ | apply State.runWord_sound | apply State.at__sound
                                | dsimp only)

theorem opAdd_sound (x0 : WordCtx) (h0 : x0.s.Sound) : OutSound (opAdd x0) := by
  unfold opAdd
  with_reducible (repeat' first | assumption | apply outSound_ok | apply outSound_fault | intro _ | apply WordCtx.addWith_sound
                                | dsimp only)

theorem opAddc_sound (x0 : WordCtx) (h0 : x0.s.Sound) : OutSound (opAddc x0) := by
  unfold opAddc
  with_reducible (repeat' first | assumption | apply outSound_ok | apply outSound_fault | intro _ | apply WordCtx.addWith_sound
                                | dsimp only)

theorem opAnd_sound (x0 : WordCtx) (h0 : x0.s.Sound) : OutSound (opAnd x0) := by
  unfold opAnd
  with_reducible (repeat' first | assumption | apply outSound_ok | apply outSound_fault | intro _ | apply WordCtx.logic_sound
                                | dsimp only)

theorem opAndn_sound (x0 : WordCtx) (h0 : x0.s.Sound) : OutSound (opAndn x0) := by
  unfold opAndn
  with_reducible (repeat' first | assumption | apply outSound_ok | apply outSound_fault | intro _ | apply WordCtx.logic_sound
                                | dsimp only)

theorem opBfi_sound (x0 : WordCtx) (h0 : x0.s.Sound) : OutSound (opBfi x0) := by
  unfold opBfi
  with_reducible (repeat' first | assumption | apply outSound_ok | apply outSound_fault | intro _ | apply WordCtx.logic_sound
                                | dsimp only)

theorem opBfx_sound (x0 : WordCtx) (h0 : x0.s.Sound) : OutSound (opBfx x0) := by
  unfold opBfx
  with_reducible (repeat' first | assumption | apply outSound_ok | apply outSound_fault | intro _ | apply WordCtx.logic_sound
                                | dsimp only)

theorem opBswap_sound (x0 : WordCtx) (h0 : x0.s.Sound) : OutSound (opBswap x0) := by
  unfold opBswap
  with_reducible (repeat' first | assumption | apply outSound_ok | apply outSound_fault | intro _ | apply WordCtx.logic_sound
                                | dsimp only)

theorem opClz_sound (x0 : WordCtx) (h0 : x0.s.Sound) : OutSound (opClz x0) := by
  unfold opClz
  with_reducible (repeat' first | assumption | apply outSound_ok | apply outSound_fault | intro _ | apply getD_sound
                                | apply WordCtx.logic_sound | dsimp only)

theorem opCmp_sound (x0 : WordCtx) (h0 : x0.s.Sound) : OutSound (opCmp x0) := by
  unfold opCmp
  with_reducible (repeat' first | assumption | apply outSound_ok | apply outSound_fault | intro _ | apply WordCtx.done_sound | dsimp only)

theorem opCtz_sound (x0 : WordCtx) (h0 : x0.s.Sound) : OutSound (opCtz x0) := by
  unfold opCtz
  with_reducible (repeat' first | assumption | apply outSound_ok | apply outSound_fault | intro _ | apply getD_sound
                                | apply WordCtx.logic_sound | dsimp only)

theorem opCvf_sound (x0 : WordCtx) (h0 : x0.s.Sound) : OutSound (opCvf x0) := by
  unfold opCvf
  with_reducible (repeat' first | assumption | apply outSound_ok | apply outSound_fault | intro _ | apply ite_sound
                                | apply WordCtx.done_sound | split | dsimp only | fail_if_no_progress refine mk_sound (tabs_of ?_))

theorem opGets_sound (x0 : WordCtx) (h0 : x0.s.Sound) : OutSound (opGets x0) := by
  unfold opGets
  with_reducible (repeat' first | assumption | apply outSound_ok | apply outSound_fault | intro _ | apply WordCtx.done_sound | dsimp only)

theorem opIn_sound (x0 : WordCtx) (h0 : x0.s.Sound) : OutSound (opIn x0) := by
  unfold opIn
  with_reducible (repeat' first | assumption | apply outSound_ok | apply outSound_fault | intro _ | apply ite_sound
                                | apply WordCtx.s_sound | split | dsimp only | fail_if_no_progress refine mk_sound (tabs_of ?_))

theorem opLds_sound (x0 : WordCtx) (h0 : x0.s.Sound) : OutSound (opLds x0) := by
  unfold opLds
  with_reducible (repeat' first | assumption | apply outSound_ok | apply outSound_fault | intro _ | apply ite_sound
                                | apply WordCtx.done_sound | split | dsimp only)

theorem opLdw_sound (x0 : WordCtx) (h0 : x0.s.Sound) : OutSound (opLdw x0) := by
  unfold opLdw
  with_reducible (repeat' first | assumption | apply outSound_ok | apply outSound_fault | intro _ | apply ite_sound
                                | apply WordCtx.s_sound | apply WordCtx.done_sound | split | dsimp only)

theorem opMatch8_sound (x0 : WordCtx) (h0 : x0.s.Sound) : OutSound (opMatch8 x0) := by
  unfold opMatch8
  with_reducible (repeat' first | assumption | apply outSound_ok | apply outSound_fault | intro _ | apply WordCtx.byteMask_sound
                                | dsimp only)

theorem opMax_sound (x0 : WordCtx) (h0 : x0.s.Sound) : OutSound (opMax x0) := by
  unfold opMax
  with_reducible (repeat' first | assumption | apply outSound_ok | apply outSound_fault | intro _ | apply ite_sound
                                | apply WordCtx.logic_sound | split | dsimp only)

theorem opMin_sound (x0 : WordCtx) (h0 : x0.s.Sound) : OutSound (opMin x0) := by
  unfold opMin
  with_reducible (repeat' first | assumption | apply outSound_ok | apply outSound_fault | intro _ | apply ite_sound
                                | apply WordCtx.logic_sound | split | dsimp only)

theorem opMov_sound (x0 : WordCtx) (h0 : x0.s.Sound) : OutSound (opMov x0) := by
  unfold opMov
  with_reducible (repeat' first | assumption | apply outSound_ok | apply outSound_fault | intro _ | apply WordCtx.logic_sound
                                | dsimp only)

theorem opMul_sound (x0 : WordCtx) (h0 : x0.s.Sound) : OutSound (opMul x0) := by
  unfold opMul
  with_reducible (repeat' first | assumption | apply outSound_ok | apply outSound_fault | intro _ | apply WordCtx.result_sound
                                | dsimp only)

theorem opMulh_sound (x0 : WordCtx) (h0 : x0.s.Sound) : OutSound (opMulh x0) := by
  unfold opMulh
  with_reducible (repeat' first | assumption | apply outSound_ok | apply outSound_fault | intro _ | apply WordCtx.logic_sound
                                | dsimp only)

theorem opNop_sound (x0 : WordCtx) (h0 : x0.s.Sound) : OutSound (opNop x0) := by
  unfold opNop
  with_reducible (repeat' first | assumption | apply outSound_ok | apply outSound_fault | intro _ | apply WordCtx.done_sound | dsimp only)

theorem opOr_sound (x0 : WordCtx) (h0 : x0.s.Sound) : OutSound (opOr x0) := by
  unfold opOr
  with_reducible (repeat' first | assumption | apply outSound_ok | apply outSound_fault | intro _ | apply WordCtx.logic_sound
                                | dsimp only)

theorem opOut_sound (x0 : WordCtx) (h0 : x0.s.Sound) : OutSound (opOut x0) := by
  unfold opOut
  with_reducible (repeat' first | assumption | apply outSound_ok | apply outSound_fault | intro _ | apply ite_sound
                                | apply State.place_sound | apply WordCtx.s_sound | split | dsimp only
                                | fail_if_no_progress refine mk_sound (tabs_of ?_))

theorem opPopc_sound (x0 : WordCtx) (h0 : x0.s.Sound) : OutSound (opPopc x0) := by
  unfold opPopc
  with_reducible (repeat' first | assumption | apply outSound_ok | apply outSound_fault | intro _ | apply WordCtx.logic_sound
                                | dsimp only)

theorem opPuts_sound (x0 : WordCtx) (h0 : x0.s.Sound) : OutSound (opPuts x0) := by
  unfold opPuts
  with_reducible (repeat' first | assumption | apply outSound_ok | apply outSound_fault | intro _ | apply ite_sound
                                | apply WordCtx.done_sound | split | dsimp only | fail_if_no_progress refine mk_sound (tabs_of ?_))

theorem opRange8_sound (x0 : WordCtx) (h0 : x0.s.Sound) : OutSound (opRange8 x0) := by
  unfold opRange8
  with_reducible (repeat' first | assumption | apply outSound_ok | apply outSound_fault | intro _ | apply WordCtx.byteMask_sound
                                | dsimp only)

theorem opRol_sound (x0 : WordCtx) (h0 : x0.s.Sound) : OutSound (opRol x0) := by
  unfold opRol
  with_reducible (repeat' first | assumption | apply outSound_ok | apply outSound_fault | intro _ | apply WordCtx.logic_sound
                                | dsimp only)

theorem opSadd_sound (x0 : WordCtx) (h0 : x0.s.Sound) : OutSound (opSadd x0) := by
  unfold opSadd
  with_reducible (repeat' first | assumption | apply outSound_ok | apply outSound_fault | intro _ | apply ite_sound
                                | apply WordCtx.result_sound | split | dsimp only)

theorem opSar_sound (x0 : WordCtx) (h0 : x0.s.Sound) : OutSound (opSar x0) := by
  unfold opSar
  with_reducible (repeat' first | assumption | apply outSound_ok | apply outSound_fault | intro _ | apply WordCtx.result_sound
                                | dsimp only)

theorem opSel_sound (x0 : WordCtx) (h0 : x0.s.Sound) : OutSound (opSel x0) := by
  unfold opSel
  with_reducible (repeat' first | assumption | apply outSound_ok | apply outSound_fault | intro _ | apply ite_sound
                                | apply WordCtx.done_sound | split | dsimp only)

theorem opShl_sound (x0 : WordCtx) (h0 : x0.s.Sound) : OutSound (opShl x0) := by
  unfold opShl
  with_reducible (repeat' first | assumption | apply outSound_ok | apply outSound_fault | intro _ | apply WordCtx.result_sound
                                | dsimp only)

theorem opShr_sound (x0 : WordCtx) (h0 : x0.s.Sound) : OutSound (opShr x0) := by
  unfold opShr
  with_reducible (repeat' first | assumption | apply outSound_ok | apply outSound_fault | intro _ | apply WordCtx.result_sound
                                | dsimp only)

theorem opSts_sound (x0 : WordCtx) (h0 : x0.s.Sound) : OutSound (opSts x0) := by
  unfold opSts
  with_reducible (repeat' first | assumption | apply outSound_ok | apply outSound_fault | intro _ | apply ite_sound
                                | apply WordCtx.done_sound | split | dsimp only | fail_if_no_progress refine mk_sound (tabs_of ?_))

theorem opStw_sound (x0 : WordCtx) (h0 : x0.s.Sound) : OutSound (opStw x0) := by
  unfold opStw
  with_reducible (repeat' first | assumption | apply outSound_ok | apply outSound_fault | intro _ | apply ite_sound
                                | apply WordCtx.s_sound | apply State.writeWindow_sound | split | dsimp only)

theorem opSub_sound (x0 : WordCtx) (h0 : x0.s.Sound) : OutSound (opSub x0) := by
  unfold opSub
  with_reducible (repeat' first | assumption | apply outSound_ok | apply outSound_fault | intro _ | apply WordCtx.subWith_sound
                                | dsimp only)

theorem opSubb_sound (x0 : WordCtx) (h0 : x0.s.Sound) : OutSound (opSubb x0) := by
  unfold opSubb
  with_reducible (repeat' first | assumption | apply outSound_ok | apply outSound_fault | intro _ | apply WordCtx.subWith_sound
                                | dsimp only)

theorem opXor_sound (x0 : WordCtx) (h0 : x0.s.Sound) : OutSound (opXor x0) := by
  unfold opXor
  with_reducible (repeat' first | assumption | apply outSound_ok | apply outSound_fault | intro _ | apply WordCtx.logic_sound
                                | dsimp only)

theorem State.beginLoad_sound (x0 : State) (h0 : x0.Sound) : (State.beginLoad x0).Sound := by
  unfold State.beginLoad
  with_reducible (repeat' first | assumption | intro _ | apply State.setObj_sound | apply State.showEngine_sound
                                | apply State.setEngine_sound | apply forEach_sound | dsimp only
                                | fail_if_no_progress refine mk_sound (tabs_of ?_))

theorem State.endLoad_sound (x0 : State) (x1 : Nat) (x2 : List Sys2Proof.Byte) (h0 : x0.Sound) : (State.endLoad x0 x1 x2).Sound := by
  unfold State.endLoad
  with_reducible (repeat' first | assumption | intro _ | apply ite_sound | apply State.showEngine_sound | apply State.setEngine_sound
                                | apply State.setObj_sound | apply State.count_sound | apply forEach_sound | split | dsimp only
                                | fail_if_no_progress refine mk_sound (tabs_of ?_))

theorem State.refuseLoad_sound (x0 : State) (x1 : Nat) (h0 : x0.Sound) : (State.refuseLoad x0 x1).Sound := by
  unfold State.refuseLoad
  with_reducible (repeat' first | assumption | apply State.count_sound | apply State.setObj_sound | dsimp only)

theorem State.granules__sound (x0 : State) (x1 : Write) (x2 : Nat) (x3 : List Sys2Proof.Byte) (h0 : x0.Sound)
    : (State.granules_ x0 x1 x2 x3).Sound := by
  unfold State.granules_
  with_reducible (repeat' first | assumption | intro _ | apply ite_sound | apply State.updWrite_sound | apply State.acceptPoint_sound
                                | apply foldl_sound | split | dsimp only | fail_if_no_progress refine mk_sound (tabs_of ?_))

theorem State.bar2Write_sound (x0 : State) (x1 : Sys2Proof.Fn) (x2 : Nat) (x3 : Nat) (x4 : List Sys2Proof.Byte) (h0 : x0.Sound)
    : (State.bar2Write x0 x1 x2 x3 x4).1.Sound := by
  unfold State.bar2Write
  with_reducible (repeat' first | assumption | apply ite_sound | apply State.granules__sound | apply State.count_sound
                                | apply State.writeWindow_sound | split | dsimp only)

theorem State.grant_sound (x0 : State) (x1 : Nat) (h0 : x0.Sound) : (State.grant x0 x1).Sound := by
  unfold State.grant
  with_reducible (repeat' first | assumption | apply ite_sound | apply State.takePages_sound | apply State.showFree_sound
                                | apply State.writeEvent_sound | apply State.updWrite_sound | split | dsimp only
                                | fail_if_no_progress refine mk_sound (tabs_of ?_) | refine fst_sound (by assumption) ?_
                                | refine snd_sound (by assumption) ?_)

theorem State.grantExpires_sound (x0 : State) (x1 : Write) (h0 : x0.Sound) : (State.grantExpires x0 x1).Sound := by
  unfold State.grantExpires
  with_reducible (repeat' first | assumption | apply ite_sound | apply State.failOne_sound | apply State.count_sound | split | dsimp only)

theorem State.grantsExpire_sound (x0 : State) (h0 : x0.Sound) : (State.grantsExpire x0).Sound := by
  unfold State.grantsExpire
  with_reducible (repeat' first | assumption | intro _ | apply State.grantExpires_sound | apply forEach_sound | dsimp only)

theorem State.unmatched_sound (x0 : State) (x1 : Sys2Proof.Fn) (x2 : Nat) (x3 : Nat) (x4 : Nat) (h0 : x0.Sound)
    : (State.unmatched x0 x1 x2 x3 x4).Sound := by
  unfold State.unmatched
  with_reducible (repeat' first | assumption | apply State.condition_sound | apply State.count_sound | apply State.aerError_sound
                                | dsimp only)

theorem State.windowCommit_sound (x0 : State) (x1 : Sys2Proof.Fn) (h0 : x0.Sound) : (State.windowCommit x0 x1).Sound := by
  unfold State.windowCommit
  with_reducible (repeat' first | assumption | intro _ | apply ite_sound | apply State.condition_sound | apply State.setFnr_sound
                                | apply State.failOne_sound | apply forEach_sound | split | dsimp only
                                | fail_if_no_progress refine mk_sound (tabs_of ?_))

theorem State.sendLctl_sound (x0 : State) (x1 : Nat) (x2 : Bool) (h0 : x0.Sound) : (State.sendLctl x0 x1 x2).Sound := by
  unfold State.sendLctl
  with_reducible (repeat' first | assumption | intro _ | apply ite_sound | apply State.emitPacket_sound | apply State.setPort_sound
                                | apply foldl_sound | split | dsimp only | fail_if_no_progress refine mk_sound (tabs_of ?_))

theorem State.corrupted_sound (x0 : State) (x1 : Nat) (h0 : x0.Sound) : (State.corrupted x0 x1).Sound := by
  unfold State.corrupted
  with_reducible (repeat' first | assumption | apply ite_sound | apply State.count_sound | apply State.sendLctl_sound | split
                                | dsimp only)

theorem State.enterUnsure_sound (x0 : State) (h0 : x0.Sound) : (State.enterUnsure x0).Sound := by
  unfold State.enterUnsure
  with_reducible (repeat' first | assumption | apply ite_sound | apply State.chooseRoot_sound | apply State.fabricEvent_sound
                                | apply State.count_sound | split | dsimp only | fail_if_no_progress refine mk_sound (tabs_of ?_))

theorem State.forward_sound (x0 : State) (x1 : Nat) (x2 : Sys2Proof.GPacket) (h0 : x0.Sound) : (State.forward x0 x1 x2).Sound := by
  unfold State.forward
  with_reducible (repeat' first | assumption | apply ite_sound | apply State.freeInput_sound | apply State.count_sound
                                | apply State.fabricPass_sound | split | dsimp only)

theorem State.gorcyLaneDown_sound (x0 : State) (x1 : Nat) (x2 : Nat) (h0 : x0.Sound) : (State.gorcyLaneDown x0 x1 x2).Sound := by
  unfold State.gorcyLaneDown
  with_reducible (repeat' first | assumption | apply ite_sound | apply State.failGorcyLane_sound | apply State.showPort_sound
                                | apply State.setPort_sound | split | dsimp only)

theorem State.gorcyLanesCleared_sound (x0 : State) (x1 : Nat) (x2 : List Nat) (h0 : x0.Sound)
    : (State.gorcyLanesCleared x0 x1 x2).Sound := by
  unfold State.gorcyLanesCleared
  with_reducible (repeat' first | assumption | intro _ | apply ite_sound | apply State.forgetFailures_sound | apply State.portOff_sound
                                | apply State.setPort_sound | apply forEach_sound | split | dsimp only)

theorem State.leasesCarried_sound (x0 : State) (h0 : x0.Sound) : (State.leasesCarried x0).Sound := by
  unfold State.leasesCarried
  with_reducible (repeat' first | assumption | dsimp only | fail_if_no_progress refine mk_sound (tabs_of ?_))

theorem State.portOn_sound (x0 : State) (x1 : Nat) (h0 : x0.Sound) : (State.portOn x0 x1).Sound := by
  unfold State.portOn
  with_reducible (repeat' first | assumption | apply ite_sound | apply State.setPort_sound | apply State.showPort_sound
                                | apply State.setObj_sound | split | dsimp only | fail_if_no_progress refine mk_sound (tabs_of ?_))

theorem State.helloOut_sound (x0 : State) (x1 : Nat) (h0 : x0.Sound) : (State.helloOut x0 x1).Sound := by
  unfold State.helloOut
  with_reducible (repeat' first | assumption | apply ite_sound | apply State.setPort_sound | apply State.portOn_sound
                                | apply State.emitPacket_sound | split | dsimp only | fail_if_no_progress refine mk_sound (tabs_of ?_))

theorem State.helloFlush_sound (x0 : State) (h0 : x0.Sound) : (State.helloFlush x0).Sound := by
  unfold State.helloFlush
  with_reducible (repeat' first | assumption | intro _ | apply ite_sound | apply State.leasesCarried_sound | apply State.helloOut_sound
                                | apply forEach_sound | split | dsimp only)

theorem State.noteEpoch_sound (x0 : State) (x1 : Nat) (x2 : Nat) (h0 : x0.Sound) : (State.noteEpoch x0 x1 x2).Sound := by
  unfold State.noteEpoch
  with_reducible (repeat' first | assumption | apply ite_sound | apply State.fabricEvent_sound | split | dsimp only
                                | fail_if_no_progress refine mk_sound (tabs_of ?_))

theorem State.unstall_sound (x0 : State) (x1 : Nat) (h0 : x0.Sound) : (State.unstall x0 x1).Sound := by
  unfold State.unstall
  with_reducible (repeat' first | assumption | intro _ | apply State.linkSend_sound | apply State.setPort_sound
                                | apply State.sendLctl_sound | apply forEach_sound | dsimp only
                                | fail_if_no_progress refine mk_sound (tabs_of ?_))

theorem State.wiring_sound (x0 : State) (x1 : Nat) (x2 : Nat) (x3 : List Sys2Proof.Byte) (h0 : x0.Sound)
    : (State.wiring x0 x1 x2 x3).Sound := by
  unfold State.wiring
  with_reducible (repeat' first | assumption | apply ite_sound | apply State.showPort_sound | apply State.setPort_sound
                                | apply State.fabricEvent_sound | apply State.count_sound | apply State.unstall_sound | split | dsimp only
                                | fail_if_no_progress refine mk_sound (tabs_of ?_))

theorem State.steer_sound (x0 : State) (x1 : Int) (h0 : x0.Sound) : (State.steer x0 x1).Sound := by
  unfold State.steer
  with_reducible (repeat' first | assumption | apply ite_sound | apply State.setObj_sound | split | dsimp only
                                | fail_if_no_progress refine mk_sound (tabs_of ?_))

theorem State.leaveUnsure_sound (x0 : State) (h0 : x0.Sound) : (State.leaveUnsure x0).Sound := by
  unfold State.leaveUnsure
  with_reducible (repeat' first | assumption | apply ite_sound | apply State.chooseRoot_sound | split | dsimp only
                                | fail_if_no_progress refine mk_sound (tabs_of ?_))

theorem State.measure_sound (x0 : State) (x1 : Nat) (x2 : Nat) (x3 : Nat) (x4 : Nat) (h0 : x0.Sound)
    : (State.measure x0 x1 x2 x3 x4).Sound := by
  unfold State.measure
  with_reducible (repeat' first | assumption | apply ite_sound | apply State.setPort_sound | apply State.steer_sound
                                | apply State.setObj_sound | apply State.enterUnsure_sound | apply State.leaveUnsure_sound | split
                                | dsimp only | fail_if_no_progress refine mk_sound (tabs_of ?_))

theorem State.showLeases_sound (x0 : State) (h0 : x0.Sound) : (State.showLeases x0).Sound := by
  unfold State.showLeases
  with_reducible (repeat' first | assumption | apply State.setObj_sound | dsimp only)

theorem State.leaseIn_sound (x0 : State) (x1 : Nat) (x2 : Nat) (x3 : Nat) (h0 : x0.Sound) : (State.leaseIn x0 x1 x2 x3).Sound := by
  unfold State.leaseIn
  with_reducible (repeat' first | assumption | intro _ | apply ite_sound | apply State.showLeases_sound | apply State.oweHello_sound
                                | apply State.leaseStale_sound | apply forEach_sound | split | dsimp only
                                | fail_if_no_progress refine mk_sound (tabs_of ?_))

theorem State.leaseAges_sound (x0 : State) (x1 : Nat) (h0 : x0.Sound) : (State.leaseAges x0 x1).Sound := by
  unfold State.leaseAges
  with_reducible (repeat' first | assumption | apply ite_sound | apply State.showLeases_sound | split | dsimp only
                                | fail_if_no_progress refine mk_sound (tabs_of ?_))

theorem State.helloIn_sound (x0 : State) (x1 : Nat) (x2 : Sys2Proof.GPacket) (h0 : x0.Sound) : (State.helloIn x0 x1 x2).Sound := by
  unfold State.helloIn
  with_reducible (repeat' first | assumption | intro _ | apply ite_sound | apply State.setPort_sound | apply State.chooseRoot_sound
                                | apply State.noteEpoch_sound | apply State.wiring_sound | apply State.portOn_sound
                                | apply State.measure_sound | apply State.leaseIn_sound | apply State.leaseAges_sound
                                | apply forEach_sound | split | dsimp only | fail_if_no_progress refine mk_sound (tabs_of ?_))

theorem State.replayFails_sound (x0 : State) (x1 : Nat) (h0 : x0.Sound) : (State.replayFails x0 x1).Sound := by
  unfold State.replayFails
  with_reducible (repeat' first | assumption | apply ite_sound | apply State.failGorcyLane_sound | apply State.portOff_sound | split
                                | dsimp only)

theorem State.replay_sound (x0 : State) (x1 : Nat) (h0 : x0.Sound) : (State.replay x0 x1).Sound := by
  unfold State.replay
  with_reducible (repeat' first | assumption | intro _ | apply ite_sound | apply State.count_sound | apply State.emitPacket_sound
                                | apply State.setPort_sound | apply State.replayFails_sound | apply forEach_sound | split | dsimp only
                                | fail_if_no_progress refine mk_sound (tabs_of ?_))

theorem State.lctlIn_sound (x0 : State) (x1 : Nat) (x2 : Sys2Proof.GPacket) (h0 : x0.Sound) : (State.lctlIn x0 x1 x2).Sound := by
  unfold State.lctlIn
  with_reducible (repeat' first | assumption | apply ite_sound | apply State.setPort_sound | apply State.unstall_sound
                                | apply State.replay_sound | split | dsimp only | fail_if_no_progress refine mk_sound (tabs_of ?_))

theorem State.releasePeer_sound (x0 : State) (x1 : Peer) (h0 : x0.Sound) : (State.releasePeer x0 x1).Sound := by
  unfold State.releasePeer
  with_reducible (repeat' first | assumption | apply State.setEq_sound | apply State.deleteSq_sound | apply State.count_sound
                                | apply State.showQueues_sound | dsimp only | fail_if_no_progress refine mk_sound (tabs_of ?_))

theorem State.peerIdle_sound (x0 : State) (x1 : Nat) (h0 : x0.Sound) : (State.peerIdle x0 x1).Sound := by
  unfold State.peerIdle
  with_reducible (repeat' first | assumption | apply ite_sound | apply State.releasePeer_sound | split | dsimp only)

theorem State.linkAccept_sound (x0 : State) (x1 : Nat) (x2 : Sys2Proof.GPacket) (h0 : x0.Sound) : (State.linkAccept x0 x1 x2).Sound := by
  unfold State.linkAccept
  with_reducible (repeat' first | assumption | apply ite_sound | apply State.setPort_sound | apply State.freeInput_sound
                                | apply State.sendLctl_sound | apply State.peerIdle_sound | apply State.noteEpoch_sound | split
                                | dsimp only | fail_if_no_progress refine mk_sound (tabs_of ?_))

theorem State.linkTake_sound (x0 : State) (x1 : Nat) (x2 : Sys2Proof.GPacket) (h0 : x0.Sound) : (State.linkTake x0 x1 x2).1.Sound := by
  unfold State.linkTake
  with_reducible (repeat' first | assumption | apply ite_sound | apply State.corrupted_sound | apply State.linkAccept_sound
                                | apply State.sendLctl_sound | split | dsimp only)

theorem State.packetFor_sound (x0 : State) (x1 : Nat) (x2 : Nat) (x3 : Sys2Proof.GPacket) (x4 : State → State) (h0 : x0.Sound)
    (h4 : ∀ (a0 : State), a0.Sound → (x4 a0).Sound) : (State.packetFor x0 x1 x2 x3 x4).Sound := by
  unfold State.packetFor
  refine ite_sound h0 ?_
  have h1 := State.linkTake_sound x0 x1 x3 h0
  generalize State.linkTake x0 x1 x3 = p at h1 ⊢
  obtain ⟨s1, ok⟩ := p
  exact ite_sound h1 (ite_sound (h4 _ h1) (State.forward_sound _ _ _ h1))

theorem State.parentTimeout_sound (x0 : State) (h0 : x0.Sound) : (State.parentTimeout x0).Sound := by
  unfold State.parentTimeout
  with_reducible (repeat' first | assumption | apply ite_sound | apply State.enterUnsure_sound | split | dsimp only)

theorem State.portSignal_sound (x0 : State) (x1 : Nat) (h0 : x0.Sound) : (State.portSignal x0 x1).Sound := by
  unfold State.portSignal
  with_reducible (repeat' first | assumption | apply ite_sound | apply State.sendPair_sound | apply State.setPort_sound | split
                                | dsimp only | fail_if_no_progress refine mk_sound (tabs_of ?_))

theorem State.portTimeout_sound (x0 : State) (x1 : Nat) (h0 : x0.Sound) : (State.portTimeout x0 x1).Sound := by
  unfold State.portTimeout
  with_reducible (repeat' first | assumption | apply ite_sound | apply State.portOff_sound | apply State.setPort_sound | split
                                | dsimp only | fail_if_no_progress refine mk_sound (tabs_of ?_))

theorem State.replayDue_sound (x0 : State) (x1 : Nat) (h0 : x0.Sound) : (State.replayDue x0 x1).Sound := by
  unfold State.replayDue
  with_reducible (repeat' first | assumption | apply ite_sound | apply State.replay_sound | split | dsimp only)

theorem onPort_sound (x0 : Nat) (x1 : State) (x2 : State → State) (h1 : x1.Sound) (h2 : ∀ (a0 : State), a0.Sound → (x2 a0).Sound)
    : (onPort x0 x1 x2).Sound := by
  unfold onPort; split; exact h2 _ h1; exact h1

theorem State.addPeer_sound (x0 : State) (x1 : Nat) (x2 : Nat) (x3 : Nat) (h0 : x0.Sound) : (State.addPeer x0 x1 x2 x3).Sound := by
  unfold State.addPeer
  with_reducible (repeat' first | assumption | apply State.setEq_sound | apply State.setSq_sound | apply State.showQueues_sound
                                | dsimp only | fail_if_no_progress refine mk_sound (tabs_of ?_))

theorem State.queuePacket_sound (x0 : State) (x1 : Nat) (x2 : Sys2Proof.Packet) (x3 : Nat) (h0 : x0.Sound)
    : (State.queuePacket x0 x1 x2 x3).Sound := by
  unfold State.queuePacket
  with_reducible (repeat' first | assumption | apply State.setSq_sound | dsimp only | fail_if_no_progress refine mk_sound (tabs_of ?_))

theorem State.refusePeer_sound (x0 : State) (x1 : Nat) (x2 : Sys2Proof.Packet) (h0 : x0.Sound) : (State.refusePeer x0 x1 x2).Sound := by
  unfold State.refusePeer
  with_reducible (repeat' first | assumption | apply State.condition_sound | apply State.count_sound | apply State.sendPacket_sound
                                | dsimp only | fail_if_no_progress refine mk_sound (tabs_of ?_))

theorem State.cmdIn_sound (x0 : State) (x1 : Nat) (x2 : Sys2Proof.GPacket) (h0 : x0.Sound) : (State.cmdIn x0 x1 x2).Sound := by
  unfold State.cmdIn
  with_reducible (repeat' first | assumption | apply ite_sound | apply State.queuePacket_sound | apply State.addPeer_sound
                                | apply State.refusePeer_sound | split | dsimp only)

theorem State.copyExpires_sound (x0 : State) (x1 : Nat) (h0 : x0.Sound) : (State.copyExpires x0 x1).Sound := by
  unfold State.copyExpires
  with_reducible (repeat' first | assumption | apply ite_sound | apply State.settleCopy_sound | split | dsimp only)

theorem State.sendCmd_sound (x0 : State) (x1 : Nat) (x2 : Nat) (h0 : x0.Sound) : (State.sendCmd x0 x1 x2).Sound := by
  unfold State.sendCmd
  with_reducible (repeat' first | assumption | apply State.sendPacket_sound | dsimp only)

theorem State.updCopy_sound (x0 : State) (x1 : Nat) (x2 : Copy → Copy) (h0 : x0.Sound) : (State.updCopy x0 x1 x2).Sound := by
  unfold State.updCopy
  with_reducible (repeat' first | assumption | apply ite_sound | split | dsimp only | fail_if_no_progress refine mk_sound (tabs_of ?_))

theorem State.copyAbort_sound (x0 : State) (x1 : Nat) (h0 : x0.Sound) : (State.copyAbort x0 x1).Sound := by
  unfold State.copyAbort
  with_reducible (repeat' first | assumption | apply getD_sound | apply State.copyExpires_sound | apply State.takeFree_sound
                                | apply State.sendCmd_sound | apply State.updCopy_sound | split | dsimp only
                                | fail_if_no_progress refine mk_sound (tabs_of ?_) | refine fst_sound (by assumption) ?_
                                | refine snd_sound (by assumption) ?_)

theorem State.copyReady_sound (x0 : State) (x1 : Copy) (x2 : Nat) (h0 : x0.Sound) : (State.copyReady x0 x1 x2).Sound := by
  unfold State.copyReady
  with_reducible (repeat' first | assumption | apply State.setCmds_sound | apply State.updCopy_sound | apply State.startReads_sound
                                | dsimp only | fail_if_no_progress refine mk_sound (tabs_of ?_))

theorem State.copyStart_sound (x0 : State) (x1 : Nat) (h0 : x0.Sound) : (State.copyStart x0 x1).1.Sound := by
  unfold State.copyStart
  with_reducible (repeat' first | assumption | apply ite_sound | apply State.copyExpires_sound | apply State.settleCopy_sound
                                | apply State.sendCmd_sound | apply State.setObj_sound | split | dsimp only
                                | fail_if_no_progress refine mk_sound (tabs_of ?_))

theorem State.peerRecord_sound (x0 : State) (x1 : Nat) (x2 : Nat) (h0 : x0.Sound) : (State.peerRecord x0 x1 x2).Sound := by
  unfold State.peerRecord
  with_reducible (repeat' first | assumption | apply ite_sound | apply State.updCopy_sound | apply State.settleCopy_sound
                                | apply State.copyReady_sound | split | dsimp only | fail_if_no_progress refine mk_sound (tabs_of ?_))

theorem State.eventIn_sound (x0 : State) (x1 : Nat) (x2 : Sys2Proof.GPacket) (h0 : x0.Sound) : (State.eventIn x0 x1 x2).Sound := by
  unfold State.eventIn
  with_reducible (repeat' first | assumption | intro _ | apply ite_sound | apply State.peerRecord_sound | apply State.copyExpires_sound
                                | apply State.sendPacket_sound | apply forEach_sound | split | dsimp only
                                | fail_if_no_progress refine mk_sound (tabs_of ?_))

theorem State.fenceAckIn_sound (x0 : State) (x1 : Sys2Proof.GPacket) (h0 : x0.Sound) : (State.fenceAckIn x0 x1).Sound := by
  unfold State.fenceAckIn
  with_reducible (repeat' first | assumption | apply ite_sound | apply State.complete_sound | split | dsimp only)

theorem State.putFence_sound (x0 : State) (x1 : FenceIn) (h0 : x0.Sound) : (State.putFence x0 x1).Sound := by
  unfold State.putFence
  with_reducible (repeat' first | assumption | apply ite_sound | apply State.sendReply_sound | split | dsimp only
                                | fail_if_no_progress refine mk_sound (tabs_of ?_))

theorem State.fenceIn_sound (x0 : State) (x1 : Sys2Proof.GPacket) (h0 : x0.Sound) : (State.fenceIn x0 x1).Sound := by
  unfold State.fenceIn
  with_reducible (repeat' first | assumption | apply State.putFence_sound | dsimp only | fail_if_no_progress refine mk_sound (tabs_of ?_))

theorem State.fetchRepIn_sound (x0 : State) (x1 : Sys2Proof.GPacket) (h0 : x0.Sound) : (State.fetchRepIn x0 x1).Sound := by
  unfold State.fetchRepIn
  with_reducible (repeat' first | assumption | apply ite_sound | apply State.stepFailed_sound | apply State.acceptSector_sound | split
                                | dsimp only)

theorem State.fetchReqIn_sound (x0 : State) (x1 : Sys2Proof.GPacket) (h0 : x0.Sound) : (State.fetchReqIn x0 x1).Sound := by
  unfold State.fetchReqIn
  with_reducible (repeat' first | assumption | apply getD_sound | apply ite_sound | apply State.fetchStatus_sound
                                | apply State.addSector_sound | split | dsimp only | fail_if_no_progress refine mk_sound (tabs_of ?_))

theorem State.peerHead_sound (x0 : State) (x1 : Nat) (x2 : Nat) (h0 : x0.Sound) : (State.peerHead x0 x1 x2).Sound := by
  unfold State.peerHead
  with_reducible (repeat' first | assumption | apply ite_sound | apply State.drainEq_sound | apply State.setEq_sound
                                | apply State.count_sound | split | dsimp only | fail_if_no_progress refine mk_sound (tabs_of ?_))

theorem State.remoteWrite_sound (x0 : State) (x1 : Nat) (x2 : Nat) (x3 : List Sys2Proof.Byte) (h0 : x0.Sound)
    : (State.remoteWrite x0 x1 x2 x3).1.Sound := by
  unfold State.remoteWrite
  with_reducible (repeat' first | assumption | apply ite_sound | apply State.bar2Write_sound | apply State.granules__sound | split
                                | dsimp only | refine fst_sound (by assumption) ?_ | refine snd_sound (by assumption) ?_)

theorem State.writeDataIn_sound (x0 : State) (x1 : Sys2Proof.GPacket) (h0 : x0.Sound) : (State.writeDataIn x0 x1).Sound := by
  unfold State.writeDataIn
  with_reducible (repeat' first | assumption | apply ite_sound | apply State.remoteWrite_sound | apply State.grantsExpire_sound
                                | apply State.putFence_sound | apply State.count_sound | split | dsimp only
                                | fail_if_no_progress refine mk_sound (tabs_of ?_) | refine fst_sound (by assumption) ?_
                                | refine snd_sound (by assumption) ?_)

theorem State.updateState_sound (x0 : State) (x1 : Nat) (h0 : x0.Sound) : (State.updateState x0 x1).Sound := by
  unfold State.updateState
  with_reducible (repeat' first | assumption | apply State.condition_sound | apply State.setObj_sound | dsimp only)

theorem State.setUpd_sound (x0 : State) (x1 : UpdateStep) (h0 : x0.Sound) : (State.setUpd x0 x1).Sound := by
  unfold State.setUpd
  with_reducible (repeat' first | assumption | dsimp only | fail_if_no_progress refine mk_sound (tabs_of ?_))

theorem State.abortUpdate_sound (x0 : State) (x1 : Nat) (h0 : x0.Sound) : (State.abortUpdate x0 x1).Sound := by
  unfold State.abortUpdate
  with_reducible (repeat' first | assumption | apply State.updateState_sound | apply State.count_sound | apply State.setObj_sound
                                | apply State.setUpd_sound | dsimp only)

theorem State.bootSlot_sound (x0 : State) (x1 : Nat) (h0 : x0.Sound) : (State.bootSlot x0 x1).Sound := by
  unfold State.bootSlot
  with_reducible (repeat' first | assumption | apply ite_sound | split | dsimp only | fail_if_no_progress refine mk_sound (tabs_of ?_))

theorem State.loseToken_sound (x0 : State) (h0 : x0.Sound) : (State.loseToken x0).Sound := by
  unfold State.loseToken
  with_reducible (repeat' first | assumption | apply State.count_sound | apply State.setObj_sound | apply State.condition_sound
                                | dsimp only | fail_if_no_progress refine mk_sound (tabs_of ?_))

theorem State.passed_sound (x0 : State) (h0 : x0.Sound) : (State.passed x0).Sound := by
  unfold State.passed
  with_reducible (repeat' first | assumption | apply ite_sound | apply State.condition_sound | apply State.count_sound | split
                                | dsimp only)

theorem State.setShroud_sound (x0 : State) (x1 : Sys2Proof.Shroud) (x2 : Nat) (h0 : x0.Sound) : (State.setShroud x0 x1 x2).Sound := by
  unfold State.setShroud
  with_reducible (repeat' first | assumption | apply ite_sound | apply State.setObj_sound | split | dsimp only
                                | fail_if_no_progress refine mk_sound (tabs_of ?_))

theorem State.takeToken_sound (x0 : State) (x1 : Sys2Proof.Shroud) (h0 : x0.Sound) : (State.takeToken x0 x1).Sound := by
  unfold State.takeToken
  with_reducible (repeat' first | assumption | intro _ | apply State.setShroud_sound | apply State.setObj_sound
                                | apply State.updServo_sound | apply forEach_sound | dsimp only
                                | fail_if_no_progress refine mk_sound (tabs_of ?_))

theorem State.plannedPass_sound (x0 : State) (x1 : Sys2Proof.Shroud) (h0 : x0.Sound) : (State.plannedPass x0 x1).Sound := by
  unfold State.plannedPass
  with_reducible (repeat' first | assumption | apply State.passed_sound | apply State.takeToken_sound | apply State.setShroud_sound
                                | dsimp only)

theorem State.observed_sound (x0 : State) (h0 : x0.Sound) : (State.observed x0).Sound := by
  unfold State.observed
  with_reducible (repeat' first | assumption | apply ite_sound | apply State.plannedPass_sound | apply State.updateState_sound
                                | apply State.setUpd_sound | apply State.setShroud_sound | split | dsimp only)

theorem State.runImage_sound (x0 : State) (x1 : Nat) (h0 : x0.Sound) : (State.runImage x0 x1).Sound := by
  unfold State.runImage
  with_reducible (repeat' first | assumption | apply State.setBlob_sound | apply State.setObj_sound | dsimp only)

theorem State.setImage_sound (x0 : State) (x1 : Sys2Proof.Shroud) (x2 : Nat) (h0 : x0.Sound) : (State.setImage x0 x1 x2).Sound := by
  unfold State.setImage
  with_reducible (repeat' first | assumption | split | dsimp only | fail_if_no_progress refine mk_sound (tabs_of ?_))

theorem State.updateFailure_sound (x0 : State) (x1 : Sys2Proof.Shroud) (h0 : x0.Sound) : (State.updateFailure x0 x1).Sound := by
  unfold State.updateFailure
  with_reducible (repeat' first | assumption | apply ite_sound | apply State.abortUpdate_sound | apply State.runImage_sound
                                | apply State.setImage_sound | split | dsimp only)

theorem State.selfCheck_sound (x0 : State) (x1 : Sys2Proof.Shroud) (h0 : x0.Sound) : (State.selfCheck x0 x1).Sound := by
  unfold State.selfCheck
  with_reducible (repeat' first | assumption | apply ite_sound | apply State.failShroud_sound | apply State.count_sound
                                | apply State.setShroud_sound | apply State.passed_sound | apply State.takeToken_sound
                                | apply State.loseToken_sound | apply State.updateFailure_sound | split | dsimp only)

theorem State.updateDone_sound (x0 : State) (h0 : x0.Sound) : (State.updateDone x0).Sound := by
  unfold State.updateDone
  with_reducible (repeat' first | assumption | apply State.updateState_sound | apply State.count_sound | apply State.setUpd_sound
                                | dsimp only)

theorem State.shroudLoaded_sound (x0 : State) (x1 : Sys2Proof.Shroud) (x2 : Bool) (h0 : x0.Sound)
    : (State.shroudLoaded x0 x1 x2).Sound := by
  unfold State.shroudLoaded
  with_reducible (repeat' first | assumption | apply ite_sound | apply State.abortUpdate_sound | apply State.updateState_sound
                                | apply State.setShroud_sound | apply State.setImage_sound | apply State.runImage_sound
                                | apply State.plannedPass_sound | apply State.updateDone_sound | apply State.failShroud_sound
                                | apply State.setObj_sound | apply State.bootSlot_sound | split | dsimp only
                                | fail_if_no_progress refine mk_sound (tabs_of ?_))

theorem State.tokenDue_sound (x0 : State) (h0 : x0.Sound) : (State.tokenDue x0).Sound := by
  unfold State.tokenDue
  with_reducible (repeat' first | assumption | apply ite_sound | apply State.takeToken_sound | apply State.passed_sound
                                | apply State.loseToken_sound | split | dsimp only)

theorem State.shroudTested_sound (x0 : State) (x1 : Sys2Proof.Shroud) (x2 : Bool) (h0 : x0.Sound)
    : (State.shroudTested x0 x1 x2).Sound := by
  unfold State.shroudTested
  with_reducible (repeat' first | assumption | apply ite_sound | apply State.setShroud_sound | apply State.retireShroud_sound
                                | apply State.tokenDue_sound | split | dsimp only)

theorem State.updateStart_sound (x0 : State) (x1 : Nat) (h0 : x0.Sound) : (State.updateStart x0 x1).Sound := by
  unfold State.updateStart
  with_reducible (repeat' first | assumption | apply State.updateState_sound | apply State.setShroud_sound | dsimp only
                                | fail_if_no_progress refine mk_sound (tabs_of ?_))

theorem State.countRefused_sound (x0 : State) (x1 : AccErr) (h0 : x0.Sound) : (State.countRefused x0 x1).Sound := by
  unfold State.countRefused
  with_reducible (repeat' first | assumption | apply ite_sound | apply State.count_sound | split | dsimp only)

theorem State.setUnit_sound (x0 : State) (x1 : Nat) (x2 : CvUnit) (h0 : x0.Sound) : (State.setUnit x0 x1 x2).Sound := by
  unfold State.setUnit
  with_reducible (repeat' first | assumption | dsimp only | fail_if_no_progress refine mk_sound (tabs_of ?_))

theorem State.lanesCleared_sound (x0 : State) (x1 : Nat) (x2 : List Nat) (h0 : x0.Sound) : (State.lanesCleared x0 x1 x2).Sound := by
  unfold State.lanesCleared
  with_reducible (repeat' first | assumption | intro _ | apply ite_sound | apply State.forgetFailures_sound | apply State.setLane_sound
                                | apply State.showLanes_sound | apply State.updLink_sound | apply forEach_sound | split | dsimp only
                                | fail_if_no_progress refine mk_sound (tabs_of ?_))

theorem State.helloAll_sound (x0 : State) (h0 : x0.Sound) : (State.helloAll x0).Sound := by
  unfold State.helloAll
  with_reducible (repeat' first | assumption | apply State.helloFlush_sound | apply State.oweHello_sound | dsimp only)

theorem State.leaseWritten_sound (x0 : State) (x1 : Nat) (h0 : x0.Sound) : (State.leaseWritten x0 x1).Sound := by
  unfold State.leaseWritten
  with_reducible (repeat' first | assumption | apply State.helloAll_sound | apply State.showLeases_sound | apply State.showLease_sound
                                | dsimp only)

theorem State.sledCleared_sound (x0 : State) (x1 : Nat) (h0 : x0.Sound) : (State.sledCleared x0 x1).Sound := by
  unfold State.sledCleared
  with_reducible (repeat' first | assumption | apply ite_sound | apply State.updLink_sound | apply State.forgetFailures_sound
                                | apply State.setMastState_sound | apply State.unreference_sound | split | dsimp only
                                | fail_if_no_progress refine mk_sound (tabs_of ?_))

theorem State.actMast_sound (x0 : State) (x1 : State) (x2 : Nat) (x3 : Nat) (x4 : Wr) (h0 : x0.Sound) (h1 : x1.Sound)
    : (State.actMast x0 x1 x2 x3 x4).Sound := by
  unfold State.actMast
  with_reducible (repeat' first | assumption | intro _ | apply getD_sound | apply ite_sound | apply State.lanesCleared_sound
                                | apply State.commitBlocks_sound | apply State.clearFlags_sound | apply State.traceArm_sound
                                | apply State.traceStop_sound | apply State.traceFire_sound | apply State.servoSailMode_sound
                                | apply State.calStart_sound | apply State.leaseWritten_sound | apply State.forgetFailures_sound
                                | apply State.sledCleared_sound | apply State.setMo_sound | apply forEach_sound | split | dsimp only)

theorem State.loadDefaults_sound (x0 : State) (h0 : x0.Sound) : (State.loadDefaults x0).Sound := by
  unfold State.loadDefaults
  refine State.requestSave_sound _ _ (State.helloAll_sound _ (State.chooseRoot_sound _ (forEach_sound _ _ _ (fun _ _ h => State.updServo_sound _ _ _ h) ?_)))
  simp only [State.Sound, State.tables, Bool.and_eq_true] at h0 ⊢
  exact ⟨⟨tblDrop_wf _ _ _ h0.1.1, tblDrop_wf _ _ _ h0.1.2⟩, h0.2⟩

theorem State.engineChanged_sound (x0 : State) (x1 : Nat) (h0 : x0.Sound) : (State.engineChanged x0 x1).Sound := by
  unfold State.engineChanged
  with_reducible (repeat' first | assumption | apply State.showEngine_sound | apply State.givePages_sound | apply State.setEngine_sound
                                | dsimp only | fail_if_no_progress refine mk_sound (tabs_of ?_))

theorem State.enginesCleared_sound (x0 : State) (x1 : List Nat) (h0 : x0.Sound) : (State.enginesCleared x0 x1).Sound := by
  unfold State.enginesCleared
  with_reducible (repeat' first | assumption | intro _ | apply State.showEngine_sound | apply State.setEngine_sound
                                | apply State.forgetFailures_sound | apply State.showEngines_sound | apply forEach_sound | dsimp only
                                | fail_if_no_progress refine mk_sound (tabs_of ?_))

theorem State.actUnit_sound (x0 : State) (x1 : State) (x2 : Nat) (x3 : Wr) (h0 : x0.Sound) (h1 : x1.Sound)
    : (State.actUnit x0 x1 x2 x3).Sound := by
  unfold State.actUnit
  with_reducible (repeat' first | assumption | apply ite_sound | apply State.setUnit_sound | split | dsimp only
                                | fail_if_no_progress refine mk_sound (tabs_of ?_))

theorem State.mastCleared_sound (x0 : State) (x1 : Nat) (h0 : x0.Sound) : (State.mastCleared x0 x1).Sound := by
  unfold State.mastCleared
  with_reducible (repeat' first | assumption | apply State.forgetFailures_sound | apply State.updMast_sound
                                | apply State.setMastState_sound | apply State.sendPrbs_sound | apply State.showLanes_sound
                                | apply State.setLinkSt_sound | dsimp only | fail_if_no_progress refine mk_sound (tabs_of ?_))

theorem State.epRelease_sound (x0 : State) (x1 : Sys2Proof.Endpoint) (h0 : x0.Sound) : (State.epRelease x0 x1).Sound := by
  unfold State.epRelease
  with_reducible (repeat' first | assumption | apply ite_sound | apply State.linkOff_sound | split | dsimp only)

theorem State.clearGroup_sound (x0 : State) (x1 : Nat) (h0 : x0.Sound) : (State.clearGroup x0 x1).Sound := by
  unfold State.clearGroup; split
  · refine forEach_sound _ _ _ (fun _ _ h => State.setObj_sound _ _ _ h) ?_
    simp only [State.Sound, State.tables, Bool.and_eq_true] at h0 ⊢
    exact ⟨⟨tblDrop_wf _ _ _ h0.1.1, h0.1.2⟩, h0.2⟩
  · exact h0

theorem State.decodersCleared_sound (x0 : State) (x1 : List Nat) (h0 : x0.Sound) : (State.decodersCleared x0 x1).Sound := by
  unfold State.decodersCleared
  with_reducible (repeat' first | assumption | intro _ | apply State.setDecoder_sound | apply State.forgetFailures_sound
                                | apply State.setObj_sound | apply forEach_sound | dsimp only
                                | fail_if_no_progress refine mk_sound (tabs_of ?_))

theorem State.actRig_sound (x0 : State) (x1 : State) (x2 : WEnv) (x3 : Wr) (h0 : x0.Sound) (h1 : x1.Sound)
    : (State.actRig x0 x1 x2 x3).Sound := by
  unfold State.actRig
  with_reducible (repeat' first | assumption | intro _ | apply ite_sound | apply State.requestSave_sound | apply State.loadDefaults_sound
                                | apply State.helloAll_sound | apply State.chooseRoot_sound | apply State.setObj_sound
                                | apply State.gorcyLanesCleared_sound | apply State.copyStart_sound | apply State.copyAbort_sound
                                | apply State.channelsCleared_sound | apply State.dropWays_sound | apply State.forgetFailures_sound
                                | apply State.maintain_sound | apply State.remapCleared_sound | apply State.engineChanged_sound
                                | apply State.beginLoad_sound | apply State.enginesCleared_sound | apply State.actUnit_sound
                                | apply State.plannedPass_sound | apply State.mastCleared_sound | apply State.epRelease_sound
                                | apply State.setShroud_sound | apply State.clearGroup_sound | apply State.decodersCleared_sound
                                | apply State.updateStart_sound | apply forEach_sound | apply foldl_sound | split | dsimp only
                                | fail_if_no_progress refine mk_sound (tabs_of ?_) | refine fst_sound (by assumption) ?_
                                | refine snd_sound (by assumption) ?_)

theorem State.act1_sound (x0 : State) (x1 : WEnv) (x2 : Wr) (x3 : State) (h0 : x0.Sound) (h3 : x3.Sound)
    : (State.act1 x0 x1 x2 x3).Sound := by
  unfold State.act1
  with_reducible (repeat' first | assumption | apply ite_sound | apply State.actMast_sound | apply State.setObj_sound
                                | apply State.actRig_sound | split | dsimp only)

theorem State.store1_sound (x0 : State) (x1 : Wr) (h0 : x0.Sound) : (State.store1 x0 x1).Sound := by
  unfold State.store1
  with_reducible (repeat' first | assumption | apply ite_sound | apply State.clearCounter_sound | apply State.setObj_sound
                                | apply State.setBlob_sound | split | dsimp only | fail_if_no_progress refine mk_sound (tabs_of ?_))

theorem State.applyWrites_sound (x0 : State) (x1 : WEnv) (x2 : List Wr) (h0 : x0.Sound) : (State.applyWrites x0 x1 x2).Sound := by
  unfold State.applyWrites
  with_reducible (repeat' first | assumption | intro _ | apply getD_sound | apply ite_sound | apply State.keepSteps_sound
                                | apply State.store1_sound | apply State.setObj_sound | apply State.act1_sound
                                | apply State.requestSave_sound | apply forEach_sound | split | dsimp only
                                | fail_if_no_progress refine mk_sound (tabs_of ?_))

theorem State.writeObj_sound (x0 : State) (x1 : Sys2Proof.Path) (x2 : WEnv) (x3 : Nat) (x4 : Nat) (x5 : Bool) (x6 : List Sys2Proof.Byte)
    (h0 : x0.Sound) : (State.writeObj x0 x1 x2 x3 x4 x5 x6).1.Sound := by
  unfold State.writeObj
  with_reducible (repeat' first | assumption | apply State.countRefused_sound | apply State.applyWrites_sound
                                | apply State.refuseLoad_sound | split | dsimp only)

theorem State.pathWrite_sound (x0 : State) (x1 : Sys2Proof.Path) (x2 : WEnv) (x3 : Nat) (x4 : Nat) (x5 : Nat) (x6 : Nat) (h0 : x0.Sound)
    : (State.pathWrite x0 x1 x2 x3 x4 x5 x6).Sound := by
  unfold State.pathWrite
  with_reducible (repeat' first | assumption | apply ite_sound | apply State.writeObj_sound | split | dsimp only
                                | refine fst_sound (by assumption) ?_ | refine snd_sound (by assumption) ?_)

theorem State.duplicate_sound (x0 : State) (x1 : Nat) (x2 : Nat) (x3 : Nat) (x4 : DupEntry) (h0 : x0.Sound)
    : (State.duplicate x0 x1 x2 x3 x4).Sound := by
  unfold State.duplicate
  with_reducible (repeat' first | assumption | apply ite_sound | apply State.count_sound | apply State.postCompletion_sound
                                | apply State.setCmds_sound | split | dsimp only | fail_if_no_progress refine mk_sound (tabs_of ?_))

theorem State.enter_sound (x0 : State) (x1 : Nat) (x2 : Sys2Proof.Packet) (h0 : x0.Sound) : (State.enter x0 x1 x2).2.Sound := by
  unfold State.enter
  with_reducible (repeat' first | assumption | apply ite_sound | apply State.setSq_sound | apply State.ltrUpdate_sound | split
                                | dsimp only | fail_if_no_progress refine mk_sound (tabs_of ?_))

theorem State.stage_sound (x0 : State) (x1 : Nat) (x2 : Stage) (h0 : x0.Sound) : (State.stage x0 x1 x2).Sound := by
  unfold State.stage
  with_reducible (repeat' first | assumption | apply State.updCmd_sound | dsimp only | fail_if_no_progress refine mk_sound (tabs_of ?_))

theorem State.runRead_sound (x0 : State) (x1 : Cmd) (h0 : x0.Sound) : (State.runRead x0 x1).Sound := by
  unfold State.runRead
  with_reducible (repeat' first | assumption | apply ite_sound | apply State.stage_sound | apply State.startReads_sound | split
                                | dsimp only)

theorem State.startRead_sound (x0 : State) (x1 : Cmd) (h0 : x0.Sound) : (State.startRead x0 x1).Sound := by
  unfold State.startRead
  with_reducible (repeat' first | assumption | apply ite_sound | apply State.stage_sound | apply State.failCmd_sound
                                | apply State.loseMap_sound | apply State.needRead_sound | apply State.runRead_sound | split | dsimp only)

theorem State.startWrite_sound (x0 : State) (x1 : Cmd) (h0 : x0.Sound) : (State.startWrite x0 x1).Sound := by
  unfold State.startWrite
  with_reducible (repeat' first | assumption | apply ite_sound | apply State.complete_sound | apply State.grant_sound
                                | apply State.stage_sound | split | dsimp only | fail_if_no_progress refine mk_sound (tabs_of ?_))

theorem State.startFlush_sound (x0 : State) (x1 : Cmd) (h0 : x0.Sound) : (State.startFlush x0 x1).Sound := by
  unfold State.startFlush
  with_reducible (repeat' first | assumption | apply ite_sound | apply State.closeRec_sound | apply State.complete_sound
                                | apply State.updCmd_sound | split | dsimp only | fail_if_no_progress refine mk_sound (tabs_of ?_))

theorem State.startAbort_sound (x0 : State) (x1 : Cmd) (h0 : x0.Sound) : (State.startAbort x0 x1).Sound := by
  unfold State.startAbort
  with_reducible (repeat' first | assumption | apply ite_sound | apply State.complete_sound | apply State.settle_sound
                                | apply State.updCmd_sound | split | dsimp only | fail_if_no_progress refine mk_sound (tabs_of ?_)
                                | refine fst_sound (by assumption) ?_ | refine snd_sound (by assumption) ?_)

theorem State.startDictRead_sound (x0 : State) (x1 : Cmd) (h0 : x0.Sound) : (State.startDictRead x0 x1).Sound := by
  unfold State.startDictRead
  with_reducible (repeat' first | assumption | apply ite_sound | apply State.complete_sound | apply State.countRefused_sound
                                | apply State.finishData_sound | apply State.updCmd_sound | apply State.tlp_sound | split | dsimp only
                                | fail_if_no_progress refine mk_sound (tabs_of ?_))

theorem State.dictApply_sound (x0 : State) (x1 : Nat) (x2 : List Sys2Proof.Byte) (h0 : x0.Sound) : (State.dictApply x0 x1 x2).Sound := by
  unfold State.dictApply
  with_reducible (repeat' first | assumption | apply ite_sound | apply State.writeObj_sound | apply State.complete_sound
                                | apply State.stage_sound | split | dsimp only | fail_if_no_progress refine mk_sound (tabs_of ?_)
                                | refine fst_sound (by assumption) ?_ | refine snd_sound (by assumption) ?_)

theorem State.startDictWrite_sound (x0 : State) (x1 : Cmd) (h0 : x0.Sound) : (State.startDictWrite x0 x1).Sound := by
  unfold State.startDictWrite
  with_reducible (repeat' first | assumption | apply ite_sound | apply State.dictApply_sound | apply State.needRead_sound
                                | apply State.stage_sound | split | dsimp only)

theorem State.startMount_sound (x0 : State) (x1 : Cmd) (h0 : x0.Sound) : (State.startMount x0 x1).Sound := by
  unfold State.startMount
  with_reducible (repeat' first | assumption | intro _ | apply ite_sound | apply State.complete_sound | apply State.updMast_sound
                                | apply State.stage_sound | apply State.logAnew_sound | apply State.setObj_sound | apply forEach_sound
                                | split | dsimp only | fail_if_no_progress refine mk_sound (tabs_of ?_))

theorem State.unmounted_sound (x0 : State) (x1 : Nat) (h0 : x0.Sound) : (State.unmounted x0 x1).Sound := by
  unfold State.unmounted
  with_reducible (repeat' first | assumption | apply State.setMo_sound | apply State.mapUnmount_sound | apply State.dropSectors_sound
                                | apply State.updMast_sound | apply State.updOpt_sound | dsimp only
                                | fail_if_no_progress refine mk_sound (tabs_of ?_))

theorem State.startUnmount_sound (x0 : State) (x1 : Cmd) (h0 : x0.Sound) : (State.startUnmount x0 x1).Sound := by
  unfold State.startUnmount
  with_reducible (repeat' first | assumption | apply ite_sound | apply State.failUnaccepted_sound | apply State.endReads_sound
                                | apply State.failPending_sound | apply State.complete_sound | apply State.unmounted_sound
                                | apply State.mountFails_sound | split | dsimp only)

theorem State.startFurl_sound (x0 : State) (x1 : Cmd) (h0 : x0.Sound) : (State.startFurl x0 x1).Sound := by
  unfold State.startFurl
  with_reducible (repeat' first | assumption | apply ite_sound | apply State.furlMast_sound | apply State.stage_sound
                                | apply State.complete_sound | split | dsimp only)

theorem State.startCreateSq_sound (x0 : State) (x1 : Cmd) (h0 : x0.Sound) : (State.startCreateSq x0 x1).Sound := by
  unfold State.startCreateSq
  with_reducible (repeat' first | assumption | apply ite_sound | apply State.complete_sound | apply State.showQueues_sound
                                | apply State.setSq_sound | split | dsimp only | fail_if_no_progress refine mk_sound (tabs_of ?_))

theorem State.startDeleteSq_sound (x0 : State) (x1 : Cmd) (h0 : x0.Sound) : (State.startDeleteSq x0 x1).Sound := by
  unfold State.startDeleteSq
  with_reducible (repeat' first | assumption | apply ite_sound | apply State.complete_sound | apply State.stopSq_sound
                                | apply State.showQueues_sound | apply State.setSq_sound | apply State.updCmd_sound | split | dsimp only
                                | fail_if_no_progress refine mk_sound (tabs_of ?_))

theorem State.startCreateEq_sound (x0 : State) (x1 : Cmd) (h0 : x0.Sound) : (State.startCreateEq x0 x1).Sound := by
  unfold State.startCreateEq
  with_reducible (repeat' first | assumption | apply ite_sound | apply State.complete_sound | apply State.showQueues_sound
                                | apply State.setEq_sound | split | dsimp only | fail_if_no_progress refine mk_sound (tabs_of ?_))

theorem State.startDeleteEq_sound (x0 : State) (x1 : Cmd) (h0 : x0.Sound) : (State.startDeleteEq x0 x1).Sound := by
  unfold State.startDeleteEq
  with_reducible (repeat' first | assumption | apply ite_sound | apply State.complete_sound | apply State.showQueues_sound
                                | apply State.setEq_sound | split | dsimp only | fail_if_no_progress refine mk_sound (tabs_of ?_))

theorem State.dispatchCmd_sound (x0 : State) (x1 : Cmd) (h0 : x0.Sound) : (State.dispatchCmd x0 x1).Sound := by
  unfold State.dispatchCmd
  with_reducible (repeat' first | assumption | apply ite_sound | apply State.startRead_sound | apply State.startWrite_sound
                                | apply State.startFlush_sound | apply State.startAbort_sound | apply State.startDictRead_sound
                                | apply State.startDictWrite_sound | apply State.startMount_sound | apply State.startUnmount_sound
                                | apply State.startFurl_sound | apply State.startCreateSq_sound | apply State.startDeleteSq_sound
                                | apply State.startCreateEq_sound | apply State.startDeleteEq_sound | split | dsimp only)

theorem State.start_sound (x0 : State) (x1 : Nat) (h0 : x0.Sound) : (State.start x0 x1).Sound := by
  unfold State.start
  with_reducible (repeat' first | assumption | apply getD_sound | apply ite_sound | apply State.dispatchCmd_sound
                                | apply State.failCmd_sound | apply State.stage_sound | split | dsimp only)

theorem State.joinEngine_sound (x0 : State) (x1 : Cmd) (h0 : x0.Sound) : (State.joinEngine x0 x1).Sound := by
  unfold State.joinEngine
  with_reducible (repeat' first | assumption | apply ite_sound | apply State.setEngine_sound | split | dsimp only
                                | fail_if_no_progress refine mk_sound (tabs_of ?_))

theorem State.execute_sound (x0 : State) (x1 : Nat) (x2 : Sys2Proof.Packet) (h0 : x0.Sound) : (State.execute x0 x1 x2).Sound := by
  unfold State.execute
  with_reducible (repeat' first | assumption | apply ite_sound | apply State.enter_sound | apply State.complete_sound
                                | apply State.start_sound | apply State.joinEngine_sound | split | dsimp only
                                | refine fst_sound (by assumption) ?_ | refine snd_sound (by assumption) ?_)

theorem State.arrive_sound (x0 : State) (x1 : Nat) (x2 : Sys2Proof.Packet) (h0 : x0.Sound) : (State.arrive x0 x1 x2).Sound := by
  unfold State.arrive
  with_reducible (repeat' first | assumption | apply ite_sound | apply State.duplicate_sound | apply State.postCompletion_sound
                                | apply State.count_sound | apply State.execute_sound | split | dsimp only
                                | fail_if_no_progress refine mk_sound (tabs_of ?_))

theorem State.inHand_sound (x0 : State) (x1 : Nat) (x2 : Nat) (h0 : x0.Sound) : (State.inHand x0 x1 x2).Sound := by
  unfold State.inHand
  with_reducible (repeat' first | assumption | apply ite_sound | split | dsimp only | fail_if_no_progress refine mk_sound (tabs_of ?_))

theorem State.arriveHeld_sound (x0 : State) (h0 : x0.Sound) : (State.arriveHeld x0).Sound := by
  unfold State.arriveHeld
  with_reducible (repeat' first | assumption | intro _ | apply ite_sound | apply State.arrive_sound | apply State.inHand_sound
                                | apply forEach_sound | split | dsimp only | fail_if_no_progress refine mk_sound (tabs_of ?_))

theorem State.popped_sound (x0 : State) (x1 : Nat) (h0 : x0.Sound) : (State.popped x0 x1).Sound := by
  unfold State.popped
  with_reducible (repeat' first | assumption | apply ite_sound | apply State.setSq_sound | split | dsimp only
                                | fail_if_no_progress refine mk_sound (tabs_of ?_))

theorem State.handed_sound (x0 : State) (x1 : Nat) (h0 : x0.Sound) : (State.handed x0 x1).Sound := by
  unfold State.handed
  with_reducible (repeat' first | assumption | apply State.inHand_sound | apply State.popped_sound | dsimp only)

theorem State.ignoredDoorbell_sound (x0 : State) (x1 : Sys2Proof.Fn) (x2 : Nat) (x3 : Nat) (h0 : x0.Sound)
    : (State.ignoredDoorbell x0 x1 x2 x3).Sound := by
  unfold State.ignoredDoorbell
  with_reducible (repeat' first | assumption | apply State.conditionTo_sound | apply State.count_sound | dsimp only)

theorem State.headDoorbell_sound (x0 : State) (x1 : Sys2Proof.Fn) (x2 : Nat) (x3 : Nat) (x4 : Nat) (h0 : x0.Sound)
    : (State.headDoorbell x0 x1 x2 x3 x4).Sound := by
  unfold State.headDoorbell
  with_reducible (repeat' first | assumption | apply ite_sound | apply State.fetchBound_sound | apply State.drainEq_sound
                                | apply State.setEq_sound | apply State.conditionTo_sound | apply State.count_sound
                                | apply State.ignoredDoorbell_sound | split | dsimp only
                                | fail_if_no_progress refine mk_sound (tabs_of ?_))

theorem State.moderate_sound (x0 : State) (x1 : Nat) (h0 : x0.Sound) : (State.moderate x0 x1).Sound := by
  unfold State.moderate
  with_reducible (repeat' first | assumption | apply ite_sound | apply State.signal_sound | split | dsimp only)

theorem State.scatterIn_sound (x0 : State) (x1 : Nat) (x2 : List Sys2Proof.Byte) (h0 : x0.Sound) : (State.scatterIn x0 x1 x2).Sound := by
  unfold State.scatterIn
  with_reducible (repeat' first | assumption | intro _ | apply ite_sound | apply State.failCmd_sound | apply State.runRead_sound
                                | apply State.updCmd_sound | apply foldl_sound | split | dsimp only
                                | fail_if_no_progress refine mk_sound (tabs_of ?_))

theorem State.startFurled_sound (x0 : State) (h0 : x0.Sound) : (State.startFurled x0).Sound := by
  unfold State.startFurled
  with_reducible (repeat' first | assumption | intro _ | apply State.start_sound | apply forEach_sound | dsimp only)

theorem State.startMapped_sound (x0 : State) (x1 : Nat) (h0 : x0.Sound) : (State.startMapped x0 x1).Sound := by
  unfold State.startMapped
  with_reducible (repeat' first | assumption | intro _ | apply ite_sound | apply State.acceptPoint_sound | apply State.startReads_sound
                                | apply State.updCmd_sound | apply State.start_sound | apply forEach_sound | split | dsimp only
                                | fail_if_no_progress refine mk_sound (tabs_of ?_))

theorem State.tailDoorbell_sound (x0 : State) (x1 : Sys2Proof.Fn) (x2 : Nat) (x3 : Nat) (x4 : Nat) (h0 : x0.Sound)
    : (State.tailDoorbell x0 x1 x2 x3 x4).Sound := by
  unfold State.tailDoorbell
  with_reducible (repeat' first | assumption | apply ite_sound | apply State.fetchSq_sound | apply State.setSq_sound
                                | apply State.ignoredDoorbell_sound | split | dsimp only
                                | fail_if_no_progress refine mk_sound (tabs_of ?_))

theorem State.takePacket_sound (x0 : State) (x1 : Nat) (x2 : Sys2Proof.Packet) (h0 : x0.Sound) : (State.takePacket x0 x1 x2).Sound := by
  unfold State.takePacket
  with_reducible (repeat' first | assumption | apply ite_sound | apply State.arrive_sound | apply State.handed_sound | split | dsimp only)

theorem State.unmask_sound (x0 : State) (x1 : Sys2Proof.Fn) (x2 : Nat) (h0 : x0.Sound) : (State.unmask x0 x1 x2).Sound := by
  unfold State.unmask
  with_reducible (repeat' first | assumption | intro _ | apply ite_sound | apply State.setFnr_sound | apply State.tlp_sound
                                | apply State.setEq_sound | apply forEach_sound | split | dsimp only
                                | fail_if_no_progress refine mk_sound (tabs_of ?_))

theorem arrivalRow_sound (x0 : Nat) (x1 : Nat) (x2 : Nat) (x3 : Sys2Proof.Packet) (x4 : State) (h4 : x4.Sound)
    : ResSound (arrivalRow x0 x1 x2 x3 x4) := by
  unfold arrivalRow
  with_reducible (repeat' first | assumption | apply resSound_next | apply ite_sound | apply State.at__sound
                                | apply State.takePacket_sound | split | dsimp only)

theorem State.addToRead_sound (x0 : State) (x1 : HostRead) (x2 : List Sys2Proof.Byte) (h0 : x0.Sound)
    : (State.addToRead x0 x1 x2).Sound := by
  unfold State.addToRead
  with_reducible (repeat' first | assumption | apply ite_sound | split | dsimp only | fail_if_no_progress refine mk_sound (tabs_of ?_))

theorem State.adminCreate_sound (x0 : State) (x1 : Sys2Proof.Fn) (h0 : x0.Sound) : (State.adminCreate x0 x1).Sound := by
  unfold State.adminCreate
  with_reducible (repeat' first | assumption | apply State.setSq_sound | apply State.setEq_sound | apply State.showQueues_sound
                                | apply State.setFnr_sound | dsimp only | fail_if_no_progress refine mk_sound (tabs_of ?_))

theorem State.adminEnable_sound (x0 : State) (x1 : Sys2Proof.Fn) (h0 : x0.Sound) : (State.adminEnable x0 x1).Sound := by
  unfold State.adminEnable
  with_reducible (repeat' first | assumption | apply ite_sound | apply State.setFnr_sound | apply State.adminCreate_sound | split
                                | dsimp only | fail_if_no_progress refine mk_sound (tabs_of ?_))

theorem State.withhold_sound (x0 : State) (x1 : List HostRead) (h0 : x0.Sound) : (State.withhold x0 x1).Sound := by
  unfold State.withhold
  with_reducible (repeat' first | assumption | split | dsimp only | fail_if_no_progress refine mk_sound (tabs_of ?_))

theorem State.dropRead_sound (x0 : State) (x1 : HostRead) (h0 : x0.Sound) : (State.dropRead x0 x1).Sound := by
  unfold State.dropRead
  with_reducible (repeat' first | assumption | dsimp only | fail_if_no_progress refine mk_sound (tabs_of ?_))

theorem State.completionLate_sound (x0 : State) (x1 : Sys2Proof.Endpoint) (x2 : Nat) (h0 : x0.Sound)
    : (State.completionLate x0 x1 x2).Sound := by
  unfold State.completionLate
  with_reducible (repeat' first | assumption | apply ite_sound | apply State.count_sound | apply State.aerError_sound
                                | apply State.withhold_sound | apply State.dropRead_sound | apply State.issueWaiting_sound
                                | apply State.readFailed_sound | split | dsimp only | fail_if_no_progress refine mk_sound (tabs_of ?_))

theorem State.dictArrived_sound (x0 : State) (x1 : Nat) (x2 : List Sys2Proof.Byte) (h0 : x0.Sound)
    : (State.dictArrived x0 x1 x2).Sound := by
  unfold State.dictArrived
  with_reducible (repeat' first | assumption | apply ite_sound | apply State.dictApply_sound | apply State.updCmd_sound | split
                                | dsimp only | fail_if_no_progress refine mk_sound (tabs_of ?_))

theorem State.readDone_sound (x0 : State) (x1 : HostRead) (x2 : List Sys2Proof.Byte) (h0 : x0.Sound)
    : (State.readDone x0 x1 x2).Sound := by
  unfold State.readDone
  with_reducible (repeat' first | assumption | apply ite_sound | apply State.fetchSq_sound | apply State.setSq_sound
                                | apply State.scatterIn_sound | apply State.dictArrived_sound | apply State.flushEnds_sound | split
                                | dsimp only | fail_if_no_progress refine mk_sound (tabs_of ?_))

theorem State.completionIn_sound (x0 : State) (x1 : Sys2Proof.Endpoint) (x2 : Nat) (x3 : Sys2Proof.CplStatus) (x4 : List Sys2Proof.Byte)
    (h0 : x0.Sound) : (State.completionIn x0 x1 x2 x3 x4).Sound := by
  unfold State.completionIn
  with_reducible (repeat' first | assumption | apply ite_sound | apply State.completionLate_sound | apply State.dropRead_sound
                                | apply State.issueWaiting_sound | apply State.readFailed_sound | apply State.addToRead_sound
                                | apply State.sendRead_sound | apply State.readDone_sound | apply State.aerError_sound
                                | apply State.count_sound | split | dsimp only | fail_if_no_progress refine mk_sound (tabs_of ?_))

theorem State.flr_sound (x0 : State) (x1 : Sys2Proof.Fn) (h0 : x0.Sound) : (State.flr x0 x1).Sound := by
  unfold State.flr
  with_reducible (repeat' first | assumption | apply ite_sound | apply State.functionResets_sound | apply State.showTags_sound
                                | apply State.setEp_sound | apply State.functionReset_sound | split | dsimp only
                                | fail_if_no_progress refine mk_sound (tabs_of ?_))

theorem State.configIn_sound (x0 : State) (x1 : Sys2Proof.Fn) (x2 : Sys2Proof.ConfigReq) (h0 : x0.Sound)
    : (State.configIn x0 x1 x2).Sound := by
  unfold State.configIn
  with_reducible (repeat' first | assumption | apply ite_sound | apply State.tlp_sound | apply State.setEp_sound
                                | apply State.takeFree_sound | apply State.flr_sound | apply State.showTags_sound | split | dsimp only
                                | fail_if_no_progress refine mk_sound (tabs_of ?_) | refine fst_sound (by assumption) ?_
                                | refine snd_sound (by assumption) ?_)

theorem State.configRequest_sound (x0 : State) (x1 : Sys2Proof.Fn) (x2 : Sys2Proof.ConfigReq) (h0 : x0.Sound)
    : (State.configRequest x0 x1 x2).Sound := by
  unfold State.configRequest
  with_reducible (repeat' first | assumption | apply ite_sound | apply State.emit_sound | apply State.configIn_sound | split | dsimp only)

theorem State.dropWrite0_sound (x0 : State) (x1 : Sys2Proof.Fn) (x2 : Nat) (h0 : x0.Sound) : (State.dropWrite0 x0 x1 x2).Sound := by
  unfold State.dropWrite0
  with_reducible (repeat' first | assumption | apply State.conditionTo_sound | apply State.count_sound | dsimp only)

theorem State.epLinkUp_sound (x0 : State) (x1 : Sys2Proof.Endpoint) (x2 : Nat) (x3 : Nat) (x4 : Bool) (h0 : x0.Sound)
    : (State.epLinkUp x0 x1 x2 x3 x4).Sound := by
  unfold State.epLinkUp
  with_reducible (repeat' first | assumption | apply ite_sound | apply State.setObj_sound | apply State.showTags_sound
                                | apply State.setEp_sound | split | dsimp only | fail_if_no_progress refine mk_sound (tabs_of ?_))

theorem State.fetchAll_sound (x0 : State) (x1 : Sys2Proof.Endpoint) (x2 : List Nat) (h0 : x0.Sound)
    : (State.fetchAll x0 x1 x2).Sound := by
  unfold State.fetchAll
  with_reducible (repeat' first | assumption | intro _ | apply State.fetchSq_sound | apply forEach_sound | dsimp only)

theorem State.holdExpires_sound (x0 : State) (x1 : Sys2Proof.Endpoint) (h0 : x0.Sound) : (State.holdExpires x0 x1).Sound := by
  unfold State.holdExpires
  with_reducible (repeat' first | assumption | apply ite_sound | apply State.functionResets_sound | apply State.setEp_sound
                                | apply State.setObj_sound | split | dsimp only | fail_if_no_progress refine mk_sound (tabs_of ?_))

theorem State.l0p_sound (x0 : State) (x1 : Sys2Proof.Endpoint) (x2 : Nat) (x3 : Nat) (h0 : x0.Sound) : (State.l0p x0 x1 x2 x3).Sound := by
  unfold State.l0p
  with_reducible (repeat' first | assumption | apply ite_sound | apply State.setObj_sound | apply State.emit_sound | split | dsimp only)

theorem State.l1Entry_sound (x0 : State) (x1 : Sys2Proof.Endpoint) (h0 : x0.Sound) : (State.l1Entry x0 x1).Sound := by
  unfold State.l1Entry
  with_reducible (repeat' first | assumption | apply ite_sound | apply State.setObj_sound | apply State.emit_sound | split | dsimp only)

theorem State.linkDown_sound (x0 : State) (x1 : Sys2Proof.Endpoint) (x2 : Nat) (h0 : x0.Sound) : (State.linkDown x0 x1 x2).Sound := by
  unfold State.linkDown
  with_reducible (repeat' first | assumption | intro _ | apply ite_sound | apply State.showTags_sound | apply State.linkOff_sound
                                | apply State.setEp_sound | apply State.withhold_sound | apply State.setFnr_sound
                                | apply State.count_sound | apply forEach_sound | split | dsimp only
                                | fail_if_no_progress refine mk_sound (tabs_of ?_))

theorem State.mailboxDone_sound (x0 : State) (x1 : Sys2Proof.Fn) (x2 : Nat) (h0 : x0.Sound) : (State.mailboxDone x0 x1 x2).Sound := by
  unfold State.mailboxDone
  with_reducible (repeat' first | assumption | apply State.setFnr_sound | dsimp only | fail_if_no_progress refine mk_sound (tabs_of ?_))

theorem State.mailboxApply_sound (x0 : State) (x1 : Sys2Proof.Fn) (h0 : x0.Sound) : (State.mailboxApply x0 x1).Sound := by
  unfold State.mailboxApply
  with_reducible (repeat' first | assumption | apply ite_sound | apply State.mailboxDone_sound | apply State.writeObj_sound
                                | apply State.setFnr_sound | split | dsimp only | fail_if_no_progress refine mk_sound (tabs_of ?_)
                                | refine fst_sound (by assumption) ?_ | refine snd_sound (by assumption) ?_)

theorem State.mailboxRead_sound (x0 : State) (x1 : Sys2Proof.Fn) (h0 : x0.Sound) : (State.mailboxRead x0 x1).Sound := by
  unfold State.mailboxRead
  with_reducible (repeat' first | assumption | apply ite_sound | apply State.mailboxDone_sound | apply State.countRefused_sound
                                | apply State.setFnr_sound | split | dsimp only | fail_if_no_progress refine mk_sound (tabs_of ?_))

theorem State.mailboxStage_sound (x0 : State) (x1 : Sys2Proof.Fn) (h0 : x0.Sound) : (State.mailboxStage x0 x1).Sound := by
  unfold State.mailboxStage
  with_reducible (repeat' first | assumption | apply ite_sound | apply State.mailboxDone_sound | apply State.setFnr_sound | split
                                | dsimp only | fail_if_no_progress refine mk_sound (tabs_of ?_))

theorem State.mailboxRun_sound (x0 : State) (x1 : Sys2Proof.Fn) (x2 : Nat) (h0 : x0.Sound) : (State.mailboxRun x0 x1 x2).Sound := by
  unfold State.mailboxRun
  with_reducible (repeat' first | assumption | apply ite_sound | apply State.mailboxRead_sound | apply State.mailboxStage_sound
                                | apply State.mailboxApply_sound | split | dsimp only)

theorem State.mailboxOp_sound (x0 : State) (x1 : Sys2Proof.Fn) (x2 : Nat) (h0 : x0.Sound) : (State.mailboxOp x0 x1 x2).Sound := by
  unfold State.mailboxOp
  with_reducible (repeat' first | assumption | apply ite_sound | apply State.count_sound | apply State.mailboxRun_sound
                                | apply State.setFnr_sound | split | dsimp only | fail_if_no_progress refine mk_sound (tabs_of ?_))

theorem State.msixWrite_sound (x0 : State) (x1 : Sys2Proof.Fn) (x2 : Nat) (x3 : Nat) (x4 : Nat) (h0 : x0.Sound)
    : (State.msixWrite x0 x1 x2 x3 x4).Sound := by
  unfold State.msixWrite
  with_reducible (repeat' first | assumption | apply ite_sound | apply State.setFnr_sound | apply State.unmask_sound | split | dsimp only
                                | fail_if_no_progress refine mk_sound (tabs_of ?_))

theorem State.perstAssert_sound (x0 : State) (x1 : Sys2Proof.Endpoint) (h0 : x0.Sound) : (State.perstAssert x0 x1).Sound := by
  unfold State.perstAssert
  with_reducible (repeat' first | assumption | apply ite_sound | apply State.functionResets_sound | apply State.setEp_sound
                                | apply State.showTags_sound | apply State.linkOff_sound | split | dsimp only
                                | fail_if_no_progress refine mk_sound (tabs_of ?_))

theorem State.perstRelease_sound (x0 : State) (x1 : Sys2Proof.Endpoint) (h0 : x0.Sound) : (State.perstRelease x0 x1).Sound := by
  unfold State.perstRelease
  with_reducible (repeat' first | assumption | apply ite_sound | apply State.setEp_sound | apply State.linkOff_sound | split | dsimp only
                                | fail_if_no_progress refine mk_sound (tabs_of ?_))

theorem State.registerWrite_sound (x0 : State) (x1 : Sys2Proof.Fn) (x2 : Nat) (x3 : Nat) (x4 : Nat) (h0 : x0.Sound)
    : (State.registerWrite x0 x1 x2 x3 x4).Sound := by
  unfold State.registerWrite
  with_reducible (repeat' first | assumption | apply ite_sound | apply State.dropWrite0_sound | apply State.ignoredDoorbell_sound
                                | apply State.tailDoorbell_sound | apply State.headDoorbell_sound | apply State.setFnr_sound
                                | apply State.msixWrite_sound | apply State.adminEnable_sound | apply State.functionReset_sound
                                | apply State.mailboxOp_sound | apply State.windowCommit_sound | split | dsimp only
                                | fail_if_no_progress refine mk_sound (tabs_of ?_))

theorem State.resume_sound (x0 : State) (x1 : Sys2Proof.Endpoint) (x2 : List Nat) (h0 : x0.Sound) : (State.resume x0 x1 x2).Sound := by
  unfold State.resume
  with_reducible (repeat' first | assumption | intro _ | apply State.setObj_sound | apply State.setEp_sound | apply State.emit_sound
                                | apply State.count_sound | apply State.issueWaiting_sound | apply State.signal_sound
                                | apply State.fetchAll_sound | apply State.tlp_sound | apply forEach_sound | dsimp only)

theorem State.resumeHeld_sound (x0 : State) (h0 : x0.Sound) : (State.resumeHeld x0).Sound := by
  unfold State.resumeHeld
  with_reducible (repeat' first | assumption | intro _ | apply ite_sound | apply State.dictArrived_sound | apply State.updCmd_sound
                                | apply State.mailboxRun_sound | apply State.arriveHeld_sound | apply forEach_sound | split | dsimp only
                                | fail_if_no_progress refine mk_sound (tabs_of ?_))

theorem onFn_sound (x0 : Nat) (x1 : Sys2Proof.Fn) (x2 : State) (x3 : State → State) (h2 : x2.Sound)
    (h3 : ∀ (a0 : State), a0.Sound → (x3 a0).Sound) : ResSound (onFn x0 x1 x2 x3) := by
  unfold onFn; apply resSound_next; split; exact h3 _ (State.at__sound _ _ h2); exact State.at__sound _ _ h2

theorem State.skipRecord_sound (x0 : State) (h0 : x0.Sound) : (State.skipRecord x0).Sound := by
  unfold State.skipRecord
  with_reducible (repeat' first | assumption | apply State.count_sound | dsimp only)

theorem State.applyBlob_sound (x0 : State) (x1 : Nat × List Sys2Proof.Byte) (h0 : x0.Sound) : (State.applyBlob x0 x1).Sound := by
  unfold State.applyBlob
  with_reducible (repeat' first | assumption | apply ite_sound | apply State.setBlob_sound | apply State.skipRecord_sound | split
                                | dsimp only)

theorem State.applyRec_sound (x0 : State) (x1 : Nat × Int) (h0 : x0.Sound) : (State.applyRec x0 x1).Sound := by
  unfold State.applyRec
  with_reducible (repeat' first | assumption | apply ite_sound | apply State.skipRecord_sound | apply State.setObj_sound
                                | apply State.setPar_sound | split | dsimp only)

theorem State.applyBank_sound (x0 : State) (h0 : x0.Sound) : (State.applyBank x0).Sound := by
  unfold State.applyBank
  with_reducible (repeat' first | assumption | intro _ | apply State.setObj_sound | apply State.applyBlob_sound
                                | apply State.applyRec_sound | apply State.condition_sound | apply State.count_sound | apply forEach_sound
                                | split | dsimp only)

theorem State.startMast_sound (x0 : State) (x1 : Nat) (h0 : x0.Sound) : (State.startMast x0 x1).Sound := by
  unfold State.startMast
  with_reducible (repeat' first | assumption | apply ite_sound | apply State.setMastState_sound | apply State.setMaskBit_sound | split
                                | dsimp only)

theorem State.startShroud_sound (x0 : State) (x1 : Sys2Proof.Shroud) (h0 : x0.Sound) : (State.startShroud x0 x1).Sound := by
  unfold State.startShroud
  with_reducible (repeat' first | assumption | apply ite_sound | apply State.setObj_sound | split | dsimp only)

theorem State.startEndpoint_sound (x0 : State) (x1 : Sys2Proof.Endpoint) (h0 : x0.Sound) : (State.startEndpoint x0 x1).Sound := by
  unfold State.startEndpoint
  with_reducible (repeat' first | assumption | apply ite_sound | apply State.linkOff_sound | split | dsimp only)

theorem State.applyRetirements_sound (x0 : State) (h0 : x0.Sound) : (State.applyRetirements x0).Sound := by
  unfold State.applyRetirements
  with_reducible (repeat' first | assumption | intro _ | apply State.startMast_sound | apply State.startShroud_sound
                                | apply State.startEndpoint_sound | apply State.showEngines_sound | apply State.showEngine_sound
                                | apply State.setObj_sound | apply forEach_sound | dsimp only)

theorem State.startTraining_sound (x0 : State) (x1 : Nat) (h0 : x0.Sound) : (State.startTraining x0 x1).Sound := by
  unfold State.startTraining
  with_reducible (repeat' first | assumption | apply ite_sound | apply State.sendPrbs_sound | apply State.showLanes_sound
                                | apply State.setLinkSt_sound | split | dsimp only)

theorem State.startPort_sound (x0 : State) (x1 : Nat) (h0 : x0.Sound) : (State.startPort x0 x1).Sound := by
  unfold State.startPort
  with_reducible (repeat' first | assumption | apply ite_sound | apply State.emit_sound | apply State.setObj_sound | split | dsimp only)

theorem State.startPairs_sound (x0 : State) (h0 : x0.Sound) : (State.startPairs x0).Sound := by
  unfold State.startPairs
  with_reducible (repeat' first | assumption | intro _ | apply State.adminCreate_sound | apply forEach_sound | dsimp only)

theorem State.becomeReady_sound (x0 : State) (h0 : x0.Sound) : (State.becomeReady x0).Sound := by
  unfold State.becomeReady
  with_reducible (repeat' first | assumption | intro _ | apply State.setObj_sound | apply State.startTraining_sound
                                | apply State.startPort_sound | apply State.chooseRoot_sound | apply State.startPairs_sound
                                | apply forEach_sound | dsimp only | fail_if_no_progress refine mk_sound (tabs_of ?_))

theorem State.capture_sound (x0 : Nat) (x1 : State) (h1 : x1.Sound) : (State.capture x0 x1).2.Sound := by
  induction x0 generalizing x1 with
  | zero => unfold State.capture; with_reducible (repeat' first | assumption | apply LogRead.s_sound | apply WordCtx.s_sound
                                                                | apply State.takeFree_sound | split | dsimp only
                                                                | refine fst_sound (by assumption) ?_
                                                                | refine snd_sound (by assumption) ?_)
  | succ n ih => unfold State.capture; with_reducible (repeat' first | assumption | apply ih | apply LogRead.s_sound
                                                                     | apply WordCtx.s_sound | apply State.takeFree_sound | split
                                                                     | dsimp only | refine fst_sound (by assumption) ?_
                                                                     | refine snd_sound (by assumption) ?_)

theorem State.enterRecovery_sound (x0 : State) (h0 : x0.Sound) : (State.enterRecovery x0).Sound := by
  unfold State.enterRecovery
  with_reducible (repeat' first | assumption | apply State.setObj_sound | dsimp only | fail_if_no_progress refine mk_sound (tabs_of ?_))

theorem State.startShare_sound (x0 : State) (x1 : Nat) (h0 : x0.Sound) : (State.startShare x0 x1).Sound := by
  unfold State.startShare
  with_reducible (repeat' first | assumption | apply ite_sound | apply State.condition_sound | apply State.count_sound | split
                                | dsimp only | fail_if_no_progress refine mk_sound (tabs_of ?_))

theorem State.trainChannels_sound (x0 : State) (x1 : List Nat) (h0 : x0.Sound) : (State.trainChannels x0 x1).Sound := by
  unfold State.trainChannels
  with_reducible (repeat' first | assumption | intro _ | apply getD_sound | apply ite_sound | apply State.setObj_sound
                                | apply State.setMaskBit_sound | apply State.retireChannel_sound | apply forEach_sound | split
                                | dsimp only)

theorem State.filled_sound (x0 : State) (x1 : List Nat) (h0 : x0.Sound) : (State.filled x0 x1).Sound := by
  unfold State.filled
  with_reducible (repeat' first | assumption | intro _ | apply ite_sound | apply State.startShare_sound | apply State.trainChannels_sound
                                | apply State.showPool_sound | apply State.showShares_sound | apply State.setObj_sound
                                | apply State.givePages_sound | apply State.setShroud_sound | apply forEach_sound | split | dsimp only
                                | fail_if_no_progress refine mk_sound (tabs_of ?_))

theorem State.holdEnds_sound (x0 : State) (h0 : x0.Sound) : (State.holdEnds x0).Sound := by
  unfold State.holdEnds
  with_reducible (repeat' first | assumption | intro _ | apply ite_sound | apply State.startFurled_sound | apply State.spindleStart_sound
                                | apply State.updDrive_sound | apply forEach_sound | split | dsimp only
                                | fail_if_no_progress refine mk_sound (tabs_of ?_))

theorem State.initStore_sound (x0 : State) (h0 : x0.Sound) : (State.initStore x0).Sound := by
  unfold State.initStore
  with_reducible (repeat' first | assumption | intro _ | apply State.setObj_sound | apply State.setEngine_sound | apply forEach_sound
                                | dsimp only | fail_if_no_progress refine mk_sound (tabs_of ?_))

theorem State.showSlot_sound (x0 : State) (x1 : Nat) (h0 : x0.Sound) : (State.showSlot x0 x1).Sound := by
  unfold State.showSlot
  with_reducible (repeat' first | assumption | apply ite_sound | apply State.setObj_sound | split | dsimp only)

theorem State.runSlot_sound (x0 : State) (x1 : Nat) (x2 : Nat) (h0 : x0.Sound) : (State.runSlot x0 x1 x2).Sound := by
  unfold State.runSlot
  with_reducible (repeat' first | assumption | apply State.runImage_sound | apply State.setImage_sound | apply State.setObj_sound
                                | apply State.applyRetirements_sound | apply State.applyBank_sound | dsimp only
                                | fail_if_no_progress refine mk_sound (tabs_of ?_))

theorem State.startUp_sound (x0 : State) (h0 : x0.Sound) : (State.startUp x0).Sound := by
  unfold State.startUp
  with_reducible (repeat' first | assumption | apply getD_sound | apply ite_sound | apply State.showSlot_sound | apply State.setObj_sound
                                | apply State.runSlot_sound | apply State.enterRecovery_sound | split | dsimp only
                                | fail_if_no_progress refine mk_sound (tabs_of ?_))

theorem State.released_sound (x0 : State) (h0 : x0.Sound) : (State.released x0).Sound := by
  unfold State.released
  with_reducible (repeat' first | assumption | apply ite_sound | apply State.startUp_sound | split | dsimp only)

theorem State.resetAll_sound (x0 : State) (x1 : Nat) (h0 : x0.Sound) : (State.resetAll x0 x1).Sound := by
  unfold State.resetAll; apply State.setObj_sound; rfl

theorem State.resetBy_sound (x0 : State) (x1 : Nat) (h0 : x0.Sound) : (State.resetBy x0 x1).Sound := by
  unfold State.resetBy
  with_reducible (repeat' first | assumption | apply ite_sound | apply State.resetAll_sound | split | dsimp only)

theorem State.scan_sound (x0 : State) (x1 : BitVec 8) (x2 : Bool) (x3 : List Bool) (h0 : x0.Sound) : (State.scan x0 x1 x2 x3).Sound := by
  unfold State.scan
  with_reducible (repeat' first | assumption | apply State.capture_sound | apply State.emit_sound | split | dsimp only
                                | fail_if_no_progress refine mk_sound (tabs_of ?_) | refine fst_sound (by assumption) ?_
                                | refine snd_sound (by assumption) ?_)

theorem State.thermPin_sound (x0 : State) (x1 : Int) (h0 : x0.Sound) : (State.thermPin x0 x1).Sound := by
  unfold State.thermPin
  with_reducible (repeat' first | assumption | apply ite_sound | apply State.emit_sound | split | dsimp only
                                | fail_if_no_progress refine mk_sound (tabs_of ?_))

theorem State.thermalFurl_sound (x0 : State) (x1 : Int) (h0 : x0.Sound) : (State.thermalFurl x0 x1).Sound := by
  unfold State.thermalFurl
  with_reducible (repeat' first | assumption | intro _ | apply ite_sound | apply State.furlMast_sound | apply State.setObj_sound
                                | apply State.holdEnds_sound | apply forEach_sound | split | dsimp only
                                | fail_if_no_progress refine mk_sound (tabs_of ?_))

theorem State.thermalSample_sound (x0 : State) (x1 : List Int) (h0 : x0.Sound) : (State.thermalSample x0 x1).Sound := by
  unfold State.thermalSample
  with_reducible (repeat' first | assumption | intro _ | apply getD_sound | apply State.setObj_sound | apply State.thermalFurl_sound
                                | apply State.thermPin_sound | apply forEach_sound | apply foldl_sound | dsimp only)

theorem State.alTransition_sound (x0 : State) (x1 : Sys2Proof.AlState) (x2 : Sys2Proof.AlConfig) (h0 : x0.Sound)
    : (State.alTransition x0 x1 x2).Sound := by
  unfold State.alTransition
  with_reducible (repeat' first | assumption | apply ite_sound | apply State.emit_sound | apply State.setObj_sound | split | dsimp only
                                | fail_if_no_progress refine mk_sound (tabs_of ?_))

theorem State.alRequest_sound (x0 : State) (x1 : Sys2Proof.AlState) (x2 : Sys2Proof.AlConfig) (h0 : x0.Sound)
    : (State.alRequest x0 x1 x2).Sound := by
  unfold State.alRequest
  with_reducible (repeat' first | assumption | apply ite_sound | apply State.alTransition_sound | split | dsimp only
                                | fail_if_no_progress refine mk_sound (tabs_of ?_))

theorem State.clockTheta_sound (x0 : State) (x1 : Nat) (h0 : x0.Sound) : (State.clockTheta x0 x1).Sound := by
  unfold State.clockTheta
  with_reducible (repeat' first | assumption | apply ite_sound | apply State.steer_sound | apply State.setObj_sound | split | dsimp only)

theorem State.dcState_sound (x0 : State) (x1 : Nat) (h0 : x0.Sound) : (State.dcState x0 x1).Sound := by
  unfold State.dcState
  with_reducible (repeat' first | assumption | apply ite_sound | apply State.setObj_sound | apply State.condition_sound
                                | apply State.count_sound | split | dsimp only)

theorem State.reply_sound (x0 : State) (x1 : Nat) (x2 : List Sys2Proof.Byte) (h0 : x0.Sound) : (State.reply x0 x1 x2).Sound := by
  unfold State.reply
  with_reducible (repeat' first | assumption | apply State.emit_sound | dsimp only | fail_if_no_progress refine mk_sound (tabs_of ?_))

theorem State.foeDone_sound (x0 : State) (x1 : List Sys2Proof.Byte) (h0 : x0.Sound) : (State.foeDone x0 x1).Sound := by
  unfold State.foeDone
  with_reducible (repeat' first | assumption | apply State.reply_sound | apply State.count_sound | dsimp only)

theorem State.foeRefused_sound (x0 : State) (h0 : x0.Sound) : (State.foeRefused x0).Sound := by
  unfold State.foeRefused
  with_reducible (repeat' first | assumption | apply State.takeFree_sound | apply State.reply_sound | split | dsimp only
                                | refine fst_sound (by assumption) ?_ | refine snd_sound (by assumption) ?_)

theorem State.foeRead_sound (x0 : State) (x1 : Sys2Proof.FoeFile) (x2 : Nat) (h0 : x0.Sound) : (State.foeRead x0 x1 x2).Sound := by
  unfold State.foeRead
  with_reducible (repeat' first | assumption | apply ite_sound | apply State.reply_sound | apply State.foeRefused_sound
                                | apply State.foeDone_sound | split | dsimp only)

theorem State.writeSlot_sound (x0 : State) (x1 : Nat) (x2 : List Sys2Proof.Byte) (h0 : x0.Sound) : (State.writeSlot x0 x1 x2).Sound := by
  unfold State.writeSlot
  with_reducible (repeat' first | assumption | apply ite_sound | apply State.setObj_sound | split | dsimp only
                                | fail_if_no_progress refine mk_sound (tabs_of ?_))

theorem State.foeWrite_sound (x0 : State) (x1 : Sys2Proof.FoeFile) (x2 : Nat) (x3 : List Sys2Proof.Byte) (x4 : Bool) (h0 : x0.Sound)
    : (State.foeWrite x0 x1 x2 x3 x4).Sound := by
  unfold State.foeWrite
  with_reducible (repeat' first | assumption | apply ite_sound | apply State.foeRefused_sound | apply State.reply_sound
                                | apply State.writeSlot_sound | apply State.foeDone_sound | apply State.startUp_sound
                                | apply State.resetAll_sound | split | dsimp only | fail_if_no_progress refine mk_sound (tabs_of ?_))

theorem State.sdoUpload_sound (x0 : State) (x1 : Nat) (x2 : Nat) (x3 : Bool) (h0 : x0.Sound) : (State.sdoUpload x0 x1 x2 x3).Sound := by
  unfold State.sdoUpload
  with_reducible (repeat' first | assumption | apply State.reply_sound | apply State.countRefused_sound | split | dsimp only)

theorem State.sdoDownload_sound (x0 : State) (x1 : Nat) (x2 : Nat) (x3 : Bool) (x4 : List Sys2Proof.Byte) (h0 : x0.Sound)
    : (State.sdoDownload x0 x1 x2 x3 x4).Sound := by
  unfold State.sdoDownload
  with_reducible (repeat' first | assumption | apply ite_sound | apply State.writeObj_sound | apply State.reply_sound | split | dsimp only
                                | fail_if_no_progress refine mk_sound (tabs_of ?_) | refine fst_sound (by assumption) ?_
                                | refine snd_sound (by assumption) ?_)

theorem State.sdo_sound (x0 : State) (x1 : SdoReq) (h0 : x0.Sound) : (State.sdo x0 x1).Sound := by
  unfold State.sdo
  with_reducible (repeat' first | assumption | apply ite_sound | apply State.sdoUpload_sound | apply State.reply_sound
                                | apply State.sdoDownload_sound | split | dsimp only | fail_if_no_progress refine mk_sound (tabs_of ?_))

theorem State.sdoResume_sound (x0 : State) (h0 : x0.Sound) : (State.sdoResume x0).Sound := by
  unfold State.sdoResume
  with_reducible (repeat' first | assumption | intro _ | apply State.sdo_sound | apply forEach_sound | dsimp only
                                | fail_if_no_progress refine mk_sound (tabs_of ?_))

theorem State.resumeAll_sound (x0 : State) (h0 : x0.Sound) : (State.resumeAll x0).Sound := by
  unfold State.resumeAll
  with_reducible (repeat' first | assumption | apply ite_sound | apply State.sdoResume_sound | apply State.resumeHeld_sound | split
                                | dsimp only)

theorem State.saveAnswer_sound (x0 : State) (x1 : Nat) (x2 : Waiter) (h0 : x0.Sound) : (State.saveAnswer x0 x1 x2).Sound := by
  unfold State.saveAnswer
  with_reducible (repeat' first | assumption | apply ite_sound | apply State.complete_sound | apply State.mailboxDone_sound
                                | apply State.sdoResume_sound | apply State.reply_sound | split | dsimp only
                                | fail_if_no_progress refine mk_sound (tabs_of ?_))

theorem State.saveEnds_sound (x0 : State) (x1 : Nat) (h0 : x0.Sound) : (State.saveEnds x0 x1).Sound := by
  unfold State.saveEnds
  with_reducible (repeat' first | assumption | intro _ | apply ite_sound | apply State.saveAnswer_sound | apply State.beginSave_sound
                                | apply State.requestSave_sound | apply forEach_sound | split | dsimp only
                                | fail_if_no_progress refine mk_sound (tabs_of ?_))

theorem State.saveDone_sound (x0 : State) (x1 : Bool) (h0 : x0.Sound) : (State.saveDone x0 x1).Sound := by
  unfold State.saveDone
  with_reducible (repeat' first | assumption | apply ite_sound | apply State.saveEnds_sound | apply State.setObj_sound
                                | apply State.count_sound | apply State.condition_sound | split | dsimp only
                                | fail_if_no_progress refine mk_sound (tabs_of ?_))

theorem State.sdoInformation_sound (x0 : State) (x1 : Sys2Proof.SdoInfo) (h0 : x0.Sound) : (State.sdoInformation x0 x1).Sound := by
  unfold State.sdoInformation
  with_reducible (repeat' first | assumption | apply ite_sound | apply State.reply_sound | split | dsimp only)

theorem State.writeImage_sound (x0 : State) (h0 : x0.Sound) : (State.writeImage x0).Sound := by
  unfold State.writeImage
  with_reducible (repeat' first | assumption | apply ite_sound | split | dsimp only | fail_if_no_progress refine mk_sound (tabs_of ?_))

theorem State.sync0_sound (x0 : State) (x1 : Nat) (x2 : Nat) (h0 : x0.Sound) : (State.sync0 x0 x1 x2).Sound := by
  unfold State.sync0
  with_reducible (repeat' first | assumption | apply ite_sound | apply State.clockTheta_sound | apply State.writeImage_sound
                                | apply State.dcState_sound | split | dsimp only | fail_if_no_progress refine mk_sound (tabs_of ?_))

theorem State.afterToken_sound (x0 : State) (x1 : State) (h0 : x0.Sound) (h1 : x1.Sound) : (State.afterToken x0 x1).Sound := by
  unfold State.afterToken
  with_reducible (repeat' first | assumption | apply ite_sound | apply State.initStore_sound | apply State.resumeAll_sound | split
                                | dsimp only)

theorem State.storeStep_sound (x0 : State) (x1 : Sys2Proof.Shroud) (x2 : Nat) (x3 : Nat) (x4 : Int) (h0 : x0.Sound)
    : (State.storeStep x0 x1 x2 x3 x4).Sound := by
  unfold State.storeStep
  with_reducible (repeat' first | assumption | apply ite_sound | apply State.setObj_sound | split | dsimp only)

theorem State.pathPut_sound (x0 : State) (x1 : Sys2Proof.Path) (x2 : Nat) (x3 : Nat) (x4 : Nat) (x5 : WEnv) (h0 : x0.Sound)
    : (State.pathPut x0 x1 x2 x3 x4 x5).Sound := by
  unfold State.pathPut
  with_reducible (repeat' first | assumption | apply ite_sound | apply State.pathWrite_sound | split | dsimp only)

theorem State.syncLevel_sound (x0 : State) (x1 : Bool) (h0 : x0.Sound) : (State.syncLevel x0 x1).Sound := by
  unfold State.syncLevel
  with_reducible (repeat' first | assumption | apply ite_sound | split | dsimp only | fail_if_no_progress refine mk_sound (tabs_of ?_))

theorem State.calDecoded_sound (x0 : State) (x1 : Codeword) (x2 : Option Nat) (x3 : List Sys2Proof.Byte) (h0 : x0.Sound)
    : (State.calDecoded x0 x1 x2 x3).Sound := by
  unfold State.calDecoded
  with_reducible (repeat' first | assumption | apply ite_sound | apply State.updOpt_sound | apply State.badDecode_sound | split
                                | dsimp only | fail_if_no_progress refine mk_sound (tabs_of ?_))

theorem State.erasedFrame_sound (x0 : State) (x1 : Nat) (h0 : x0.Sound) : (State.erasedFrame x0 x1).Sound := by
  unfold State.erasedFrame
  with_reducible (repeat' first | assumption | apply ite_sound | apply State.countM_sound | apply State.verifyEnds_sound
                                | apply State.stepFailed_sound | apply State.readFailedAt_sound | split | dsimp only)

theorem State.takeBack_sound (x0 : State) (h0 : x0.Sound) : (State.takeBack x0).2.Sound := by
  unfold State.takeBack
  with_reducible (repeat' first | assumption | intro _ | apply State.setDecoder_sound | apply forEach_sound | dsimp only
                                | fail_if_no_progress refine mk_sound (tabs_of ?_))

theorem State.joinPool_sound (x0 : State) (x1 : Codeword) (h0 : x0.Sound) : (State.joinPool x0 x1).Sound := by
  unfold State.joinPool
  with_reducible (repeat' first | assumption | intro _ | apply State.takeBack_sound | apply State.dispatchHead_sound | apply forEach_sound
                                | split | dsimp only | fail_if_no_progress refine mk_sound (tabs_of ?_)
                                | refine fst_sound (by assumption) ?_ | refine snd_sound (by assumption) ?_)

theorem State.codewordIn_sound (x0 : State) (x1 : Nat) (x2 : Nat) (h0 : x0.Sound) : (State.codewordIn x0 x1 x2).Sound := by
  unfold State.codewordIn
  with_reducible (repeat' first | assumption | apply ite_sound | apply State.updMast_sound | apply State.updSector_sound
                                | apply State.showPoolQueue_sound | apply State.countM_sound | apply State.erasedFrame_sound
                                | apply State.joinPool_sound | split | dsimp only | fail_if_no_progress refine mk_sound (tabs_of ?_))

theorem State.decodeFailed_sound (x0 : State) (x1 : Nat) (x2 : Codeword) (x3 : Sector) (h0 : x0.Sound)
    : (State.decodeFailed x0 x1 x2 x3).Sound := by
  unfold State.decodeFailed
  with_reducible (repeat' first | assumption | apply ite_sound | apply State.stepFailed_sound | apply State.updSector_sound
                                | apply State.popDecoder_sound | apply State.readFailedAt_sound | split | dsimp only
                                | fail_if_no_progress refine mk_sound (tabs_of ?_))

theorem State.sectorDecoded_sound (x0 : State) (x1 : Nat) (x2 : Codeword) (x3 : Sector) (x4 : Option Nat × List Sys2Proof.Byte)
    (h0 : x0.Sound) : (State.sectorDecoded x0 x1 x2 x3 x4).Sound := by
  unfold State.sectorDecoded
  with_reducible (repeat' first | assumption | apply ite_sound | apply State.logFound_sound | apply State.dropSector_sound
                                | apply State.popDecoder_sound | apply State.verifyEnds_sound | apply State.countVerdict_sound
                                | apply State.acceptSector_sound | apply State.decodeFailed_sound | split | dsimp only)

theorem State.decodeEnds_sound (x0 : State) (x1 : Nat) (h0 : x0.Sound) : (State.decodeEnds x0 x1).Sound := by
  unfold State.decodeEnds
  with_reducible (repeat' first | assumption | apply ite_sound | apply State.calDecoded_sound | apply State.popDecoder_sound
                                | apply State.stepFailed_sound | apply State.sectorDecoded_sound | split | dsimp only)

theorem State.withFetchWord_sound (x0 : State) (x1 : Nat) (x2 : Nat) (h0 : x0.Sound) : (State.withFetchWord x0 x1 x2).Sound := by
  unfold State.withFetchWord
  with_reducible (repeat' first | assumption | split | dsimp only | fail_if_no_progress refine mk_sound (tabs_of ?_))

theorem State.andSave_sound (x0 : State) (x1 : Nat) (x2 : Int) (x3 : State) (h0 : x0.Sound) (h3 : x3.Sound)
    : (State.andSave x0 x1 x2 x3).Sound := by
  unfold State.andSave
  with_reducible (repeat' first | assumption | apply ite_sound | apply State.requestSave_sound | split | dsimp only)

end Sys2Proof.Machine
end

