-- ==== Sys2Proof/Laws/SoundRows.lean ====
section
/-! SUPPORT. Every meaning of a command, answering a next state, answers a sound one: one lemma per command. -/
namespace Sys2Proof.Machine
set_option linter.unusedTactic false
set_option linter.unreachableTactic false

theorem execAcquisition_sound (x0 : Nat) (x1 : Nat) (x2 : Nat) (x3 : State) (h3 : x3.Sound) : ResSound (execAcquisition x0 x1 x2 x3) := by
  unfold execAcquisition
  with_reducible (repeat' first | assumption | apply resSound_next | intro _ | apply ite_sound | apply onMast_sound
                                | apply State.at__sound | apply State.order_sound | split | dsimp only)

theorem execAcquisitionRestart_sound (x0 : Nat) (x1 : Nat) (x2 : State) (h2 : x2.Sound) : ResSound (execAcquisitionRestart x0 x1 x2) := by
  unfold execAcquisitionRestart
  with_reducible (repeat' first | assumption | apply resSound_next | intro _ | apply ite_sound | apply onMast_sound
                                | apply State.at__sound | apply State.acqEnter_sound | split | dsimp only)

theorem execAcquisitionTimeout_sound (x0 : Nat) (x1 : Nat) (x2 : State) (h2 : x2.Sound) : ResSound (execAcquisitionTimeout x0 x1 x2) := by
  unfold execAcquisitionTimeout
  with_reducible (repeat' first | assumption | apply resSound_next | intro _ | apply onMast_sound | apply State.at__sound
                                | apply State.acqTimeout_sound | dsimp only)

theorem execAddressUnit_sound (x0 : Nat) (x1 : Nat) (x2 : Nat) (x3 : State) (h3 : x3.Sound) : ResSound (execAddressUnit x0 x1 x2 x3) := by
  unfold execAddressUnit
  with_reducible (repeat' first | assumption | apply resSound_next | intro _ | apply onMast_sound | apply State.at__sound
                                | apply State.addressUnit_sound | dsimp only)

theorem execAlignEnd_sound (x0 : Nat) (x1 : Nat) (x2 : State) (h2 : x2.Sound) : ResSound (execAlignEnd x0 x1 x2) := by
  unfold execAlignEnd
  with_reducible (repeat' first | assumption | apply resSound_next | intro _ | apply ite_sound | apply onMast_sound
                                | apply State.at__sound | apply State.alignEnd_sound | split | dsimp only)

theorem execCalibrationCandidateDone_sound (x0 : Nat) (x1 : Nat) (x2 : Sys2Proof.CalKind) (x3 : State) (h3 : x3.Sound)
    : ResSound (execCalibrationCandidateDone x0 x1 x2 x3) := by
  unfold execCalibrationCandidateDone
  with_reducible (repeat' first | assumption | apply resSound_next | intro _ | apply onMast_sound | apply State.at__sound
                                | apply State.calDone_sound | dsimp only)

theorem execChopperOnTimeout_sound (x0 : Nat) (x1 : Nat) (x2 : State) (h2 : x2.Sound) : ResSound (execChopperOnTimeout x0 x1 x2) := by
  unfold execChopperOnTimeout
  with_reducible (repeat' first | assumption | apply resSound_next | intro _ | apply onMast_sound | apply State.at__sound
                                | apply State.chopperTimeout_sound | dsimp only)

theorem execClockTrackRun_sound (x0 : Nat) (x1 : Nat) (x2 : Nat) (x3 : State) (h3 : x3.Sound)
    : ResSound (execClockTrackRun x0 x1 x2 x3) := by
  unfold execClockTrackRun
  with_reducible (repeat' first | assumption | apply resSound_next | intro _ | apply onMast_sound | apply State.at__sound
                                | apply State.clockRun_sound | apply State.atStrobe_sound | dsimp only)

theorem execCommandFrameSend_sound (x0 : Nat) (x1 : Nat) (x2 : Nat) (x3 : State) (h3 : x3.Sound)
    : ResSound (execCommandFrameSend x0 x1 x2 x3) := by
  unfold execCommandFrameSend
  with_reducible (repeat' first | assumption | apply resSound_next | intro _ | apply onMast_sound | apply State.at__sound
                                | apply State.sendCommand_sound | dsimp only)

theorem execFurlNAssert_sound (x0 : Nat) (x1 : State) (h1 : x1.Sound) : ResSound (execFurlNAssert x0 x1) := by
  unfold execFurlNAssert
  with_reducible (repeat' first | assumption | apply resSound_next | intro _ | apply ite_sound | apply State.at__sound
                                | apply State.count_sound | apply State.setObj_sound | apply State.furlMast_sound | apply forEach_sound
                                | split | dsimp only | fail_if_no_progress refine mk_sound (tabs_of ?_))

theorem execHoming_sound (x0 : Nat) (x1 : Nat) (x2 : State) (h2 : x2.Sound) : ResSound (execHoming x0 x1 x2) := by
  unfold execHoming
  with_reducible (repeat' first | assumption | apply resSound_next | intro _ | apply ite_sound | apply onMast_sound
                                | apply State.at__sound | apply State.orderHoming_sound | split | dsimp only)

theorem execHomingSeekStart_sound (x0 : Nat) (x1 : Nat) (x2 : State) (h2 : x2.Sound) : ResSound (execHomingSeekStart x0 x1 x2) := by
  unfold execHomingSeekStart
  with_reducible (repeat' first | assumption | apply resSound_next | intro _ | apply ite_sound | apply onMast_sound
                                | apply State.at__sound | apply State.homingSeek_sound | split | dsimp only)

theorem execIdentityFrame_sound (x0 : Nat) (x1 : Nat) (x2 : Nat) (x3 : Sys2Proof.RxFrame) (x4 : Nat) (x5 : State) (h5 : x5.Sound)
    : ResSound (execIdentityFrame x0 x1 x2 x3 x4 x5) := by
  unfold execIdentityFrame
  with_reducible (repeat' first | assumption | apply resSound_next | intro _ | apply onMast_sound | apply State.at__sound
                                | apply State.identityFrame_sound | apply State.atTick_sound | dsimp only)

theorem execInboundIdleFrame_sound (x0 : Nat) (x1 : Nat) (x2 : Nat) (x3 : Sys2Proof.IdleFrame) (x4 : State) (h4 : x4.Sound)
    : ResSound (execInboundIdleFrame x0 x1 x2 x3 x4) := by
  unfold execInboundIdleFrame
  with_reducible (repeat' first | assumption | apply resSound_next | intro _ | apply onMast_sound | apply State.at__sound
                                | apply State.judgeEye_sound | apply State.rxFrame_sound | dsimp only
                                | refine fst_sound (by assumption) ?_ | refine snd_sound (by assumption) ?_)

theorem execLaneDown_sound (x0 : Nat) (x1 : Nat) (x2 : Nat) (x3 : State) (h3 : x3.Sound) : ResSound (execLaneDown x0 x1 x2 x3) := by
  unfold execLaneDown
  with_reducible (repeat' first | assumption | apply resSound_next | intro _ | apply ite_sound | apply onMast_sound
                                | apply State.at__sound | apply State.laneGoesDown_sound | split | dsimp only)

theorem execLaneReacquireTimeout_sound (x0 : Nat) (x1 : Nat) (x2 : Nat) (x3 : State) (h3 : x3.Sound)
    : ResSound (execLaneReacquireTimeout x0 x1 x2 x3) := by
  unfold execLaneReacquireTimeout
  with_reducible (repeat' first | assumption | apply resSound_next | intro _ | apply ite_sound | apply onMast_sound
                                | apply State.at__sound | apply State.laneNotBack_sound | split | dsimp only)

theorem execLaneReacquired_sound (x0 : Nat) (x1 : Nat) (x2 : Nat) (x3 : State) (h3 : x3.Sound)
    : ResSound (execLaneReacquired x0 x1 x2 x3) := by
  unfold execLaneReacquired
  with_reducible (repeat' first | assumption | apply resSound_next | intro _ | apply ite_sound | apply onMast_sound
                                | apply State.at__sound | apply State.laneReturns_sound | apply State.linkLostTimeout_sound | split
                                | dsimp only)

theorem execLayerJump_sound (x0 : Nat) (x1 : Nat) (x2 : Nat) (x3 : State) (h3 : x3.Sound) : ResSound (execLayerJump x0 x1 x2 x3) := by
  unfold execLayerJump
  with_reducible (repeat' first | assumption | apply resSound_next | intro _ | apply getD_sound | apply ite_sound | apply onMast_sound
                                | apply State.at__sound | apply State.order_sound | split | dsimp only)

theorem execLayerJumpTimeout_sound (x0 : Nat) (x1 : Nat) (x2 : State) (h2 : x2.Sound) : ResSound (execLayerJumpTimeout x0 x1 x2) := by
  unfold execLayerJumpTimeout
  with_reducible (repeat' first | assumption | apply resSound_next | intro _ | apply onMast_sound | apply State.at__sound
                                | apply State.layerTimeout_sound | dsimp only)

theorem execLmapClear_sound (x0 : Nat) (x1 : Nat) (x2 : State) (h2 : x2.Sound) : ResSound (execLmapClear x0 x1 x2) := by
  unfold execLmapClear
  with_reducible (repeat' first | assumption | apply resSound_next | intro _ | apply onMast_sound | apply State.at__sound
                                | apply State.lmapEnds_sound | dsimp only)

theorem execLoopEvaluation_sound (x0 : Nat) (x1 : Nat) (x2 : Nat) (x3 : State) (h3 : x3.Sound)
    : ResSound (execLoopEvaluation x0 x1 x2 x3) := by
  unfold execLoopEvaluation
  with_reducible (repeat' first | assumption | apply resSound_next | intro _ | apply onMast_sound | apply State.at__sound
                                | apply State.evalStrobe_sound | dsimp only)

theorem execMastAbsentTimeout_sound (x0 : Nat) (x1 : Nat) (x2 : State) (h2 : x2.Sound) : ResSound (execMastAbsentTimeout x0 x1 x2) := by
  unfold execMastAbsentTimeout
  with_reducible (repeat' first | assumption | apply resSound_next | intro _ | apply onMast_sound | apply State.at__sound
                                | apply State.absentTimeout_sound | dsimp only)

theorem execMastLinkLostTimeout_sound (x0 : Nat) (x1 : Nat) (x2 : State) (h2 : x2.Sound)
    : ResSound (execMastLinkLostTimeout x0 x1 x2) := by
  unfold execMastLinkLostTimeout
  with_reducible (repeat' first | assumption | apply resSound_next | intro _ | apply onMast_sound | apply State.at__sound
                                | apply State.linkLostTimeout_sound | dsimp only)

theorem execMastLinkSignalDetect_sound (x0 : Nat) (x1 : Nat) (x2 : State) (h2 : x2.Sound)
    : ResSound (execMastLinkSignalDetect x0 x1 x2) := by
  unfold execMastLinkSignalDetect
  with_reducible (repeat' first | assumption | apply resSound_next | intro _ | apply onMast_sound | apply State.at__sound
                                | apply State.signalDetect_sound | dsimp only)

theorem execOutboundIdleFrameSend_sound (x0 : Nat) (x1 : Nat) (x2 : Nat) (x3 : State) (h3 : x3.Sound)
    : ResSound (execOutboundIdleFrameSend x0 x1 x2 x3) := by
  unfold execOutboundIdleFrameSend
  with_reducible (repeat' first | assumption | apply resSound_next | intro _ | apply onMast_sound | apply State.at__sound
                                | apply State.sendIdle_sound | dsimp only)

theorem execSampleFrame_sound (x0 : Nat) (x1 : Nat) (x2 : Nat) (x3 : Sys2Proof.RxFrame) (x4 : State) (h4 : x4.Sound)
    : ResSound (execSampleFrame x0 x1 x2 x3 x4) := by
  unfold execSampleFrame
  with_reducible (repeat' first | assumption | apply resSound_next | intro _ | apply onMast_sound | apply State.at__sound
                                | apply State.sampleFrame_sound | dsimp only)

theorem execSampleTelemetryFrame_sound (x0 : Nat) (x1 : Nat) (x2 : Nat) (x3 : Sys2Proof.RxFrame) (x4 : State) (h4 : x4.Sound)
    : ResSound (execSampleTelemetryFrame x0 x1 x2 x3 x4) := by
  unfold execSampleTelemetryFrame
  with_reducible (repeat' first | assumption | apply resSound_next | intro _ | apply onMast_sound | apply State.at__sound
                                | apply State.telemetryFrame_sound | dsimp only)

theorem execSeek_sound (x0 : Nat) (x1 : Nat) (x2 : Nat) (x3 : State) (h3 : x3.Sound) : ResSound (execSeek x0 x1 x2 x3) := by
  unfold execSeek
  with_reducible (repeat' first | assumption | apply resSound_next | intro _ | apply ite_sound | apply onMast_sound
                                | apply State.at__sound | apply State.order_sound | split | dsimp only)

theorem execSledPeriodBoundary_sound (x0 : Nat) (x1 : Nat) (x2 : Nat) (x3 : State) (h3 : x3.Sound)
    : ResSound (execSledPeriodBoundary x0 x1 x2 x3) := by
  unfold execSledPeriodBoundary
  with_reducible (repeat' first | assumption | apply resSound_next | intro _ | apply onMast_sound | apply State.at__sound
                                | apply State.sledBoundary_sound | apply State.atTick_sound | dsimp only)

theorem execSledPlanning_sound (x0 : Nat) (x1 : Nat) (x2 : Nat) (x3 : State) (h3 : x3.Sound)
    : ResSound (execSledPlanning x0 x1 x2 x3) := by
  unfold execSledPlanning
  with_reducible (repeat' first | assumption | apply resSound_next | intro _ | apply onMast_sound | apply State.at__sound
                                | apply State.planStrobe_sound | dsimp only)

theorem execSledStep_sound (x0 : Nat) (x1 : Nat) (x2 : Nat) (x3 : State) (h3 : x3.Sound) : ResSound (execSledStep x0 x1 x2 x3) := by
  unfold execSledStep
  with_reducible (repeat' first | assumption | apply resSound_next | intro _ | apply onMast_sound | apply State.at__sound
                                | apply State.sledStep_sound | apply State.atTick_sound | dsimp only)

theorem execSpindleStart_sound (x0 : Nat) (x1 : Nat) (x2 : State) (h2 : x2.Sound) : ResSound (execSpindleStart x0 x1 x2) := by
  unfold execSpindleStart
  with_reducible (repeat' first | assumption | apply resSound_next | intro _ | apply ite_sound | apply onMast_sound
                                | apply State.at__sound | apply State.spindleStart_sound | split | dsimp only)

theorem execStartClassify_sound (x0 : Nat) (x1 : Nat) (x2 : State) (h2 : x2.Sound) : ResSound (execStartClassify x0 x1 x2) := by
  unfold execStartClassify
  with_reducible (repeat' first | assumption | apply resSound_next | intro _ | apply ite_sound | apply onMast_sound
                                | apply State.at__sound | apply State.classify_sound | split | dsimp only)

theorem execStartRetry_sound (x0 : Nat) (x1 : Nat) (x2 : State) (h2 : x2.Sound) : ResSound (execStartRetry x0 x1 x2) := by
  unfold execStartRetry
  with_reducible (repeat' first | assumption | apply resSound_next | intro _ | apply ite_sound | apply onMast_sound
                                | apply State.at__sound | apply State.spindleStart_sound | split | dsimp only)

theorem execStartTimeout_sound (x0 : Nat) (x1 : Nat) (x2 : State) (h2 : x2.Sound) : ResSound (execStartTimeout x0 x1 x2) := by
  unfold execStartTimeout
  with_reducible (repeat' first | assumption | apply resSound_next | intro _ | apply ite_sound | apply onMast_sound
                                | apply State.at__sound | apply State.startTimeout_sound | split | dsimp only)

theorem execSyncInEdge_sound (x0 : Sys2Proof.Pulse) (x1 : State) (h1 : x1.Sound) : ResSound (execSyncInEdge x0 x1) := by
  unfold execSyncInEdge
  with_reducible (repeat' first | assumption | apply resSound_next | apply ite_sound | apply State.at__sound | apply State.syncLost_sound
                                | apply State.count_sound | apply State.syncAccept_sound | split | dsimp only
                                | fail_if_no_progress refine mk_sound (tabs_of ?_))

theorem execSyncInLost_sound (x0 : Nat) (x1 : State) (h1 : x1.Sound) : ResSound (execSyncInLost x0 x1) := by
  unfold execSyncInLost
  with_reducible (repeat' first | assumption | apply resSound_next | apply State.at__sound | apply State.syncLost_sound | dsimp only)

theorem execSyncInStuck_sound (x0 : Nat) (x1 : State) (h1 : x1.Sound) : ResSound (execSyncInStuck x0 x1) := by
  unfold execSyncInStuck
  with_reducible (repeat' first | assumption | apply resSound_next | apply ite_sound | apply State.at__sound | apply State.condition_sound
                                | apply State.count_sound | apply State.setObj_sound | split | dsimp only)

theorem execTelemetryTake_sound (x0 : Nat) (x1 : Nat) (x2 : Nat) (x3 : State) (h3 : x3.Sound)
    : ResSound (execTelemetryTake x0 x1 x2 x3) := by
  unfold execTelemetryTake
  with_reducible (repeat' first | assumption | apply resSound_next | intro _ | apply onMast_sound | apply State.at__sound
                                | apply State.takeTelemetry_sound | dsimp only)

theorem execTrackJump_sound (x0 : Nat) (x1 : Nat) (x2 : Int) (x3 : State) (h3 : x3.Sound) : ResSound (execTrackJump x0 x1 x2 x3) := by
  unfold execTrackJump
  with_reducible (repeat' first | assumption | apply resSound_next | intro _ | apply ite_sound | apply onMast_sound
                                | apply State.at__sound | apply State.order_sound | split | dsimp only)

theorem execTrackJumpTimeout_sound (x0 : Nat) (x1 : Nat) (x2 : State) (h2 : x2.Sound) : ResSound (execTrackJumpTimeout x0 x1 x2) := by
  unfold execTrackJumpTimeout
  with_reducible (repeat' first | assumption | apply resSound_next | intro _ | apply onMast_sound | apply State.at__sound
                                | apply State.jumpTimeout_sound | dsimp only)

theorem execTrainingEqualisationEnd_sound (x0 : Nat) (x1 : Nat) (x2 : State) (h2 : x2.Sound)
    : ResSound (execTrainingEqualisationEnd x0 x1 x2) := by
  unfold execTrainingEqualisationEnd
  with_reducible (repeat' first | assumption | apply resSound_next | intro _ | apply onMast_sound | apply State.at__sound
                                | apply State.equalisationEnd_sound | dsimp only)

theorem execTrainingRetry_sound (x0 : Nat) (x1 : Nat) (x2 : State) (h2 : x2.Sound) : ResSound (execTrainingRetry x0 x1 x2) := by
  unfold execTrainingRetry
  with_reducible (repeat' first | assumption | apply resSound_next | intro _ | apply onMast_sound | apply State.at__sound
                                | apply State.trainingRetry_sound | dsimp only)

theorem execTrainingTimeout_sound (x0 : Nat) (x1 : Nat) (x2 : State) (h2 : x2.Sound) : ResSound (execTrainingTimeout x0 x1 x2) := by
  unfold execTrainingTimeout
  with_reducible (repeat' first | assumption | apply resSound_next | intro _ | apply onMast_sound | apply State.at__sound
                                | apply State.trainingTimeout_sound | dsimp only)

theorem execYardCommand_sound (x0 : Nat) (x1 : Nat) (x2 : Nat) (x3 : Sys2Proof.YardCmd) (x4 : State) (h4 : x4.Sound)
    : ResSound (execYardCommand x0 x1 x2 x3 x4) := by
  unfold execYardCommand
  with_reducible (repeat' first | assumption | apply resSound_next | intro _ | apply onMast_sound | apply State.at__sound
                                | apply State.yardCmd_sound | dsimp only)

theorem execCodewordDispatch_sound (x0 : Nat) (x1 : Nat) (x2 : State) (h2 : x2.Sound) : ResSound (execCodewordDispatch x0 x1 x2) := by
  unfold execCodewordDispatch
  with_reducible (repeat' first | assumption | apply resSound_next | apply ite_sound | apply State.at__sound
                                | apply State.dispatchHead_sound | split | dsimp only)

theorem execDecoderMemoryError_sound (x0 : Nat) (x1 : Nat) (x2 : State) (h2 : x2.Sound) : ResSound (execDecoderMemoryError x0 x1 x2) := by
  unfold execDecoderMemoryError
  with_reducible (repeat' first | assumption | apply resSound_next | apply ite_sound | apply State.at__sound
                                | apply State.failDecoder_sound | apply State.showPoolQueue_sound | apply State.restartCodeword_sound
                                | apply State.popDecoder_sound | split | dsimp only)

theorem execDecoderSelfTest_sound (x0 : Nat) (x1 : Nat) (x2 : Bool) (x3 : State) (h3 : x3.Sound)
    : ResSound (execDecoderSelfTest x0 x1 x2 x3) := by
  unfold execDecoderSelfTest
  with_reducible (repeat' first | assumption | apply resSound_next | apply ite_sound | apply State.at__sound
                                | apply State.setDecoder_sound | apply State.showPoolQueue_sound | apply State.retireDecoder_sound | split
                                | dsimp only | fail_if_no_progress refine mk_sound (tabs_of ?_))

theorem execMastRevolutionSchedule_sound (x0 : Nat) (x1 : Nat) (x2 : State) (h2 : x2.Sound)
    : ResSound (execMastRevolutionSchedule x0 x1 x2) := by
  unfold execMastRevolutionSchedule
  with_reducible (repeat' first | assumption | apply resSound_next | intro _ | apply onMast_sound | apply State.at__sound
                                | apply State.schedule_sound | dsimp only)

theorem execPeerFetchTimeout_sound (x0 : Nat) (x1 : Nat) (x2 : State) (h2 : x2.Sound) : ResSound (execPeerFetchTimeout x0 x1 x2) := by
  unfold execPeerFetchTimeout
  with_reducible (repeat' first | assumption | apply resSound_next | apply ite_sound | apply State.at__sound
                                | apply State.stepFailed_sound | split | dsimp only)

theorem execBurnRevolution_sound (x0 : Nat) (x1 : Nat) (x2 : State) (h2 : x2.Sound) : ResSound (execBurnRevolution x0 x1 x2) := by
  unfold execBurnRevolution
  with_reducible (repeat' first | assumption | apply resSound_next | intro _ | apply onMast_sound | apply State.at__sound
                                | apply State.burnRevolution_sound | dsimp only)

theorem execDurableLimitExpiry_sound (x0 : Nat) (x1 : Nat) (x2 : State) (h2 : x2.Sound) : ResSound (execDurableLimitExpiry x0 x1 x2) := by
  unfold execDurableLimitExpiry
  with_reducible (repeat' first | assumption | apply resSound_next | apply ite_sound | apply State.at__sound | apply State.failWrite_sound
                                | split | dsimp only)

theorem execPassBoundary_sound (x0 : Nat) (x1 : Nat) (x2 : State) (h2 : x2.Sound) : ResSound (execPassBoundary x0 x1 x2) := by
  unfold execPassBoundary
  with_reducible (repeat' first | assumption | apply resSound_next | intro _ | apply onMast_sound | apply State.at__sound
                                | apply State.passBoundary_sound | dsimp only)

theorem execRecordBurn_sound (x0 : Nat) (x1 : Nat) (x2 : State) (h2 : x2.Sound) : ResSound (execRecordBurn x0 x1 x2) := by
  unfold execRecordBurn
  with_reducible (repeat' first | assumption | apply resSound_next | intro _ | apply onMast_sound | apply State.at__sound
                                | apply State.recordBurn_sound | dsimp only)

theorem execRecordDelayExpiry_sound (x0 : Nat) (x1 : Nat) (x2 : State) (h2 : x2.Sound) : ResSound (execRecordDelayExpiry x0 x1 x2) := by
  unfold execRecordDelayExpiry
  with_reducible (repeat' first | assumption | apply resSound_next | intro _ | apply ite_sound | apply onMast_sound
                                | apply State.at__sound | apply State.closeRec_sound | split | dsimp only)

theorem execRelocationPass_sound (x0 : Nat) (x1 : Nat) (x2 : State) (h2 : x2.Sound) : ResSound (execRelocationPass x0 x1 x2) := by
  unfold execRelocationPass
  with_reducible (repeat' first | assumption | apply resSound_next | intro _ | apply onMast_sound | apply State.at__sound
                                | apply State.relocationPass_sound | dsimp only)

theorem execSliceExpiry_sound (x0 : Nat) (x1 : Nat) (x2 : State) (h2 : x2.Sound) : ResSound (execSliceExpiry x0 x1 x2) := by
  unfold execSliceExpiry
  with_reducible (repeat' first | assumption | apply resSound_next | intro _ | apply onMast_sound | apply State.at__sound
                                | apply State.sliceExpiry_sound | dsimp only)

theorem execVerifyRevolution_sound (x0 : Nat) (x1 : Nat) (x2 : Nat) (x3 : State) (h3 : x3.Sound)
    : ResSound (execVerifyRevolution x0 x1 x2 x3) := by
  unfold execVerifyRevolution
  with_reducible (repeat' first | assumption | apply resSound_next | intro _ | apply onMast_sound | apply State.at__sound
                                | apply State.verifyRevolution_sound | apply State.atTick_sound | dsimp only)

theorem execCacheAccess_sound (x0 : Nat) (x1 : Sys2Proof.CacheKind) (x2 : Nat) (x3 : Nat) (x4 : Bool) (x5 : List Sys2Proof.Granule)
    (x6 : State) (h6 : x6.Sound) : ResSound (execCacheAccess x0 x1 x2 x3 x4 x5 x6) := by
  unfold execCacheAccess
  with_reducible (repeat' first | assumption | apply resSound_next | apply State.cacheAccess_sound | apply State.at__sound | dsimp only
                                | fail_if_no_progress refine mk_sound (tabs_of ?_))

theorem execCacheAgeing_sound (x0 : Nat) (x1 : State) (h1 : x1.Sound) : ResSound (execCacheAgeing x0 x1) := by
  unfold execCacheAgeing
  with_reducible (repeat' first | assumption | apply resSound_next | apply State.cacheAge_sound | apply State.at__sound | dsimp only)

theorem execCacheFillReturn_sound (x0 : Nat) (x1 : Nat) (x2 : Nat) (x3 : Bool) (x4 : State) (h4 : x4.Sound)
    : ResSound (execCacheFillReturn x0 x1 x2 x3 x4) := by
  unfold execCacheFillReturn
  with_reducible (repeat' first | assumption | apply resSound_next | apply State.fillReturn_sound | apply State.at__sound | dsimp only)

theorem execChannelFillDone_sound (x0 : Nat) (x1 : Nat) (x2 : State) (h2 : x2.Sound) : ResSound (execChannelFillDone x0 x1 x2) := by
  unfold execChannelFillDone
  with_reducible (repeat' first | assumption | apply resSound_next | apply State.channelFilled_sound | apply State.at__sound | dsimp only)

theorem execLossOfTraining_sound (x0 : Nat) (x1 : Nat) (x2 : State) (h2 : x2.Sound) : ResSound (execLossOfTraining x0 x1 x2) := by
  unfold execLossOfTraining
  with_reducible (repeat' first | assumption | apply resSound_next | apply ite_sound | apply State.at__sound
                                | apply State.trainingLost_sound | split | dsimp only)

theorem execScrubRead_sound (x0 : Nat) (x1 : Nat) (x2 : List Sys2Proof.Granule) (x3 : State) (h3 : x3.Sound)
    : ResSound (execScrubRead x0 x1 x2 x3) := by
  unfold execScrubRead
  with_reducible (repeat' first | assumption | apply resSound_next | apply ite_sound | apply State.at__sound | apply State.scrubRead_sound
                                | split | dsimp only)

theorem execShareCopyDone_sound (x0 : Nat) (x1 : Nat) (x2 : Nat) (x3 : State) (h3 : x3.Sound)
    : ResSound (execShareCopyDone x0 x1 x2 x3) := by
  unfold execShareCopyDone
  with_reducible (repeat' first | assumption | apply resSound_next | apply State.shareCopied_sound | apply State.at__sound | dsimp only)

theorem execJobSegmentStart_sound (x0 : Nat) (x1 : Nat) (x2 : State) (h2 : x2.Sound) : ResSound (execJobSegmentStart x0 x1 x2) := by
  unfold execJobSegmentStart
  with_reducible (repeat' first | assumption | apply resSound_next | apply ite_sound | apply State.at__sound
                                | apply State.segmentStart_sound | split | dsimp only)

theorem execWAdd_sound (x0 : Nat) (x1 : Nat) (x2 : Sys2Proof.WordCheck) (x3 : State) (h3 : x3.Sound)
    : ResSound (execWAdd x0 x1 x2 x3) := by
  unfold execWAdd
  with_reducible (repeat' first | assumption | apply resSound_next | apply wordRow_sound | apply opAdd_sound | dsimp only)

theorem execWAddc_sound (x0 : Nat) (x1 : Nat) (x2 : Sys2Proof.WordCheck) (x3 : State) (h3 : x3.Sound)
    : ResSound (execWAddc x0 x1 x2 x3) := by
  unfold execWAddc
  with_reducible (repeat' first | assumption | apply resSound_next | apply wordRow_sound | apply opAddc_sound | dsimp only)

theorem execWAnd_sound (x0 : Nat) (x1 : Nat) (x2 : Sys2Proof.WordCheck) (x3 : State) (h3 : x3.Sound)
    : ResSound (execWAnd x0 x1 x2 x3) := by
  unfold execWAnd
  with_reducible (repeat' first | assumption | apply resSound_next | apply wordRow_sound | apply opAnd_sound | dsimp only)

theorem execWAndn_sound (x0 : Nat) (x1 : Nat) (x2 : Sys2Proof.WordCheck) (x3 : State) (h3 : x3.Sound)
    : ResSound (execWAndn x0 x1 x2 x3) := by
  unfold execWAndn
  with_reducible (repeat' first | assumption | apply resSound_next | apply wordRow_sound | apply opAndn_sound | dsimp only)

theorem execWBfi_sound (x0 : Nat) (x1 : Nat) (x2 : Sys2Proof.WordCheck) (x3 : State) (h3 : x3.Sound)
    : ResSound (execWBfi x0 x1 x2 x3) := by
  unfold execWBfi
  with_reducible (repeat' first | assumption | apply resSound_next | apply wordRow_sound | apply opBfi_sound | dsimp only)

theorem execWBfx_sound (x0 : Nat) (x1 : Nat) (x2 : Sys2Proof.WordCheck) (x3 : State) (h3 : x3.Sound)
    : ResSound (execWBfx x0 x1 x2 x3) := by
  unfold execWBfx
  with_reducible (repeat' first | assumption | apply resSound_next | apply wordRow_sound | apply opBfx_sound | dsimp only)

theorem execWBswap_sound (x0 : Nat) (x1 : Nat) (x2 : Sys2Proof.WordCheck) (x3 : State) (h3 : x3.Sound)
    : ResSound (execWBswap x0 x1 x2 x3) := by
  unfold execWBswap
  with_reducible (repeat' first | assumption | apply resSound_next | apply wordRow_sound | apply opBswap_sound | dsimp only)

theorem execWClz_sound (x0 : Nat) (x1 : Nat) (x2 : Sys2Proof.WordCheck) (x3 : State) (h3 : x3.Sound)
    : ResSound (execWClz x0 x1 x2 x3) := by
  unfold execWClz
  with_reducible (repeat' first | assumption | apply resSound_next | apply wordRow_sound | apply opClz_sound | dsimp only)

theorem execWCmp_sound (x0 : Nat) (x1 : Nat) (x2 : Sys2Proof.WordCheck) (x3 : State) (h3 : x3.Sound)
    : ResSound (execWCmp x0 x1 x2 x3) := by
  unfold execWCmp
  with_reducible (repeat' first | assumption | apply resSound_next | apply wordRow_sound | apply opCmp_sound | dsimp only)

theorem execWCtz_sound (x0 : Nat) (x1 : Nat) (x2 : Sys2Proof.WordCheck) (x3 : State) (h3 : x3.Sound)
    : ResSound (execWCtz x0 x1 x2 x3) := by
  unfold execWCtz
  with_reducible (repeat' first | assumption | apply resSound_next | apply wordRow_sound | apply opCtz_sound | dsimp only)

theorem execWCvf_sound (x0 : Nat) (x1 : Nat) (x2 : Sys2Proof.WordCheck) (x3 : State) (h3 : x3.Sound)
    : ResSound (execWCvf x0 x1 x2 x3) := by
  unfold execWCvf
  with_reducible (repeat' first | assumption | apply resSound_next | apply wordRow_sound | apply opCvf_sound | dsimp only)

theorem execWGets_sound (x0 : Nat) (x1 : Nat) (x2 : Sys2Proof.WordCheck) (x3 : State) (h3 : x3.Sound)
    : ResSound (execWGets x0 x1 x2 x3) := by
  unfold execWGets
  with_reducible (repeat' first | assumption | apply resSound_next | apply wordRow_sound | apply opGets_sound | dsimp only)

theorem execWIn_sound (x0 : Nat) (x1 : Nat) (x2 : Sys2Proof.WordCheck) (x3 : State) (h3 : x3.Sound) : ResSound (execWIn x0 x1 x2 x3) := by
  unfold execWIn
  with_reducible (repeat' first | assumption | apply resSound_next | apply ite_sound | apply wordRow_sound | apply opIn_sound
                                | apply State.at__sound | split | dsimp only)

theorem execWLds_sound (x0 : Nat) (x1 : Nat) (x2 : Sys2Proof.WordCheck) (x3 : State) (h3 : x3.Sound)
    : ResSound (execWLds x0 x1 x2 x3) := by
  unfold execWLds
  with_reducible (repeat' first | assumption | apply resSound_next | apply wordRow_sound | apply opLds_sound | dsimp only)

theorem execWLdw_sound (x0 : Nat) (x1 : Nat) (x2 : Sys2Proof.WordCheck) (x3 : State) (h3 : x3.Sound)
    : ResSound (execWLdw x0 x1 x2 x3) := by
  unfold execWLdw
  with_reducible (repeat' first | assumption | apply resSound_next | apply wordRow_sound | apply opLdw_sound | dsimp only)

theorem execWMatch8_sound (x0 : Nat) (x1 : Nat) (x2 : Sys2Proof.WordCheck) (x3 : State) (h3 : x3.Sound)
    : ResSound (execWMatch8 x0 x1 x2 x3) := by
  unfold execWMatch8
  with_reducible (repeat' first | assumption | apply resSound_next | apply wordRow_sound | apply opMatch8_sound | dsimp only)

theorem execWMax_sound (x0 : Nat) (x1 : Nat) (x2 : Sys2Proof.WordCheck) (x3 : State) (h3 : x3.Sound)
    : ResSound (execWMax x0 x1 x2 x3) := by
  unfold execWMax
  with_reducible (repeat' first | assumption | apply resSound_next | apply wordRow_sound | apply opMax_sound | dsimp only)

theorem execWMin_sound (x0 : Nat) (x1 : Nat) (x2 : Sys2Proof.WordCheck) (x3 : State) (h3 : x3.Sound)
    : ResSound (execWMin x0 x1 x2 x3) := by
  unfold execWMin
  with_reducible (repeat' first | assumption | apply resSound_next | apply wordRow_sound | apply opMin_sound | dsimp only)

theorem execWMov_sound (x0 : Nat) (x1 : Nat) (x2 : Sys2Proof.WordCheck) (x3 : State) (h3 : x3.Sound)
    : ResSound (execWMov x0 x1 x2 x3) := by
  unfold execWMov
  with_reducible (repeat' first | assumption | apply resSound_next | apply wordRow_sound | apply opMov_sound | dsimp only)

theorem execWMul_sound (x0 : Nat) (x1 : Nat) (x2 : Sys2Proof.WordCheck) (x3 : State) (h3 : x3.Sound)
    : ResSound (execWMul x0 x1 x2 x3) := by
  unfold execWMul
  with_reducible (repeat' first | assumption | apply resSound_next | apply wordRow_sound | apply opMul_sound | dsimp only)

theorem execWMulh_sound (x0 : Nat) (x1 : Nat) (x2 : Sys2Proof.WordCheck) (x3 : State) (h3 : x3.Sound)
    : ResSound (execWMulh x0 x1 x2 x3) := by
  unfold execWMulh
  with_reducible (repeat' first | assumption | apply resSound_next | apply wordRow_sound | apply opMulh_sound | dsimp only)

theorem execWNop_sound (x0 : Nat) (x1 : Nat) (x2 : Sys2Proof.WordCheck) (x3 : State) (h3 : x3.Sound)
    : ResSound (execWNop x0 x1 x2 x3) := by
  unfold execWNop
  with_reducible (repeat' first | assumption | apply resSound_next | apply wordRow_sound | apply opNop_sound | dsimp only)

theorem execWOr_sound (x0 : Nat) (x1 : Nat) (x2 : Sys2Proof.WordCheck) (x3 : State) (h3 : x3.Sound) : ResSound (execWOr x0 x1 x2 x3) := by
  unfold execWOr
  with_reducible (repeat' first | assumption | apply resSound_next | apply wordRow_sound | apply opOr_sound | dsimp only)

theorem execWOut_sound (x0 : Nat) (x1 : Nat) (x2 : Sys2Proof.WordCheck) (x3 : State) (h3 : x3.Sound)
    : ResSound (execWOut x0 x1 x2 x3) := by
  unfold execWOut
  with_reducible (repeat' first | assumption | apply resSound_next | apply wordRow_sound | apply opOut_sound | dsimp only)

theorem execWPopc_sound (x0 : Nat) (x1 : Nat) (x2 : Sys2Proof.WordCheck) (x3 : State) (h3 : x3.Sound)
    : ResSound (execWPopc x0 x1 x2 x3) := by
  unfold execWPopc
  with_reducible (repeat' first | assumption | apply resSound_next | apply wordRow_sound | apply opPopc_sound | dsimp only)

theorem execWPuts_sound (x0 : Nat) (x1 : Nat) (x2 : Sys2Proof.WordCheck) (x3 : State) (h3 : x3.Sound)
    : ResSound (execWPuts x0 x1 x2 x3) := by
  unfold execWPuts
  with_reducible (repeat' first | assumption | apply resSound_next | apply wordRow_sound | apply opPuts_sound | dsimp only)

theorem execWRange8_sound (x0 : Nat) (x1 : Nat) (x2 : Sys2Proof.WordCheck) (x3 : State) (h3 : x3.Sound)
    : ResSound (execWRange8 x0 x1 x2 x3) := by
  unfold execWRange8
  with_reducible (repeat' first | assumption | apply resSound_next | apply wordRow_sound | apply opRange8_sound | dsimp only)

theorem execWRol_sound (x0 : Nat) (x1 : Nat) (x2 : Sys2Proof.WordCheck) (x3 : State) (h3 : x3.Sound)
    : ResSound (execWRol x0 x1 x2 x3) := by
  unfold execWRol
  with_reducible (repeat' first | assumption | apply resSound_next | apply wordRow_sound | apply opRol_sound | dsimp only)

theorem execWSadd_sound (x0 : Nat) (x1 : Nat) (x2 : Sys2Proof.WordCheck) (x3 : State) (h3 : x3.Sound)
    : ResSound (execWSadd x0 x1 x2 x3) := by
  unfold execWSadd
  with_reducible (repeat' first | assumption | apply resSound_next | apply wordRow_sound | apply opSadd_sound | dsimp only)

theorem execWSar_sound (x0 : Nat) (x1 : Nat) (x2 : Sys2Proof.WordCheck) (x3 : State) (h3 : x3.Sound)
    : ResSound (execWSar x0 x1 x2 x3) := by
  unfold execWSar
  with_reducible (repeat' first | assumption | apply resSound_next | apply wordRow_sound | apply opSar_sound | dsimp only)

theorem execWSel_sound (x0 : Nat) (x1 : Nat) (x2 : Sys2Proof.WordCheck) (x3 : State) (h3 : x3.Sound)
    : ResSound (execWSel x0 x1 x2 x3) := by
  unfold execWSel
  with_reducible (repeat' first | assumption | apply resSound_next | apply wordRow_sound | apply opSel_sound | dsimp only)

theorem execWShl_sound (x0 : Nat) (x1 : Nat) (x2 : Sys2Proof.WordCheck) (x3 : State) (h3 : x3.Sound)
    : ResSound (execWShl x0 x1 x2 x3) := by
  unfold execWShl
  with_reducible (repeat' first | assumption | apply resSound_next | apply wordRow_sound | apply opShl_sound | dsimp only)

theorem execWShr_sound (x0 : Nat) (x1 : Nat) (x2 : Sys2Proof.WordCheck) (x3 : State) (h3 : x3.Sound)
    : ResSound (execWShr x0 x1 x2 x3) := by
  unfold execWShr
  with_reducible (repeat' first | assumption | apply resSound_next | apply wordRow_sound | apply opShr_sound | dsimp only)

theorem execWSts_sound (x0 : Nat) (x1 : Nat) (x2 : Sys2Proof.WordCheck) (x3 : State) (h3 : x3.Sound)
    : ResSound (execWSts x0 x1 x2 x3) := by
  unfold execWSts
  with_reducible (repeat' first | assumption | apply resSound_next | apply wordRow_sound | apply opSts_sound | dsimp only)

theorem execWStw_sound (x0 : Nat) (x1 : Nat) (x2 : Sys2Proof.WordCheck) (x3 : State) (h3 : x3.Sound)
    : ResSound (execWStw x0 x1 x2 x3) := by
  unfold execWStw
  with_reducible (repeat' first | assumption | apply resSound_next | apply wordRow_sound | apply opStw_sound | dsimp only)

theorem execWSub_sound (x0 : Nat) (x1 : Nat) (x2 : Sys2Proof.WordCheck) (x3 : State) (h3 : x3.Sound)
    : ResSound (execWSub x0 x1 x2 x3) := by
  unfold execWSub
  with_reducible (repeat' first | assumption | apply resSound_next | apply wordRow_sound | apply opSub_sound | dsimp only)

theorem execWSubb_sound (x0 : Nat) (x1 : Nat) (x2 : Sys2Proof.WordCheck) (x3 : State) (h3 : x3.Sound)
    : ResSound (execWSubb x0 x1 x2 x3) := by
  unfold execWSubb
  with_reducible (repeat' first | assumption | apply resSound_next | apply wordRow_sound | apply opSubb_sound | dsimp only)

theorem execWXor_sound (x0 : Nat) (x1 : Nat) (x2 : Sys2Proof.WordCheck) (x3 : State) (h3 : x3.Sound)
    : ResSound (execWXor x0 x1 x2 x3) := by
  unfold execWXor
  with_reducible (repeat' first | assumption | apply resSound_next | apply wordRow_sound | apply opXor_sound | dsimp only)

theorem execImageLoadComplete_sound (x0 : Nat) (x1 : State) (h1 : x1.Sound) : ResSound (execImageLoadComplete x0 x1) := by
  unfold execImageLoadComplete
  with_reducible (repeat' first | assumption | apply resSound_next | apply State.at__sound | apply State.endLoad_sound | split
                                | dsimp only | fail_if_no_progress refine mk_sound (tabs_of ?_))

theorem execApertureRead_sound (x0 : Nat) (x1 : Sys2Proof.Fn) (x2 : Nat) (x3 : Nat) (x4 : Nat) (x5 : List Sys2Proof.Granule) (x6 : State)
    (h6 : x6.Sound) : ResSound (execApertureRead x0 x1 x2 x3 x4 x5 x6) := by
  unfold execApertureRead
  with_reducible (repeat' first | assumption | apply resSound_next | intro _ | apply ite_sound | apply State.at__sound
                                | apply State.tlp_sound | apply State.memoryRead_sound | apply forEach_sound | split | dsimp only)

theorem execApertureWrite_sound (x0 : Nat) (x1 : Sys2Proof.Fn) (x2 : Nat) (x3 : List Sys2Proof.Byte) (x4 : Nat) (x5 : Bool) (x6 : State)
    (h6 : x6.Sound) : ResSound (execApertureWrite x0 x1 x2 x3 x4 x5 x6) := by
  unfold execApertureWrite
  with_reducible (repeat' first | assumption | apply resSound_next | apply ite_sound | apply State.at__sound | apply State.aerError_sound
                                | apply State.bar2Write_sound | apply State.grantsExpire_sound | apply State.unmatched_sound | split
                                | dsimp only | refine fst_sound (by assumption) ?_ | refine snd_sound (by assumption) ?_)

theorem execGrantTimeout_sound (x0 : Nat) (x1 : Nat) (x2 : State) (h2 : x2.Sound) : ResSound (execGrantTimeout x0 x1 x2) := by
  unfold execGrantTimeout
  with_reducible (repeat' first | assumption | apply resSound_next | apply State.at__sound | apply State.grantExpires_sound | split
                                | dsimp only)

theorem execStagingGrant_sound (x0 : Nat) (x1 : Nat) (x2 : State) (h2 : x2.Sound) : ResSound (execStagingGrant x0 x1 x2) := by
  unfold execStagingGrant
  with_reducible (repeat' first | assumption | apply resSound_next | apply State.grant_sound | apply State.at__sound | dsimp only)

theorem execWindowCommit_sound (x0 : Nat) (x1 : Sys2Proof.Fn) (x2 : Nat) (x3 : State) (h3 : x3.Sound)
    : ResSound (execWindowCommit x0 x1 x2 x3) := by
  unfold execWindowCommit
  with_reducible (repeat' first | assumption | apply resSound_next | apply ite_sound | apply State.at__sound
                                | apply State.windowCommit_sound | apply State.conditionTo_sound | apply State.count_sound | split
                                | dsimp only)

theorem execAckTimer_sound (x0 : Nat) (x1 : Nat) (x2 : State) (h2 : x2.Sound) : ResSound (execAckTimer x0 x1 x2) := by
  unfold execAckTimer
  with_reducible (repeat' first | assumption | apply resSound_next | intro _ | apply ite_sound | apply onPort_sound
                                | apply State.at__sound | apply State.sendLctl_sound | split | dsimp only)

theorem execCorruptedPacket_sound (x0 : Nat) (x1 : Nat) (x2 : State) (h2 : x2.Sound) : ResSound (execCorruptedPacket x0 x1 x2) := by
  unfold execCorruptedPacket
  with_reducible (repeat' first | assumption | apply resSound_next | intro _ | apply onPort_sound | apply State.at__sound
                                | apply State.corrupted_sound | dsimp only)

theorem execGorcyLaneDown_sound (x0 : Nat) (x1 : Nat) (x2 : Nat) (x3 : State) (h3 : x3.Sound)
    : ResSound (execGorcyLaneDown x0 x1 x2 x3) := by
  unfold execGorcyLaneDown
  with_reducible (repeat' first | assumption | apply resSound_next | intro _ | apply ite_sound | apply onPort_sound
                                | apply State.at__sound | apply State.helloFlush_sound | apply State.gorcyLaneDown_sound | split
                                | dsimp only)

theorem execGorcyLaneReacquireTimeout_sound (x0 : Nat) (x1 : Nat) (x2 : Nat) (x3 : State) (h3 : x3.Sound)
    : ResSound (execGorcyLaneReacquireTimeout x0 x1 x2 x3) := by
  unfold execGorcyLaneReacquireTimeout
  with_reducible (repeat' first | assumption | apply resSound_next | intro _ | apply ite_sound | apply onPort_sound
                                | apply State.at__sound | apply State.helloFlush_sound | apply State.retireGorcyLane_sound | split
                                | dsimp only)

theorem execGorcyLaneReacquired_sound (x0 : Nat) (x1 : Nat) (x2 : Nat) (x3 : State) (h3 : x3.Sound)
    : ResSound (execGorcyLaneReacquired x0 x1 x2 x3) := by
  unfold execGorcyLaneReacquired
  with_reducible (repeat' first | assumption | apply resSound_next | intro _ | apply ite_sound | apply onPort_sound
                                | apply State.at__sound | apply State.retireGorcyLane_sound | apply State.showPort_sound
                                | apply State.setPort_sound | split | dsimp only)

theorem execHello_sound (x0 : Nat) (x1 : Nat) (x2 : Sys2Proof.GPacket) (x3 : State) (h3 : x3.Sound)
    : ResSound (execHello x0 x1 x2 x3) := by
  unfold execHello
  with_reducible (repeat' first | assumption | apply resSound_next | intro _ | apply ite_sound | apply onPort_sound
                                | apply State.at__sound | apply State.parentTimeout_sound | apply State.portTimeout_sound
                                | apply State.corrupted_sound | apply State.helloFlush_sound | apply State.helloIn_sound | split
                                | dsimp only)

theorem execHelloTimer_sound (x0 : Nat) (x1 : State) (h1 : x1.Sound) : ResSound (execHelloTimer x0 x1) := by
  unfold execHelloTimer
  with_reducible (repeat' first | assumption | apply resSound_next | apply State.at__sound | apply State.helloFlush_sound
                                | apply State.oweHello_sound | dsimp only)

theorem execLctl_sound (x0 : Nat) (x1 : Nat) (x2 : Sys2Proof.GPacket) (x3 : State) (h3 : x3.Sound) : ResSound (execLctl x0 x1 x2 x3) := by
  unfold execLctl
  with_reducible (repeat' first | assumption | apply resSound_next | intro _ | apply ite_sound | apply onPort_sound
                                | apply State.at__sound | apply State.corrupted_sound | apply State.lctlIn_sound
                                | apply State.replayDue_sound | split | dsimp only)

theorem execLeaseAgeExpiry_sound (x0 : Nat) (x1 : Nat) (x2 : State) (h2 : x2.Sound) : ResSound (execLeaseAgeExpiry x0 x1 x2) := by
  unfold execLeaseAgeExpiry
  with_reducible (repeat' first | assumption | apply resSound_next | apply State.at__sound | apply State.leaseAges_sound | dsimp only)

theorem execPacketForward_sound (x0 : Nat) (x1 : Nat) (x2 : Sys2Proof.GPacket) (x3 : State) (h3 : x3.Sound)
    : ResSound (execPacketForward x0 x1 x2 x3) := by
  unfold execPacketForward
  with_reducible (repeat' first | assumption | apply resSound_next | apply ite_sound | apply State.linkTake_sound | apply State.at__sound
                                | apply State.forward_sound | split | dsimp only | refine fst_sound (by assumption) ?_
                                | refine snd_sound (by assumption) ?_)

theorem execPortSignalDetect_sound (x0 : Nat) (x1 : Nat) (x2 : State) (h2 : x2.Sound) : ResSound (execPortSignalDetect x0 x1 x2) := by
  unfold execPortSignalDetect
  with_reducible (repeat' first | assumption | apply resSound_next | intro _ | apply onPort_sound | apply State.at__sound
                                | apply State.portSignal_sound | dsimp only)

theorem execPortTrainingTimeout_sound (x0 : Nat) (x1 : Nat) (x2 : State) (h2 : x2.Sound)
    : ResSound (execPortTrainingTimeout x0 x1 x2) := by
  unfold execPortTrainingTimeout
  with_reducible (repeat' first | assumption | apply resSound_next | intro _ | apply onPort_sound | apply State.at__sound
                                | apply State.helloFlush_sound | apply State.portTimeout_sound | dsimp only)

theorem execReplayTimeout_sound (x0 : Nat) (x1 : Nat) (x2 : State) (h2 : x2.Sound) : ResSound (execReplayTimeout x0 x1 x2) := by
  unfold execReplayTimeout
  with_reducible (repeat' first | assumption | apply resSound_next | intro _ | apply onPort_sound | apply State.at__sound
                                | apply State.replayDue_sound | dsimp only)

theorem execTimeParentTimeout_sound (x0 : Nat) (x1 : State) (h1 : x1.Sound) : ResSound (execTimeParentTimeout x0 x1) := by
  unfold execTimeParentTimeout
  with_reducible (repeat' first | assumption | apply resSound_next | apply State.at__sound | apply State.helloFlush_sound
                                | apply State.parentTimeout_sound | dsimp only)

theorem execTypeDiscard_sound (x0 : Nat) (x1 : Nat) (x2 : Sys2Proof.GPacket) (x3 : State) (h3 : x3.Sound)
    : ResSound (execTypeDiscard x0 x1 x2 x3) := by
  unfold execTypeDiscard
  with_reducible (repeat' first | assumption | apply resSound_next | apply ite_sound | apply State.at__sound | apply State.linkTake_sound
                                | apply State.count_sound | apply State.forward_sound | split | dsimp only
                                | refine fst_sound (by assumption) ?_ | refine snd_sound (by assumption) ?_)

theorem execCopyTimeout_sound (x0 : Nat) (x1 : Nat) (x2 : State) (h2 : x2.Sound) : ResSound (execCopyTimeout x0 x1 x2) := by
  unfold execCopyTimeout
  with_reducible (repeat' first | assumption | apply resSound_next | apply State.at__sound | apply State.copyExpires_sound | dsimp only)

theorem execEqHead_sound (x0 : Nat) (x1 : Nat) (x2 : Sys2Proof.GPacket) (x3 : State) (h3 : x3.Sound)
    : ResSound (execEqHead x0 x1 x2 x3) := by
  unfold execEqHead
  with_reducible (repeat' first | assumption | apply resSound_next | intro _ | apply State.packetFor_sound | apply State.at__sound
                                | apply State.peerHead_sound | dsimp only)

theorem execFence_sound (x0 : Nat) (x1 : Nat) (x2 : Sys2Proof.GPacket) (x3 : State) (h3 : x3.Sound)
    : ResSound (execFence x0 x1 x2 x3) := by
  unfold execFence
  with_reducible (repeat' first | assumption | apply resSound_next | intro _ | apply State.packetFor_sound | apply State.at__sound
                                | apply State.fenceIn_sound | dsimp only)

theorem execFenceAck_sound (x0 : Nat) (x1 : Nat) (x2 : Sys2Proof.GPacket) (x3 : State) (h3 : x3.Sound)
    : ResSound (execFenceAck x0 x1 x2 x3) := by
  unfold execFenceAck
  with_reducible (repeat' first | assumption | apply resSound_next | intro _ | apply State.packetFor_sound | apply State.at__sound
                                | apply State.fenceAckIn_sound | dsimp only)

theorem execFenceTimeout_sound (x0 : Nat) (x1 : Nat) (x2 : State) (h2 : x2.Sound) : ResSound (execFenceTimeout x0 x1 x2) := by
  unfold execFenceTimeout
  with_reducible (repeat' first | assumption | apply resSound_next | apply ite_sound | apply State.at__sound | apply State.complete_sound
                                | split | dsimp only)

theorem execFetchRep_sound (x0 : Nat) (x1 : Nat) (x2 : Sys2Proof.GPacket) (x3 : State) (h3 : x3.Sound)
    : ResSound (execFetchRep x0 x1 x2 x3) := by
  unfold execFetchRep
  with_reducible (repeat' first | assumption | apply resSound_next | intro _ | apply State.packetFor_sound | apply State.at__sound
                                | apply State.fetchRepIn_sound | dsimp only)

theorem execFetchReq_sound (x0 : Nat) (x1 : Nat) (x2 : Sys2Proof.GPacket) (x3 : State) (h3 : x3.Sound)
    : ResSound (execFetchReq x0 x1 x2 x3) := by
  unfold execFetchReq
  with_reducible (repeat' first | assumption | apply resSound_next | intro _ | apply State.packetFor_sound | apply State.at__sound
                                | apply State.fetchReqIn_sound | dsimp only)

theorem execGorcyCmd_sound (x0 : Nat) (x1 : Nat) (x2 : Sys2Proof.GPacket) (x3 : State) (h3 : x3.Sound)
    : ResSound (execGorcyCmd x0 x1 x2 x3) := by
  unfold execGorcyCmd
  with_reducible (repeat' first | assumption | apply resSound_next | intro _ | apply State.packetFor_sound | apply State.at__sound
                                | apply State.cmdIn_sound | dsimp only)

theorem execGorcyEvent_sound (x0 : Nat) (x1 : Nat) (x2 : Sys2Proof.GPacket) (x3 : State) (h3 : x3.Sound)
    : ResSound (execGorcyEvent x0 x1 x2 x3) := by
  unfold execGorcyEvent
  with_reducible (repeat' first | assumption | apply resSound_next | intro _ | apply State.packetFor_sound | apply State.at__sound
                                | apply State.eventIn_sound | dsimp only)

theorem execPeerIdleRelease_sound (x0 : Nat) (x1 : Nat) (x2 : State) (h2 : x2.Sound) : ResSound (execPeerIdleRelease x0 x1 x2) := by
  unfold execPeerIdleRelease
  with_reducible (repeat' first | assumption | apply resSound_next | apply State.at__sound | apply State.peerIdle_sound | dsimp only)

theorem execWriteData_sound (x0 : Nat) (x1 : Nat) (x2 : Sys2Proof.GPacket) (x3 : State) (h3 : x3.Sound)
    : ResSound (execWriteData x0 x1 x2 x3) := by
  unfold execWriteData
  with_reducible (repeat' first | assumption | apply resSound_next | intro _ | apply State.packetFor_sound | apply State.at__sound
                                | apply State.writeDataIn_sound | dsimp only)

theorem execAbort_sound (x0 : Nat) (x1 : Nat) (x2 : Sys2Proof.Packet) (x3 : State) (h3 : x3.Sound)
    : ResSound (execAbort x0 x1 x2 x3) := by
  unfold execAbort
  with_reducible (repeat' first | assumption | apply resSound_next | apply arrivalRow_sound | dsimp only)

theorem execCreateEq_sound (x0 : Nat) (x1 : Nat) (x2 : Sys2Proof.Packet) (x3 : State) (h3 : x3.Sound)
    : ResSound (execCreateEq x0 x1 x2 x3) := by
  unfold execCreateEq
  with_reducible (repeat' first | assumption | apply resSound_next | apply arrivalRow_sound | dsimp only)

theorem execCreateSq_sound (x0 : Nat) (x1 : Nat) (x2 : Sys2Proof.Packet) (x3 : State) (h3 : x3.Sound)
    : ResSound (execCreateSq x0 x1 x2 x3) := by
  unfold execCreateSq
  with_reducible (repeat' first | assumption | apply resSound_next | apply arrivalRow_sound | dsimp only)

theorem execDeleteEq_sound (x0 : Nat) (x1 : Nat) (x2 : Sys2Proof.Packet) (x3 : State) (h3 : x3.Sound)
    : ResSound (execDeleteEq x0 x1 x2 x3) := by
  unfold execDeleteEq
  with_reducible (repeat' first | assumption | apply resSound_next | apply arrivalRow_sound | dsimp only)

theorem execDeleteSq_sound (x0 : Nat) (x1 : Nat) (x2 : Sys2Proof.Packet) (x3 : State) (h3 : x3.Sound)
    : ResSound (execDeleteSq x0 x1 x2 x3) := by
  unfold execDeleteSq
  with_reducible (repeat' first | assumption | apply resSound_next | apply arrivalRow_sound | dsimp only)

theorem execDictRead_sound (x0 : Nat) (x1 : Nat) (x2 : Sys2Proof.Packet) (x3 : State) (h3 : x3.Sound)
    : ResSound (execDictRead x0 x1 x2 x3) := by
  unfold execDictRead
  with_reducible (repeat' first | assumption | apply resSound_next | apply arrivalRow_sound | dsimp only)

theorem execDictWrite_sound (x0 : Nat) (x1 : Nat) (x2 : Sys2Proof.Packet) (x3 : State) (h3 : x3.Sound)
    : ResSound (execDictWrite x0 x1 x2 x3) := by
  unfold execDictWrite
  with_reducible (repeat' first | assumption | apply resSound_next | apply arrivalRow_sound | dsimp only)

theorem execEqHeadDoorbell_sound (x0 : Nat) (x1 : Sys2Proof.Fn) (x2 : Nat) (x3 : Nat) (x4 : Nat) (x5 : State) (h5 : x5.Sound)
    : ResSound (execEqHeadDoorbell x0 x1 x2 x3 x4 x5) := by
  unfold execEqHeadDoorbell
  with_reducible (repeat' first | assumption | apply resSound_next | apply ite_sound | apply State.at__sound
                                | apply State.headDoorbell_sound | split | dsimp only)

theorem execEqModerationExpiry_sound (x0 : Nat) (x1 : Nat) (x2 : State) (h2 : x2.Sound) : ResSound (execEqModerationExpiry x0 x1 x2) := by
  unfold execEqModerationExpiry
  with_reducible (repeat' first | assumption | apply resSound_next | apply State.moderate_sound | apply State.at__sound | dsimp only)

theorem execFlush_sound (x0 : Nat) (x1 : Nat) (x2 : Sys2Proof.Packet) (x3 : State) (h3 : x3.Sound)
    : ResSound (execFlush x0 x1 x2 x3) := by
  unfold execFlush
  with_reducible (repeat' first | assumption | apply resSound_next | apply arrivalRow_sound | dsimp only)

theorem execFurl_sound (x0 : Nat) (x1 : Nat) (x2 : Sys2Proof.Packet) (x3 : State) (h3 : x3.Sound) : ResSound (execFurl x0 x1 x2 x3) := by
  unfold execFurl
  with_reducible (repeat' first | assumption | apply resSound_next | apply arrivalRow_sound | dsimp only)

theorem execJob_sound (x0 : Nat) (x1 : Nat) (x2 : Sys2Proof.Packet) (x3 : State) (h3 : x3.Sound) : ResSound (execJob x0 x1 x2 x3) := by
  unfold execJob
  with_reducible (repeat' first | assumption | apply resSound_next | apply arrivalRow_sound | dsimp only)

theorem execMount_sound (x0 : Nat) (x1 : Nat) (x2 : Sys2Proof.Packet) (x3 : State) (h3 : x3.Sound)
    : ResSound (execMount x0 x1 x2 x3) := by
  unfold execMount
  with_reducible (repeat' first | assumption | apply resSound_next | apply arrivalRow_sound | dsimp only)

theorem execMountLogRead_sound (x0 : Nat) (x1 : Nat) (x2 : List Int) (x3 : List Int) (x4 : State) (h4 : x4.Sound)
    : ResSound (execMountLogRead x0 x1 x2 x3 x4) := by
  unfold execMountLogRead
  with_reducible (repeat' first | assumption | apply resSound_next | intro _ | apply onMast_sound | apply State.at__sound
                                | apply State.startMapped_sound | apply State.logRead_sound | dsimp only)

theorem execMsixVectorUnmask_sound (x0 : Nat) (x1 : Sys2Proof.Fn) (x2 : Nat) (x3 : State) (h3 : x3.Sound)
    : ResSound (execMsixVectorUnmask x0 x1 x2 x3) := by
  unfold execMsixVectorUnmask
  with_reducible (repeat' first | assumption | apply resSound_next | apply ite_sound | apply State.at__sound | apply State.unmask_sound
                                | split | dsimp only)

theorem execRead_sound (x0 : Nat) (x1 : Nat) (x2 : Sys2Proof.Packet) (x3 : State) (h3 : x3.Sound) : ResSound (execRead x0 x1 x2 x3) := by
  unfold execRead
  with_reducible (repeat' first | assumption | apply resSound_next | apply arrivalRow_sound | dsimp only)

theorem execReadHeldRelease_sound (x0 : Nat) (x1 : Nat) (x2 : State) (h2 : x2.Sound) : ResSound (execReadHeldRelease x0 x1 x2) := by
  unfold execReadHeldRelease
  with_reducible (repeat' first | assumption | apply resSound_next | apply ite_sound | apply State.at__sound | apply State.start_sound
                                | split | dsimp only)

theorem execSqTailDoorbell_sound (x0 : Nat) (x1 : Sys2Proof.Fn) (x2 : Nat) (x3 : Nat) (x4 : Nat) (x5 : State) (h5 : x5.Sound)
    : ResSound (execSqTailDoorbell x0 x1 x2 x3 x4 x5) := by
  unfold execSqTailDoorbell
  with_reducible (repeat' first | assumption | apply resSound_next | apply ite_sound | apply State.at__sound
                                | apply State.tailDoorbell_sound | split | dsimp only)

theorem execUnknownOpcode_sound (x0 : Nat) (x1 : Nat) (x2 : Sys2Proof.Packet) (x3 : State) (h3 : x3.Sound)
    : ResSound (execUnknownOpcode x0 x1 x2 x3) := by
  unfold execUnknownOpcode
  with_reducible (repeat' first | assumption | apply resSound_next | apply ite_sound | apply State.at__sound
                                | apply State.takePacket_sound | split | dsimp only)

theorem execUnmount_sound (x0 : Nat) (x1 : Nat) (x2 : Sys2Proof.Packet) (x3 : State) (h3 : x3.Sound)
    : ResSound (execUnmount x0 x1 x2 x3) := by
  unfold execUnmount
  with_reducible (repeat' first | assumption | apply resSound_next | apply arrivalRow_sound | dsimp only)

theorem execWrite_sound (x0 : Nat) (x1 : Nat) (x2 : Sys2Proof.Packet) (x3 : State) (h3 : x3.Sound)
    : ResSound (execWrite x0 x1 x2 x3) := by
  unfold execWrite
  with_reducible (repeat' first | assumption | apply resSound_next | apply arrivalRow_sound | dsimp only)

theorem execAdminPairDisable_sound (x0 : Nat) (x1 : Sys2Proof.Fn) (x2 : State) (h2 : x2.Sound)
    : ResSound (execAdminPairDisable x0 x1 x2) := by
  unfold execAdminPairDisable
  with_reducible (repeat' first | assumption | apply resSound_next | intro _ | apply onFn_sound | apply State.functionReset_sound
                                | dsimp only)

theorem execAdminPairEnable_sound (x0 : Nat) (x1 : Sys2Proof.Fn) (x2 : State) (h2 : x2.Sound)
    : ResSound (execAdminPairEnable x0 x1 x2) := by
  unfold execAdminPairEnable
  with_reducible (repeat' first | assumption | apply resSound_next | intro _ | apply onFn_sound | apply State.adminEnable_sound
                                | dsimp only)

theorem execCompletionTimeout_sound (x0 : Nat) (x1 : Sys2Proof.Endpoint) (x2 : Nat) (x3 : State) (h3 : x3.Sound)
    : ResSound (execCompletionTimeout x0 x1 x2 x3) := by
  unfold execCompletionTimeout
  with_reducible (repeat' first | assumption | apply resSound_next | apply State.completionLate_sound | apply State.at__sound
                                | dsimp only)

theorem execConfigurationRequest_sound (x0 : Nat) (x1 : Sys2Proof.Fn) (x2 : Sys2Proof.ConfigReq) (x3 : State) (h3 : x3.Sound)
    : ResSound (execConfigurationRequest x0 x1 x2 x3) := by
  unfold execConfigurationRequest
  with_reducible (repeat' first | assumption | apply resSound_next | apply State.configRequest_sound | apply State.at__sound | dsimp only)

theorem execD3hotEntry_sound (x0 : Nat) (x1 : Sys2Proof.Fn) (x2 : State) (h2 : x2.Sound) : ResSound (execD3hotEntry x0 x1 x2) := by
  unfold execD3hotEntry
  with_reducible (repeat' first | assumption | apply resSound_next | intro _ | apply onFn_sound | apply State.functionReset_sound
                                | apply State.setEp_sound | dsimp only | fail_if_no_progress refine mk_sound (tabs_of ?_))

theorem execDlUp_sound (x0 : Nat) (x1 : Sys2Proof.Endpoint) (x2 : Nat) (x3 : Nat) (x4 : Bool) (x5 : State) (h5 : x5.Sound)
    : ResSound (execDlUp x0 x1 x2 x3 x4 x5) := by
  unfold execDlUp
  with_reducible (repeat' first | assumption | apply resSound_next | apply State.epLinkUp_sound | apply State.at__sound | dsimp only)

theorem execDmaReadCompletion_sound (x0 : Nat) (x1 : Sys2Proof.Endpoint) (x2 : Nat) (x3 : Sys2Proof.CplStatus) (x4 : List Sys2Proof.Byte)
    (x5 : State) (h5 : x5.Sound) : ResSound (execDmaReadCompletion x0 x1 x2 x3 x4 x5) := by
  unfold execDmaReadCompletion
  with_reducible (repeat' first | assumption | apply resSound_next | apply State.completionIn_sound | apply State.at__sound | dsimp only)

theorem execEndpointBufferError_sound (x0 : Nat) (x1 : Sys2Proof.Endpoint) (x2 : List Nat) (x3 : State) (h3 : x3.Sound)
    : ResSound (execEndpointBufferError x0 x1 x2 x3) := by
  unfold execEndpointBufferError
  with_reducible (repeat' first | assumption | apply resSound_next | apply ite_sound | apply State.at__sound
                                | apply State.failEndpoint_sound | apply State.functionResets_sound | split | dsimp only
                                | fail_if_no_progress refine mk_sound (tabs_of ?_))

theorem execFlr_sound (x0 : Nat) (x1 : Sys2Proof.Fn) (x2 : State) (h2 : x2.Sound) : ResSound (execFlr x0 x1 x2) := by
  unfold execFlr
  with_reducible (repeat' first | assumption | apply resSound_next | apply ite_sound | apply State.at__sound | apply State.flr_sound
                                | split | dsimp only)

theorem execHoldResume_sound (x0 : Nat) (x1 : Sys2Proof.Endpoint) (x2 : State) (h2 : x2.Sound) : ResSound (execHoldResume x0 x1 x2) := by
  unfold execHoldResume
  with_reducible (repeat' first | assumption | apply resSound_next | apply ite_sound | apply State.at__sound
                                | apply State.holdExpires_sound | apply State.resume_sound | split | dsimp only)

theorem execHoldTimeout_sound (x0 : Nat) (x1 : Sys2Proof.Endpoint) (x2 : State) (h2 : x2.Sound)
    : ResSound (execHoldTimeout x0 x1 x2) := by
  unfold execHoldTimeout
  with_reducible (repeat' first | assumption | apply resSound_next | apply State.holdExpires_sound | apply State.at__sound | dsimp only)

theorem execL0pWidthChange_sound (x0 : Nat) (x1 : Sys2Proof.Endpoint) (x2 : Nat) (x3 : Nat) (x4 : State) (h4 : x4.Sound)
    : ResSound (execL0pWidthChange x0 x1 x2 x3 x4) := by
  unfold execL0pWidthChange
  with_reducible (repeat' first | assumption | apply resSound_next | apply State.l0p_sound | apply State.at__sound | dsimp only)

theorem execL1Entry_sound (x0 : Nat) (x1 : Sys2Proof.Endpoint) (x2 : State) (h2 : x2.Sound) : ResSound (execL1Entry x0 x1 x2) := by
  unfold execL1Entry
  with_reducible (repeat' first | assumption | apply resSound_next | apply State.l1Entry_sound | apply State.at__sound | dsimp only)

theorem execLinkDownHold_sound (x0 : Nat) (x1 : Sys2Proof.Endpoint) (x2 : Nat) (x3 : State) (h3 : x3.Sound)
    : ResSound (execLinkDownHold x0 x1 x2 x3) := by
  unfold execLinkDownHold
  with_reducible (repeat' first | assumption | apply resSound_next | apply State.linkDown_sound | apply State.at__sound | dsimp only)

theorem execMailboxApply_sound (x0 : Nat) (x1 : Sys2Proof.Fn) (x2 : State) (h2 : x2.Sound) : ResSound (execMailboxApply x0 x1 x2) := by
  unfold execMailboxApply
  with_reducible (repeat' first | assumption | apply resSound_next | intro _ | apply onFn_sound | apply State.mailboxOp_sound
                                | dsimp only)

theorem execMailboxReadSegment_sound (x0 : Nat) (x1 : Sys2Proof.Fn) (x2 : State) (h2 : x2.Sound)
    : ResSound (execMailboxReadSegment x0 x1 x2) := by
  unfold execMailboxReadSegment
  with_reducible (repeat' first | assumption | apply resSound_next | intro _ | apply onFn_sound | apply State.mailboxOp_sound
                                | dsimp only)

theorem execMailboxStageSegment_sound (x0 : Nat) (x1 : Sys2Proof.Fn) (x2 : State) (h2 : x2.Sound)
    : ResSound (execMailboxStageSegment x0 x1 x2) := by
  unfold execMailboxStageSegment
  with_reducible (repeat' first | assumption | apply resSound_next | intro _ | apply onFn_sound | apply State.mailboxOp_sound
                                | dsimp only)

theorem execPerstAssert_sound (x0 : Nat) (x1 : Sys2Proof.Endpoint) (x2 : State) (h2 : x2.Sound)
    : ResSound (execPerstAssert x0 x1 x2) := by
  unfold execPerstAssert
  with_reducible (repeat' first | assumption | apply resSound_next | apply State.perstAssert_sound | apply State.at__sound | dsimp only)

theorem execPerstRelease_sound (x0 : Nat) (x1 : Sys2Proof.Endpoint) (x2 : State) (h2 : x2.Sound)
    : ResSound (execPerstRelease x0 x1 x2) := by
  unfold execPerstRelease
  with_reducible (repeat' first | assumption | apply resSound_next | apply State.perstRelease_sound | apply State.at__sound | dsimp only)

theorem execRegisterWrite_sound (x0 : Nat) (x1 : Sys2Proof.Fn) (x2 : Nat) (x3 : Nat) (x4 : Nat) (x5 : State) (h5 : x5.Sound)
    : ResSound (execRegisterWrite x0 x1 x2 x3 x4 x5) := by
  unfold execRegisterWrite
  with_reducible (repeat' first | assumption | apply resSound_next | intro _ | apply onFn_sound | apply State.registerWrite_sound
                                | dsimp only)

theorem execVfEnableClear_sound (x0 : Nat) (x1 : Sys2Proof.Endpoint) (x2 : State) (h2 : x2.Sound)
    : ResSound (execVfEnableClear x0 x1 x2) := by
  unfold execVfEnableClear
  with_reducible (repeat' first | assumption | apply resSound_next | apply ite_sound | apply State.at__sound
                                | apply State.functionResets_sound | apply State.setEp_sound | split | dsimp only
                                | fail_if_no_progress refine mk_sound (tabs_of ?_))

theorem execBypass_sound (x0 : Nat) (x1 : List Bool) (x2 : State) (h2 : x2.Sound) : ResSound (execBypass x0 x1 x2) := by
  unfold execBypass
  with_reducible (repeat' first | assumption | apply resSound_next | apply State.at__sound | apply State.emit_sound | dsimp only
                                | fail_if_no_progress refine mk_sound (tabs_of ?_))

theorem execExtest_sound (x0 : Nat) (x1 : List Bool) (x2 : State) (h2 : x2.Sound) : ResSound (execExtest x0 x1 x2) := by
  unfold execExtest
  with_reducible (repeat' first | assumption | apply resSound_next | apply State.scan_sound | apply State.at__sound | dsimp only)

theorem execFurlNRelease_sound (x0 : Nat) (x1 : State) (h1 : x1.Sound) : ResSound (execFurlNRelease x0 x1) := by
  unfold execFurlNRelease
  with_reducible (repeat' first | assumption | apply resSound_next | apply ite_sound | apply State.at__sound | apply State.holdEnds_sound
                                | apply State.setObj_sound | split | dsimp only | fail_if_no_progress refine mk_sound (tabs_of ?_))

theorem execIdcode_sound (x0 : Nat) (x1 : List Bool) (x2 : State) (h2 : x2.Sound) : ResSound (execIdcode x0 x1 x2) := by
  unfold execIdcode
  with_reducible (repeat' first | assumption | apply resSound_next | apply State.at__sound | apply State.emit_sound | dsimp only
                                | fail_if_no_progress refine mk_sound (tabs_of ?_))

theorem execPllLockRegained_sound (x0 : Nat) (x1 : State) (h1 : x1.Sound) : ResSound (execPllLockRegained x0 x1) := by
  unfold execPllLockRegained
  with_reducible (repeat' first | assumption | apply resSound_next | apply ite_sound | apply State.at__sound | apply State.released_sound
                                | split | dsimp only | fail_if_no_progress refine mk_sound (tabs_of ?_))

theorem execPllLoss_sound (x0 : Nat) (x1 : State) (h1 : x1.Sound) : ResSound (execPllLoss x0 x1) := by
  unfold execPllLoss
  with_reducible (repeat' first | assumption | apply resSound_next | apply ite_sound | apply State.at__sound | apply State.resetBy_sound
                                | split | dsimp only | fail_if_no_progress refine mk_sound (tabs_of ?_))

theorem execRstNAssert_sound (x0 : Nat) (x1 : State) (h1 : x1.Sound) : ResSound (execRstNAssert x0 x1) := by
  unfold execRstNAssert
  with_reducible (repeat' first | assumption | apply resSound_next | apply ite_sound | apply State.at__sound | apply State.resetBy_sound
                                | split | dsimp only | fail_if_no_progress refine mk_sound (tabs_of ?_))

theorem execRstNRelease_sound (x0 : Nat) (x1 : State) (h1 : x1.Sound) : ResSound (execRstNRelease x0 x1) := by
  unfold execRstNRelease
  with_reducible (repeat' first | assumption | apply resSound_next | apply ite_sound | apply State.at__sound | apply State.released_sound
                                | split | dsimp only | fail_if_no_progress refine mk_sound (tabs_of ?_))

theorem execSamplePreload_sound (x0 : Nat) (x1 : List Bool) (x2 : State) (h2 : x2.Sound) : ResSound (execSamplePreload x0 x1 x2) := by
  unfold execSamplePreload
  with_reducible (repeat' first | assumption | apply resSound_next | apply State.scan_sound | apply State.at__sound | dsimp only)

theorem execStartupFillDone_sound (x0 : Nat) (x1 : List Nat) (x2 : State) (h2 : x2.Sound) : ResSound (execStartupFillDone x0 x1 x2) := by
  unfold execStartupFillDone
  with_reducible (repeat' first | assumption | apply resSound_next | apply ite_sound | apply State.at__sound | apply State.filled_sound
                                | split | dsimp only)

theorem execTestNAssert_sound (x0 : Nat) (x1 : State) (h1 : x1.Sound) : ResSound (execTestNAssert x0 x1) := by
  unfold execTestNAssert
  with_reducible (repeat' first | assumption | apply resSound_next | apply ite_sound | apply State.at__sound | apply State.resetBy_sound
                                | split | dsimp only | fail_if_no_progress refine mk_sound (tabs_of ?_))

theorem execTestNRelease_sound (x0 : Nat) (x1 : State) (h1 : x1.Sound) : ResSound (execTestNRelease x0 x1) := by
  unfold execTestNRelease
  with_reducible (repeat' first | assumption | apply resSound_next | apply ite_sound | apply State.at__sound | apply State.released_sound
                                | split | dsimp only | fail_if_no_progress refine mk_sound (tabs_of ?_))

theorem execThermalSample_sound (x0 : Nat) (x1 : List Int) (x2 : State) (h2 : x2.Sound) : ResSound (execThermalSample x0 x1 x2) := by
  unfold execThermalSample
  with_reducible (repeat' first | assumption | apply resSound_next | apply ite_sound | apply State.at__sound
                                | apply State.thermalSample_sound | split | dsimp only)

theorem execAlStateRequest_sound (x0 : Nat) (x1 : Sys2Proof.AlState) (x2 : Sys2Proof.AlConfig) (x3 : State) (h3 : x3.Sound)
    : ResSound (execAlStateRequest x0 x1 x2 x3) := by
  unfold execAlStateRequest
  with_reducible (repeat' first | assumption | apply resSound_next | apply State.alRequest_sound | apply State.at__sound | dsimp only)

theorem execFieldNetworkLinkChange_sound (x0 : Nat) (x1 : Nat) (x2 : Bool) (x3 : State) (h3 : x3.Sound)
    : ResSound (execFieldNetworkLinkChange x0 x1 x2 x3) := by
  unfold execFieldNetworkLinkChange
  with_reducible (repeat' first | assumption | apply resSound_next | apply ite_sound | apply State.at__sound | apply State.setObj_sound
                                | split | dsimp only)

theorem execFoeRead_sound (x0 : Nat) (x1 : Sys2Proof.FoeFile) (x2 : Nat) (x3 : State) (h3 : x3.Sound)
    : ResSound (execFoeRead x0 x1 x2 x3) := by
  unfold execFoeRead
  with_reducible (repeat' first | assumption | apply resSound_next | apply State.foeRead_sound | apply State.at__sound | dsimp only)

theorem execFoeWrite_sound (x0 : Nat) (x1 : Sys2Proof.FoeFile) (x2 : Nat) (x3 : List Sys2Proof.Byte) (x4 : Bool) (x5 : State)
    (h5 : x5.Sound) : ResSound (execFoeWrite x0 x1 x2 x3 x4 x5) := by
  unfold execFoeWrite
  with_reducible (repeat' first | assumption | apply resSound_next | apply State.foeWrite_sound | apply State.at__sound | dsimp only)

theorem execMailboxRepeat_sound (x0 : Nat) (x1 : State) (h1 : x1.Sound) : ResSound (execMailboxRepeat x0 x1) := by
  unfold execMailboxRepeat
  with_reducible (repeat' first | assumption | apply resSound_next | apply ite_sound | apply State.at__sound | apply State.emit_sound
                                | apply State.count_sound | split | dsimp only)

theorem execRigReady_sound (x0 : Nat) (x1 : State) (h1 : x1.Sound) : ResSound (execRigReady x0 x1) := by
  unfold execRigReady
  with_reducible (repeat' first | assumption | apply resSound_next | apply ite_sound | apply State.at__sound
                                | apply State.becomeReady_sound | apply State.resumeAll_sound | apply State.alRequest_sound | split
                                | dsimp only)

theorem execSaveDelayExpiry_sound (x0 : Nat) (x1 : State) (h1 : x1.Sound) : ResSound (execSaveDelayExpiry x0 x1) := by
  unfold execSaveDelayExpiry
  with_reducible (repeat' first | assumption | apply resSound_next | apply ite_sound | apply State.at__sound
                                | apply State.requestSave_sound | split | dsimp only)

theorem execSaveDone_sound (x0 : Nat) (x1 : Bool) (x2 : State) (h2 : x2.Sound) : ResSound (execSaveDone x0 x1 x2) := by
  unfold execSaveDone
  with_reducible (repeat' first | assumption | apply resSound_next | apply State.saveDone_sound | apply State.at__sound | dsimp only)

theorem execSaveRetry_sound (x0 : Nat) (x1 : State) (h1 : x1.Sound) : ResSound (execSaveRetry x0 x1) := by
  unfold execSaveRetry
  with_reducible (repeat' first | assumption | apply resSound_next | apply ite_sound | apply State.at__sound | apply State.beginSave_sound
                                | split | dsimp only | fail_if_no_progress refine mk_sound (tabs_of ?_))

theorem execSdoDownload_sound (x0 : Nat) (x1 : Nat) (x2 : Nat) (x3 : Bool) (x4 : List Sys2Proof.Byte) (x5 : State) (h5 : x5.Sound)
    : ResSound (execSdoDownload x0 x1 x2 x3 x4 x5) := by
  unfold execSdoDownload
  with_reducible (repeat' first | assumption | apply resSound_next | apply State.sdo_sound | apply State.at__sound | dsimp only
                                | fail_if_no_progress refine mk_sound (tabs_of ?_))

theorem execSdoInformation_sound (x0 : Nat) (x1 : Sys2Proof.SdoInfo) (x2 : State) (h2 : x2.Sound)
    : ResSound (execSdoInformation x0 x1 x2) := by
  unfold execSdoInformation
  with_reducible (repeat' first | assumption | apply resSound_next | apply State.sdoInformation_sound | apply State.at__sound
                                | dsimp only)

theorem execSdoUpload_sound (x0 : Nat) (x1 : Nat) (x2 : Nat) (x3 : Bool) (x4 : State) (h4 : x4.Sound)
    : ResSound (execSdoUpload x0 x1 x2 x3 x4) := by
  unfold execSdoUpload
  with_reducible (repeat' first | assumption | apply resSound_next | apply State.sdo_sound | apply State.at__sound | dsimp only
                                | fail_if_no_progress refine mk_sound (tabs_of ?_))

theorem execSync0Event_sound (x0 : Nat) (x1 : Nat) (x2 : Nat) (x3 : State) (h3 : x3.Sound) : ResSound (execSync0Event x0 x1 x2 x3) := by
  unfold execSync0Event
  with_reducible (repeat' first | assumption | apply resSound_next | apply State.sync0_sound | apply State.at__sound | dsimp only)

theorem execSync0Stop_sound (x0 : Nat) (x1 : State) (h1 : x1.Sound) : ResSound (execSync0Stop x0 x1) := by
  unfold execSync0Stop
  with_reducible (repeat' first | assumption | apply resSound_next | apply State.at__sound | apply State.dcState_sound | dsimp only
                                | fail_if_no_progress refine mk_sound (tabs_of ?_))

theorem execTxpdoUpdate_sound (x0 : Nat) (x1 : State) (h1 : x1.Sound) : ResSound (execTxpdoUpdate x0 x1) := by
  unfold execTxpdoUpdate
  with_reducible (repeat' first | assumption | apply resSound_next | apply ite_sound | apply State.at__sound
                                | apply State.writeImage_sound | split | dsimp only)

theorem execAutomaticReturn_sound (x0 : Nat) (x1 : State) (h1 : x1.Sound) : ResSound (execAutomaticReturn x0 x1) := by
  unfold execAutomaticReturn
  with_reducible (repeat' first | assumption | apply resSound_next | apply ite_sound | apply State.at__sound | apply State.count_sound
                                | apply State.plannedPass_sound | split | dsimp only)

theorem execHeartbeatTimeout_sound (x0 : Nat) (x1 : State) (h1 : x1.Sound) : ResSound (execHeartbeatTimeout x0 x1) := by
  unfold execHeartbeatTimeout
  with_reducible (repeat' first | assumption | apply resSound_next | apply ite_sound | apply State.at__sound | apply State.selfCheck_sound
                                | split | dsimp only)

theorem execNoHolderFurl_sound (x0 : Nat) (x1 : State) (h1 : x1.Sound) : ResSound (execNoHolderFurl x0 x1) := by
  unfold execNoHolderFurl
  with_reducible (repeat' first | assumption | apply resSound_next | intro _ | apply ite_sound | apply State.at__sound
                                | apply State.furlMast_sound | apply forEach_sound | split | dsimp only
                                | fail_if_no_progress refine mk_sound (tabs_of ?_))

theorem execObservationEnd_sound (x0 : Nat) (x1 : State) (h1 : x1.Sound) : ResSound (execObservationEnd x0 x1) := by
  unfold execObservationEnd
  with_reducible (repeat' first | assumption | apply resSound_next | apply State.observed_sound | apply State.at__sound | dsimp only)

theorem execSelfCheckFailure_sound (x0 : Nat) (x1 : Sys2Proof.Shroud) (x2 : Sys2Proof.SelfCheckKind) (x3 : State) (h3 : x3.Sound)
    : ResSound (execSelfCheckFailure x0 x1 x2 x3) := by
  unfold execSelfCheckFailure
  with_reducible (repeat' first | assumption | apply resSound_next | apply State.selfCheck_sound | apply State.at__sound | dsimp only)

theorem execShroudSelfTestDone_sound (x0 : Nat) (x1 : Sys2Proof.Shroud) (x2 : Bool) (x3 : State) (h3 : x3.Sound)
    : ResSound (execShroudSelfTestDone x0 x1 x2 x3) := by
  unfold execShroudSelfTestDone
  with_reducible (repeat' first | assumption | apply resSound_next | apply State.at__sound | apply State.afterToken_sound
                                | apply State.shroudTested_sound | dsimp only)

theorem execStateStep_sound (x0 : Nat) (x1 : Sys2Proof.Shroud) (x2 : Nat) (x3 : Nat) (x4 : Int) (x5 : State) (h5 : x5.Sound)
    : ResSound (execStateStep x0 x1 x2 x3 x4 x5) := by
  unfold execStateStep
  with_reducible (repeat' first | assumption | apply resSound_next | apply State.storeStep_sound | apply State.at__sound | dsimp only)

theorem execUpdateShroudLoaded_sound (x0 : Nat) (x1 : Sys2Proof.Shroud) (x2 : Bool) (x3 : State) (h3 : x3.Sound)
    : ResSound (execUpdateShroudLoaded x0 x1 x2 x3) := by
  unfold execUpdateShroudLoaded
  with_reducible (repeat' first | assumption | apply resSound_next | apply State.shroudLoaded_sound | apply State.at__sound | dsimp only)

theorem execAsymmetryTrimCalibration_sound (x0 : Nat) (x1 : Sys2Proof.Path) (x2 : Nat) (x3 : State) (h3 : x3.Sound)
    : ResSound (execAsymmetryTrimCalibration x0 x1 x2 x3) := by
  unfold execAsymmetryTrimCalibration
  with_reducible (repeat' first | assumption | apply resSound_next | apply ite_sound | apply State.at__sound | apply State.pathPut_sound
                                | split | dsimp only | fail_if_no_progress refine mk_sound (tabs_of ?_))

theorem execBraceCalibration_sound (x0 : Nat) (x1 : Sys2Proof.Path) (x2 : Nat) (x3 : State) (h3 : x3.Sound)
    : ResSound (execBraceCalibration x0 x1 x2 x3) := by
  unfold execBraceCalibration
  with_reducible (repeat' first | assumption | apply resSound_next | apply ite_sound | apply State.at__sound | apply State.pathPut_sound
                                | split | dsimp only | fail_if_no_progress refine mk_sound (tabs_of ?_))

theorem execCacheInvalidateAll_sound (x0 : Nat) (x1 : Sys2Proof.Path) (x2 : State) (h2 : x2.Sound)
    : ResSound (execCacheInvalidateAll x0 x1 x2) := by
  unfold execCacheInvalidateAll
  with_reducible (repeat' first | assumption | apply resSound_next | apply State.pathPut_sound | apply State.at__sound | dsimp only
                                | fail_if_no_progress refine mk_sound (tabs_of ?_))

theorem execCacheInvalidateLine_sound (x0 : Nat) (x1 : Sys2Proof.Path) (x2 : State) (h2 : x2.Sound)
    : ResSound (execCacheInvalidateLine x0 x1 x2) := by
  unfold execCacheInvalidateLine
  with_reducible (repeat' first | assumption | apply resSound_next | apply State.pathPut_sound | apply State.at__sound | dsimp only
                                | fail_if_no_progress refine mk_sound (tabs_of ?_))

theorem execCacheInvalidateStructure_sound (x0 : Nat) (x1 : Sys2Proof.Path) (x2 : State) (h2 : x2.Sound)
    : ResSound (execCacheInvalidateStructure x0 x1 x2) := by
  unfold execCacheInvalidateStructure
  with_reducible (repeat' first | assumption | apply resSound_next | apply State.pathPut_sound | apply State.at__sound | dsimp only
                                | fail_if_no_progress refine mk_sound (tabs_of ?_))

theorem execChannelRetireClear_sound (x0 : Nat) (x1 : Sys2Proof.Path) (x2 : Nat) (x3 : State) (h3 : x3.Sound)
    : ResSound (execChannelRetireClear x0 x1 x2 x3) := by
  unfold execChannelRetireClear
  with_reducible (repeat' first | assumption | apply resSound_next | apply State.pathPut_sound | apply State.at__sound | dsimp only
                                | fail_if_no_progress refine mk_sound (tabs_of ?_))

theorem execCheckValueFeed_sound (x0 : Nat) (x1 : Sys2Proof.Path) (x2 : Nat) (x3 : List Sys2Proof.Byte) (x4 : State) (h4 : x4.Sound)
    : ResSound (execCheckValueFeed x0 x1 x2 x3 x4) := by
  unfold execCheckValueFeed
  with_reducible (repeat' first | assumption | apply resSound_next | apply ite_sound | apply State.at__sound | apply State.writeObj_sound
                                | split | dsimp only | fail_if_no_progress refine mk_sound (tabs_of ?_)
                                | refine fst_sound (by assumption) ?_ | refine snd_sound (by assumption) ?_)

theorem execCheckValueOwnerChange_sound (x0 : Nat) (x1 : Sys2Proof.Path) (x2 : Nat) (x3 : Nat) (x4 : State) (h4 : x4.Sound)
    : ResSound (execCheckValueOwnerChange x0 x1 x2 x3 x4) := by
  unfold execCheckValueOwnerChange
  with_reducible (repeat' first | assumption | apply resSound_next | apply ite_sound | apply State.at__sound | apply State.pathPut_sound
                                | split | dsimp only | fail_if_no_progress refine mk_sound (tabs_of ?_))

theorem execCheckValueRestart_sound (x0 : Nat) (x1 : Sys2Proof.Path) (x2 : Nat) (x3 : Nat) (x4 : State) (h4 : x4.Sound)
    : ResSound (execCheckValueRestart x0 x1 x2 x3 x4) := by
  unfold execCheckValueRestart
  with_reducible (repeat' first | assumption | apply resSound_next | apply ite_sound | apply State.at__sound | apply State.pathPut_sound
                                | split | dsimp only | fail_if_no_progress refine mk_sound (tabs_of ?_))

theorem execChopperFailClear_sound (x0 : Nat) (x1 : Sys2Proof.Path) (x2 : Nat) (x3 : State) (h3 : x3.Sound)
    : ResSound (execChopperFailClear x0 x1 x2 x3) := by
  unfold execChopperFailClear
  with_reducible (repeat' first | assumption | apply resSound_next | apply ite_sound | apply State.at__sound | apply State.pathPut_sound
                                | split | dsimp only | fail_if_no_progress refine mk_sound (tabs_of ?_))

theorem execCoarseAlignmentCalibration_sound (x0 : Nat) (x1 : Sys2Proof.Path) (x2 : Nat) (x3 : State) (h3 : x3.Sound)
    : ResSound (execCoarseAlignmentCalibration x0 x1 x2 x3) := by
  unfold execCoarseAlignmentCalibration
  with_reducible (repeat' first | assumption | apply resSound_next | apply ite_sound | apply State.at__sound | apply State.pathPut_sound
                                | split | dsimp only | fail_if_no_progress refine mk_sound (tabs_of ?_))

theorem execCopyAbort_sound (x0 : Nat) (x1 : Sys2Proof.Path) (x2 : Nat) (x3 : State) (h3 : x3.Sound)
    : ResSound (execCopyAbort x0 x1 x2 x3) := by
  unfold execCopyAbort
  with_reducible (repeat' first | assumption | apply resSound_next | apply ite_sound | apply State.at__sound | apply State.pathPut_sound
                                | split | dsimp only | fail_if_no_progress refine mk_sound (tabs_of ?_))

theorem execCopyStart_sound (x0 : Nat) (x1 : Sys2Proof.Path) (x2 : Nat) (x3 : State) (h3 : x3.Sound)
    : ResSound (execCopyStart x0 x1 x2 x3) := by
  unfold execCopyStart
  with_reducible (repeat' first | assumption | apply resSound_next | apply ite_sound | apply State.at__sound | apply State.pathPut_sound
                                | split | dsimp only | fail_if_no_progress refine mk_sound (tabs_of ?_))

theorem execCounterClear_sound (x0 : Nat) (x1 : Sys2Proof.Path) (x2 : Nat) (x3 : Nat) (x4 : State) (h4 : x4.Sound)
    : ResSound (execCounterClear x0 x1 x2 x3 x4) := by
  unfold execCounterClear
  with_reducible (repeat' first | assumption | apply resSound_next | apply ite_sound | apply State.at__sound | apply State.pathPut_sound
                                | split | dsimp only | fail_if_no_progress refine mk_sound (tabs_of ?_))

theorem execDecoderRetireClear_sound (x0 : Nat) (x1 : Sys2Proof.Path) (x2 : Bool) (x3 : Nat) (x4 : State) (h4 : x4.Sound)
    : ResSound (execDecoderRetireClear x0 x1 x2 x3 x4) := by
  unfold execDecoderRetireClear
  with_reducible (repeat' first | assumption | apply resSound_next | apply ite_sound | apply State.pathPut_sound | apply State.at__sound
                                | split | dsimp only | fail_if_no_progress refine mk_sound (tabs_of ?_))

theorem execEndpointRetireClear_sound (x0 : Nat) (x1 : Sys2Proof.Path) (x2 : Nat) (x3 : State) (h3 : x3.Sound)
    : ResSound (execEndpointRetireClear x0 x1 x2 x3) := by
  unfold execEndpointRetireClear
  with_reducible (repeat' first | assumption | apply resSound_next | apply State.pathPut_sound | apply State.at__sound | dsimp only
                                | fail_if_no_progress refine mk_sound (tabs_of ?_))

theorem execEngineAssign_sound (x0 : Nat) (x1 : Sys2Proof.Path) (x2 : Nat) (x3 : Nat) (x4 : State) (h4 : x4.Sound)
    : ResSound (execEngineAssign x0 x1 x2 x3 x4) := by
  unfold execEngineAssign
  with_reducible (repeat' first | assumption | apply resSound_next | apply ite_sound | apply State.at__sound | apply State.pathPut_sound
                                | split | dsimp only | fail_if_no_progress refine mk_sound (tabs_of ?_))

theorem execEngineRetireClear_sound (x0 : Nat) (x1 : Sys2Proof.Path) (x2 : Nat) (x3 : State) (h3 : x3.Sound)
    : ResSound (execEngineRetireClear x0 x1 x2 x3) := by
  unfold execEngineRetireClear
  with_reducible (repeat' first | assumption | apply resSound_next | apply State.pathPut_sound | apply State.at__sound | dsimp only
                                | fail_if_no_progress refine mk_sound (tabs_of ?_))

theorem execEngineWindowResize_sound (x0 : Nat) (x1 : Sys2Proof.Path) (x2 : Nat) (x3 : Nat) (x4 : State) (h4 : x4.Sound)
    : ResSound (execEngineWindowResize x0 x1 x2 x3 x4) := by
  unfold execEngineWindowResize
  with_reducible (repeat' first | assumption | apply resSound_next | apply ite_sound | apply State.at__sound | apply State.pathPut_sound
                                | split | dsimp only | fail_if_no_progress refine mk_sound (tabs_of ?_))

theorem execEqualiserPresetCalibration_sound (x0 : Nat) (x1 : Sys2Proof.Path) (x2 : Nat) (x3 : State) (h3 : x3.Sound)
    : ResSound (execEqualiserPresetCalibration x0 x1 x2 x3) := by
  unfold execEqualiserPresetCalibration
  with_reducible (repeat' first | assumption | apply resSound_next | apply ite_sound | apply State.at__sound | apply State.pathPut_sound
                                | split | dsimp only | fail_if_no_progress refine mk_sound (tabs_of ?_))

theorem execFineAlignmentCalibration_sound (x0 : Nat) (x1 : Sys2Proof.Path) (x2 : Nat) (x3 : State) (h3 : x3.Sound)
    : ResSound (execFineAlignmentCalibration x0 x1 x2 x3) := by
  unfold execFineAlignmentCalibration
  with_reducible (repeat' first | assumption | apply resSound_next | apply ite_sound | apply State.at__sound | apply State.pathPut_sound
                                | split | dsimp only | fail_if_no_progress refine mk_sound (tabs_of ?_))

theorem execGorcyLaneRetireClear_sound (x0 : Nat) (x1 : Sys2Proof.Path) (x2 : Nat) (x3 : Nat) (x4 : State) (h4 : x4.Sound)
    : ResSound (execGorcyLaneRetireClear x0 x1 x2 x3 x4) := by
  unfold execGorcyLaneRetireClear
  with_reducible (repeat' first | assumption | apply resSound_next | apply ite_sound | apply State.at__sound | apply State.pathPut_sound
                                | split | dsimp only | fail_if_no_progress refine mk_sound (tabs_of ?_))

theorem execGroupClear_sound (x0 : Nat) (x1 : Sys2Proof.Path) (x2 : Nat) (x3 : State) (h3 : x3.Sound)
    : ResSound (execGroupClear x0 x1 x2 x3) := by
  unfold execGroupClear
  with_reducible (repeat' first | assumption | apply resSound_next | apply State.pathPut_sound | apply State.at__sound | dsimp only
                                | fail_if_no_progress refine mk_sound (tabs_of ?_))

theorem execGuideFocusCalibration_sound (x0 : Nat) (x1 : Sys2Proof.Path) (x2 : Nat) (x3 : State) (h3 : x3.Sound)
    : ResSound (execGuideFocusCalibration x0 x1 x2 x3) := by
  unfold execGuideFocusCalibration
  with_reducible (repeat' first | assumption | apply resSound_next | apply ite_sound | apply State.at__sound | apply State.pathPut_sound
                                | split | dsimp only | fail_if_no_progress refine mk_sound (tabs_of ?_))

theorem execHalyardCalibration_sound (x0 : Nat) (x1 : Sys2Proof.Path) (x2 : Nat) (x3 : State) (h3 : x3.Sound)
    : ResSound (execHalyardCalibration x0 x1 x2 x3) := by
  unfold execHalyardCalibration
  with_reducible (repeat' first | assumption | apply resSound_next | apply ite_sound | apply State.at__sound | apply State.pathPut_sound
                                | split | dsimp only | fail_if_no_progress refine mk_sound (tabs_of ?_))

theorem execImageLoad_sound (x0 : Nat) (x1 : Sys2Proof.Path) (x2 : Nat) (x3 : State) (h3 : x3.Sound)
    : ResSound (execImageLoad x0 x1 x2 x3) := by
  unfold execImageLoad
  with_reducible (repeat' first | assumption | apply resSound_next | apply State.pathPut_sound | apply State.at__sound | dsimp only
                                | fail_if_no_progress refine mk_sound (tabs_of ?_))

theorem execImageUpdate_sound (x0 : Nat) (x1 : Sys2Proof.Path) (x2 : Nat) (x3 : State) (h3 : x3.Sound)
    : ResSound (execImageUpdate x0 x1 x2 x3) := by
  unfold execImageUpdate
  with_reducible (repeat' first | assumption | apply resSound_next | apply State.pathPut_sound | apply State.at__sound | dsimp only
                                | fail_if_no_progress refine mk_sound (tabs_of ?_))

theorem execLaneRetireClear_sound (x0 : Nat) (x1 : Sys2Proof.Path) (x2 : Nat) (x3 : Bool) (x4 : Nat) (x5 : State) (h5 : x5.Sound)
    : ResSound (execLaneRetireClear x0 x1 x2 x3 x4 x5) := by
  unfold execLaneRetireClear
  with_reducible (repeat' first | assumption | apply resSound_next | apply ite_sound | apply State.at__sound | apply State.pathPut_sound
                                | split | dsimp only | fail_if_no_progress refine mk_sound (tabs_of ?_))

theorem execLoadDefaults_sound (x0 : Nat) (x1 : Sys2Proof.Path) (x2 : Nat) (x3 : State) (h3 : x3.Sound)
    : ResSound (execLoadDefaults x0 x1 x2 x3) := by
  unfold execLoadDefaults
  with_reducible (repeat' first | assumption | apply resSound_next | apply State.pathPut_sound | apply State.at__sound | dsimp only
                                | fail_if_no_progress refine mk_sound (tabs_of ?_))

theorem execMastRetireClear_sound (x0 : Nat) (x1 : Sys2Proof.Path) (x2 : Nat) (x3 : State) (h3 : x3.Sound)
    : ResSound (execMastRetireClear x0 x1 x2 x3) := by
  unfold execMastRetireClear
  with_reducible (repeat' first | assumption | apply resSound_next | apply State.pathPut_sound | apply State.at__sound | dsimp only
                                | fail_if_no_progress refine mk_sound (tabs_of ?_))

theorem execNvSaveCommand_sound (x0 : Nat) (x1 : Sys2Proof.Path) (x2 : Nat) (x3 : State) (h3 : x3.Sound)
    : ResSound (execNvSaveCommand x0 x1 x2 x3) := by
  unfold execNvSaveCommand
  with_reducible (repeat' first | assumption | apply resSound_next | apply State.pathPut_sound | apply State.at__sound | dsimp only
                                | fail_if_no_progress refine mk_sound (tabs_of ?_))

theorem execPassToken_sound (x0 : Nat) (x1 : Sys2Proof.Path) (x2 : Nat) (x3 : State) (h3 : x3.Sound)
    : ResSound (execPassToken x0 x1 x2 x3) := by
  unfold execPassToken
  with_reducible (repeat' first | assumption | apply resSound_next | apply State.pathPut_sound | apply State.at__sound | dsimp only
                                | fail_if_no_progress refine mk_sound (tabs_of ?_))

theorem execRemapClear_sound (x0 : Nat) (x1 : Sys2Proof.Path) (x2 : Nat) (x3 : Nat) (x4 : List (Nat × Sys2Proof.Granule)) (x5 : State)
    (h5 : x5.Sound) : ResSound (execRemapClear x0 x1 x2 x3 x4 x5) := by
  unfold execRemapClear
  with_reducible (repeat' first | assumption | apply resSound_next | apply ite_sound | apply State.at__sound | apply State.pathPut_sound
                                | split | dsimp only | fail_if_no_progress refine mk_sound (tabs_of ?_))

theorem execSailRetireClear_sound (x0 : Nat) (x1 : Sys2Proof.Path) (x2 : Nat) (x3 : Nat) (x4 : State) (h4 : x4.Sound)
    : ResSound (execSailRetireClear x0 x1 x2 x3 x4) := by
  unfold execSailRetireClear
  with_reducible (repeat' first | assumption | apply resSound_next | apply ite_sound | apply State.at__sound | apply State.pathPut_sound
                                | split | dsimp only | fail_if_no_progress refine mk_sound (tabs_of ?_))

theorem execServoCommit_sound (x0 : Nat) (x1 : Sys2Proof.Path) (x2 : Nat) (x3 : Nat) (x4 : State) (h4 : x4.Sound)
    : ResSound (execServoCommit x0 x1 x2 x3 x4) := by
  unfold execServoCommit
  with_reducible (repeat' first | assumption | apply resSound_next | apply ite_sound | apply State.at__sound | apply State.pathPut_sound
                                | split | dsimp only | fail_if_no_progress refine mk_sound (tabs_of ?_))

theorem execServoFlagClear_sound (x0 : Nat) (x1 : Sys2Proof.Path) (x2 : Nat) (x3 : Bool) (x4 : Nat) (x5 : State) (h5 : x5.Sound)
    : ResSound (execServoFlagClear x0 x1 x2 x3 x4 x5) := by
  unfold execServoFlagClear
  with_reducible (repeat' first | assumption | apply resSound_next | apply ite_sound | apply State.at__sound | apply State.pathPut_sound
                                | split | dsimp only | fail_if_no_progress refine mk_sound (tabs_of ?_))

theorem execServoSailRetireClear_sound (x0 : Nat) (x1 : Sys2Proof.Path) (x2 : Nat) (x3 : Nat) (x4 : State) (h4 : x4.Sound)
    : ResSound (execServoSailRetireClear x0 x1 x2 x3 x4) := by
  unfold execServoSailRetireClear
  with_reducible (repeat' first | assumption | apply resSound_next | apply ite_sound | apply State.at__sound | apply State.pathPut_sound
                                | split | dsimp only | fail_if_no_progress refine mk_sound (tabs_of ?_))

theorem execShroudRetireClear_sound (x0 : Nat) (x1 : Sys2Proof.Path) (x2 : Nat) (x3 : State) (h3 : x3.Sound)
    : ResSound (execShroudRetireClear x0 x1 x2 x3) := by
  unfold execShroudRetireClear
  with_reducible (repeat' first | assumption | apply resSound_next | apply State.pathPut_sound | apply State.at__sound | dsimp only
                                | fail_if_no_progress refine mk_sound (tabs_of ?_))

theorem execSledRetireClear_sound (x0 : Nat) (x1 : Sys2Proof.Path) (x2 : Nat) (x3 : State) (h3 : x3.Sound)
    : ResSound (execSledRetireClear x0 x1 x2 x3) := by
  unfold execSledRetireClear
  with_reducible (repeat' first | assumption | apply resSound_next | apply ite_sound | apply State.at__sound | apply State.pathPut_sound
                                | split | dsimp only | fail_if_no_progress refine mk_sound (tabs_of ?_))

theorem execSyncRearm_sound (x0 : Nat) (x1 : Sys2Proof.Path) (x2 : Nat) (x3 : Bool) (x4 : State) (h4 : x4.Sound)
    : ResSound (execSyncRearm x0 x1 x2 x3 x4) := by
  unfold execSyncRearm
  with_reducible (repeat' first | assumption | apply resSound_next | apply State.pathPut_sound | apply State.syncLevel_sound
                                | apply State.at__sound | dsimp only | fail_if_no_progress refine mk_sound (tabs_of ?_))

theorem execTraceArm_sound (x0 : Nat) (x1 : Sys2Proof.Path) (x2 : Nat) (x3 : State) (h3 : x3.Sound)
    : ResSound (execTraceArm x0 x1 x2 x3) := by
  unfold execTraceArm
  with_reducible (repeat' first | assumption | apply resSound_next | apply ite_sound | apply State.at__sound | apply State.pathPut_sound
                                | split | dsimp only | fail_if_no_progress refine mk_sound (tabs_of ?_))

theorem execTraceFire_sound (x0 : Nat) (x1 : Sys2Proof.Path) (x2 : Nat) (x3 : State) (h3 : x3.Sound)
    : ResSound (execTraceFire x0 x1 x2 x3) := by
  unfold execTraceFire
  with_reducible (repeat' first | assumption | apply resSound_next | apply ite_sound | apply State.at__sound | apply State.pathPut_sound
                                | split | dsimp only | fail_if_no_progress refine mk_sound (tabs_of ?_))

theorem execTraceStop_sound (x0 : Nat) (x1 : Sys2Proof.Path) (x2 : Nat) (x3 : State) (h3 : x3.Sound)
    : ResSound (execTraceStop x0 x1 x2 x3) := by
  unfold execTraceStop
  with_reducible (repeat' first | assumption | apply resSound_next | apply ite_sound | apply State.at__sound | apply State.pathPut_sound
                                | split | dsimp only | fail_if_no_progress refine mk_sound (tabs_of ?_))

theorem execV1ClockOffsetCalibration_sound (x0 : Nat) (x1 : Sys2Proof.Path) (x2 : Nat) (x3 : State) (h3 : x3.Sound)
    : ResSound (execV1ClockOffsetCalibration x0 x1 x2 x3) := by
  unfold execV1ClockOffsetCalibration
  with_reducible (repeat' first | assumption | apply resSound_next | apply ite_sound | apply State.at__sound | apply State.pathPut_sound
                                | split | dsimp only | fail_if_no_progress refine mk_sound (tabs_of ?_))

theorem execWayRetireClear_sound (x0 : Nat) (x1 : Sys2Proof.Path) (x2 : Nat) (x3 : State) (h3 : x3.Sound)
    : ResSound (execWayRetireClear x0 x1 x2 x3) := by
  unfold execWayRetireClear
  with_reducible (repeat' first | assumption | apply resSound_next | apply State.pathPut_sound | apply State.at__sound | dsimp only
                                | fail_if_no_progress refine mk_sound (tabs_of ?_))

theorem execWaysEnabledWrite_sound (x0 : Nat) (x1 : Sys2Proof.Path) (x2 : Nat) (x3 : State) (h3 : x3.Sound)
    : ResSound (execWaysEnabledWrite x0 x1 x2 x3) := by
  unfold execWaysEnabledWrite
  with_reducible (repeat' first | assumption | apply resSound_next | apply State.pathPut_sound | apply State.at__sound | dsimp only
                                | fail_if_no_progress refine mk_sound (tabs_of ?_))

theorem execCodewordReady_sound (x0 : Nat) (x1 : Nat) (x2 : Nat) (x3 : State) (h3 : x3.Sound)
    : ResSound (execCodewordReady x0 x1 x2 x3) := by
  unfold execCodewordReady
  with_reducible (repeat' first | assumption | apply resSound_next | intro _ | apply onMast_sound | apply State.at__sound
                                | apply State.codewordIn_sound | dsimp only)

theorem execDecodeDone_sound (x0 : Nat) (x1 : Nat) (x2 : State) (h2 : x2.Sound) : ResSound (execDecodeDone x0 x1 x2) := by
  unfold execDecodeDone
  with_reducible (repeat' first | assumption | apply resSound_next | apply State.decodeEnds_sound | apply State.at__sound | dsimp only)

end Sys2Proof.Machine
end

