-- ==== Sys2Proof/WellFormed.lean ====
section
/-! DEFINITION. Well-formed commands: every number of a unit that the SH3264 numbers is one it has. -/
namespace Sys2Proof

/-- A function of an endpoint: the physical function or one of 64 virtual functions (13 Table 13.5). -/
def fnOk (f : Fn) : Bool := decide (f.fn ≤ 64)

/-- An access path: a function of an endpoint, or a peer's fabric address of 11 bits (00 R15, 14 Table 14.2). -/
def pathOk (p : Path) : Bool := match p with
  | .fieldNet => true
  | .function f => fnOk f
  | .peer a => decide (a < 2048)

/-- Whether a command names only units that the rig has. -/
def Instr.wf : Instr → Bool
  | .read _ q _ => decide (q < 4096)
  | .write _ q _ => decide (q < 4096)
  | .flush _ q _ => decide (q < 4096)
  | .abort _ q _ => decide (q < 4096)
  | .job _ q _ => decide (q < 4096)
  | .dictRead _ q _ => decide (q < 4096)
  | .dictWrite _ q _ => decide (q < 4096)
  | .mount _ q _ => decide (q < 4096)
  | .unmount _ q _ => decide (q < 4096)
  | .furl _ q _ => decide (q < 4096)
  | .createSq _ q _ => decide (q < 4096)
  | .deleteSq _ q _ => decide (q < 4096)
  | .createEq _ q _ => decide (q < 4096)
  | .deleteEq _ q _ => decide (q < 4096)
  | .unknownOpcode _ q _ => decide (q < 4096)
  | .readHeldRelease _ _ => true
  | .sqTailDoorbell _ f q v width => fnOk f && decide (q < 4096) && decide (v < 2 ^ 64) && decide (width = 8 ∨ width = 16 ∨ width = 32 ∨ width = 64)
  | .eqHeadDoorbell _ f q v width => fnOk f && decide (q < 4096) && decide (v < 2 ^ 64) && decide (width = 8 ∨ width = 16 ∨ width = 32 ∨ width = 64)
  | .eqModerationExpiry _ e => decide (e < 4096)
  | .msixVectorUnmask _ f vec => fnOk f && decide (vec < 2048)
  | .stagingGrant _ _ => true
  | .grantTimeout _ _ => true
  | .apertureWrite _ f _ _ rid _ => fnOk f && decide (rid < 65536)
  | .apertureRead _ f _ _ rid _ => fnOk f && decide (rid < 65536)
  | .windowCommit _ f v => fnOk f && decide (v < 2 ^ 64)
  | .adminPairEnable _ f => fnOk f
  | .adminPairDisable _ f => fnOk f
  | .registerWrite _ f _ width v => fnOk f && decide (width = 8 ∨ width = 16 ∨ width = 32 ∨ width = 64) && decide (v < 2 ^ 64)
  | .mailboxReadSegment _ f => fnOk f
  | .mailboxStageSegment _ f => fnOk f
  | .mailboxApply _ f => fnOk f
  | .perstAssert _ _ => true
  | .perstRelease _ _ => true
  | .flr _ f => fnOk f
  | .vfEnableClear _ _ => true
  | .d3hotEntry _ f => fnOk f
  | .linkDownHold _ _ _ => true
  | .holdResume _ _ => true
  | .holdTimeout _ _ => true
  | .dmaReadCompletion _ _ tag _ _ => decide (tag < 16384)
  | .completionTimeout _ _ tag => decide (tag < 16384)
  | .l1Entry _ _ => true
  | .l0pWidthChange _ _ _ _ => true
  | .endpointRetireClear _ path mask => pathOk path && decide (mask < 2 ^ 64)
  | .sampleFrame _ m lane _ => decide (m < 32) && decide (lane < 7)
  | .sampleTelemetryFrame _ m lane _ => decide (m < 32) && decide (lane < 7)
  | .identityFrame _ m lane _ _ => decide (m < 32) && decide (lane < 7)
  | .inboundIdleFrame _ m lane _ => decide (m < 32) && decide (lane < 7)
  | .commandFrameSend _ m _ => decide (m < 32)
  | .outboundIdleFrameSend _ m _ => decide (m < 32)
  | .telemetryTake _ m _ => decide (m < 32)
  | .mastLinkSignalDetect _ m => decide (m < 32)
  | .trainingEqualisationEnd _ m => decide (m < 32)
  | .trainingTimeout _ m => decide (m < 32)
  | .trainingRetry _ m => decide (m < 32)
  | .laneDown _ m lane => decide (m < 32) && decide (lane < 7 ∨ lane = 8 ∨ lane = 9)
  | .laneReacquired _ m lane => decide (m < 32) && decide (lane < 7 ∨ lane = 8 ∨ lane = 9)
  | .laneReacquireTimeout _ m lane => decide (m < 32) && decide (lane < 7 ∨ lane = 8 ∨ lane = 9)
  | .lmapClear _ m => decide (m < 32)
  | .mastLinkLostTimeout _ m => decide (m < 32)
  | .mastAbsentTimeout _ m => decide (m < 32)
  | .laneRetireClear _ path m _ mask => pathOk path && decide (m < 32) && decide (mask < 2 ^ 64)
  | .loopEvaluation _ m _ => decide (m < 32)
  | .chopperOnTimeout _ m => decide (m < 32)
  | .yardCommand _ m _ _ => decide (m < 32)
  | .servoCommit _ path m mask => pathOk path && decide (m < 32) && decide (mask < 2 ^ 64)
  | .servoFlagClear _ path m _ mask => pathOk path && decide (m < 32) && decide (mask < 2 ^ 64)
  | .traceArm _ path m => pathOk path && decide (m < 32)
  | .traceStop _ path m => pathOk path && decide (m < 32)
  | .traceFire _ path m => pathOk path && decide (m < 32)
  | .clockTrackRun _ m _ => decide (m < 32)
  | .addressUnit _ m _ => decide (m < 32)
  | .acquisition _ m _ => decide (m < 32)
  | .acquisitionTimeout _ m => decide (m < 32)
  | .acquisitionRestart _ m => decide (m < 32)
  | .trackJump _ m _ => decide (m < 32)
  | .trackJumpTimeout _ m => decide (m < 32)
  | .seek _ m _ => decide (m < 32)
  | .layerJump _ m layer => decide (m < 32) && decide (layer < 16)
  | .layerJumpTimeout _ m => decide (m < 32)
  | .guideFocusCalibration _ path m => pathOk path && decide (m < 32)
  | .braceCalibration _ path m => pathOk path && decide (m < 32)
  | .halyardCalibration _ path m => pathOk path && decide (m < 32)
  | .v1ClockOffsetCalibration _ path m => pathOk path && decide (m < 32)
  | .calibrationCandidateDone _ m _ => decide (m < 32)
  | .spindleStart _ m => decide (m < 32)
  | .startClassify _ m => decide (m < 32)
  | .alignEnd _ m => decide (m < 32)
  | .startTimeout _ m => decide (m < 32)
  | .startRetry _ m => decide (m < 32)
  | .syncInEdge _ => true
  | .syncInStuck _ => true
  | .syncInLost _ => true
  | .syncRearm _ path v _ => pathOk path && decide (v < 2 ^ 64)
  | .chopperFailClear _ path m => pathOk path && decide (m < 32)
  | .furlNAssert _ => true
  | .furlNRelease _ => true
  | .sledPlanning _ m _ => decide (m < 32)
  | .sledPeriodBoundary _ m _ => decide (m < 32)
  | .sledStep _ m _ => decide (m < 32)
  | .homing _ m => decide (m < 32)
  | .homingSeekStart _ m => decide (m < 32)
  | .sledRetireClear _ path m => pathOk path && decide (m < 32)
  | .coarseAlignmentCalibration _ path m => pathOk path && decide (m < 32)
  | .fineAlignmentCalibration _ path m => pathOk path && decide (m < 32)
  | .asymmetryTrimCalibration _ path m => pathOk path && decide (m < 32)
  | .equaliserPresetCalibration _ path m => pathOk path && decide (m < 32)
  | .mastRevolutionSchedule _ m => decide (m < 32)
  | .codewordReady _ m sail => decide (m < 32) && decide (sail < 64)
  | .codewordDispatch _ d => decide (d < 128)
  | .decodeDone _ d => decide (d < 128)
  | .decoderMemoryError _ d => decide (d < 128)
  | .decoderSelfTest _ d _ => decide (d < 128)
  | .decoderRetireClear _ path _ mask => pathOk path && decide (mask < 2 ^ 64)
  | .peerFetchTimeout _ _ => true
  | .passBoundary _ m => decide (m < 32)
  | .sliceExpiry _ m => decide (m < 32)
  | .burnRevolution _ m => decide (m < 32)
  | .verifyRevolution _ m _ => decide (m < 32)
  | .relocationPass _ m => decide (m < 32)
  | .recordDelayExpiry _ m => decide (m < 32)
  | .recordBurn _ m => decide (m < 32)
  | .durableLimitExpiry _ _ => true
  | .mountLogRead _ m _ _ => decide (m < 32)
  | .hello _ port pkt => decide (port < 4) && decide (pkt.payload.length % 8 = 0)
  | .lctl _ port pkt => decide (port < 4) && decide (pkt.payload.length % 8 = 0)
  | .gorcyCmd _ port pkt => decide (port < 4) && decide (pkt.payload.length % 8 = 0)
  | .gorcyEvent _ port pkt => decide (port < 4) && decide (pkt.payload.length % 8 = 0)
  | .eqHead _ port pkt => decide (port < 4) && decide (pkt.payload.length % 8 = 0)
  | .writeData _ port pkt => decide (port < 4) && decide (pkt.payload.length % 8 = 0)
  | .fence _ port pkt => decide (port < 4) && decide (pkt.payload.length % 8 = 0)
  | .fenceAck _ port pkt => decide (port < 4) && decide (pkt.payload.length % 8 = 0)
  | .fenceTimeout _ _ => true
  | .fetchReq _ port pkt => decide (port < 4) && decide (pkt.payload.length % 8 = 0)
  | .fetchRep _ port pkt => decide (port < 4) && decide (pkt.payload.length % 8 = 0)
  | .packetForward _ port pkt => decide (port < 4) && decide (pkt.payload.length % 8 = 0)
  | .replayTimeout _ port => decide (port < 4)
  | .ackTimer _ port => decide (port < 4)
  | .helloTimer _ => true
  | .portSignalDetect _ port => decide (port < 4)
  | .portTrainingTimeout _ port => decide (port < 4)
  | .gorcyLaneDown _ port lane => decide (port < 4) && decide (lane < 2)
  | .gorcyLaneReacquireTimeout _ port lane => decide (port < 4) && decide (lane < 2)
  | .gorcyLaneRetireClear _ path port mask => pathOk path && decide (port < 4) && decide (mask < 2 ^ 64)
  | .timeParentTimeout _ => true
  | .leaseAgeExpiry _ _ => true
  | .peerIdleRelease _ a => decide (a < 2048)
  | .copyStart _ path slot => pathOk path && decide (slot < 16)
  | .copyAbort _ path slot => pathOk path && decide (slot < 16)
  | .copyTimeout _ slot => decide (slot < 16)
  | .jobSegmentStart _ e => decide (e < 64)
  | .wNop _ e _ => decide (e < 64)
  | .wAdd _ e _ => decide (e < 64)
  | .wAddc _ e _ => decide (e < 64)
  | .wSub _ e _ => decide (e < 64)
  | .wSubb _ e _ => decide (e < 64)
  | .wAnd _ e _ => decide (e < 64)
  | .wOr _ e _ => decide (e < 64)
  | .wXor _ e _ => decide (e < 64)
  | .wAndn _ e _ => decide (e < 64)
  | .wShl _ e _ => decide (e < 64)
  | .wShr _ e _ => decide (e < 64)
  | .wSar _ e _ => decide (e < 64)
  | .wRol _ e _ => decide (e < 64)
  | .wMul _ e _ => decide (e < 64)
  | .wMulh _ e _ => decide (e < 64)
  | .wSadd _ e _ => decide (e < 64)
  | .wMin _ e _ => decide (e < 64)
  | .wMax _ e _ => decide (e < 64)
  | .wSel _ e _ => decide (e < 64)
  | .wMov _ e _ => decide (e < 64)
  | .wBfx _ e _ => decide (e < 64)
  | .wBfi _ e _ => decide (e < 64)
  | .wPopc _ e _ => decide (e < 64)
  | .wClz _ e _ => decide (e < 64)
  | .wCtz _ e _ => decide (e < 64)
  | .wBswap _ e _ => decide (e < 64)
  | .wMatch8 _ e _ => decide (e < 64)
  | .wRange8 _ e _ => decide (e < 64)
  | .wCmp _ e _ => decide (e < 64)
  | .wIn _ e _ => decide (e < 64)
  | .wOut _ e _ => decide (e < 64)
  | .wLds _ e _ => decide (e < 64)
  | .wSts _ e _ => decide (e < 64)
  | .wLdw _ e _ => decide (e < 64)
  | .wStw _ e _ => decide (e < 64)
  | .wCvf _ e _ => decide (e < 64)
  | .wGets _ e _ => decide (e < 64)
  | .wPuts _ e _ => decide (e < 64)
  | .imageLoad _ path v => pathOk path && decide (v < 2 ^ 64)
  | .engineAssign _ path e v => pathOk path && decide (e < 64) && decide (v < 2 ^ 64)
  | .engineWindowResize _ path e v => pathOk path && decide (e < 64) && decide (v < 2 ^ 64)
  | .engineRetireClear _ path mask => pathOk path && decide (mask < 2 ^ 64)
  | .checkValueFeed _ path h _ => pathOk path && decide (h < 8)
  | .checkValueRestart _ path h v => pathOk path && decide (h < 8) && decide (v < 2 ^ 64)
  | .checkValueOwnerChange _ path h v => pathOk path && decide (h < 8) && decide (v < 2 ^ 64)
  | .scrubRead _ c _ => decide (c < 16)
  | .shareCopyDone _ c k => decide (c < 16) && decide (k < 8)
  | .channelRetireClear _ path mask => pathOk path && decide (mask < 2 ^ 64)
  | .channelFillDone _ c => decide (c < 16)
  | .remapClear _ path c v _ => pathOk path && decide (c < 16) && decide (v < 2 ^ 64)
  | .cacheAccess _ _ _ _ _ _ => true
  | .cacheFillReturn _ _ _ _ => true
  | .cacheAgeing _ => true
  | .cacheInvalidateLine _ path => pathOk path
  | .cacheInvalidateStructure _ path => pathOk path
  | .cacheInvalidateAll _ path => pathOk path
  | .waysEnabledWrite _ path v => pathOk path && decide (v < 2 ^ 64)
  | .wayRetireClear _ path mask => pathOk path && decide (mask < 2 ^ 64)
  | .sdoUpload _ index sub _ => decide (index < 65536) && decide (sub < 256)
  | .sdoDownload _ index sub _ _ => decide (index < 65536) && decide (sub < 256)
  | .sdoInformation _ _ => true
  | .foeWrite _ _ _ _ _ => true
  | .foeRead _ _ _ => true
  | .alStateRequest _ _ _ => true
  | .sync0Event _ _ _ => true
  | .txpdoUpdate _ => true
  | .nvSaveCommand _ path v => pathOk path && decide (v < 2 ^ 64)
  | .saveDelayExpiry _ => true
  | .saveDone _ _ => true
  | .saveRetry _ => true
  | .loadDefaults _ path v => pathOk path && decide (v < 2 ^ 64)
  | .counterClear _ path index sub => pathOk path && decide (index < 65536) && decide (sub < 256)
  | .groupClear _ path v => pathOk path && decide (v < 2 ^ 64)
  | .selfCheckFailure _ _ _ => true
  | .heartbeatTimeout _ => true
  | .stateStep _ _ _ _ _ => true
  | .shroudSelfTestDone _ _ _ => true
  | .automaticReturn _ => true
  | .passToken _ path v => pathOk path && decide (v < 2 ^ 64)
  | .noHolderFurl _ => true
  | .mastRetireClear _ path mask => pathOk path && decide (mask < 2 ^ 64)
  | .shroudRetireClear _ path mask => pathOk path && decide (mask < 2 ^ 64)
  | .sailRetireClear _ path m mask => pathOk path && decide (m < 32) && decide (mask < 2 ^ 64)
  | .servoSailRetireClear _ path m mask => pathOk path && decide (m < 32) && decide (mask < 2 ^ 64)
  | .imageUpdate _ path v => pathOk path && decide (v < 2 ^ 64)
  | .updateShroudLoaded _ _ _ => true
  | .observationEnd _ => true
  | .rstNAssert _ => true
  | .rstNRelease _ => true
  | .startupFillDone _ chans => decide (chans.length = 16) && chans.all (fun c => decide (c = 0 ∨ c = 8 ∨ c = 16))
  | .rigReady _ => true
  | .pllLoss _ => true
  | .testNAssert _ => true
  | .thermalSample _ readings => decide (readings.length = 16)
  | .bypass _ _ => true
  | .idcode _ _ => true
  | .samplePreload _ _ => true
  | .extest _ _ => true
  | .configurationRequest _ f _ => fnOk f
  | .dlUp _ _ _ width _ => decide (width ≤ 16)
  | .corruptedPacket _ port => decide (port < 4)
  | .typeDiscard _ port pkt => decide (port < 4) && decide (pkt.payload.length % 8 = 0)
  | .gorcyLaneReacquired _ port lane => decide (port < 4) && decide (lane < 2)
  | .lossOfTraining _ c => decide (c < 16)
  | .endpointBufferError _ _ _ => true
  | .imageLoadComplete _ => true
  | .pllLockRegained _ => true
  | .testNRelease _ => true
  | .fieldNetworkLinkChange _ port _ => decide (port < 2)
  | .sync0Stop _ => true
  | .mailboxRepeat _ => true

end Sys2Proof
end

