-- ==== Sys2Proof/Tests/Slice0.lean ====
section
/-! SUPPORT. The model's own small tests: ill-formed commands that the checks refuse, the spec's worked examples, and for every statement a
state that meets its hypotheses. -/
namespace Sys2Proof.Machine
set_option Elab.async false

/-- The state after reset is sound. -/
theorem test_reset_sound : State.reset.Sound := by decide +kernel

/-! ## Well-formedness -/

/-- Ill-formed commands, one number of a unit out of its range in each: refused. -/
theorem test_illformed0 :
    ([.read 0 4096 0, .write 0 4096 0, .flush 0 4096 0, .abort 0 4096 0, .job 0 4096 0, .dictRead 0 4096 0, .dictWrite 0 4096 0,
     .mount 0 4096 0, .unmount 0 4096 0, .furl 0 4096 0, .createSq 0 4096 0, .deleteSq 0 4096 0, .createEq 0 4096 0, .deleteEq 0 4096 0,
     .unknownOpcode 0 4096 0, .sqTailDoorbell 0 ⟨.hb, 65⟩ 0 0 8, .sqTailDoorbell 0 ⟨.ha, 0⟩ 4096 0 8,
     .sqTailDoorbell 0 ⟨.ha, 0⟩ 0 (2 ^ 64) 8, .sqTailDoorbell 0 ⟨.ha, 0⟩ 0 0 7, .eqHeadDoorbell 0 ⟨.hb, 65⟩ 0 0 8,
     .eqHeadDoorbell 0 ⟨.ha, 0⟩ 4096 0 8, .eqHeadDoorbell 0 ⟨.ha, 0⟩ 0 (2 ^ 64) 8, .eqHeadDoorbell 0 ⟨.ha, 0⟩ 0 0 7,
     .eqModerationExpiry 0 4096, .msixVectorUnmask 0 ⟨.hb, 65⟩ 0, .msixVectorUnmask 0 ⟨.ha, 0⟩ 2048,
     .apertureWrite 0 ⟨.hb, 65⟩ 0 [] 0 false, .apertureWrite 0 ⟨.ha, 0⟩ 0 [] 65536 false, .apertureRead 0 ⟨.hb, 65⟩ 0 0 0 [],
     .apertureRead 0 ⟨.ha, 0⟩ 0 0 65536 [], .windowCommit 0 ⟨.hb, 65⟩ 0, .windowCommit 0 ⟨.ha, 0⟩ (2 ^ 64)] :
      List Sys2Proof.Instr).all (fun i => !i.wf) = true := by decide +kernel

/-- Ill-formed commands, one number of a unit out of its range in each: refused. -/
theorem test_illformed1 :
    ([.adminPairEnable 0 ⟨.hb, 65⟩, .adminPairDisable 0 ⟨.hb, 65⟩, .registerWrite 0 ⟨.hb, 65⟩ 0 8 0, .registerWrite 0 ⟨.ha, 0⟩ 0 7 0,
     .registerWrite 0 ⟨.ha, 0⟩ 0 8 (2 ^ 64), .mailboxReadSegment 0 ⟨.hb, 65⟩, .mailboxStageSegment 0 ⟨.hb, 65⟩,
     .mailboxApply 0 ⟨.hb, 65⟩, .flr 0 ⟨.hb, 65⟩, .d3hotEntry 0 ⟨.hb, 65⟩, .dmaReadCompletion 0 .ha 16384 .success [],
     .completionTimeout 0 .ha 16384, .endpointRetireClear 0 (.peer 2048) 0, .endpointRetireClear 0 .fieldNet (2 ^ 64),
     .sampleFrame 0 32 0 ⟨0⟩, .sampleFrame 0 0 7 ⟨0⟩, .sampleTelemetryFrame 0 32 0 ⟨0⟩, .sampleTelemetryFrame 0 0 7 ⟨0⟩,
     .identityFrame 0 32 0 ⟨0⟩ 0, .identityFrame 0 0 7 ⟨0⟩ 0, .inboundIdleFrame 0 32 0 ⟨⟨0⟩, none⟩, .inboundIdleFrame 0 0 7 ⟨⟨0⟩, none⟩,
     .commandFrameSend 0 32 0, .outboundIdleFrameSend 0 32 0, .telemetryTake 0 32 0, .mastLinkSignalDetect 0 32,
     .trainingEqualisationEnd 0 32, .trainingTimeout 0 32, .trainingRetry 0 32, .laneDown 0 32 0, .laneDown 0 0 7, .laneReacquired 0 32 0] :
      List Sys2Proof.Instr).all (fun i => !i.wf) = true := by decide +kernel

/-- Ill-formed commands, one number of a unit out of its range in each: refused. -/
theorem test_illformed2 :
    ([.laneReacquired 0 0 7, .laneReacquireTimeout 0 32 0, .laneReacquireTimeout 0 0 7, .lmapClear 0 32, .mastLinkLostTimeout 0 32,
     .mastAbsentTimeout 0 32, .laneRetireClear 0 (.peer 2048) 0 false 0, .laneRetireClear 0 .fieldNet 32 false 0,
     .laneRetireClear 0 .fieldNet 0 false (2 ^ 64), .loopEvaluation 0 32 0, .chopperOnTimeout 0 32,
     .yardCommand 0 32 0 (.writeGate true), .servoCommit 0 (.peer 2048) 0 0, .servoCommit 0 .fieldNet 32 0,
     .servoCommit 0 .fieldNet 0 (2 ^ 64), .servoFlagClear 0 (.peer 2048) 0 false 0, .servoFlagClear 0 .fieldNet 32 false 0,
     .servoFlagClear 0 .fieldNet 0 false (2 ^ 64), .traceArm 0 (.peer 2048) 0, .traceArm 0 .fieldNet 32, .traceStop 0 (.peer 2048) 0,
     .traceStop 0 .fieldNet 32, .traceFire 0 (.peer 2048) 0, .traceFire 0 .fieldNet 32, .clockTrackRun 0 32 0, .addressUnit 0 32 0,
     .acquisition 0 32 0, .acquisitionTimeout 0 32, .acquisitionRestart 0 32, .trackJump 0 32 0, .trackJumpTimeout 0 32, .seek 0 32 0] :
      List Sys2Proof.Instr).all (fun i => !i.wf) = true := by decide +kernel

/-- Ill-formed commands, one number of a unit out of its range in each: refused. -/
theorem test_illformed3 :
    ([.layerJump 0 32 0, .layerJump 0 0 16, .layerJumpTimeout 0 32, .guideFocusCalibration 0 (.peer 2048) 0,
     .guideFocusCalibration 0 .fieldNet 32, .braceCalibration 0 (.peer 2048) 0, .braceCalibration 0 .fieldNet 32,
     .halyardCalibration 0 (.peer 2048) 0, .halyardCalibration 0 .fieldNet 32, .v1ClockOffsetCalibration 0 (.peer 2048) 0,
     .v1ClockOffsetCalibration 0 .fieldNet 32, .calibrationCandidateDone 0 32 .loop, .spindleStart 0 32, .startClassify 0 32,
     .alignEnd 0 32, .startTimeout 0 32, .startRetry 0 32, .syncRearm 0 (.peer 2048) 0 false, .syncRearm 0 .fieldNet (2 ^ 64) false,
     .chopperFailClear 0 (.peer 2048) 0, .chopperFailClear 0 .fieldNet 32, .sledPlanning 0 32 0, .sledPeriodBoundary 0 32 0,
     .sledStep 0 32 0, .homing 0 32, .homingSeekStart 0 32, .sledRetireClear 0 (.peer 2048) 0, .sledRetireClear 0 .fieldNet 32,
     .coarseAlignmentCalibration 0 (.peer 2048) 0, .coarseAlignmentCalibration 0 .fieldNet 32,
     .fineAlignmentCalibration 0 (.peer 2048) 0, .fineAlignmentCalibration 0 .fieldNet 32] :
      List Sys2Proof.Instr).all (fun i => !i.wf) = true := by decide +kernel

/-- Ill-formed commands, one number of a unit out of its range in each: refused. -/
theorem test_illformed4 :
    ([.asymmetryTrimCalibration 0 (.peer 2048) 0, .asymmetryTrimCalibration 0 .fieldNet 32, .equaliserPresetCalibration 0 (.peer 2048) 0,
     .equaliserPresetCalibration 0 .fieldNet 32, .mastRevolutionSchedule 0 32, .codewordReady 0 32 0, .codewordReady 0 0 64,
     .codewordDispatch 0 128, .decodeDone 0 128, .decoderMemoryError 0 128, .decoderSelfTest 0 128 false,
     .decoderRetireClear 0 (.peer 2048) false 0, .decoderRetireClear 0 .fieldNet false (2 ^ 64), .passBoundary 0 32, .sliceExpiry 0 32,
     .burnRevolution 0 32, .verifyRevolution 0 32 0, .relocationPass 0 32, .recordDelayExpiry 0 32, .recordBurn 0 32,
     .mountLogRead 0 32 [] [], .hello 0 4 ⟨0, [], 0⟩, .hello 0 0 ⟨0, [0], 0⟩, .lctl 0 4 ⟨0, [], 0⟩, .lctl 0 0 ⟨0, [0], 0⟩,
     .gorcyCmd 0 4 ⟨0, [], 0⟩, .gorcyCmd 0 0 ⟨0, [0], 0⟩, .gorcyEvent 0 4 ⟨0, [], 0⟩, .gorcyEvent 0 0 ⟨0, [0], 0⟩,
     .eqHead 0 4 ⟨0, [], 0⟩, .eqHead 0 0 ⟨0, [0], 0⟩, .writeData 0 4 ⟨0, [], 0⟩] :
      List Sys2Proof.Instr).all (fun i => !i.wf) = true := by decide +kernel

/-- Ill-formed commands, one number of a unit out of its range in each: refused. -/
theorem test_illformed5 :
    ([.writeData 0 0 ⟨0, [0], 0⟩, .fence 0 4 ⟨0, [], 0⟩, .fence 0 0 ⟨0, [0], 0⟩, .fenceAck 0 4 ⟨0, [], 0⟩, .fenceAck 0 0 ⟨0, [0], 0⟩,
     .fetchReq 0 4 ⟨0, [], 0⟩, .fetchReq 0 0 ⟨0, [0], 0⟩, .fetchRep 0 4 ⟨0, [], 0⟩, .fetchRep 0 0 ⟨0, [0], 0⟩,
     .packetForward 0 4 ⟨0, [], 0⟩, .packetForward 0 0 ⟨0, [0], 0⟩, .replayTimeout 0 4, .ackTimer 0 4, .portSignalDetect 0 4,
     .portTrainingTimeout 0 4, .gorcyLaneDown 0 4 0, .gorcyLaneDown 0 0 2, .gorcyLaneReacquireTimeout 0 4 0,
     .gorcyLaneReacquireTimeout 0 0 2, .gorcyLaneRetireClear 0 (.peer 2048) 0 0, .gorcyLaneRetireClear 0 .fieldNet 4 0,
     .gorcyLaneRetireClear 0 .fieldNet 0 (2 ^ 64), .peerIdleRelease 0 2048, .copyStart 0 (.peer 2048) 0, .copyStart 0 .fieldNet 16,
     .copyAbort 0 (.peer 2048) 0, .copyAbort 0 .fieldNet 16, .copyTimeout 0 16, .jobSegmentStart 0 64, .wNop 0 64 .clean,
     .wAdd 0 64 .clean, .wAddc 0 64 .clean] :
      List Sys2Proof.Instr).all (fun i => !i.wf) = true := by decide +kernel

/-- Ill-formed commands, one number of a unit out of its range in each: refused. -/
theorem test_illformed6 :
    ([.wSub 0 64 .clean, .wSubb 0 64 .clean, .wAnd 0 64 .clean, .wOr 0 64 .clean, .wXor 0 64 .clean, .wAndn 0 64 .clean,
     .wShl 0 64 .clean, .wShr 0 64 .clean, .wSar 0 64 .clean, .wRol 0 64 .clean, .wMul 0 64 .clean, .wMulh 0 64 .clean,
     .wSadd 0 64 .clean, .wMin 0 64 .clean, .wMax 0 64 .clean, .wSel 0 64 .clean, .wMov 0 64 .clean, .wBfx 0 64 .clean,
     .wBfi 0 64 .clean, .wPopc 0 64 .clean, .wClz 0 64 .clean, .wCtz 0 64 .clean, .wBswap 0 64 .clean, .wMatch8 0 64 .clean,
     .wRange8 0 64 .clean, .wCmp 0 64 .clean, .wIn 0 64 .clean, .wOut 0 64 .clean, .wLds 0 64 .clean, .wSts 0 64 .clean,
     .wLdw 0 64 .clean, .wStw 0 64 .clean] :
      List Sys2Proof.Instr).all (fun i => !i.wf) = true := by decide +kernel

/-- Ill-formed commands, one number of a unit out of its range in each: refused. -/
theorem test_illformed7 :
    ([.wCvf 0 64 .clean, .wGets 0 64 .clean, .wPuts 0 64 .clean, .imageLoad 0 (.peer 2048) 0, .imageLoad 0 .fieldNet (2 ^ 64),
     .engineAssign 0 (.peer 2048) 0 0, .engineAssign 0 .fieldNet 64 0, .engineAssign 0 .fieldNet 0 (2 ^ 64),
     .engineWindowResize 0 (.peer 2048) 0 0, .engineWindowResize 0 .fieldNet 64 0, .engineWindowResize 0 .fieldNet 0 (2 ^ 64),
     .engineRetireClear 0 (.peer 2048) 0, .engineRetireClear 0 .fieldNet (2 ^ 64), .checkValueFeed 0 (.peer 2048) 0 [],
     .checkValueFeed 0 .fieldNet 8 [], .checkValueRestart 0 (.peer 2048) 0 0, .checkValueRestart 0 .fieldNet 8 0,
     .checkValueRestart 0 .fieldNet 0 (2 ^ 64), .checkValueOwnerChange 0 (.peer 2048) 0 0, .checkValueOwnerChange 0 .fieldNet 8 0,
     .checkValueOwnerChange 0 .fieldNet 0 (2 ^ 64), .scrubRead 0 16 [], .shareCopyDone 0 16 0, .shareCopyDone 0 0 8,
     .channelRetireClear 0 (.peer 2048) 0, .channelRetireClear 0 .fieldNet (2 ^ 64), .channelFillDone 0 16,
     .remapClear 0 (.peer 2048) 0 0 [], .remapClear 0 .fieldNet 16 0 [], .remapClear 0 .fieldNet 0 (2 ^ 64) [],
     .cacheInvalidateLine 0 (.peer 2048), .cacheInvalidateStructure 0 (.peer 2048)] :
      List Sys2Proof.Instr).all (fun i => !i.wf) = true := by decide +kernel

/-- Ill-formed commands, one number of a unit out of its range in each: refused. -/
theorem test_illformed8 :
    ([.cacheInvalidateAll 0 (.peer 2048), .waysEnabledWrite 0 (.peer 2048) 0, .waysEnabledWrite 0 .fieldNet (2 ^ 64),
     .wayRetireClear 0 (.peer 2048) 0, .wayRetireClear 0 .fieldNet (2 ^ 64), .sdoUpload 0 65536 0 false, .sdoUpload 0 0 256 false,
     .sdoDownload 0 65536 0 false [], .sdoDownload 0 0 256 false [], .nvSaveCommand 0 (.peer 2048) 0,
     .nvSaveCommand 0 .fieldNet (2 ^ 64), .loadDefaults 0 (.peer 2048) 0, .loadDefaults 0 .fieldNet (2 ^ 64),
     .counterClear 0 (.peer 2048) 0 0, .counterClear 0 .fieldNet 65536 0, .counterClear 0 .fieldNet 0 256, .groupClear 0 (.peer 2048) 0,
     .groupClear 0 .fieldNet (2 ^ 64), .passToken 0 (.peer 2048) 0, .passToken 0 .fieldNet (2 ^ 64), .mastRetireClear 0 (.peer 2048) 0,
     .mastRetireClear 0 .fieldNet (2 ^ 64), .shroudRetireClear 0 (.peer 2048) 0, .shroudRetireClear 0 .fieldNet (2 ^ 64),
     .sailRetireClear 0 (.peer 2048) 0 0, .sailRetireClear 0 .fieldNet 32 0, .sailRetireClear 0 .fieldNet 0 (2 ^ 64),
     .servoSailRetireClear 0 (.peer 2048) 0 0, .servoSailRetireClear 0 .fieldNet 32 0, .servoSailRetireClear 0 .fieldNet 0 (2 ^ 64),
     .imageUpdate 0 (.peer 2048) 0, .imageUpdate 0 .fieldNet (2 ^ 64)] :
      List Sys2Proof.Instr).all (fun i => !i.wf) = true := by decide +kernel

/-- Ill-formed commands, one number of a unit out of its range in each: refused. -/
theorem test_illformed9 :
    ([.startupFillDone 0 (List.replicate 15 0), .startupFillDone 0 (List.replicate 16 7), .thermalSample 0 (List.replicate 17 0),
     .configurationRequest 0 ⟨.hb, 65⟩ .toD0, .dlUp 0 .ha 0 17 false, .corruptedPacket 0 4, .typeDiscard 0 4 ⟨0, [], 0⟩,
     .typeDiscard 0 0 ⟨0, [0], 0⟩, .gorcyLaneReacquired 0 4 0, .gorcyLaneReacquired 0 0 2, .lossOfTraining 0 16,
     .fieldNetworkLinkChange 0 2 false] :
      List Sys2Proof.Instr).all (fun i => !i.wf) = true := by decide +kernel

/-- A well-formed command of each kind: accepted. -/
theorem test_wellformed0 :
    ([.read 0 0 0, .write 0 0 0, .flush 0 0 0, .abort 0 0 0, .job 0 0 0, .dictRead 0 0 0, .dictWrite 0 0 0, .mount 0 0 0, .unmount 0 0 0,
     .furl 0 0 0, .createSq 0 0 0, .deleteSq 0 0 0, .createEq 0 0 0, .deleteEq 0 0 0, .unknownOpcode 0 0 0, .readHeldRelease 0 0,
     .sqTailDoorbell 0 ⟨.ha, 0⟩ 0 0 8, .eqHeadDoorbell 0 ⟨.ha, 0⟩ 0 0 8, .eqModerationExpiry 0 0, .msixVectorUnmask 0 ⟨.ha, 0⟩ 0,
     .stagingGrant 0 0, .grantTimeout 0 0, .apertureWrite 0 ⟨.ha, 0⟩ 0 [] 0 false, .apertureRead 0 ⟨.ha, 0⟩ 0 0 0 [],
     .windowCommit 0 ⟨.ha, 0⟩ 0, .adminPairEnable 0 ⟨.ha, 0⟩, .adminPairDisable 0 ⟨.ha, 0⟩, .registerWrite 0 ⟨.ha, 0⟩ 0 8 0,
     .mailboxReadSegment 0 ⟨.ha, 0⟩, .mailboxStageSegment 0 ⟨.ha, 0⟩, .mailboxApply 0 ⟨.ha, 0⟩, .perstAssert 0 .ha, .perstRelease 0 .ha,
     .flr 0 ⟨.ha, 0⟩, .vfEnableClear 0 .ha, .d3hotEntry 0 ⟨.ha, 0⟩, .linkDownHold 0 .ha 0, .holdResume 0 .ha, .holdTimeout 0 .ha,
     .dmaReadCompletion 0 .ha 0 .success [], .completionTimeout 0 .ha 0, .l1Entry 0 .ha, .l0pWidthChange 0 .ha 0 0,
     .endpointRetireClear 0 .fieldNet 0, .sampleFrame 0 0 0 ⟨0⟩, .sampleTelemetryFrame 0 0 0 ⟨0⟩, .identityFrame 0 0 0 ⟨0⟩ 0,
     .inboundIdleFrame 0 0 0 ⟨⟨0⟩, none⟩, .commandFrameSend 0 0 0, .outboundIdleFrameSend 0 0 0, .telemetryTake 0 0 0,
     .mastLinkSignalDetect 0 0, .trainingEqualisationEnd 0 0, .trainingTimeout 0 0, .trainingRetry 0 0, .laneDown 0 0 0,
     .laneReacquired 0 0 0, .laneReacquireTimeout 0 0 0, .lmapClear 0 0, .mastLinkLostTimeout 0 0, .mastAbsentTimeout 0 0,
     .laneRetireClear 0 .fieldNet 0 false 0, .loopEvaluation 0 0 0, .chopperOnTimeout 0 0, .yardCommand 0 0 0 (.writeGate true),
     .servoCommit 0 .fieldNet 0 0] :
      List Sys2Proof.Instr).all (fun i => i.wf) = true := by decide +kernel

/-- A well-formed command of each kind: accepted. -/
theorem test_wellformed1 :
    ([.servoFlagClear 0 .fieldNet 0 false 0, .traceArm 0 .fieldNet 0, .traceStop 0 .fieldNet 0, .traceFire 0 .fieldNet 0,
     .clockTrackRun 0 0 0, .addressUnit 0 0 0, .acquisition 0 0 0, .acquisitionTimeout 0 0, .acquisitionRestart 0 0, .trackJump 0 0 0,
     .trackJumpTimeout 0 0, .seek 0 0 0, .layerJump 0 0 0, .layerJumpTimeout 0 0, .guideFocusCalibration 0 .fieldNet 0,
     .braceCalibration 0 .fieldNet 0, .halyardCalibration 0 .fieldNet 0, .v1ClockOffsetCalibration 0 .fieldNet 0,
     .calibrationCandidateDone 0 0 .loop, .spindleStart 0 0, .startClassify 0 0, .alignEnd 0 0, .startTimeout 0 0, .startRetry 0 0,
     .syncInEdge ⟨0, 0⟩, .syncInStuck 0, .syncInLost 0, .syncRearm 0 .fieldNet 0 false, .chopperFailClear 0 .fieldNet 0, .furlNAssert 0,
     .furlNRelease 0, .sledPlanning 0 0 0, .sledPeriodBoundary 0 0 0, .sledStep 0 0 0, .homing 0 0, .homingSeekStart 0 0,
     .sledRetireClear 0 .fieldNet 0, .coarseAlignmentCalibration 0 .fieldNet 0, .fineAlignmentCalibration 0 .fieldNet 0,
     .asymmetryTrimCalibration 0 .fieldNet 0, .equaliserPresetCalibration 0 .fieldNet 0, .mastRevolutionSchedule 0 0,
     .codewordReady 0 0 0, .codewordDispatch 0 0, .decodeDone 0 0, .decoderMemoryError 0 0, .decoderSelfTest 0 0 false,
     .decoderRetireClear 0 .fieldNet false 0, .peerFetchTimeout 0 0, .passBoundary 0 0, .sliceExpiry 0 0, .burnRevolution 0 0,
     .verifyRevolution 0 0 0, .relocationPass 0 0, .recordDelayExpiry 0 0, .recordBurn 0 0, .durableLimitExpiry 0 0,
     .mountLogRead 0 0 [] [], .hello 0 0 ⟨0, [], 0⟩, .lctl 0 0 ⟨0, [], 0⟩, .gorcyCmd 0 0 ⟨0, [], 0⟩, .gorcyEvent 0 0 ⟨0, [], 0⟩,
     .eqHead 0 0 ⟨0, [], 0⟩, .writeData 0 0 ⟨0, [], 0⟩, .fence 0 0 ⟨0, [], 0⟩, .fenceAck 0 0 ⟨0, [], 0⟩] :
      List Sys2Proof.Instr).all (fun i => i.wf) = true := by decide +kernel

/-- A well-formed command of each kind: accepted. -/
theorem test_wellformed2 :
    ([.fenceTimeout 0 0, .fetchReq 0 0 ⟨0, [], 0⟩, .fetchRep 0 0 ⟨0, [], 0⟩, .packetForward 0 0 ⟨0, [], 0⟩, .replayTimeout 0 0,
     .ackTimer 0 0, .helloTimer 0, .portSignalDetect 0 0, .portTrainingTimeout 0 0, .gorcyLaneDown 0 0 0,
     .gorcyLaneReacquireTimeout 0 0 0, .gorcyLaneRetireClear 0 .fieldNet 0 0, .timeParentTimeout 0, .leaseAgeExpiry 0 0,
     .peerIdleRelease 0 0, .copyStart 0 .fieldNet 0, .copyAbort 0 .fieldNet 0, .copyTimeout 0 0, .jobSegmentStart 0 0, .wNop 0 0 .clean,
     .wAdd 0 0 .clean, .wAddc 0 0 .clean, .wSub 0 0 .clean, .wSubb 0 0 .clean, .wAnd 0 0 .clean, .wOr 0 0 .clean, .wXor 0 0 .clean,
     .wAndn 0 0 .clean, .wShl 0 0 .clean, .wShr 0 0 .clean, .wSar 0 0 .clean, .wRol 0 0 .clean, .wMul 0 0 .clean, .wMulh 0 0 .clean,
     .wSadd 0 0 .clean, .wMin 0 0 .clean, .wMax 0 0 .clean, .wSel 0 0 .clean, .wMov 0 0 .clean, .wBfx 0 0 .clean, .wBfi 0 0 .clean,
     .wPopc 0 0 .clean, .wClz 0 0 .clean, .wCtz 0 0 .clean, .wBswap 0 0 .clean, .wMatch8 0 0 .clean, .wRange8 0 0 .clean,
     .wCmp 0 0 .clean, .wIn 0 0 .clean, .wOut 0 0 .clean, .wLds 0 0 .clean, .wSts 0 0 .clean, .wLdw 0 0 .clean, .wStw 0 0 .clean,
     .wCvf 0 0 .clean, .wGets 0 0 .clean, .wPuts 0 0 .clean, .imageLoad 0 .fieldNet 0, .engineAssign 0 .fieldNet 0 0,
     .engineWindowResize 0 .fieldNet 0 0, .engineRetireClear 0 .fieldNet 0, .checkValueFeed 0 .fieldNet 0 [],
     .checkValueRestart 0 .fieldNet 0 0, .checkValueOwnerChange 0 .fieldNet 0 0, .scrubRead 0 0 [], .shareCopyDone 0 0 0] :
      List Sys2Proof.Instr).all (fun i => i.wf) = true := by decide +kernel

/-- A well-formed command of each kind: accepted. -/
theorem test_wellformed3 :
    ([.channelRetireClear 0 .fieldNet 0, .channelFillDone 0 0, .remapClear 0 .fieldNet 0 0 [], .cacheAccess 0 .write 0 0 false [],
     .cacheFillReturn 0 0 0 false, .cacheAgeing 0, .cacheInvalidateLine 0 .fieldNet, .cacheInvalidateStructure 0 .fieldNet,
     .cacheInvalidateAll 0 .fieldNet, .waysEnabledWrite 0 .fieldNet 0, .wayRetireClear 0 .fieldNet 0, .sdoUpload 0 0 0 false,
     .sdoDownload 0 0 0 false [], .sdoInformation 0 .objectList, .foeWrite 0 .engine 0 [] false, .foeRead 0 .engine 0,
     .alStateRequest 0 .init ⟨[], none⟩, .sync0Event 0 0 0, .txpdoUpdate 0, .nvSaveCommand 0 .fieldNet 0, .saveDelayExpiry 0,
     .saveDone 0 false, .saveRetry 0, .loadDefaults 0 .fieldNet 0, .counterClear 0 .fieldNet 0 0, .groupClear 0 .fieldNet 0,
     .selfCheckFailure 0 .a .lockstep, .heartbeatTimeout 0, .stateStep 0 .a 0 0 0, .shroudSelfTestDone 0 .a false, .automaticReturn 0,
     .passToken 0 .fieldNet 0, .noHolderFurl 0, .mastRetireClear 0 .fieldNet 0, .shroudRetireClear 0 .fieldNet 0,
     .sailRetireClear 0 .fieldNet 0 0, .servoSailRetireClear 0 .fieldNet 0 0, .imageUpdate 0 .fieldNet 0, .updateShroudLoaded 0 .a false,
     .observationEnd 0, .rstNAssert 0, .rstNRelease 0, .startupFillDone 0 (List.replicate 16 0), .rigReady 0, .pllLoss 0, .testNAssert 0,
     .thermalSample 0 (List.replicate 16 0), .bypass 0 [], .idcode 0 [], .samplePreload 0 [], .extest 0 [],
     .configurationRequest 0 ⟨.ha, 0⟩ .toD0, .dlUp 0 .ha 0 8 false, .corruptedPacket 0 0, .typeDiscard 0 0 ⟨0, [], 0⟩,
     .gorcyLaneReacquired 0 0 0, .lossOfTraining 0 0, .endpointBufferError 0 .ha [], .imageLoadComplete 0, .pllLockRegained 0,
     .testNRelease 0, .fieldNetworkLinkChange 0 0 false, .sync0Stop 0, .mailboxRepeat 0] :
      List Sys2Proof.Instr).all (fun i => i.wf) = true := by decide +kernel

/-! ## Worked examples of the spec -/

/-- The ties table of 02 R62. -/
theorem test_ties :
    [0x28000, 0x38000, -0x28000, -0x38000, 0x7FFF8000, -0x80008000, -0x80018000].map (fun x => wb15 x false) =
      [(2, false), (4, false), (-2, false), (-4, false), (32767, true), (-32768, false), (-32768, true)] := by decide +kernel
/-- The worked sum of 02: the guard bits hold what a saturating engine would have lost. -/
theorem test_guard_bits :
    let a := accAdd 0 (prod 0x6000 0x7000) false
    let b := accAdd a.1 (prod 0x6000 0x7000) a.2
    let c := accAdd b.1 (-(align15 0x4000)) b.2
    wb15 c.1 c.2 = (0x6800, false) := by
  decide +kernel
/-- The angles of the example after 02 R66, and R66's two extreme entries. -/
theorem test_angles :
    wrapU (0xF000 + 0x1000) 16 = 0 ∧ angleDiff 0xF000 0x1000 = -8192 ∧ angleDiff 0x8000 0 = -32768 ∧ sine 0x4000 = 0x7FFF ∧
    sine 0xC000 = -0x8000 := by decide +kernel
/-- 00's example of a mast array: the entry of S37 on M5 is 3292:26. -/
theorem test_mast_array : mIx 5 0x12 = 0x3292 ∧ mkey 5 0x12 (37 + 1) = okey 0x3292 0x26 := by decide +kernel
/-- 03's worked frame: the samples of instant 0 in bytes 15 to 17, from their int5 values. -/
theorem test_frame_bytes :
    (bitsToBytes 3 (List.replicate 4 false ++ bitsOf (toBits (-3) 5) 5 ++ bitsOf 7 5 ++ bitsOf (toBits (-16) 5) 5 ++ bitsOf 0 5)) =
      [0xD0, 0x0F, 0x04] := by decide +kernel
/-- 06's example: the speed word of 15,000 rpm with p = 4 and WS = 5, and the measured speed of the estimate 53,687,091. -/
theorem test_speed_word :
    let s : State := { objs := [(mkey 0 0x38 5, 4), (ckey 0 0x27 9, 5)] }
    s.speedWord 0 15000 = 26214 ∧ s.omega16 0 53687091 = 26214 := by decide +kernel
/-- 08's conditioning example. -/
theorem test_conditioning : condition_ { g := 20480 * 256, o := 32 * 65536, a := -2048 * 256 } 9 = (544, 10) := by decide +kernel
/-- 09's scrambler example: the address, the first outputs, and the frame lengths of Table 9.2 for S1. -/
theorem test_scrambler :
    physAddr ⟨3, 30000, 17⟩ = 0x18EA6011 ∧
    frameScramble ⟨3, 30000, 17⟩ 8 = [true, false, true, true, true, true, true, true] ∧ frameLen 0 = 37764 := by decide +kernel
/-- 14's HELLO example: offset 540 ns and delay 200 ns. -/
theorem test_hello_offset : helloOffset 1000000000 1000000740 1000500000 1000499660 = (540, 200) := by decide +kernel
/-- 14's routing example: from (1, 5) with GL1 down the packet leaves on GL0 with DTR and DIR +; at (0, 5) on the way, on GL1. -/
theorem test_detour :
    let s : State := { objs := [(okey 0x2300 1, 161), (okey 0x2300 2, 32), (okey 0x2300 3, 64), (okey 0x2301 1, 3), (okey 0x2301 2, 0),
      (okey 0x2301 3, 3), (okey 0x2301 4, 3)] }
    let u := s.setObj (okey 0x2301 2) 3
    let h := s.mkHeader 0x10 0 1310 0 0 0
    ((s.route 0 2 h).map (fun r => (r.1, hf r.2 19 19, hf r.2 18 18))) = some (0, 1, 0) ∧
    ((u.route 0 2 h).map (fun r => (r.1, hf r.2 19 19, hf r.2 33 33))) = some (1, 0, 0) := by decide +kernel
/-- 15's microword example: its bits 191 to 128, and the words round. -/
theorem test_microword :
    let x : Mw := { op := 1, rd := 3, ra := 1, sf := true, im := true, sz := 3, imm := 0x10 }
    (encodeMw x).toNat / 2 ^ 128 = 0x013100CC00000000 ∧ (encodeMw x).toNat % 2 ^ 128 / 2 ^ 64 = 0x10 ∧ decodeMw (encodeMw x) = x := by
  decide +kernel
/-- 15's check-value example: CVV after "1" and after "123456789", and the two results. -/
theorem test_check_value :
    let u : CvUnit := {}
    let v := ({ u with cvv := u.init } : CvUnit).feed [0x31]
    let w := v.feed [0x32, 0x33, 0x34, 0x35, 0x36, 0x37, 0x38, 0x39]
    v.cvv = 0x386650F6 ∧ v.result = 0x90F599E3 ∧ w.cvv = 0x3EB69F38 ∧ w.result = 0xE3069283 ∧
    crc32c [0x31, 0x32, 0x33, 0x34, 0x35, 0x36, 0x37, 0x38, 0x39] = 0xE3069283 := by decide +kernel
/-- The step idles on the empty queue. -/
theorem test_idle : step State.reset = .next State.reset := rfl
/-- The step runs the front command with the queue's rest. -/
theorem test_front : step { pending := [.thermalSample 5 (List.replicate 16 0), .sync0Stop 9] } =
    Sys2Proof.Machine.exec (.thermalSample 5 (List.replicate 16 0)) { pending := [.sync0Stop 9] } := rfl
/-- 16 R428 worked by hand: granule 5 of zeros, and with bytes 0x01 and 0x03 at its lowest addresses, of odd and of even parity. -/
theorem test_check_bits : granuleCheck 5 0 = 5 ∧ granuleCheck 5 0x0301 = 4 := by decide +kernel

/-! ## Witnesses of the statements -/

/-- StepRunsFront: a state whose queue is not empty. -/
theorem wit_StepRunsFront : ({ pending := [.sync0Stop 5, .txpdoUpdate 6] } : State).pending = .sync0Stop 5 :: [.txpdoUpdate 6] := by
  decide +kernel
/-- EmptyQueueIdles: the state after reset. -/
theorem wit_EmptyQueueIdles : State.reset.pending = [] := by decide +kernel
/-- ResetSourcesResetEveryDomain: a running rig, and one whose three sources are asserted. -/
theorem wit_ResetSources :
    let s : State := { boot := { inReset := false }, pins := { rstN := false } }
    let r : State := { boot := { inReset := true, pllLost := true }, pins := { rstN := true, testN := true } }
    s.boot.inReset = false ∧ s.pins.rstN = false ∧ s.pins.testN = false ∧ s.boot.pllLost = false ∧
    r.pins.rstN = true ∧ r.pins.testN = true ∧ r.boot.pllLost = true := by decide +kernel
/-- ReleaseOfResetStartsTheRig: rigs held by one source, with an empty slot whose image does not verify; and by two. (That an image
verifies rests on the vendor's key, which Config leaves abstract.) -/
theorem wit_ReleaseOfReset :
    let n : NvState := { boot := [(1, 0)] }
    let r : State := { nv := n }
    let q : State := { nv := n, pins := { rstN := false, testN := true } }
    let p : State := { nv := n, pins := { rstN := false }, boot := { pllLost := true } }
    let b : State := { pins := { rstN := true, testN := true }, boot := { pllLost := true } }
    r.boot.inReset = true ∧ r.nv.boot.getLast? = some (1, 0) ∧ r.pins.rstN = true ∧ r.pins.testN = false ∧ r.boot.pllLost = false ∧
    imageCheck (r.slotBytes 0) ≠ 1 ∧ imageCheck (r.slotBytes 1) ≠ 1 ∧ r.Sound ∧
    q.boot.inReset = true ∧ q.pins.testN = true ∧ q.pins.rstN = false ∧ q.boot.pllLost = false ∧ q.Sound ∧
    p.boot.inReset = true ∧ p.boot.pllLost = true ∧ p.pins.rstN = false ∧ p.pins.testN = false ∧ p.Sound ∧
    b.pins.rstN = true ∧ b.pins.testN = true ∧ b.boot.pllLost = true := by decide +kernel
/-- FillAndReadinessEndStartUp: a rig awaiting its fill, one at step 11 with a holder and with or without an AL request, and one
before. -/
theorem wit_FillAndReadiness :
    let f : State := { boot := { filling := true } }
    let r : State := { objs := [(okey 0x2100 3, 11), (okey 0x2600 1, 0)] }
    let h : State := { r with field := { r.field with alHeld := some (.op, ⟨[], none⟩) } }
    f.boot.filling = true ∧ r.boot.filling = false ∧ r.objN (okey 0x2100 3) = 11 ∧ r.hasHolder = true ∧ r.field.alHeld = none ∧
    h.objN (okey 0x2100 3) = 11 ∧ h.hasHolder = true ∧ h.field.alHeld = some (.op, ⟨[], none⟩) ∧ State.reset.hasHolder = false := by
  decide +kernel
/-- ThermalSampleShowsAndFurls: the rig in each of its cases, at the boundary readings. -/
theorem wit_ThermalSample :
    let r : List Int := 14080 :: List.replicate 15 (-32768)
    let s : State := { boot := { inReset := false }, objs := [(okey 0x2110 2, 12800), (okey 0x2110 3, 640)] }
    let h : State := { s with pins := { s.pins with therm := true, thermalFurl := true } }
    r.length = 16 ∧ s.boot.inReset = false ∧ s.boot.recovery = false ∧ (∀ x ∈ r, -32768 ≤ x ∧ x ≤ 32767) ∧
    (14080 : Int) ∈ r ∧ (∀ x ∈ r, x ≤ 14080) ∧
    s.obj (okey 0x2110 2) ≤ 12800 ∧ s.pins.therm = false ∧
    12159 < h.obj (okey 0x2110 2) - h.obj (okey 0x2110 3) ∧ 12159 < h.obj (okey 0x2110 2) ∧ h.pins.therm = true ∧
    s.pins.thermalFurl = false ∧ h.pins.thermalFurl = true ∧ 12799 < h.obj (okey 0x2110 2) := by decide +kernel
/-- FurlPinHoldsAndReleasesMasts: the pin at both levels, with and without the thermal furl. -/
theorem wit_FurlPin :
    let a : State := { pins := { furlN := true } }
    let b : State := { pins := { furlN := true, thermalFurl := true } }
    State.reset.pins.furlN = false ∧ a.pins.furlN = true ∧ a.pins.thermalFurl = false ∧ b.pins.furlN = true ∧
    b.pins.thermalFurl = true := by decide +kernel
/-- PlainWriteTakenOrRefused: a write of 2001:01 that is taken, and one over its range that is not. -/
theorem wit_PlainWrite :
    let s : State := { objs := [(okey 0x2121 3, 8), (okey 0x2600 1, 0)], boot := { inReset := false, ready := true } }
    (rowAt 0x2600 6).isSome = true ∧ (rowAt 0x2600 6).any (fun x => !x.2.ty.signed && x.2.ty.fixed && x.2.ty.bytes = 1) = true ∧
    s.pathThere .fieldNet = true ∧ s.hasHolder = true ∧ s.boot.ready = true ∧
    s.takes .fieldNet 0x2600 6 0 = true ∧ s.takes .fieldNet 0x2600 6 2 = false := by decide +kernel
/-- A ready rig whose field network runs and whose mast 31 tracks. -/
def witReady : State :=
  { objs := [(okey 0x2121 3, 8), (okey 0x2600 1, 0)], boot := { inReset := false, ready := true }, masts := [(31, { st := .tracking })] }
/-- The same with a V1 clock offset in the front-end. -/
def witReadyV1 : State := { witReady with objs := [(okey 0x2121 3, 8), (okey 0x2600 1, 0), (mkey 31 9 0x0A, 1)] }
/-- MastObjectActions: the accesses are taken, at the last mast and the greatest masks. -/
theorem wit_MastObjectActions :
    let s := witReady
    s.takes .fieldNet (mIx 31 0x20) 2 0x1DFF = true ∧ s.takes .fieldNet (mIx 31 0x2E) 2 1 = true ∧
    s.takes .fieldNet (mIx 31 0x2E) 2 2 = true ∧ s.takes .fieldNet (mIx 31 0x2E) 2 3 = true ∧
    s.takes .fieldNet (mIx 31 0x35) 1 1 = true ∧ s.takes .fieldNet (mIx 31 0x35) 1 4 = true ∧
    s.takes .fieldNet (mIx 31 0x45) 1 1 = true ∧ s.takes .fieldNet (mIx 31 0x45) 1 4 = true := by decide +kernel
/-- MastObjectActions: the other calibrations. -/
theorem wit_MastObjectActions2 :
    let s := witReady
    s.takes .fieldNet (mIx 31 0x35) 1 2 = true ∧ s.takes .fieldNet (mIx 31 0x35) 1 3 = true ∧
    s.takes .fieldNet (mIx 31 0x45) 1 2 = true ∧ s.takes .fieldNet (mIx 31 0x45) 1 3 = true ∧ s.Sound ∧
    s.maskBit (mkey 31 9 0x0A) 0 = false ∧ witReadyV1.takes .fieldNet (mIx 31 0x35) 1 4 = true ∧ witReadyV1.Sound ∧
    witReadyV1.maskBit (mkey 31 9 0x0A) 0 = true := by decide +kernel
/-- RigObjectActions: the accesses are taken on a ready rig: shroud B in standby, slot 1 verified, copy slot 15 free, unit 7 with the
physical function, SYNC_IN stuck. -/
def witRig : State :=
  { objs := [(okey 0x2121 3, 8), (okey 0x2130 1, 2), (okey 0x2600 1, 0), (okey 0x2600 3, 3), (okey 0x2600 4, 2), (okey 0x2701 2, 2)],
    boot := { inReset := false, ready := true } }
theorem wit_RigObjectActions :
    let s := witRig
    s.takes .fieldNet (0x2310 + 15) 5 1 = true ∧ s.takes .fieldNet (0x2310 + 15) 5 2 = true ∧
    s.takes .fieldNet (0x2550 + 7) 9 1 = true ∧ s.takes .fieldNet 0x2410 5 1 = true ∧ s.takes .fieldNet 0x2410 5 3 = true ∧
    s.takes .fieldNet 0x1010 1 1702257011 = true ∧ s.takes .fieldNet 0x1011 1 1684107116 = true := by decide +kernel
/-- RigObjectActions: the other clauses; the feed along HA's physical function. -/
theorem wit_RigObjectActions2 :
    let s := witRig
    s.takes .fieldNet 0x2410 5 2 = true ∧ s.takes .fieldNet 0x2650 1 0xFFFF = true ∧ s.takes .fieldNet 0x2600 5 1 = true ∧
    s.takes .fieldNet 0x2670 1 1 = true ∧ (s.syncLevel false).takes .fieldNet 0x2130 4 1 = true ∧
    (s.syncLevel false).objN (okey 0x2130 1) = 2 ∧ ((s.setObj (okey 0x2130 1) 0).syncLevel false).takes .fieldNet 0x2130 4 1 = true ∧
    ((s.setObj (okey 0x2130 1) 0).syncLevel false).objN (okey 0x2130 1) ≠ 2 ∧
    s.hasHolder = true ∧ s.boot.ready = true := by decide +kernel
/-- A ready rig with retired units of every class. -/
def witRetired : State :=
  { objs := [(okey 0x2121 3, 8), (okey 0x2301 8, 3), (okey 0x2400 3, 0x8000), (okey 0x2410 2, 0x8000), (okey 0x2542 2, 2 ^ 63),
      (okey 0x2600 1, 0), (okey 0x2630 1, 2 ^ 31), (okey 0x2630 2, 3), (okey 0x2630 3, 2), (okey 0x2660 2, 2 ^ 63), (okey 0x2660 3, 2 ^ 63),
      (mkey 31 8 4, 0x7F), (mkey 31 8 5, 3), (mkey 31 0x38 8, 1), (mkey 31 0x58 1, 2 ^ 63), (mkey 31 0x58 2, 3), (mkey 31 0x58 3, 1)],
    boot := { inReset := false, ready := true } }
/-- RetirementsCleared: the masts' records, at their last bits. -/
theorem wit_RetirementsCleared :
    let s := witRetired
    s.takes .fieldNet (mIx 31 8) 4 0 = true ∧ s.takes .fieldNet (mIx 31 8) 5 0 = true ∧ s.takes .fieldNet (mIx 31 0x38) 8 0 = true ∧
    s.takes .fieldNet (mIx 31 0x58) 1 0 = true ∧ s.takes .fieldNet (mIx 31 0x58) 2 0 = true ∧ s.takes .fieldNet (mIx 31 0x58) 3 0 = true ∧
    s.objN (mkey 31 0x58 3) = 1 := by decide +kernel
/-- RetirementsCleared: the rig's records, at their last bits. -/
theorem wit_RetirementsCleared2 :
    let s := witRetired
    s.takes .fieldNet 0x2660 2 0 = true ∧ s.takes .fieldNet 0x2660 3 0 = true ∧ s.takes .fieldNet 0x2301 8 0 = true ∧
    clearedBits (s.objN (okey 0x2301 8)) 0 2 ≠ [] ∧ s.takes .fieldNet 0x2542 2 0 = true ∧ s.takes .fieldNet 0x2400 3 0 = true ∧
    s.takes .fieldNet 0x2410 2 0 = true ∧ s.takes .fieldNet 0x2630 2 0 = true ∧ s.takes .fieldNet 0x2630 3 0 = true ∧
    ({ s with objs := [(okey 0x2121 3, 8), (okey 0x2600 1, 0), (okey 0x2630 1, 2 ^ 31)] } : State).takes .fieldNet 0x2630 1 0 = true := by
  decide +kernel
/-- OtherObjectWrites: the accesses are taken, at the last unit of each kind. -/
theorem wit_OtherObjectWrites :
    let s := witReady
    s.takes .fieldNet (mIx 31 0x20) 4 0x1FFF = true ∧ s.takes .fieldNet (mIx 31 0x20) 5 0x1FFF = true ∧
    s.takes .fieldNet (0x2550 + 7) 1 0 = true ∧ s.objN (okey (0x2550 + 7) 1) ≠ 0 ∧
    s.takes .fieldNet (0x2500 + 63) 2 0x4000 = true ∧ s.obj (okey (0x2500 + 63) 2) ≠ 0x4000 ∧ s.Sound ∧
    s.takes .fieldNet 0x2410 1 2 = true ∧ s.takes .fieldNet (0x2440 + 15) 0x11 0 = true := by decide +kernel
/-- OtherObjectWrites: a counter, and a window of the last engine within the pool. -/
theorem wit_OtherObjectWrites2 :
    let s : State := { witReady with objs := (okey 0x2121 3, 8) :: (okey 0x2542 5, 8192) :: [(okey 0x2600 1, 0)] }
    s.takes .fieldNet (0x2500 + 63) 3 1024 = true ∧ s.obj (okey (0x2500 + 63) 3) ≠ 1024 ∧ s.Sound ∧
    s.takes .fieldNet 0x5431 1 0 = true ∧ s.takes .fieldNet 0x5000 1 0 = true ∧
    (rowOf 0x5431 1).any (fun r => !r.ty.signed && decide (r.acc = .rw)) = true := by decide +kernel
/-- MailboxServesObjects: a ready rig with its mailbox; reads and writes that succeed and fail; one without a holder. -/
theorem wit_MailboxServes :
    let s : State := { witReady with field := { witReady.field with lastReply := some (0, [1]) } }
    let n : State := { s with objs := [(okey 0x2121 3, 2)] }
    s.mailboxOn = true ∧ s.boot.recovery = false ∧ s.field.sdoBusy = false ∧ s.hasHolder = true ∧ s.boot.ready = true ∧
    s.field.lastReply = some (0, [1]) ∧ n.mailboxOn = true ∧ n.hasHolder = false ∧
    (match s.readObj .fieldNet 0x2000 1 false, s.readObj .fieldNet 0x2000 0xFF false with | .ok _, .error _ => true | _, _ => false) = true ∧
    (s.writeObj .fieldNet { waiters := [.sdo] } 0x2600 6 false [0]).2 = none ∧
    (s.writeObj .fieldNet { waiters := [.sdo] } 0x1010 1 false (leBytes 4 1702257011)).2 = none ∧
    (s.writeObj .fieldNet { waiters := [.sdo] } 0x2600 6 false [2]).2 = some .range ∧
    (match sdoInfo (.entryDescription 0x2000 1), sdoInfo (.objectDescription 0x1001) with
      | .ok _, .error _ => true | _, _ => false) = true := by
  decide +kernel
/-- FilesOverTheFieldNetwork: slot 0 runs; in recovery; file sizes at both ends. -/
theorem wit_FilesOverTheFieldNetwork :
    let s : State := { objs := [(okey 0x2121 3, 2)], boot := { inReset := false } }
    let r : State := { s with boot := { inReset := false, recovery := true } }
    s.mailboxOn = true ∧ s.boot.recovery = false ∧ s.objN (okey 0x2002 2) = 0 ∧ s.Sound ∧ ([7] : List Byte).length ≤ 25165824 ∧
    3397 ≤ (List.replicate 3397 (0 : Byte)).length ∧ (List.replicate 3397 (0 : Byte)).length ≤ 163117 ∧
    r.mailboxOn = true ∧ r.boot.recovery = true ∧ State.reset.mailboxOn = false ∧ s.bankInForce = none ∧
    (({ s with objs := [(okey 0x2121 3, 2), (okey 0x2700 2, 0)], nv := { bankA := some ⟨1, [], []⟩ } } : State).bankInForce).isSome = true := by decide +kernel
/-- AlStatesAndProcessData: each case at its boundary. -/
theorem wit_AlStates :
    let s : State := { objs := [(okey 0x2120 2, 125000), (okey 0x2121 3, 4)], boot := { inReset := false, wasReady := true } }
    let n : State := { boot := { inReset := false } }
    let d : State := { s with objs := [(okey 0x2120 1, 2), (okey 0x2120 2, 10000000), (okey 0x2121 3, 8)] }
    alRefused false s.al .op ⟨[], none⟩ = none ∧ alRefused false n.al .op ⟨[], none⟩ = some 0x0011 ∧ s.boot.inReset = false ∧
    s.boot.wasReady = true ∧ n.boot.wasReady = false ∧ n.boot.recovery = false ∧ cycleOk (s.objN (okey 0x2120 2)) = true ∧
    cycleOk (d.objN (okey 0x2120 2)) = true ∧ s.objN (okey 0x2120 1) ≠ 2 ∧ d.objN (okey 0x2120 1) = 2 ∧ s.field.dcSelected = false ∧
    s.al = 4 ∧ d.al = 8 := by decide +kernel
/-- SavesOfTheParameterBank: an uncovered write, saves to either bank, their repeats, and a failure 60 s ago. -/
theorem wit_Saves :
    let b : Bank := ⟨1, [], []⟩
    let s : State := { now := 60000000000, objs := [(okey 0x2700 4, 1000)], nv := { uncovered := some 0, failedAt := some 0 } }
    let a : State := { nv := { save := some ⟨0, b, false⟩ } }
    let c : State := { nv := { save := some ⟨1, b, true⟩ } }
    s.nv.uncovered = some 0 ∧ 0 + ms (s.objN (okey 0x2700 4)) ≤ s.now ∧ a.nv.save = some ⟨0, b, false⟩ ∧
    c.nv.save = some ⟨1, b, true⟩ ∧ s.nv.failedAt = some 0 ∧ 0 + sec 60 ≤ s.now ∧ s.nv.save = none := by decide +kernel
/-- TokenPassesOnFailureAndReturn: A holds with and without a standby; B holds with A in standby for 30 s; nobody holds for 1 s. -/
theorem wit_TokenPasses :
    let s : State := { objs := [(okey 0x2600 1, 0), (okey 0x2600 3, 3), (okey 0x2600 4, 2)] }
    let l : State := { objs := [(okey 0x2600 1, 0), (okey 0x2600 3, 3), (okey 0x2600 4, 4)] }
    let r : State := { now := 30000000000, objs := [(okey 0x2600 1, 1), (okey 0x2600 3, 2), (okey 0x2600 4, 3), (okey 0x2600 6, 1)],
                       avail := { standbyA := some 0 } }
    let n : State := { now := 1000000000, avail := { noHolderAt := some 0 } }
    let after : State → State := fun s => ((s.setShroud .a 1).count (okey 0x5431 3)).failShroud .a
    s.shroudState .a = 3 ∧ (after s).shroudState .b = 2 ∧ l.shroudState .a = 3 ∧ (after l).shroudState .b ≠ 2 ∧ shroudOf l.holder = .a ∧ l.hasHolder = true ∧
    s.shroudState .b = 2 ∧ l.shroudState .b ≠ 2 ∧ l.shroudState .b ≠ 3 ∧ s.hasHolder = true ∧ shroudOf s.holder = .a ∧
    n.hasHolder = false ∧ r.avail.standbyA = some 0 ∧ r.objN (okey 0x2600 6) = 1 ∧ r.holder = 1 ∧ r.shroudState .a = 2 ∧ r.avail.upd = .none ∧
    0 + sec 30 ≤ r.now ∧ s.avail.standbyA = none ∧ n.avail.noHolderAt = some 0 ∧ n.avail.noHolderFurled = false ∧ 0 + sec 1 ≤ n.now ∧ s.avail.noHolderAt = none := by
  decide +kernel
/-- TakingTheTokenRaisesItsGeneration: the state after reset. -/
theorem wit_TakingTheToken : State.reset.Sound := by decide +kernel
/-- SelfTestsStepsAndUpdates: a restarting shroud; a holder and its step; an update loading and observing. -/
theorem wit_SelfTests :
    let s : State := { objs := [(okey 0x2600 1, 0), (okey 0x2600 2, 1), (okey 0x2600 3, 3), (okey 0x2600 4, 1)] }
    let l : State := { s with avail := { upd := .loadingS, updH := .a, updSlot := 1 } }
    let o : State := { now := 60000000000, objs := [(okey 0x2670 3, 60)], avail := { upd := .observing } }
    s.shroudState .b = 1 ∧ s.avail.upd = .none ∧ s.holder = shroudIx .a ∧ s.tokenG = 1 ∧ (0 : Nat) ≠ s.tokenG ∧
    (rowOfKey (okey 0x5000 1)).any (fun r => decide (r.ty = .u64 ∧ r.ranges = [] ∧ r.mask = 0)) = true ∧
    inStore (okey 0x5000 1 / 256) = true ∧ l.avail.upd = .loadingS ∧ l.updS = .b ∧
    o.avail.upd = .observing ∧ o.avail.updAt + sec (o.objN (okey 0x2670 3)) ≤ o.now := by decide +kernel
/-- A ready rig both of whose links are up, HA with 64 VFs. -/
def witHost : State :=
  { objs := [(okey 0x2100 3, 12), (okey 0x2200 1, 2), (okey 0x2200 2, 6), (okey 0x2200 3, 16), (okey 0x2200 4, 128), (okey 0x2201 1, 2),
      (okey 0x2201 2, 6), (okey 0x2600 1, 0)],
    boot := { inReset := false, ready := true, wasReady := true },
    host := { ha := { perst := false, memSpace := true, busMaster := true, vfEnable := true, numVFs := 64, fullWidth := 16, aspmL1 := true, l0pEn := true },
              hb := { perst := false, memSpace := true, busMaster := true } } }
/-- AdminPairsAndRegisters: VF 63 of HA with valid, invalid and enabled registers, ready and not. -/
theorem wit_AdminPairs :
    let f : Fn := ⟨.ha, 64⟩
    let good : FnRegs := { as_ := 4, ae := 16 }
    let s := witHost.setFnr f good
    let b := witHost.setFnr f { good with ae := 3 }
    let e := witHost.setFnr f { good with aen := true }
    let n : State := { s with boot := { s.boot with ready := false } }
    s.fnThere f = true ∧ (s.fnr f).aen = false ∧ (s.fnr f).adminBad f = false ∧ s.boot.ready = true ∧
    n.fnThere f = true ∧ (n.fnr f).adminBad f = false ∧ b.fnThere f = true ∧ (b.fnr f).aen = false ∧ (b.fnr f).adminBad f = true ∧
    e.fnThere f = true ∧ (e.fnr f).aen = true ∧ tblWf (fun _ => ({} : FnRegs)) s.host.fns = true ∧
    tblWf (fun _ => ({} : SQ)) s.host.sqs = true ∧ tblWf (fun _ => ({} : EQ)) s.host.eqs = true := by decide +kernel
/-- MailboxOperations: a read, a bad read, a stage at the buffer's end, an apply, no holder, and busy. -/
theorem wit_MailboxOperations :
    let f : Fn := ⟨.ha, 0⟩
    let s := witHost.setFnr f { mboxIndex := 0x2000, mboxSub := 1, mboxLen := 4096, mboxOff := 61472, mboxTotal := 65568 }
    let b := witHost.setFnr f { mboxIndex := 0x2FFF, mboxSub := 1, mboxLen := 1 }
    let n : State := { s with objs := [(okey 0x2100 3, 12), (okey 0x2200 1, 2), (okey 0x2200 2, 6)] }
    let y := witHost.setFnr f { mboxBusy := true }
    s.fnThere f = true ∧ (s.fnr f).mboxBusy = false ∧ s.hasHolder = true ∧ s.boot.ready = true ∧ 1 ≤ (s.fnr f).mboxLen ∧
    (s.fnr f).mboxLen ≤ 4096 ∧ (s.fnr f).mboxOff + (s.fnr f).mboxLen ≤ 65568 ∧ (s.fnr f).mboxTotal ≤ 65568 ∧ 1 ≤ (s.fnr f).mboxTotal ∧
    (match s.readObj (.function f) 0x2000 1 false, b.readObj (.function f) 0x2FFF 1 false with | .ok _, .error _ => true | _, _ => false) = true ∧
    b.fnThere f = true ∧ n.fnThere f = true ∧ n.hasHolder = false ∧ y.fnThere f = true ∧ (y.fnr f).mboxBusy = true := by decide +kernel
/-- FunctionAndEndpointResets: links up, in PERST, retired; the last VF; before step 7. -/
theorem wit_FunctionResets :
    let s := witHost
    let p : State := { s with host := {} , objs := [(okey 0x2100 3, 7)] }
    (s.ep .hb).perst = false ∧ (p.ep .hb).perst = true ∧ p.epMayTrain = true ∧ p.epRetired .hb = false ∧ p.linkState .hb = 0 ∧
    State.reset.epMayTrain = false ∧ s.epInReset .ha = false ∧ s.epInReset .hb = false ∧ s.fnThere ⟨.ha, 64⟩ = true := by decide +kernel
/-- HoldsOfALink: HA up, HB in a hold of its physical function and VF 3 that goes on, and one whose time is over. -/
theorem wit_HoldsOfALink :
    let s := witHost
    let h : State := { s with now := 1000000, host := { s.host with hb := { s.host.hb with holds := [(0, 1000000), (3, 1000000)] } },
                              objs := [(okey 0x2100 3, 12), (okey 0x2201 1, 3), (okey 0x2201 2, 6), (okey 0x2221 1, 1)] }
    let x : State := { h with now := 2000000 }
    let y : State := { x with host := { x.host with hb := { x.host.hb with holds := [(0, 1000000), (3, 1999999)] } } }
    (s.ep .ha).perst = false ∧ s.linkState .ha = 2 ∧ h.linkState .hb = 3 ∧ (h.ep .hb).perst = false ∧ State.reset.linkState .hb = 0 ∧
    ((h.ep .hb).holds.map (·.1)).filter (fun k => h.fnBack .hb k) = [0] ∧
    (∀ z ∈ (h.ep .hb).holds, h.now < z.2 + ms (h.objN (okey (0x2220 + epIx .hb) 1))) ∧ (s.ep .ha).holds = [] ∧
    (x.ep .hb).holds.filter (fun z => decide (z.2 + ms (x.objN (okey (0x2220 + epIx .hb) 1)) ≤ x.now)) = [(0, 1000000), (3, 1000000)] ∧
    (y.ep .hb).holds.filter (fun z => decide (z.2 + ms (y.objN (okey (0x2220 + epIx .hb) 1)) ≤ y.now)) = [(0, 1000000)] ∧
    x.linkState .hb = 3 ∧ ((y.ep .hb).unhold [0]).holds ≠ [] ∧ s.epInReset .ha = false ∧ s.epMayTrain = true := by decide +kernel
/-- HostReadsAndLinkPower: a read of 64 bytes answered, failed and late; an idle link; a link not yet up; VFs not enabled. -/
theorem wit_HostReads :
    let r : HostRead := { ep := .ha, fn := 0, tag := 5, addr := 0, len := 1, purpose := .flushRead 0, issued := 0, limit := 10 }
    let s : State := { witHost with now := 9, host := { witHost.host with reads := [r], withheld := [(.ha, 6, 11)] } }
    s.epInReset .ha = false ∧ s.readOf .ha 5 = some r ∧ ([0] : List Byte).length = r.len ∧ CplStatus.ur ≠ .success ∧
    s.readOf .ha 6 = none ∧ (Endpoint.ha, 6, 11) ∈ s.host.withheld ∧ s.now < 11 ∧ s.now < r.issued + r.limit ∧
    ({ s with now := 10 } : State).readOf .ha 5 = some r ∧ r.issued + r.limit ≤ ({ s with now := 10 } : State).now ∧
    r.got.length + ([] : List Byte).length < r.len ∧ (witHost.ep .ha).txAt + 1000 * witHost.objN (okey (0x2220 + epIx .ha) 2) ≤ ({ witHost with now := 10 ^ 9 } : State).now ∧
    (witHost.ep .ha).aspmL1 = true ∧ (witHost.ep .ha).l0pEn = true ∧ witHost.linkState .ha = 2 ∧ witHost.objN (okey (0x2200 + epIx .ha) 4) % 8 < 2 ∧
    witHost.host.reads = [] ∧ 128 ≤ witHost.objN (okey (0x2200 + epIx .ha) 4) ∧ witHost.objN (okey (0x2200 + epIx .ha) 3) = 16 ∧
    16 ≤ (witHost.ep .ha).fullWidth ∧ witHost.objN (okey (0x2200 + epIx .ha) 2) ≠ 0 ∧ (witHost.ep .hb).vfEnable = false ∧
    ({ witHost with objs := [] } : State).objN (okey (0x2200 + epIx .hb) 2) = 0 ∧
    ({ witHost with objs := [] } : State).epInReset .hb = false := by decide +kernel
/-- A rig with HA's physical function, its admin pair (SQ 0, EQ 0) and a queue pair (SQ 200, EQ 200), mast 3 with table 2 mounted. -/
def witCmd : State :=
  { objs := [(okey 0x2100 3, 12), (okey 0x2200 1, 2), (okey 0x2210 1, 0xFFFFFFFF), (okey 0x2280 5, 64), (okey 0x2600 1, 0)],
    boot := { inReset := false, ready := true, wasReady := true },
    masts := [(3, { st := .tracking })],
    host := { ha := { perst := false, memSpace := true, busMaster := true },
              sqs := [(0, { owner := .fn ⟨.ha, 0⟩, admin := true, eq := 0 }), (200, { owner := .fn ⟨.ha, 0⟩, eq := 200 })],
              eqs := [(0, { owner := .fn ⟨.ha, 0⟩, admin := true }), (200, { owner := .fn ⟨.ha, 0⟩ }), (201, { owner := .fn ⟨.ha, 0⟩ })],
              fns := [(0, { aen := true, ardy := true })] } }
/-- A packet: opcode, flags, tag, sequence number, and the doublewords from 2 on. -/
def witPkt (opc flags tag seq rest : Nat) : Packet := BitVec.ofNat 512 (opc + flags * 2 ^ 8 + tag * 2 ^ 16 + seq * 2 ^ 32 + rest * 2 ^ 64)
/-- The rig with a packet fetched on SQ 200. -/
def witNext (s : State) (p : Packet) : State := s.setSq 200 { s.sq 200 with fetched := [p] }
/-- A packet as the next of a queue. -/
def witIn (s : State) (q : Nat) (p : Packet) : Option (Cmd × State) := (s.setSq q { s.sq q with fetched := [p] }).letIn 0 q p
/-- ArrivalOfPackets: a packet that is next or not, a holder or none, a duplicate, a tag in use, an unknown opcode. -/
theorem wit_ArrivalOfPackets :
    let s := witCmd
    let n : State := { s with objs := [] }
    let p := witPkt 3 0 1 1 3
    let d := s.setSq 200 { s.sq 200 with dups := [⟨1, 1, some (0, 0)⟩] }
    let u := ((s.handed 200).enter 200 p).2
    let x := witPkt 0xFF 0 1 1 0
    (witNext s p).nextPacket 200 p = true ∧ s.nextPacket 200 p = false ∧ (s.sq 200).owner ≠ .nobody ∧ s.hasHolder = true ∧ n.hasHolder = false ∧ pk p 7 0 = 3 ∧
    ((d.sq 200).dups.find? (fun y => decide (y.tag = 1 ∧ y.seq = 1))).isSome = true ∧
    (u.sq 200).dups.find? (fun y => decide (y.tag = 1 ∧ y.seq = 2)) = none ∧ u.tagInUse 200 1 = true ∧ s.tagInUse 200 1 = false ∧
    opRow (pk x 7 0) = none ∧ ((s.enter 200 x).2).arrivalStatus (((s.enter 200 x).2).sq 200) x = some 0x0001 ∧
    ((s.enter 200 (witPkt 3 1 1 1 3)).2).arrivalStatus (s.sq 200) (witPkt 3 1 1 1 3) = some 0x0002 := by decide +kernel
/-- DataCommandsTakeEffect: table 2 mounted with its lease on mast 3, which can write one sail, and extent 77 of 64 bytes in the map;
packets of each opcode on SQ 200. -/
def witMounted : State :=
  { witCmd with media := { map := [(16 * 69545, extentEntry 77 0 64 0 0 0 0 false 0 3 2)] },
                objs := [(okey 0x2100 3, 12), (okey 0x2200 1, 2), (okey 0x2210 1, 0xFFFFFFFF), (okey 0x2280 5, 64), (ekey 0 2, 0),
                  (okey 0x2600 1, 0), (okey 0x2660 1, 128), (mkey 3 0x50 1, 2), (mkey 3 0x55 1, 1), (mkey 3 0x56 1, 9),
                  (mkey 3 0x56 2, 1), (mkey 3 0x56 3, 1), (mkey 3 0x58 4, 2)] }
/-- An accepted write of extent 78 with tag 9, its command, and a READ held by a burning mast. -/
def witWrite78 : Write := { serial := 1, cid := 7, sq := 200, owner := .fn ⟨.ha, 0⟩, tag := 9, seq := 9, mast := 3, ext := 78, len := 64,
                            str := 0, xpe := false, dur := true, phase := .pending }
def witCmd7 : Cmd := { cid := 7, sq := 200, owner := .fn ⟨.ha, 0⟩, tag := 9, seq := 9, opc := 2, mast := some 3,
                       pkt := witPkt 2 1 9 9 (3 + 78 * 2 ^ 64 + 64 * 2 ^ 128), stage := .write 1 }
def witCmd8 : Cmd := { cid := 8, sq := 200, owner := .fn ⟨.ha, 0⟩, tag := 8, seq := 8, opc := 1, mast := some 3,
                       pkt := witPkt 1 0 8 8 (3 + 77 * 2 ^ 64 + 64 * 2 ^ 160), stage := .heldWriting }
def witPending : State :=
  { witMounted with media := { witMounted.media with writes := [witWrite78] },
                    host := { witMounted.host with cmds := [witCmd7, witCmd8], nextCid := 9 } }
theorem wit_DataCommands :
    let s := witMounted
    let ok : Packet → (State → Cmd → Bool) → Bool := fun p f => ((witNext s p).letIn 0 200 p).any (fun x => f x.2 x.1)
    ok (witPkt 3 0 1 1 3) (fun b c => decide (c.opc = 3 ∧ (b.closeRec 3).media.writes = [])) = true ∧
    ok (witPkt 2 0 1 1 (3 + 78 * 2 ^ 64 + 64 * 2 ^ 128)) (fun b c => decide (c.opc = 2 ∧ b.tableOf (c.pf 68 64) ≠ none ∧
      b.decodersHealthy ≠ 0)) = true ∧
    ok (witPkt 1 0 1 1 (3 + 77 * 2 ^ 64 + 64 * 2 ^ 160)) (fun b c => decide (c.opc = 1 ∧ b.earlierWrite c = none ∧ b.readRefused c = none ∧
      (b.mast (c.pf 68 64)).st ≠ .writing ∧ c.pkt.getLsbD 8 = false ∧ b.relocMissing 3 77 = false)) = true ∧
    ok (witPkt 5 4 1 1 (3 + 77 * 2 ^ 64 + 64 * 2 ^ 160)) (fun b c => decide (c.opc = 5 ∧ b.jobRefused c = none ∧
      (b.joinEngine c).earlierWrite c = none ∧ (b.joinEngine c).readRefused c = none ∧ c.pkt.getLsbD 8 = false)) = true := by decide +kernel
/-- DataCommandsTakeEffect: a write nothing refuses. -/
theorem wit_DataCommands2 : witMounted.writeRefused 3 = none := by decide +kernel
/-- DataCommandsTakeEffect: an ABORT of no command, of itself and of another; a FLUSH with a write to wait for; a READ held. -/
theorem wit_DataCommands3 :
    let s := witPending
    let find : Packet → Option (Bool × Bool) := fun p => ((witNext s p).letIn 0 200 p).map (fun x =>
      let f := x.2.host.cmds.find? (fun y => decide (y.sq = x.1.pf 75 64 ∧ y.tag = x.1.pf 95 80 ∧ y.orphan = false ∧ y.owner = x.1.owner))
      (f.isNone, f.any (fun y => decide (y.cid = x.1.cid))))
    find (witPkt 4 0 1 1 (200 + 7 * 2 ^ 16)) = some (true, false) ∧ find (witPkt 4 0 7 1 (200 + 7 * 2 ^ 16)) = some (false, true) ∧
    find (witPkt 4 0 1 1 (200 + 9 * 2 ^ 16)) = some (false, false) ∧
    ((witNext s (witPkt 3 0 1 1 3)).letIn 0 200 (witPkt 3 0 1 1 3)).any (fun x => decide (((x.2.closeRec 3).media.writes.filter (fun w => w.mast = 3 && w.accepted)).length = 1)) = true ∧
    (s.cmd 8).any (fun x => decide (x.stage = .heldWriting ∧ ((s.at_ 0).mast (x.pf 68 64)).st ≠ .writing)) = true := by decide +kernel
/-- DictionaryCommandsTakeEffect: packets of DICT_READ and DICT_WRITE on SQ 200, short and long. -/
theorem wit_DictionaryCommands :
    let s := witCmd
    let short := witPkt 6 0 1 1 (0x2300 + 1 * 2 ^ 16 + 2 * 2 ^ 32)
    let long := witPkt 6 0 1 1 (0x2300 + 1 * 2 ^ 16 + 16 * 2 ^ 32)
    (witIn s 200 short).isSome = true ∧ (witIn s 200 long).isSome = true ∧
    (witIn s 200 (witPkt 7 0 1 1 (0x2300 + 1 * 2 ^ 16 + 2 * 2 ^ 32))).isSome = true ∧
    (witIn s 200 (witPkt 7 0 1 1 (0x2300 + 1 * 2 ^ 16 + 16 * 2 ^ 32))).isSome = true ∧
    ((witIn s 200 short).any (fun x => match x.2.readObj x.1.owner.path 0x2300 1 false with
      | .ok d => match intoSpace 0x2300 1 false 2 d with
        | .ok _ => true
        | .error _ => false
      | .error _ => false)) = true ∧
    ((witIn s 200 short).any (fun x => match x.2.readObj x.1.owner.path 0x2300 99 false with
      | .ok _ => false
      | .error _ => true)) = true := by decide +kernel
/-- MastCommandsTakeEffect: MOUNT of a table on a mast with and without one, UNMOUNT, FURL. -/
theorem wit_MastCommands :
    let s := witCmd
    (witIn s 200 (witPkt 9 0 1 1 3)).isSome = true ∧ (witIn s 200 (witPkt 9 1 1 1 3)).isSome = true ∧
    (witIn s 200 (witPkt 8 0 1 1 (3 + 2 * 2 ^ 8))).isSome = true ∧ (witIn s 200 (witPkt 0x0A 0 1 1 3)).isSome = true ∧
    (witIn witMounted 200 (witPkt 8 0 1 1 (3 + 2 * 2 ^ 8))).isSome = true ∧ witMounted.tableOf 3 ≠ none ∧ s.tableOf 3 = none := by
  decide +kernel
/-- Table 2 valid: one zone, one layer; mast 3 with a disc identity and its lease. -/
def witTable : State :=
  (((((((((((witCmd.setObj (okey 0x4200 1) 1).setObj (tkey 2 0 3) 1).setObj (tkey 2 0 5) 1).setObj (tkey 2 0 8) 0).setObj (tkey 2 0 9)
    141835).setObj (tkey 2 0 0x93) 141851).setBlob (tkey 2 3 1) (leBytes 4 0 ++ leBytes 4 64 ++ leBytes 4 6553600 ++ leBytes 4 0)).setBlob
    (tkey 2 4 1) (leBytes 8 0)).setObj (tkey 2 0 4) 20000000).setMo 3 0x56 1 9).setMo 3 0x56 2 1).setMo 3 0x56 3 1
/-- MastCommandsTakeEffect: a MOUNT that is carried out, one of a table that is not valid, and one without a lease. -/
theorem wit_MastCommands2 :
    let s := witTable
    let n := s.setMo 3 0x56 3 2
    (witIn s 200 (witPkt 8 0 1 1 (3 + 2 * 2 ^ 8))).isSome = true ∧ s.tableOf 3 = none ∧ s.objN (tkey 2 0 1) ≠ 0 ∧ s.tableOk 2 = true ∧
    s.moN 3 0x56 2 ≠ 0 ∧ s.moN 3 0x56 1 ≠ 0 ∧ s.moN 3 0x56 3 = 1 ∧ witCmd.objN (tkey 5 0 1) = 0 ∧ n.moN 3 0x56 3 = 2 ∧
    n.tableOk 2 = true := by decide +kernel
/-- QueueCommandsTakeEffect: the queue commands of HA's physical function on its admin pair. -/
theorem wit_QueueCommands :
    let s := witCmd
    (witIn s 0 (witPkt 0x10 0 1 1 (0x1000 + 6 * 2 ^ 64 + 200 * 2 ^ 80))).isSome = true ∧
    (witIn s 0 (witPkt 0x10 0 1 1 (0x1000 + 6 * 2 ^ 64 + 300 * 2 ^ 80))).isSome = true ∧ (s.eq 200).owner = .fn ⟨.ha, 0⟩ ∧
    (s.eq 300).owner ≠ .fn ⟨.ha, 0⟩ ∧ (s.sqsOf (.fn ⟨.ha, 0⟩)).length < s.queueLimit ⟨.ha, 0⟩ ∧ s.freeSq.isSome = true ∧
    s.freeEq.isSome = true ∧ (witIn s 0 (witPkt 0x12 0 1 1 (0x1000 + 6 * 2 ^ 64))).isSome = true ∧
    (witIn s 0 (witPkt 0x11 0 1 1 200)).isSome = true ∧ (witIn s 0 (witPkt 0x13 0 1 1 201)).isSome = true ∧
    (witIn s 0 (witPkt 0x13 0 1 1 200)).isSome = true ∧ firstQueue ≤ 200 ∧
    s.host.sqs.all (fun x => decide (x.2.eq ≠ 201)) = true ∧ s.host.sqs.any (fun x => decide (x.2.eq = 200)) = true := by decide +kernel
/-- DoorbellsModerationAndUnmask: SQ and EQ 200 of a function in D0, in range and out of it, with a record unsignalled. -/
theorem wit_Doorbells :
    let s : State := { witCmd with now := 100 }
    let e := s.setEq 200 { s.eq 200 with tail := 3, unsig := 1 }
    s.fnThere ⟨.ha, 0⟩ = true ∧ (s.sq 200).owner = .fn ⟨.ha, 0⟩ ∧ 0 < 2 ^ (s.sq 200).log ∧ (s.eq 200).owner = .fn ⟨.ha, 0⟩ ∧
    (3 + (e.eq 200).size - (e.eq 200).head) % (e.eq 200).size ≤ (e.eq 200).used ∧ 3 < (e.eq 200).size ∧
    (s.eq 200).used < (3 + (s.eq 200).size - (s.eq 200).head) % (s.eq 200).size ∧ (s.eq 202).owner ≠ .fn ⟨.ha, 0⟩ ∧
    (s.sq 202).owner ≠ .fn ⟨.ha, 0⟩ ∧ e.fnThere ⟨.ha, 0⟩ = true ∧ 0 < (e.eq 200).unsig ∧
    (e.eq 200).unsigAt + 100 * (e.eq 200).itime ≤ e.now ∧ 0 < vecCount ⟨.ha, 0⟩ := by decide +kernel
/-- A write waiting for its grant with 64 bytes, and peer windows onto grants and onto engine 0 of shroud HA's physical function. -/
def witGrantRig : State := { witMounted with objs := [(okey 0x2100 3, 12), (okey 0x2200 1, 2), (okey 0x2210 1, 0xFFFFFFFF),
  (okey 0x2280 3, 1000), (okey 0x2280 5, 64), (okey 0x2400 2, 0xFFFF), (okey 0x2401 3, 64), (ekey 0 2, 0), (ekey 0 3, 1), (okey 0x2600 1, 0)] }
def witGrantWrite : Write := { serial := 7, cid := 7, sq := 200, owner := .fn ⟨.ha, 0⟩, tag := 1, seq := 1, mast := 3, ext := 77, len := 64,
                               str := 0, xpe := false, dur := false }
/-- GrantsAndPeerWindows: a write waiting for its grant, one just granted and one granted 1 s ago. -/
theorem wit_Grants :
    let s := witGrantRig
    let a : State := { s with media := { s.media with writes := [witGrantWrite] } }
    let g : State := { s with media := { s.media with writes := [{ witGrantWrite with phase := .granted, ngr := 1 }] } }
    let l : State := { g with now := 10 ^ 12 }
    (a.media.writes.find? (fun x => decide (x.cid = 7 ∧ x.phase = .waiting))).isSome = true ∧ a.grantPlace witGrantWrite = some 0 ∧
    a.stagingFree witGrantWrite = true ∧ (g.media.writes.find? (fun x => decide (x.cid = 7 ∧ x.phase = .granted))).isSome = true ∧
    ms (l.objN (okey 0x2280 3)) ≤ l.now ∧ g.now < 0 + ms (g.objN (okey 0x2280 3)) := by decide +kernel
/-- GrantsAndPeerWindows: accesses to a grant, beside it, to an engine's window idle and busy and beyond it, and to no window; shadow
sets admissible and not, with and without a grant that moves; a function that is not there. -/
theorem wit_PeerWindows :
    let s := witGrantRig
    let f : Fn := ⟨.ha, 0⟩
    let g : State := { s with media := { s.media with writes := [{ witGrantWrite with phase := .granted, ngr := 1 }] } }
    let k : State := s.setFnr f { s.fnr f with force := [(0, { en := true, kind := 1, base := 0, size := 2097152 })] }
    let r : State := k.setEngine 0 { k.engine 0 with seg := some { cid := 1, len := 0, ocap := 0, last := false, save := false } }
    let bad : State := s.setFnr f { s.fnr f with shadow := [(0, { en := true, kind := 3, base := 0, size := 4096 })] }
    let off : State := g.setFnr f { g.fnr f with shadow := [(0, { en := false, kind := 0, base := 0, size := 4096 })] }
    s.fnThere f = true ∧ ((g.grantsExpire.fnr f).match_ f 0 64 0).any (fun x => decide (x.kind = 0)) = true ∧
    (g.grantsExpire.grantAt (.fn f) 0 64).isSome = true ∧ g.grantsExpire.grantAt (.fn f) 64 64 = none ∧ k.fnThere f = true ∧
    ((k.fnr f).match_ f 0 64 0).any (fun x => decide (x.kind = 1) && (k.windowPlace f x 0 64).isSome) = true ∧ (k.engine 0).seg = none ∧
    ((k.fnr f).match_ f 1048576 64 0).any (fun x => decide (x.kind = 1) && (k.windowPlace f x 1048576 64).isNone) = true ∧
    (r.engine 0).seg ≠ none ∧ (s.fnr f).match_ f (2 ^ 36) 64 0 = none ∧ bad.shadowOk f = false ∧ s.shadowOk f = true ∧
    off.shadowOk f = true ∧ (off.grants (.fn f)).length = 1 ∧ ((off.fnr f).windows f).any (fun p => decide (p.2.kind = 0) &&
      decide ((off.fnr f).shadowAt f p.1 = p.2)) = false ∧ s.fnThere ⟨.hb, 0⟩ = false := by decide +kernel
/-- GrantsAndPeerWindows: a window's granule that reads right, and one wrong at both reads. -/
theorem wit_WindowGranule :
    let s := witGrantRig
    let g := s.windowGranule 0 0
    s.granuleFails g.1 g.2 [] = false ∧ s.granuleFails g.1 g.2 [⟨1, 0⟩, ⟨1, 0⟩] = true := by decide +kernel
/-- A mast in training or up with lanes 0 to 6 locked; a frame of a type with its CRC, scrambled and encoded as a lane sends it. -/
def witLink (st : Nat) : State :=
  { objs := [(okey 0x2100 3, 12), (okey 0x2600 1, 0), (mkey 3 8 1, (st : Int))], boot := { inReset := false, ready := true },
    masts := [(3, { st := .present, link := { lanes := (List.range 7).map (fun l => (l, { locked := true })) } })] }
def witFrame (code n : Nat) : RxFrame := ⟨lineOf (sealFrame code n)⟩
/-- MastLinkFramesArrive: the seventh bad frame, a setting to judge, and sets that are stale or in training. -/
theorem wit_MastLinkFrames :
    let s := (witLink 6).heard 3
    let b := s.setLane 3 2 { locked := true, bad := 7 }
    let w : State := (witLink 5).updLink 3 (fun y => { y with newest := [7] })
    let a := (w.atStrobe 3 2800 400).trainingTimeout 3
    let z := (w.atStrobe 3 0 400).trainingTimeout 3
    let e := (witLink 3).heard 3
    2 ≤ s.linkSt 3 ∧ s.laneIn 3 2 = true ∧ ((s.countN (ckey 3 0 3) 0).lane 3 2).locked = true ∧
    ((s.countM 3 1 3).lane 3 2).locked = true ∧ ((s.countM 3 1 3).lane 3 2).bad + 1 < 8 ∧
    ((b.countM 3 1 3).lane 3 2).locked = true ∧ 8 ≤ ((b.countM 3 1 3).lane 3 2).bad + 1 ∧ (b.countM 3 1 3).linkSt 3 = 6 ∧
    e.linkSt 3 = 3 ∧ (e.lane 3 2).locked = true ∧ (e.lane 3 2).trial < 81 ∧ e.laneIn 3 2 = true ∧
    5 ≤ a.linkSt 3 ∧ (a.link 3).newest ≠ [] ∧ (a.link 3).newest.getD 0 0 = 2800 / 400 % 65536 ∧
    5 ≤ z.linkSt 3 ∧ (z.link 3).newest.getD 0 0 ≠ 0 / 400 % 65536 := by decide +kernel
/-- MastLinkFramesArrive: a sealed idle, sample, sample-and-telemetry and identity frame is used, on an up link and on one in training. -/
theorem wit_MastLinkFrames_used :
    (witFrame 2 14).decoded = true ∧ (witFrame 2 14).corrected = 0 ∧
    frameCrcOk (unscramble 2 (witFrame 2 14).bits) = true ∧ unscramble 2 (witFrame 2 14).bits % 16 = 14 ∧
    (∃ u n, (witLink 6).rxFrame 3 2 (witFrame 2 1) = (u, some n) ∧ n % 16 = 1 ∧ 5 ≤ u.linkSt 3) ∧
    (∃ u n, (witLink 6).rxFrame 3 6 (witFrame 6 2) = (u, some n) ∧ n % 16 = 2 ∧ u.moN 3 8 6 = 0 ∧ 5 ≤ u.linkSt 3) ∧
    (∃ u n, ((witLink 4).atTick 3 0).rxFrame 3 6 (witFrame 6 3) = (u, some n) ∧ n % 16 = 3 ∧ 6 = u.telemetryLane 3 ∧ u.linkSt 3 = 4 ∧
      (u.link 3).tset = 0) := by
  have dec : ∀ c n, (witFrame c n).decoded = true := fun c n => decoded_lineOf _
  have cor : ∀ c n, (witFrame c n).corrected = 0 := fun c n => corrected_lineOf _
  have bits : ∀ c n, (witFrame c n).bits = sealFrame c n := fun c n => bits_lineOf _
  have crc : ∀ c n, frameCrcOk (unscramble c (witFrame c n).bits) = true := fun c n => by rw [bits]; exact frameCrcOk_sealFrame c n
  have ty : ∀ c n, unscramble c (witFrame c n).bits % 16 = n % 16 := fun c n => by rw [bits]; exact unscramble_type c n
  have used : ∀ (s : State) (lane n : Nat), 2 ≤ (s.heard 3).linkSt 3 → lane < 7 → (s.heard 3).laneIn 3 lane = true →
      (n = 1 ∨ n = 2 ∨ n = 3) → (((s.heard 3).countN (ckey 3 0 (lane + 1)) 0).lane 3 lane).locked = true →
      ∃ k, s.rxFrame 3 lane (witFrame lane n) = (((s.heard 3).countN (ckey 3 0 (lane + 1)) 0).setLane 3 lane
        { ((s.heard 3).countN (ckey 3 0 (lane + 1)) 0).lane 3 lane with bad := 0 }, some k) ∧ k % 16 = n := by
    intro s lane n h1 h2 h3 h4 h5
    have h6 : n % 16 = n := by omega
    have h := rxFrame_used s 3 lane (witFrame lane n) h1 h2 h3 (dec lane n) (crc lane n) (by rw [ty, h6]; omega) (by rw [cor]; exact h5)
    rw [cor] at h
    exact ⟨_, h, (ty lane n).trans h6⟩
  refine ⟨dec 2 14, cor 2 14, crc 2 14, ty 2 14, ?_, ?_, ?_⟩
  · obtain ⟨k, h, hk⟩ := used (witLink 6) 2 1 (by decide +kernel) (by decide) (by decide +kernel) (by decide) (by decide +kernel)
    exact ⟨_, k, h, hk, by decide +kernel⟩
  · obtain ⟨k, h, hk⟩ := used (witLink 6) 6 2 (by decide +kernel) (by decide) (by decide +kernel) (by decide) (by decide +kernel)
    exact ⟨_, k, h, hk, by decide +kernel, by decide +kernel⟩
  · obtain ⟨k, h, hk⟩ := used ((witLink 4).atTick 3 0) 6 3 (by decide +kernel) (by decide) (by decide +kernel) (by decide) (by decide +kernel)
    exact ⟨_, k, h, hk, by decide +kernel, by decide +kernel, by decide +kernel⟩
/-- MastLinkSendsAndTrains: an up link, links in training 2 ms, 50 ms and 1 s after t0, an absent mast after failed trainings. -/
theorem wit_MastLinkSends :
    let tr : Nat → Nat → Nat → State := fun st t set => { (witLink st).updLink 3 (fun y => { y with t0 := some 0, tset := set }) with now := t }
    let ab : State := { (witLink 1) with masts := [(3, { link := { fails := 2, prbsAt := some 0 } })], now := 10 ^ 9 }
    let fa : State := { (witLink 1) with masts := [(3, { st := .faulted, link := { fails := 3, prbsAt := some 0, lastSig := 10 ^ 12 } })], now := 10 ^ 12 }
    5 ≤ ((witLink 6).atTick 3 0).linkSt 3 ∧ ((tr 4 (10 ^ 9) 0).link 3).t0 = some 0 ∧ 2 ≤ (tr 4 (10 ^ 9) 0).linkSt 3 ∧
    (tr 4 (10 ^ 9) 0).linkSt 3 < 5 ∧ ms 1 ≤ (tr 4 (10 ^ 9) 0).now ∧ ((tr 4 (10 ^ 9) 1).link 3).tset = 1 ∧
    1 < ((tr 4 (10 ^ 9) 16).link 3).tset ∧ ((ab.heard 3).mast 3).st = .absent ∧ (ab.heard 3).linkSt 3 = 1 ∧ (ab.heard 3).retryDue 3 = true ∧
    (ab.mast 3).st ≠ .retired ∧ (ab.link 3).prbsAt = some 0 ∧ ms 10 ≤ ab.now ∧ ((fa.heard 3).mast 3).st = .faulted ∧ sec 10 ≤ fa.now ∧
    ms 40 ≤ (tr 3 (10 ^ 9) 0).now ∧ (tr 3 (10 ^ 9) 0).linkSt 3 < 4 ∧ 2 ≤ (tr 3 (10 ^ 9) 0).linkSt 3 ∧
    ms ((tr 3 (10 ^ 12) 0).moN 3 0x0A 3) ≤ (tr 3 (10 ^ 12) 0).now := by decide +kernel
/-- MastLinkLanesFailAndReturn: a lane going down, one re-acquired in time and one too late, lane 6 clean under LMAP, every lane down,
a mast without signal. -/
theorem wit_MastLinkLanes :
    let s : State := { (witLink 6) with now := 10 ^ 10 }
    let d := s.setLane 3 2 { downAt := some 0 }
    let r := s.setLane 3 2 { downAt := some (10 ^ 10) }
    let o := (r.linkLostTimeout 3).laneNotBack 3 2
    let l := s.setMo 3 8 6 1
    let a := s.updLink 3 (fun y => { y with lanes := (List.range 7).map (fun l => (l, { downAt := some 0 })) })
    let n : State := { (witLink 1) with now := 10 ^ 10 }
    s.linkUp 3 = true ∧ s.laneIn 3 2 = true ∧ s.laneIn 3 9 = true ∧ (s.lane 3 2).downAt = none ∧ (s.lane 3 6).downAt = none ∧
    (s.lane 3 9).downAt = none ∧ (d.lane 3 2).downAt = some 0 ∧ ms 2 ≤ d.now ∧ d.laneRetired 3 2 = false ∧
    (o.lane 3 2).downAt ≠ none ∧ o.laneRetired 3 2 = false ∧ l.moN 3 8 6 ≠ 0 ∧ (l.lane 3 6).locked = true ∧
    l.laneRetired 3 6 = false ∧ (l.lane 3 6).upAt + sec 1 ≤ l.now ∧ a.linkUp 3 = true ∧
    ((List.range 7).all (fun i => (a.lane 3 i).downAt.any (fun x => decide (x + us 10 ≤ a.now)))) = true ∧
    (n.mast 3).st ≠ .retired ∧ (n.mast 3).st ≠ .absent ∧ n.linkSt 3 ≠ 6 ∧ (n.link 3).lastSig + ms 100 ≤ n.now := by decide +kernel
/-- A sail with a run of samples from index 0, all zero. -/
def witSail (v : Int) : SailSt := { base := 0, raw := List.replicate 120 { x := v, erased := false, clip := false } }
/-- LoopsEvaluateAndTheClockTrackRuns: a strobe, a chopper on, commands of generations, a flywheel run, a bad unit, a candidate done. -/
theorem wit_Loops :
    let s := witLink 6
    let c : State := s.updDrive 3 (fun x => { x with chpHigh := some 0, chp := 1 })
    let g := s.updServo 3 (fun x => { x with gen := 5 })
    let o := s.updOpt 3 (fun x => { x with seqn := .acquire 1 0 0 })
    let k := c.updMast 3 (fun x => { x with tick := 10 ^ 12 })
    let l := s.updOpt 3 (fun x => { x with cal := some { kind := .loop, code := 4, n := 4096 } })
    (s.atStrobe 3 1600 400).linkUp 3 = true ∧ 1600 % 400 = 0 ∧ (k.drive 3).chpHigh = some 0 ∧
    k.moN 3 0x39 8 * 640000 ≤ k.tickNow 3 ∧ (k.drive 3).chp ≠ 0 ∧ k.moN 3 0x38 8 ≠ 1 ∧
    ((g.servo 3).gen + 2 ^ 32 - 4) % 2 ^ 32 = 1 ∧ ((g.servo 3).gen + 2 ^ 32 - 5) % 2 ^ 32 = 0 ∧
    (o.updServo 3 (fun x => { x with gen := 0 })).orderDrives 3 (.target 1 0) = true ∧
    (s.updServo 3 (fun x => { x with gen := 0 })).orderDrives 3 (.target 1 0) = false ∧
    l.calComplete 3 { kind := .loop, code := 4, n := 4096 } = true := by decide +kernel
/-- LoopsEvaluateAndTheClockTrackRuns: marks held in closed loop that all pass, or none; units that read and do not. -/
theorem wit_LoopsMarks :
    let w : Nat → State := fun ph => (((witLink 6).updOpt 3 (fun x => { x with clockPh := ph, k := 65536, nz := 64, mark := 20, f0 := 2 ^ 40 })).setMaskBit
      (mkey 3 0x30 1) 5)
    let z := (w 3).setSail 3 65 (witSail 0)
    let o := ((w 3).setMo 3 0x34 3 0).setSail 3 65 (witSail 7)
    z.v1Active 3 = true ∧ (z.opt 3).clockPh = 3 ∧ (z.sail 3 65).holdsMarks 0 (z.opt 3).k (z.opt 3).mark 16 = true ∧
    ((List.range 16).all (fun i => !(markOf ((z.sail 3 65).servoAt 0) 65536 0 (z.moN 3 0x34 3) ((20 + i : Nat) : Int)).1)) = true ∧
    ((List.range 16).all (fun i => (markOf ((o.sail 3 65).servoAt 0) 65536 0 (o.moN 3 0x34 3) ((20 + i : Nat) : Int)).1)) = true ∧
    (o.sail 3 65).holdsMarks 0 65536 20 16 = true ∧ o.flywheels 3 = false ∧ (z.sail 3 65).holdsMarks 0 65536 20 64 = true ∧ (z.readUnit 3 20).1 = false := by
  decide +kernel
/-- PositioningOrdersTakeEffect: spinning and tracking masts, and each order under way long enough. -/
theorem wit_Positioning :
    let s : State := (witLink 6).updMast 3 (fun x => { x with st := .spinning, tick := 10 ^ 9 })
    let l := ((s.setMo 3 0x30 1 15).setMo 3 0x50 1 2).setObj (tkey 2 0 3) 4
    let q : Seqn → State := fun x => s.updOpt 3 (fun o => { o with seqn := x })
    let r := (s.setDriveState 3 4).updDrive 3 (fun x => { x with atTarget := 40 })
    r.linkUp 3 = true ∧ (r.mast 3).st = .spinning ∧ r.atTarget 3 = true ∧ (q (.acquire 3 0 0)).seqn 3 = .acquire 3 0 0 ∧
    ticksUs 100000 ≤ (q (.acquire 3 0 0)).tickNow 3 ∧ l.locked 3 0 = true ∧ l.locked 3 1 = true ∧ l.locked 3 3 = true ∧
    3 < l.objN (tkey ((l.tableOf 3).getD 0) 0 3) ∧ (500 : Int) - l.moN 3 0x30 3 ≠ 0 ∧ (q (.jump 2 1 0 0)).seqn 3 = .jump 2 1 0 0 ∧
    (q (.layer 0 2 0 0 0 none false)).seqn 3 = .layer 0 2 0 0 0 none false ∧ ((q (.jump 2 1 0 0)).opt 3).resumed = none ∧
    (((q (.jump 2 1 0 0)).updOpt 3 (fun x => { x with queued := x.queued ++ [.homing 1 0 0] })).opt 3).seqn ≠ .none := by decide +kernel
/-- SpindlesStartAndSyncIn: a present mast with start parameters that nothing refuses, the drive in each state, SYNC_IN edges. -/
theorem wit_Spindle :
    let s0 : State := (witLink 6).updMast 3 (fun x => { x with tick := 10 ^ 11 })
    let s := (((((((((s0.setMo 3 0x50 1 2).setObj (tkey 2 0 4) 50000000).setPar 3 (0x28 * 256 + 2) 9).setPar 3 (0x29 * 256 + 2) 9).setMo 3 0x39 1 8).setMo 3
      0x39 2 4).setMo 3 0x39 3 2).setMo 3 0x39 4 100).setPar 3 (0x29 * 256 + 0x0B) 0)
    let f : State := s.updDrive 3 (fun x => { x with fails := 1 })
    let d : Nat → State := fun x => (s.setDriveState 3 x)
    let fast : Int → State := fun w => (d 1).updServo 3 (fun x => { x with obs := { w := w, ea := 2 ^ 30, eb := 2 ^ 30 } })
    let e : Nat → State := fun a => { s with now := 10 ^ 9, pins := { s.pins with syncAt := some a, syncFall := 10 ^ 9 } }
    s.linkUp 3 = true ∧ (s.opt 3).spnEn = false ∧ s.driveState 3 = 0 ∧ (s.mast 3).st = .present ∧ s.startRefused 3 = none ∧
    0 < (f.drive 3).fails ∧ (f.drive 3).rampAt + ticksUs 10000000 ≤ f.tickNow 3 ∧ (d 1).driveState 3 = 1 ∧
    (d 1).par 3 0x27 8 ≥ 0 ∧ (fast (2 ^ 30)).fasterThan 3 (2 ^ 30) 50 = true ∧ (fast 0).fasterThan 3 0 50 = false ∧
    (fast 0).par 3 0x27 8 ≤ ((max (wq (2 ^ 30)).natAbs (wq (2 ^ 30)).natAbs : Nat) : Int) ∧ (s.updMast 3 (fun x => { x with st := .present })).linkUp 3 = true ∧
    ({ s with pins := { s.pins with furlN := true } } : State).startRefused 3 = some 0x0020 ∧
    (d 2).driveState 3 = 2 ∧ ticksUs (1000 * (d 2).moN 3 0x38 0x0D) ≤ (d 2).tickNow 3 ∧ (d 3).driveState 3 = 3 ∧
    ticksUs 5000000 ≤ (d 3).tickNow 3 ∧ ((e 90).syncLost 100).objN (okey 0x2130 1) ≠ 2 ∧ ((e 90).syncLost 1500).pins.syncAt = some 90 ∧
    (s.syncLost 1500).pins.syncAt = none ∧ (s.syncLost 1500).pins.syncEdges = 0 ∧ 90 + 1000 ≤ 1500 ∧
    us ((e 90).objN (okey 0x2130 5)) < (e 90).now ∧ us ((e 90).objN (okey 0x2130 5)) < (e 90).pins.syncFall ∧
    90 + ms (((e 90).setObj (okey 0x2130 1) 1).objN (okey 0x2130 3)) ≤ (e 90).now := by decide +kernel
/-- SledsMoveAndHome: a planned change of velocity, a step due short of the target and at it, homing from rest and under way. -/
theorem wit_Sleds :
    let s := (witLink 6).updMast 3 (fun x => { x with tick := 10 ^ 9 })
    let b := s.updSled 3 (fun y => { y with hasNext := true, vnext := 5, tb := 7 })
    let d : Int → State := fun x => ((((s.setMo 3 0x3E 4 10).setMo 3 0x3E 3 x).setMo 3 0x3D 6 100).updSled 3 (fun y => { y with num := 10 ^ 10, te := 0 }))
    let h := s.updOpt 3 (fun x => { x with seqn := .homing 1 0 0 })
    let z := s.updOpt 3 (fun x => { x with queued := x.queued ++ [.homing 0 0 0] })
    ((b.atTick 3 7).sled 3).hasNext = true ∧ ((b.atTick 3 7).sled 3).tb = 7 ∧ ((d 100).atTick 3 (10 ^ 9)).stepDue 3 = some (10 ^ 9) ∧
    ((d 100).atTick 3 7).stepDue 3 ≠ some 7 ∧ ((d 1).atTick 3 (10 ^ 9)).sledN 3 + signI (((d 1).atTick 3 (10 ^ 9)).sledV 3) = 1 ∧
    (((d 1).sledV 3).natAbs : Int) ≤ max ((d 1).sp 3 6) ((d 1).sp 3 5) ∧ s.linkUp 3 = true ∧ s.moN 3 0x58 3 = 0 ∧
    (s.mast 3).st = .present ∧ (s.seqn 3).homes = false ∧ (s.opt 3).queued.any Seqn.homes = false ∧ z.seqn 3 = .none ∧ (z.opt 3).queued = [.homing 0 0 0] ∧ h.seqn 3 = .homing 1 0 0 ∧
    ticksUs 10000 ≤ h.tickNow 3 := by decide +kernel
/-- A wanted sector of mast 3's disc, and a codeword of zero LLRs for it. -/
def witSector : Sector :=
  { sid := 1, mast := 3, slot := ⟨0, 100, 0⟩, sail := 0, reader := 0, str := 0, xpe := false, ext := 77, eidx := 0, xpos := 0, kind := 1,
    reloc := false, use := .replica 5 1 }
/-- SectorsAreScheduledDecodedAndJudged: a mast that may schedule, codewords at the pool and in decoder 0, a decoder, a fetch. -/
theorem wit_Sectors :
    let s := ((witLink 6).updMast 3 (fun x => { x with st := .tracking, opt := { x.opt with chi0 := some 0 } })).setMo 3 0x30 1 31
    let w : State := { s with media := { s.media with sectors := [witSector] } }
    let c : Codeword := { sid := 1, mast := 3, sail := 0, str := 0, p := 0, q := 0, llr := [1, 2], pol := [] }
    let z : Codeword := { c with llr := [0, 0] }
    let r := w.updMast 3 (fun x => { x with ready := [c] })
    let rz := w.updMast 3 (fun x => { x with ready := [z] })
    let q : State := { w with media := { w.media with queue := [c] } }
    let d := w.setDecoder 0 { bufs := [c] }
    let v3 := witLink 6
    let f : State := { w with now := 10 ^ 12, media := { w.media with sectors := [{ witSector with phase := .fetch }] } }
    let a := (((w.dropOrphans 3).nextLog 3).rescheduleRetired 3).skipShifts 3
    let y := d.setDecoder 5 { untested := true }
    a.mayRead 3 = true ∧ (((v3.dropOrphans 3).nextLog 3).rescheduleRetired 3).skipShifts 3 = v3 ∧ v3.mayRead 3 = false ∧
    a.media.sectors.length = 1 ∧ a.readable a.media.sectors false = [] ∧ a.inFlight 3 6 = [] ∧
    (r.mast 3).ready.find? (fun c => c.sail = 0) = some c ∧ c.sid ≠ calSid ∧ c.erased = false ∧
    z.erased = true ∧ (rz.mast 3).ready.find? (fun c => c.sail = 0) = some z ∧ q.media.queue = [c] ∧
    (List.range 128).find? q.decoderFree = some 0 ∧ (d.decoder 0).bufs = [c] ∧ (d.sector 1).isSome = true ∧
    (c.forStep witSector).isSome = true ∧ y.decoderRetired 5 = false ∧ (y.decoder 5).untested = true ∧ (y.decoder 5).bufs = [] ∧
    (f.sector 1).isSome = true ∧ ms (f.moN 3 0x52 4) ≤ f.now := by decide +kernel
/-- SectorsAreScheduledDecodedAndJudged: a sector in flight, and one whose decode verifies a burn. -/
theorem wit_Sectors2 :
    let s := ((witLink 6).updMast 3 (fun x => { x with st := .tracking, opt := { x.opt with chi0 := some 0 } })).setMo 3 0x30 1 31
    let w : State := { s with media := { s.media with sectors := [witSector, { witSector with sid := 2, phase := .pool }] } }
    let a := (((w.dropOrphans 3).nextLog 3).rescheduleRetired 3).skipShifts 3
    a.mayRead 3 = true ∧ (a.inFlight 3 6).length = 1 ∧ (SecUse.verify none 1).isVerify = true ∧ witSector.use.isVerify = false ∧
    (judge witSector false []) ≠ .accepted := by decide +kernel
/-- SectorsAreScheduledDecodedAndJudged: a MOUNT reads its log: the second log slot becomes wanted; a log slot found without sync is
blank, one found with it is judged. -/
theorem wit_SectorsLog :
    let k : Cmd := { cid := 5, sq := 200, owner := .fn ⟨.ha, 0⟩, opc := 8, tag := 1, seq := 1, pkt := 0, mast := some 3, stage := .mounting }
    let a := (((witLink 6).updMast 3 (fun x => { x with st := .tracking, opt := { x.opt with chi0 := some 0 } })).setMo 3 0x30 1 31).setMo 3 0x50 1 2
    let b := ((((((a.setObj (tkey 2 0 3) 1).setObj (tkey 2 0 5) 1).setObj (tkey 2 0 8) 0).setObj (tkey 2 0 9) 1000).setObj (okey 0x4200 0x93)
      1016).setBlob (tkey 2 3 1) (leBytes 4 0 ++ leBytes 4 10000000 ++ leBytes 4 65536 ++ leBytes 4 0))
    let s : State := ({ b with host := { b.host with cmds := [k] } } : State).logFound 3 .unreadable
    let u := s.dropOrphans 3
    let c : Codeword := { sid := 1, mast := 3, sail := 0, str := 3, p := 0, q := 0, llr := [1, 2], pol := [], found := false }
    let x := { logSector 3 ⟨0, 1000, 0⟩ .log with sid := 1 }
    let d := ({ s with media := { s.media with sectors := [x] } } : State).setDecoder 0 { bufs := [c] }
    u.logOpen 3 = true ∧ u.mayRead 3 = true ∧ u.logDone 3 ((u.tableOf 3).getD 0) = false ∧ u.media.sectors = [] ∧
    u.logSlot ((u.tableOf 3).getD 0) (u.mast 3).wr.log.length = some ⟨0, 1001, 0⟩ ∧ (u.nextLog 3).media.sectors.length = 1 ∧
    (d.decoder 0).bufs = [c] ∧ d.sector c.sid = some x ∧ (c.forStep x).isSome = true ∧ x.use = .log ∧ x.step = 0 ∧ c.found = false ∧
    x.use.isVerify = false := by decide +kernel
/-- Mast 3 writing: all loops locked, the address known, its disc mounted and leased, one accepted write, one closed record. -/
def witWriting : State :=
  let s := (((((((witLink 6).updMast 3 (fun x => { x with st := .writing, opt := { x.opt with chi0 := some 0 } })).setMo 3 0x30 1 31).setMo 3 0x50 1
    2).setMo 3 0x56 1 9).setMo 3 0x56 2 1).setMo 3 0x56 3 1)
  { s with now := 10 ^ 13 }
/-- WritesBurnVerifyAndBecomeDurable: a writing mast with nothing due, one with a write due that tracks, a mast that may burn. -/
theorem wit_Writes :
    let s := witWriting
    let w : Write := { serial := 7, cid := 7, sq := 200, owner := .fn ⟨.ha, 0⟩, tag := 1, seq := 1, mast := 3, ext := 77, len := 64, str := 0, xpe := false, dur := false, phase := .pending }
    let a : State := { s with media := { s.media with writes := [w] } }
    let r := a.updMast 3 (fun x => { x with st := .tracking })
    let rd := a.updMast 3 (fun x => { x with st := .reading })
    let o := s.updMast 3 (fun x => { x with wr := { x.wr with openRec := some ⟨1, [], 0, 0, none, [], none⟩ } })
    let k : Cmd := { cid := 5, sq := 200, owner := .fn ⟨.ha, 0⟩, opc := 8, tag := 1, seq := 1, pkt := 0, mast := some 3, stage := .mounting }
    let mt : State := { s with host := { s.host with cmds := [k] } }
    let lg : State → State := fun s => s.logFound 3 .blank
    s.atPassBoundary 3 = true ∧ s.hasHolder = true ∧ s.writeDue 3 = false ∧ (r.mast 3).st = .tracking ∧ r.writeDue 3 = true ∧
    r.atPassBoundary 3 = true ∧ (r.opt 3).cal = none ∧ r.readsInFlight 3 = false ∧ r.readWaits 3 = false ∧ rd.readSliceOver 3 = true ∧
    s.mayBurn 3 = true ∧ s.writeSliceOver 3 = false ∧ (s.atTick 3 9).mayVerify 3 = true ∧ ((s.atTick 3 9).showWidth 3).verifyDue 3 = [] ∧ (o.mast 3).wr.openRec.isSome = true ∧ ms (o.moN 3 0x54 6) ≤ o.now ∧
    a.write 7 = some w ∧ w.accepted = true ∧ sec (a.moN 3 0x54 7) ≤ a.now ∧ mt.mounting 3 = true ∧ mt.tableOf 3 = some 2 ∧ (lg mt).logDone 3 2 = true ∧ (lg mt).mounting 3 = true ∧ (lg mt).tableOf 3 = some 2 ∧
    s.mounting 3 = false ∧ ({ s with media := { s.media with mapLost := [3] } } : State).media.mapLost.contains 3 = true ∧
    (lg ({ s with media := { s.media with mapLost := [3] } } : State)).logDone 3 2 = true ∧
    State.reset.atPassBoundary 3 = false := by
  decide +kernel
/-- WritesBurnVerifyAndBecomeDurable: a closed record whose next log slot lies under a burning sail. -/
theorem wit_WritesRecord :
    let d := ((((((((witWriting.setObj (tkey 2 0 3) 1).setObj (tkey 2 0 5) 1).setObj (tkey 2 0 8) 0).setObj (tkey 2 0 9) 1000).setObj (okey 0x4200 0x93)
      1016).setBlob (tkey 2 3 1) (leBytes 4 0 ++ leBytes 4 10000000 ++ leBytes 4 65536 ++ leBytes 4 0)).setMo 3 0x30 3 986).setMo 3 0x58 4 64)
    let s := d.updMast 3 (fun x => { x with wr := { x.wr with closed := [⟨1, [], 0, 0, none, [], none⟩] } })
    (s.mast 3).wr.closed.length = 1 ∧ s.mayBurn 3 = true ∧ (s.showWidth 3).burnsLeft 3 = [] ∧ s.writeSliceOver 3 = false ∧
    (s.showWidth 3).logSlot ((s.tableOf 3).getD 0) (s.mast 3).wr.logNext = some ⟨0, 1000, 0⟩ ∧
    (s.showWidth 3).burnerOf 3 ⟨0, 1000, 0⟩ = some 13 := by decide +kernel
/-- A Gorcy packet of a type between two addresses with TSF and a body, its CRC computed. -/
def witGp (type src dst xid tsf : Nat) (body : List Byte) : GPacket :=
  let h : BitVec 512 := BitVec.ofNat 512 (type + src * 2 ^ 42 + dst * 2 ^ 53 + xid * 2 ^ 64 + body.length * 2 ^ 96 + tsf * 2 ^ 192)
  ⟨h, body, BitVec.ofNat 32 (crc32c (leBytes 64 h.toNat ++ body))⟩
/-- A command that waits for its fence, and a sector that waits for a peer. -/
def witFenceCmd : Cmd :=
  { cid := 5, sq := 200, owner := .fn ⟨.ha, 0⟩, opc := 1, tag := 1, seq := 1, pkt := BitVec.ofNat 512 (2 ^ 256), mast := none, stage := .fence }
def witFetchSector : Sector :=
  { sid := 1, mast := 3, slot := ⟨0, 100, 0⟩, sail := 0, reader := 0, str := 0, xpe := false, ext := 77, eidx := 0, xpos := 0, kind := 1,
    reloc := false, use := .data, phase := .fetch, xid := 9, fetchAt := 10 ^ 12 }
/-- A rig at address 0 of a torus of 4 by 4, ports up; peer 1 holds SQ and EQ 300; a command waits for a fence, a sector for a fetch. -/
def witFab : State :=
  { witCmd with
    objs := [(okey 0x2001 1, 0), (okey 0x2100 3, 12), (okey 0x2300 2, 4), (okey 0x2300 3, 4), (okey 0x2301 1, 3), (okey 0x2301 2, 3), (okey 0x2301 3, 3),
      (okey 0x2301 4, 3), (okey 0x2600 1, 0)]
    now := 10 ^ 12
    fabric := { ports := [(0, { lane0 := true, lane1 := true })], peers := [⟨1, 300, 300, 10 ^ 12⟩], epochs := [(1, 1)] }
    media := { sectors := [witFetchSector] }
    host := { witCmd.host with cmds := [witFenceCmd] } }
theorem witGp_intact (type src dst xid tsf : Nat) (body : List Byte)
    (h : body.length = (hf (BitVec.ofNat 512 (type + src * 2 ^ 42 + dst * 2 ^ 53 + xid * 2 ^ 64 + body.length * 2 ^ 96 + tsf * 2 ^ 192)) 108 96 + 7) / 8 * 8) :
    (witGp type src dst xid tsf body).intact = true := intact_of_crc _ h rfl
/-- PeerPacketsTakeEffect: every packet below is intact, since it carries its own CRC. -/
theorem wit_PeerPackets_intact :
    let z : List Byte := leBytes 64 0
    (witGp 0x10 1 0 0 0 z).intact = true ∧ (witGp 0x11 1 0 0 0 (leBytes 32 0)).intact = true ∧ (witGp 0x12 1 0 0 3 []).intact = true ∧
    (witGp 0x20 1 0 0 0 z).intact = true ∧ (witGp 0x21 1 0 0 0 []).intact = true ∧ (witGp 0x22 1 0 0 5 []).intact = true ∧
    (witGp 0x30 1 0 0 0 []).intact = true ∧ (witGp 0x30 1 0 (2 ^ 64) 0 []).intact = true ∧ (witGp 0x31 1 0 9 0 []).intact = true ∧
    (witGp 0x77 1 0 0 0 []).intact = true ∧ (witGp 0x10 1 2 0 0 z).intact = true := by
  refine ⟨?_, ?_, ?_, ?_, ?_, ?_, ?_, ?_, ?_, ?_, ?_⟩ <;> exact witGp_intact _ _ _ _ _ _ (by decide +kernel)
/-- PeerPacketsTakeEffect: packets of each type that port 0 accepts, for this rig and for another. -/
theorem wit_PeerPackets :
    let s := witFab
    let u : GPacket → State := fun k => s.linkAccept 0 k
    let ok : GPacket → Bool := fun k => decide (hf k.header 31 20 = (s.port 0).expect ∧ k.dst = (u k).addr)
    let z : List Byte := leBytes 64 0
    s.portUp 0 = true ∧ ok (witGp 0x10 1 0 0 0 z) = true ∧ (witGp 0x10 1 0 0 0 z).body.length = 64 ∧ ((u (witGp 0x10 1 0 0 0 z)).peerOf 1).isSome = true ∧
    ok (witGp 0x11 1 0 0 0 (leBytes 32 0)) = true ∧ ok (witGp 0x12 1 0 0 3 []) = true ∧ ok (witGp 0x20 1 0 0 0 z) = true ∧
    ok (witGp 0x21 1 0 0 0 []) = true ∧ ok (witGp 0x22 1 0 0 5 []) = true ∧
    ((u (witGp 0x22 1 0 0 5 [])).host.cmds.find? (fun c => decide (c.stage = .fence ∧ c.cid % 2 ^ 32 = 5 ∧ c.pf 266 256 = 1))).isSome
      = true ∧ ok (witGp 0x30 1 0 0 0 []) = true ∧ (u (witGp 0x30 1 0 0 0 [])).peerEpoch 1 =
      (u (witGp 0x30 1 0 0 0 [])).epoch ∧ (u (witGp 0x30 1 0 (2 ^ 64) 0 [])).peerEpoch 1 ≠
      (u (witGp 0x30 1 0 (2 ^ 64) 0 [])).epoch ∧ ok (witGp 0x31 1 0 9 0 []) = true ∧
    ((u (witGp 0x31 1 0 9 0 [])).media.sectors.find? (fun x => decide (x.phase = .fetch ∧ x.xid = 9))).isSome = true ∧
    s.now < 10 ^ 12 + ms (s.moN 3 0x52 4) ∧ gorcyTypes.contains 0x77 = false ∧ ok (witGp 0x77 1 0 0 0 []) = true ∧
    2 ≠ (u (witGp 0x10 1 2 0 0 z)).addr ∧ (u (witGp 0x10 1 2 0 0 z)).addrValid 2 = true := by decide +kernel
/-- Unacknowledged packets at port 0, one owed, an address given, a lane down at port 1, a port in training at port 2. -/
def witPorts : State :=
  { witFab with
    objs := [(okey 0x2001 1, 0), (okey 0x2100 3, 12), (okey 0x2300 2, 4), (okey 0x2300 3, 4), (okey 0x2301 1, 3), (okey 0x2301 2, 2),
      (okey 0x2301 3, 1), (okey 0x2301 4, 1), (okey 0x2302 4, 0), (okey 0x2303 2, 1), (okey 0x2600 1, 0)]
    fabric := { witFab.fabric with
      ports := [(0, { lane0 := true, lane1 := true, owed := 3, unacked := [⟨0, 0, [], 10 ^ 12 - 20000, 7, 0, 2⟩] }),
        (1, { lane0 := true, lane1Down := some (10 ^ 12 - 2000000) }), (2, { t0 := some (10 ^ 12 - 20000000) })]
      leases := [⟨77, 5, 9, 0⟩], peers := [⟨1, 300, 300, 0⟩], copies := [⟨4, 1, 9, 0, none, none, false⟩] } }
/-- GorcyLinkExchangeTakesEffect: a HELLO and an LCTL that are intact and well formed; a replay that is due; one owed. -/
theorem wit_GorcyLink_intact : (witGp 0x01 1 0 0 0 (leBytes 64 0)).intact = true ∧ (witGp 0x02 1 0 0 0 []).intact = true := by
  refine ⟨?_, ?_⟩ <;> exact witGp_intact _ _ _ _ _ _ (by decide +kernel)
theorem wit_GorcyLink :
    let s := witPorts
    let k := witGp 0x01 1 0 0 0 (leBytes 64 0)
    ((s.portTimeout 0).parentTimeout).objN (okey 0x2301 1) ≠ 0 ∧ k.type = 0x01 ∧ helloOk k.body = true ∧ 2 ≤ s.objN (okey 0x2301 1) ∧ (witGp 0x02 1 0 0 0 []).type = 0x02 ∧
    (witGp 0x02 1 0 0 0 []).payload = [] ∧ ((s.port 0).unacked.head?.map (fun y => decide (y.sentAt + 20000 ≤ s.now))) = some true ∧
    (s.port 0).owed ≠ 0 ∧ s.portUp 0 = true ∧ (List.range 4).filter (fun i => (s.oweHello.port i).helloOwed) ≠ [] ∧
    (let z := { s with objs := [] }; (List.range 4).all (fun i => !(z.oweHello.port i).helloOwed) = true) := by decide +kernel
/-- PortsPeersAndLeasesTimeOut: ports, lanes, a parent, a lease entry, a peer, a copy and a fence whose times are up. -/
theorem wit_PortsPeers :
    let s := witPorts
    s.objN (okey 0x2301 4) = 1 ∧ (s.port 3).t0 = none ∧ (s.port 3).prbsUntil ≤ s.now ∧ (s.port 2).t0 = some (10 ^ 12 - 20000000) ∧ s.objN (okey 0x2301 3) = 1 ∧
    s.now = 10 ^ 12 ∧ (s.port 0).lane0 = true ∧ (s.port 0).lane1 = true ∧ 2 ≤ s.objN (okey 0x2301 2) ∧ (s.port 1).lane1Down.isSome = true ∧
    (let r := { s with fabric := { s.fabric with ports := [(1, { lane0Down := some 0 })] } }; (r.port 1).lane0Down.isSome = true) ∧
    (s.port 1).laneDown 1 = some (s.now - 2000000) ∧ s.objN (okey 0x2302 4) ≠ 255 ∧ s.fabric.parentAt + 1000000000 ≤ s.now ∧
    s.fabric.timeUnsure = false ∧ (s.fabric.leases.find? (fun y => y.disc = 77)).map (fun x => decide (x.carried + s.objN (okey 0x2303 2) *
      1000000000 ≤ s.now)) = some true ∧ (s.peerOf 1).map (fun x => decide (x.lastAt + s.objN (okey 0x2300 5) * 1000000 ≤ s.now)) = some true ∧
    (s.copyOf 4).map (fun c => decide (c.goff = none ∧ c.startedAt + s.objN (okey 0x2300 6) * 1000000 ≤ s.now)) = some true ∧
    (s.cmd 5).map (fun c => decide (c.stage = .fence ∧ c.fenceAt + s.objN (okey 0x2300 6) * 1000000 ≤ s.now)) = some true := by
  decide +kernel
/-- The segment and context of `witEngine`: G1 holds 5, G2 and G3 a pair. -/
def witSeg : Segment := { cid := 5, len := 64, ocap := 64, last := true, save := false, off := 0, due := [], input := List.replicate 20 (7, true) }
def witCtx : EngCtx := (({} : EngCtx).setReg 1 5).setReg 2 0x0123456789ABCDEF
/-- Engine 0 runs a segment of SQ 200; its next word is `w`. -/
def witEngine (w : Mw) : State :=
  { witCmd with eng := { witCmd.eng with engines := [(0, { seg := some witSeg, holder := some 200, ctx := witCtx, store := [(0, encodeMw w)] })] } }
/-- MicrowordArithmeticTakesEffect: each operation as the next word, with an even pair; leading and trailing zeros of 5 and of 0. -/
theorem wit_Words : ∀ n < 29, ((witEngine { op := n, rd := 4, ra := 2, rb := 2, sf := true }).at_ 0).runsWord 0
    { op := n, rd := 4, ra := 2, rb := 2, sf := true } witCtx witSeg := by
  unfold State.runsWord
  decide +kernel
theorem wit_Words_zeros :
    (∀ i < 61, (witCtx.get 1 64).testBit (64 - 1 - i) = false) ∧ (witCtx.get 1 64).testBit (64 - 1 - 61) = true ∧
    (∀ i < 0, (witCtx.get 1 64).testBit i = false) ∧ (witCtx.get 1 64).testBit 0 = true ∧
    (∀ i < 64, (witCtx.get 3 64).testBit i = false) ∧ (∀ i < 64, (witCtx.get 3 64).testBit (64 - 1 - i) = false) := by decide +kernel
/-- StreamMicrowordsTakeEffect: each operation as the next word; PUTS of each index; an IN whose bytes are there. -/
theorem wit_StreamWords : ∀ n < 9, ∀ i ∈ [6, 7, 8, 9, 10], ((witEngine { op := 0x20 + n, rd := 4, ra := 2, im := true, imm := i }).at_ 0).runsWord 0
    { op := 0x20 + n, rd := 4, ra := 2, im := true, imm := i } witCtx witSeg := by
  unfold State.runsWord
  decide +kernel
theorem wit_StreamWords_in : min 16 (witSeg.len - witSeg.ipos) ≤ witSeg.input.length ∧ witSeg.opos + 16 ≤ witSeg.ocap ∧ witSeg.ocap < witSeg.opos + 65 := by decide +kernel
/-- NextAddressOfAMicroword: NOPs with each NX whose condition holds or not, the stack full, empty and not empty. -/
theorem wit_NextAddress : ∀ nx ≤ 5, ∀ cc ∈ [0, 1], ((witEngine { nx := nx, cc := cc, tgt := 9 }).at_ 0).runsWord 0
    { nx := nx, cc := cc, tgt := 9 } witCtx witSeg ∧ ccHolds witCtx witSeg cc = decide (cc = 0) := by
  unfold State.runsWord
  decide +kernel
theorem wit_NextAddress_stack : ∀ n ∈ [1, 7, 8],
    let x := { witCtx with stack := List.replicate n 5 }
    ((witEngine { nx := 2 }).setEngine 0 { (witEngine { nx := 2 }).engine 0 with ctx := x }).runsWord 0 { nx := 2 } x witSeg ∧
    ((witEngine { nx := 3 }).setEngine 0 { (witEngine { nx := 3 }).engine 0 with ctx := x }).runsWord 0 { nx := 3 } x witSeg := by
  unfold State.runsWord
  decide +kernel
/-- An image of one word. -/
def witImage : List Byte := leBytes 4 0x4D494553 ++ leBytes 2 1 ++ leBytes 2 1 ++ leBytes 2 0x600 ++ leBytes 2 1 ++ leBytes 12 0 ++
  leBytes 40 0 ++ leBytes 24 (encodeMw { nx := 4 }).toNat ++ leBytes 3309 0
theorem wit_NextAddress_image : (parseImage witImage).map (fun i => i.words.length) = some 1 := by decide +kernel
/-- A JOB of SQ 200 with a given packet. -/
def witJobCmd (p : Packet) : Cmd :=
  { cid := 5, sq := 200, owner := .fn ⟨.ha, 0⟩, opc := 5, tag := 1, seq := 1, pkt := p, mast := some 3, stage := .job }
/-- An idle engine with a waiting JOB of SQ 200, FIRST set or not. -/
def witJob (first : Bool) (saves : List (Nat × EngCtx)) : State :=
  { witCmd with
    host := { witCmd.host with cmds := [witJobCmd (if first then 1024 else 0)] }
    eng := { witCmd.eng with engines := [(0, { waiting := [5], saves := saves, holder := if first then none else some 200, openJobs := if first then [] else [200] })], loads := [(1, witImage)] } }
/-- SegmentsStartAndEndAndImagesLoad: a FIRST, a saved and a held job; segments that end with and without LAST and SAVE; a load. -/
theorem wit_Segments :
    ∀ p ∈ [(true, []), (false, []), (false, [(200, witCtx)])],
    let s := witJob p.1 p.2
    (s.nextSegment 0).map (fun c => decide (c.stage = .job ∧ c.pkt.getLsbD 10 = p.1)) = some true ∧ (s.engine 0).seg = none ∧ (s.engine 0).loading = false ∧
    s.maskBit (okey 0x2542 2) 0 = false ∧ (s.engine 0).saves = p.2 ∧ (s.engine 0).openJobs = (if p.1 then [] else [200]) ∧
    (s.eng.loads.head?.map (fun l => (parseImage l.2).isSome)) = some true := by
  decide +kernel
theorem wit_Segments_end : (witEngine { nx := 4 }).runsWord 0 { nx := 4 } witCtx witSeg ∧ ((witEngine { nx := 4 }).engine 0).holder = some 200 ∧
    witSeg.last = true ∧ (∀ b : Bool,
      let g := { witSeg with last := false, save := b }
      let s := (witEngine { nx := 4 }).setEngine 0 { (witEngine { nx := 4 }).engine 0 with seg := some g }
      s.runsWord 0 { nx := 4 } witCtx g ∧ (s.engine 0).saves.length < s.objN (okey 0x2542 3)) := by
  unfold State.runsWord
  decide +kernel
/-- MemoryChannelsTakeEffect: a healthy channel, one being filled, one waiting for its home copy, a share being rebuilt. -/
def witMemory : State :=
  { witCmd with objs := (okey 0x2100 3, 12) :: [(okey 0x2400 2, 0xFFFF)], media := { filling := [3], homeCopy := [2], rebuilds := [(9, 2, false)] } }
theorem wit_MemoryChannels :
    let s := witMemory
    s.maskBit (okey 0x2400 2) 5 = true ∧ s.boot.filling = false ∧ s.media.filling.contains 3 = true ∧ s.media.filling.contains 5 = false ∧
    s.media.rebuilds.contains (9, 2, false) = true ∧ s.media.rebuilds.contains (2, 2, false) = false ∧ s.media.homeCopy.contains 2 = true := by
  decide +kernel
/-- MemoryChannelsTakeEffect: granule 7 of channel 5 reads right, wrong with one data bit or one check bit wrong. -/
theorem wit_MemoryChannels_read : witMemory.readBad 5 7 [] 0 = false ∧ witMemory.readBad 5 7 [⟨1, 0⟩] 0 = true ∧
    witMemory.readBad 5 7 [⟨0, 8⟩] 0 = true ∧ witMemory.readBad 5 7 [⟨1, 0⟩] 1 = false := by decide +kernel
/-- A cache with all ways: a line held, one being filled, one in the eviction buffer. -/
def witCache : State :=
  { witCmd with
    objs := [(okey 0x2100 3, 12)]
    media := { lines := [(cacheSet 3 7 * 16, ⟨3, 7, false⟩)], fills := [⟨3, 100, cacheSet 3 100, 2, true, false, []⟩], evicted := [⟨3, 50, 3, 100⟩] } }
/-- LocatorCacheTakesEffect: a hit, a hit in error, a wait on a fill, a line of the eviction buffer, a miss, a maintenance, a fill returned. -/
theorem wit_LocatorCache :
    let s := witCache
    s.boot.filling = false ∧ s.media.maintNext = [] ∧ s.media.cacheWait = [] ∧ s.waysInUse ≠ [] ∧ 100 < structLines 3 ∧ s.media.maint = none ∧ s.wayOf 3 7 = some 0 ∧ (s.wayOf 3 8).isNone = true ∧
    s.media.fills.any (fun f => decide (f.st = 3 ∧ f.ln = 7)) = false ∧ s.media.fills.any (fun f => decide (f.st = 3 ∧ f.ln = 100)) = true ∧
    (s.wayOf 3 50).isNone = true ∧ (s.media.evicted.find? (fun y => decide (y.st = 3 ∧ y.ln = 50))).isSome = true ∧
    (((({ s with media := { s.media with evicted := [] } } : State).count (okey 0x542C 4)).victim (cacheSet 3 50)).1).isSome = true ∧
    (s.media.evicted.find? (fun y => decide (y.st = 3 ∧ y.ln = 8))).isNone = true ∧ (⟨3, 0, 0, []⟩ : Maint).covers 3 7 = true ∧
    s.objN (okey 0x2410 3) ≠ 0 := by decide +kernel
/-- ResetIsSound has no hypotheses; the state has a mast and an object to read. -/
theorem wit_ResetIsSound : State.reset.objN (okey 0x2600 1) = 255 ∧ (State.reset.mast 31).st = .absent := by decide +kernel
/-- StepKeepsSound: a sound state whose step answers a next state. -/
theorem wit_StepKeepsSound :
    let s : State := { pending := [.furlNAssert 7], objs := [(okey 0x2600 1, 0)], masts := [(31, { st := .spinning })] }
    s.Sound ∧ (match step s with | .next _ => true | _ => false) = true := by decide +kernel
/-- MicrowordsRoundTrip: every field at its greatest value. -/
theorem wit_MicrowordsRoundTrip :
    let x : Mw := ⟨3, 63, 15, 15, 15, 15, true, true, true, 7, 7, 2 ^ 13 - 1, 2 ^ 18 - 1, 2 ^ 64 - 1, 2 ^ 64 - 1⟩
    x.cyc < 4 ∧ x.op < 64 ∧ x.tgt < 2 ^ 13 ∧ x.res < 2 ^ 18 ∧ x.imm < 2 ^ 64 ∧ x.aux < 2 ^ 64 ∧ (encodeMw x).toNat = 2 ^ 192 - 1 := by
  decide +kernel
/-- WriteBackRoundsThenSaturates: halves on both sides of an even and an odd integer, and the least value that saturates. -/
theorem wit_WriteBack :
    rne 32768 16 = 0 ∧ rne (-32768) 16 = 0 ∧ rne 98304 16 = 2 ∧ rne (-98304) 16 = -2 ∧ rne 98303 16 = 1 ∧ sat 32768 16 = 32767 ∧
    sat (-32769) 16 = -32768 ∧ (wb15 2147450880 false).1 = 32767 ∧ (wb15 2147450880 false).2 = true ∧ (wb15 2147450879 false).2 = false ∧
    (1 : Int) ≤ 16 := by decide +kernel
/-- AngleDifferences: half a turn apart either way, and the greatest difference. -/
theorem wit_AngleDifferences : angleDiff 32768 0 = -32768 ∧ angleDiff 0 32768 = -32768 ∧ angleDiff 0 32769 = 32767 ∧
    angleDiff 65535 0 = -1 := by decide +kernel
/-- RoutesMoveTowardsTheirDestination: the spec's example, from (3, 5) to (30, 40) of a torus of 32 by 64. -/
theorem wit_Routes :
    let s : State := { objs := [(okey 0x2300 1, 163), (okey 0x2300 2, 32), (okey 0x2300 3, 64), (okey 0x2301 1, 3), (okey 0x2301 2, 3),
      (okey 0x2301 3, 3), (okey 0x2301 4, 3)] }
    s.objN (okey 0x2300 2) = 32 ∧ s.objN (okey 0x2300 3) = 64 ∧ s.addr = 32 * 5 + 3 ∧ s.portUp 0 = true ∧ s.portUp 1 = true ∧
    s.portUp 2 = true ∧ s.portUp 3 = true ∧ hf (s.mkHeader 0x10 0 1310 0 0 0) 63 53 = 32 * 40 + 30 ∧
    hf (s.mkHeader 0x10 0 1310 0 0 0) 34 34 = 0 ∧ (s.route 2 2 (s.mkHeader 0x10 0 1310 0 0 0)).map (·.1) = some 1 := by decide +kernel
/-- CountersSaturate: a 32-bit counter one below its greatest value. -/
theorem wit_CountersSaturate :
    let s : State := { objs := [(okey 0x5420 4, 0xFFFFFFFE)] }
    s.Sound ∧ counterMax (okey 0x5420 4) = 0xFFFFFFFF ∧ s.obj (okey 0x5420 4) ≤ counterMax (okey 0x5420 4) ∧
    ((s.count (okey 0x5420 4)).count (okey 0x5420 4)).obj (okey 0x5420 4) = 0xFFFFFFFF := by decide +kernel
/-- EventQueuesHoldTheirRecords: an EQ of 16 slots that is full with a record waiting, and an empty one at the end of its ring. -/
theorem wit_EventQueues :
    let f : Fn := ⟨.ha, 0⟩
    let r : EvRec := (({} : State).formRec 0x01 0 0 0 0 0)
    let a : State := ({} : State).setEq 5 { owner := .fn f, head := 1, tail := 0, waiting := [r] }
    let b : State := ({} : State).setEq 5 { owner := .fn f, head := 15, tail := 15 }
    let d : EvRec := (({} : State).formRec 0x22 0 0 0 0 0)
    tblWf (fun _ => ({} : EQ)) a.host.eqs = true ∧ (a.eq 5).owner = .fn f ∧ (a.eq 5).full = true ∧ (a.eq 5).head < (a.eq 5).size ∧
    (a.eq 5).tail < (a.eq 5).size ∧ r.type < 0x20 ∧ 0x20 ≤ d.type ∧ tblWf (fun _ => ({} : EQ)) b.host.eqs = true ∧ (b.eq 5).full = false ∧
    (b.eq 5).waiting = [] ∧ (b.eq 5).tail + 1 = (b.eq 5).size ∧ (b.eq 5).dropped = 0 := by decide +kernel
/-- MapLookupAndInsertion: a map that holds extent 77 of mast 3 in its home bucket. -/
theorem wit_MapLookup :
    let x := extentEntry 77 0 64 0 0 0 0 false 0 3 2
    let s : State := { media := { map := [(16 * 69545, x)] } }
    tblWf (fun _ => 0) s.media.map = true ∧ s.mapLookup 77 3 0 0 = some (16 * 69545) ∧ meMatches x 77 3 0 0 = true ∧
    s.mapLookup 78 3 0 0 = none ∧ meMatches (extentEntry 78 0 64 0 0 0 0 false 0 3 2) 78 3 0 0 = true ∧
    ((probeBuckets (mapHome 78 3 0 0)).flatten.find? (fun j => decide (meState (s.mapAt j) = 0 ∨ meState (s.mapAt j) = 3))).isSome = true := by
  decide +kernel

end Sys2Proof.Machine
end

section
/-! PROOFS. Number formats (chapter 2): rounding, saturation and write-back (02 R55, R62), and signed angle differences (02 R64). -/
namespace Sys2Proof.Machine

/-! ## Rounding (02 R55) -/

/-- `rne` takes the floor quotient or the next integer; beside each stands the remainder that decides for it, and by how much
the result, scaled back, misses `x`. -/
theorem rne_down_or_up (x : Int) {k : Nat} (hk : 1 ≤ k) :
    (rne x k = x.fdiv (2 ^ k) ∧ rne x k * 2 ^ k - x = -x.fmod (2 ^ k) ∧
      (x.fmod (2 ^ k) < 2 ^ (k - 1) ∨ x.fmod (2 ^ k) = 2 ^ (k - 1) ∧ x.fdiv (2 ^ k) % 2 = 0)) ∨
    (rne x k = x.fdiv (2 ^ k) + 1 ∧ rne x k * 2 ^ k - x = 2 ^ k - x.fmod (2 ^ k) ∧
      (2 ^ (k - 1) < x.fmod (2 ^ k) ∨ x.fmod (2 ^ k) = 2 ^ (k - 1) ∧ x.fdiv (2 ^ k) % 2 = 1)) := by
  have hx := Int.fdiv_mul_add_fmod x (2 ^ k)
  by_cases up : x.fmod (2 ^ k) > 2 ^ (k - 1) ∨ (x.fmod (2 ^ k) = 2 ^ (k - 1) ∧ x.fdiv (2 ^ k) % 2 = 1)
  · have hr : rne x k = x.fdiv (2 ^ k) + 1 := by simp only [rne, if_neg (show k ≠ 0 by omega), if_pos up]
    refine .inr ⟨hr, ?_, up⟩
    rw [hr, Int.add_mul, Int.one_mul]; omega
  · have hr : rne x k = x.fdiv (2 ^ k) := by simp only [rne, if_neg (show k ≠ 0 by omega), if_neg up]
    refine .inl ⟨hr, ?_, by omega⟩
    rw [hr]; omega

/-- `rne x k`, scaled back, misses `x` by half a unit at most, and where by exactly half, the result is even. -/
theorem rne_nearest_even (x : Int) {k : Nat} (hk : 1 ≤ k) :
    2 * (rne x k * 2 ^ k - x) ≤ 2 ^ k ∧ -(2 ^ k) ≤ 2 * (rne x k * 2 ^ k - x) ∧
    (2 * (rne x k * 2 ^ k - x) = 2 ^ k ∨ 2 * (rne x k * 2 ^ k - x) = -(2 ^ k) → rne x k % 2 = 0) := by
  have hpos : (0 : Int) < 2 ^ k := by positivity
  have hhalf : (2 : Int) * 2 ^ (k - 1) = 2 ^ k := mul_pow_sub_one (by omega) 2
  have h0 := Int.fmod_nonneg_of_pos x hpos
  have h1 := Int.fmod_lt_of_pos x hpos
  rcases rne_down_or_up x hk with ⟨hr, he, down⟩ | ⟨hr, he, up⟩
  · rw [he, hr]; omega
  · rw [he, hr]; omega

/-! ## Saturation (02 R55) -/

/-- A value of `w` bits is its own saturation. -/
theorem sat_of_mem {x : Int} {w : Nat} (hlo : -(2 ^ (w - 1)) ≤ x) (hhi : x ≤ 2 ^ (w - 1) - 1) : sat x w = x := by
  rw [sat, if_neg (by omega), if_neg (by omega)]

theorem sat_of_gt {x : Int} {w : Nat} (h : 2 ^ (w - 1) - 1 < x) : sat x w = 2 ^ (w - 1) - 1 := if_pos h

theorem sat_of_lt {x : Int} {w : Nat} (h : x < -(2 ^ (w - 1))) : sat x w = -(2 ^ (w - 1)) := by
  have hpos : (0 : Int) < 2 ^ (w - 1) := by positivity
  rw [sat, if_neg (by omega), if_pos h]

/-- A saturated value has `w` bits. -/
theorem sat_bounds (x : Int) (w : Nat) : -(2 ^ (w - 1)) ≤ sat x w ∧ sat x w ≤ 2 ^ (w - 1) - 1 := by
  have hpos : (0 : Int) < 2 ^ (w - 1) := by positivity
  rcases lt_or_ge x (-(2 ^ (w - 1))) with hlo | hlo
  · rw [sat_of_lt hlo]; omega
  rcases lt_or_ge (2 ^ (w - 1) - 1) x with hhi | hhi
  · rw [sat_of_gt hhi]; omega
  · rw [sat_of_mem hlo hhi]; exact ⟨hlo, hhi⟩

/-! ## Write-back (02 R62) -/

theorem wb15_fst (acc : Int) (f : Bool) : (wb15 acc f).1 = sat (rne acc 16) 16 := rfl

theorem wb31_fst (acc : Int) (f : Bool) : (wb31 acc f).1 = sat acc 32 := rfl

/-- From half a unit above 32,767 on, an accumulator rounds beyond 32,767: at the half itself 32,767 is odd, so the tie goes
up. -/
theorem lt_rne_of_half_beyond {acc : Int} (h : 32767 * 65536 + 32768 ≤ acc) : 32767 < rne acc 16 := by
  obtain ⟨-, hlo, heven⟩ := rne_nearest_even acc (k := 16) (by decide)
  omega

/-- Settles O55: the nearest integer by the remainder's two cases, saturation by the three places of `x`, and both together
for an accumulator that rounds beyond 32,767. -/
theorem writeBackRoundsThenSaturates : Obligations.WriteBackRoundsThenSaturates := by
  refine ⟨fun acc f => ⟨wb15_fst acc f, wb31_fst acc f⟩, fun x k hk => rne_nearest_even x hk, fun x w _ => ?_, fun acc f h => ?_⟩
  · obtain ⟨hlo, hhi⟩ := sat_bounds x w
    exact ⟨hlo, hhi, sat_of_mem, sat_of_gt, sat_of_lt⟩
  · rw [wb15_fst]
    exact sat_of_gt (lt_rne_of_half_beyond h)

/-! ## Angle differences (02 R64) -/

theorem wrapU_eq_emod (x : Int) (w : Nat) : wrapU x w = x % 2 ^ w :=
  Int.fmod_eq_emod_of_nonneg x (by positivity)

/-- Read as a signed value, a wrapped number is the library's balanced remainder. -/
theorem wrapS_eq_bmod (x : Int) {w : Nat} (hw : 1 ≤ w) : wrapS x w = x.bmod (2 ^ w) := by
  have hhalf : (2 : Int) * 2 ^ (w - 1) = 2 ^ w := mul_pow_sub_one (by omega) 2
  rw [Int.bmod_def, wrapS, wrapU_eq_emod]
  push_cast
  split <;> split <;> omega

theorem angleDiff_eq_bmod (a b : Int) : angleDiff a b = (a - b).bmod 65536 := wrapS_eq_bmod (a - b) (by decide)

theorem angleDiff_emod (a b : Int) : angleDiff a b % 65536 = (a - b) % 65536 := by
  rw [angleDiff_eq_bmod]
  exact Int.bmod_emod

/-- A signed angle difference is a two's complement number of 16 bits. -/
theorem angleDiff_bounds (a b : Int) : -32768 ≤ angleDiff a b ∧ angleDiff a b ≤ 32767 := by
  rw [angleDiff_eq_bmod]
  exact ⟨Int.le_bmod (by decide), Int.le_of_lt_add_one (Int.bmod_lt (by decide))⟩

theorem angleDiff_half_turn {a b : Int} (h : a - b = 32768 ∨ a - b = -32768) : angleDiff a b = -32768 := by
  rw [angleDiff_eq_bmod]
  rcases h with h | h
  · rw [h]; decide
  · rw [h]; decide

/-- Settles O56: the difference is the balanced remainder of a − b modulo 65,536. -/
theorem angleDifferences : Obligations.AngleDifferences := by
  intro a b _ _ _ _
  have hmod := angleDiff_emod a b
  have hwrap : angleDiff a b % 65536 = wrapU (a - b) 16 % 65536 := by
    rw [hmod, wrapU_eq_emod]
    exact (Int.emod_emod_of_dvd _ (by decide)).symm
  obtain ⟨hlo, hhi⟩ := angleDiff_bounds a b
  exact ⟨Int.emod_eq_emod_iff_emod_sub_eq_zero.mp hwrap, Int.emod_eq_emod_iff_emod_sub_eq_zero.mp hmod, hlo, hhi,
    angleDiff_half_turn⟩

end Sys2Proof.Machine
end

section
/-! PROOFS. The next address of a stream engine's microword, and the bytes of an image's words (15 R406). -/
namespace Sys2Proof.Machine

/-! ## Little-endian bytes (00 R6) -/

theorem leNat_mod_256 (l : List Byte) : leNat l % 256 = (l.getD 0 0).toNat := by
  cases l with
  | nil => rfl
  | cons b l =>
    have hb := b.isLt
    simp only [leNat, List.getD_cons_zero]
    omega

/-- Dividing by 256^q drops the first q bytes. -/
theorem leNat_div_pow (l : List Byte) (q : Nat) : leNat l / 256 ^ q = leNat (l.drop q) := by
  induction q generalizing l with
  | zero => rw [Nat.pow_zero, Nat.div_one, List.drop_zero]
  | succ q ih =>
    cases l with
    | nil => exact Nat.zero_div _
    | cons b l =>
      have hb := b.isLt
      have hdiv : leNat (b :: l) / 256 = leNat l := by
        simp only [leNat]
        omega
      rw [Nat.pow_succ', ← Nat.div_div_eq_div_mul, hdiv, ih, List.drop_succ_cons]

/-- Digit q of little-endian bytes is byte q. -/
theorem leNat_digit (l : List Byte) (q : Nat) : leNat l / 256 ^ q % 256 = (l.getD q 0).toNat := by
  rw [leNat_div_pow, leNat_mod_256]
  simp only [List.getD_eq_getElem?_getD, List.getElem?_drop, Nat.add_zero]

theorem leNat_lt (l : List Byte) : leNat l < 256 ^ l.length := by
  induction l with
  | nil => exact Nat.one_pos
  | cons b l ih =>
    have hb := b.isLt
    simp only [leNat, List.length_cons, Nat.pow_succ]
    omega

theorem byteField_lt (b : List Byte) (a n : Nat) : byteField b a n < 256 ^ n :=
  (leNat_lt _).trans_le (Nat.pow_le_pow_right (by decide) (List.length_take_le _ _))

/-- Digit q of a field is byte q of the field. -/
theorem byteField_digit (b : List Byte) (a : Nat) {n q : Nat} (hq : q < n) :
    byteField b a n / 256 ^ q % 256 = (b.getD (a + q) 0).toNat := by
  rw [byteField, leNat_digit]
  simp only [List.getD_eq_getElem?_getD, List.getElem?_take_of_lt hq, List.getElem?_drop]

/-! ## The words of an image (15 Table 15.5) -/

theorem parseImage_words {b : List Byte} {i : Image} (h : parseImage b = some i) :
    i.words = (List.range (byteField b 10 2)).map (fun j => BitVec.ofNat 192 (byteField b (64 + 24 * j) 24)) := by
  simp only [parseImage, Option.ite_none_left_eq_some] at h
  obtain ⟨-, h⟩ := h
  cases h
  rfl

/-- Word j of an image is the field of 24 bytes at 64 + 24 j. -/
theorem parseImage_word_toNat {b : List Byte} {i : Image} (h : parseImage b = some i) {j : Nat} (hj : j < i.words.length) :
    (i.words.getD j 0).toNat = byteField b (64 + 24 * j) 24 := by
  have hlt : byteField b (64 + 24 * j) 24 < 2 ^ 192 := byteField_lt b _ 24
  rw [parseImage_words h, List.length_map, List.length_range] at hj
  simp only [parseImage_words h, List.getD_eq_getElem?_getD, List.getElem?_map, List.getElem?_range hj, Option.map_some,
    Option.getD_some, BitVec.toNat_ofNat]
  exact Nat.mod_eq_of_lt hlt

/-! ## The next address (15 R406) -/

section
variable (u v : State) (e : Nat) {w : Mw} (x : EngCtx) (g : Segment)

/-- Without a holding condition, and at NX 0, the next word follows. -/
theorem takeNext_following {h : Bool} (hn : h = false ∨ w.nx = 0) :
    u.takeNext v e w h x g = v.setRun e { x with pc := x.pc + 1 } { g with words := g.words + 1 } := by
  cases h with
  | false => rfl
  | true =>
    have h0 : w.nx = 0 := hn.resolve_left (by decide)
    simp only [State.takeNext, h0, Bool.not_true, Bool.false_eq_true, if_false]

theorem takeNext_jump (hn : w.nx = 1) :
    u.takeNext v e w true x g = v.setRun e { x with pc := BitVec.ofNat 13 w.tgt } { g with words := g.words + 1 } := by
  simp only [State.takeNext, hn, Bool.not_true, Bool.false_eq_true, if_false]

theorem takeNext_call (hn : w.nx = 2) :
    u.takeNext v e w true x g = if 8 ≤ x.stack.length then u.jobFault e 0x8001 else
      v.setRun e { x with pc := BitVec.ofNat 13 w.tgt, stack := (x.pc + 1) :: x.stack } { g with words := g.words + 1 } := by
  simp only [State.takeNext, hn, Bool.not_true, Bool.false_eq_true, if_false, ge_iff_le]

theorem takeNext_return_empty (hn : w.nx = 3) (hs : x.stack = []) : u.takeNext v e w true x g = u.jobFault e 0x8002 := by
  simp only [State.takeNext, hn, hs, Bool.not_true, Bool.false_eq_true, if_false]

theorem takeNext_return (hn : w.nx = 3) {a : BitVec 13} {l : List (BitVec 13)} (hs : x.stack = a :: l) :
    u.takeNext v e w true x g = v.setRun e { x with pc := a, stack := l } { g with words := g.words + 1 } := by
  simp only [State.takeNext, hn, hs, Bool.not_true, Bool.false_eq_true, if_false]

theorem takeNext_end (hn : w.nx = 4) : u.takeNext v e w true x g = v.endSegment e x g w.tgt := by
  simp only [State.takeNext, hn, Bool.not_true, Bool.false_eq_true, if_false]

/-- NX 5 in a word that is no trap word (15 R419). -/
theorem takeNext_fault (hn : w.nx = 5) (hr : w.res = 0) : u.takeNext v e w true x g = u.jobFault e (w.aux % 2 ^ 15) := by
  simp only [State.takeNext, hn, hr, Bool.not_true, Bool.false_eq_true, if_false, Nat.zero_ne_one]

end

/-- A NOP without a check-bit error only takes the next address. -/
theorem exec_wNop_clean {t e : Nat} {s v : State} {w : Mw} {x : EngCtx} {g : Segment} (hv : v = s.at_ t)
    (hw : v.runsWord e w x g) (hop : w.op = 0) :
    exec (.wNop t e .clean) s = .next (v.takeNext v e w (ccHolds x g w.cc) x g) := by
  subst hv
  exact congrArg Host.Outcome.next (runWord_clean hw hop opNop)

/-- Settles O48: a NOP is `takeNext`, whose cases are those of NX; a word's number is its 24 bytes, so its digits to the base
256 are those bytes. -/
theorem nextAddressOfAMicroword : Obligations.NextAddressOfAMicroword := by
  refine ⟨fun t e s v w x g hv hw hop h go hh hgo => ?_, fun b i hi j q hj hq => ?_⟩
  · rw [exec_wNop_clean hv hw hop, ← hh, hgo]
    refine ⟨fun hn => ?_, ?_, ?_, ?_, ?_, ?_⟩
    · rw [takeNext_following v v e x g hn]; rfl
    all_goals rintro rfl hn
    · rw [takeNext_jump v v e x g hn]; rfl
    · rw [takeNext_call v v e x g hn, apply_ite Host.Outcome.next]; rfl
    · refine ⟨fun hs => ?_, fun a l hs => ?_⟩
      · rw [takeNext_return_empty v v e x g hn hs]
      · rw [takeNext_return v v e x g hn hs]; rfl
    · rw [takeNext_end v v e x g hn]
    · intro hr
      rw [takeNext_fault v v e x g hn hr]
  · rw [parseImage_word_toNat hi hj, Nat.pow_mul]
    exact byteField_digit b _ hq

end Sys2Proof.Machine
end

section
/-! PROOFS. The Extent Map: what a lookup answers and which entry an insertion takes (16 R442). -/
namespace Sys2Proof.Machine

/-! ## What leaves the map as it is -/

/-- What every step of a walk leaves unchanged, the walk leaves unchanged. -/
theorem forEach_keeps {α β : Type} (p : State → β) {f : α → State → State} (hf : ∀ a t, p (f a t) = p t) (l : List α) (s : State) :
    p (forEach l f s) = p s := by
  induction l generalizing s with
  | nil => rfl
  | cons a l ih => exact (ih (f a s)).trans (hf a s)

theorem writeLocal_map (s : State) (c a : Nat) (l : List Byte) : (s.writeLocal c a l).media.map = s.media.map := by
  unfold State.writeLocal
  exact forEach_keeps (·.media.map) (fun _ _ => by rfl) _ s

@[simp] theorem shareWrite_map (s : State) (k off : Nat) (l : List Byte) : (s.shareWrite k off l).media.map = s.media.map := by
  refine forEach_keeps (·.media.map) (fun g t => ?_) [0, 1] s
  split
  · exact writeLocal_map ..
  · rfl

theorem victim_map (s : State) (set : Nat) : (s.victim set).2.media.map = s.media.map := by
  unfold State.victim
  dsimp only
  split
  · rfl
  split
  · rfl
  split
  · rfl
  · exact forEach_keeps (·.media.map) (fun _ _ => by rfl) _ s

theorem cacheReclaim_map (s : State) (r : CacheReq) (e : Evicted) : (s.cacheReclaim r e).media.map = s.media.map := by
  have hv := fun t : State => victim_map t (cacheSet r.st r.ln)
  unfold State.cacheReclaim
  dsimp only
  split
  case h_1 w s2 h => exact (congrArg (·.2.media.map) h).symm.trans (hv _)
  case h_2 s2 h => exact (congrArg (·.2.media.map) h).symm.trans (hv _)

theorem cacheStore_map (s : State) (r : CacheReq) : (s.cacheStore r).media.map = s.media.map := by
  unfold State.cacheStore
  dsimp only
  split
  · rfl
  split
  · exact cacheReclaim_map ..
  · rfl

theorem maintWait_map (s : State) (r : CacheReq) : (s.maintWait r).media.map = s.media.map := by
  unfold State.maintWait
  split
  · rfl
  · rfl

@[simp] theorem cacheWrite_map (s : State) (st ln : Nat) : (s.cacheWrite st ln).media.map = s.media.map := by
  unfold State.cacheWrite
  dsimp only
  split
  · rfl
  split
  · exact maintWait_map ..
  split
  · rfl
  split
  · rfl
  · exact cacheStore_map ..

/-! ## Reading an entry after a write -/

/-- A write of an entry changes the map there; its copies, its line and the counts of 2420 are no part of it. -/
theorem mapPut_map (s : State) (i v : Nat) : (s.mapPut i v).media.map = tblPut (fun _ => 0) i v s.media.map := by
  simp only [State.mapPut, shareWrite_map, cacheWrite_map, apply_ite State.media, setObj_media, ite_self]

theorem mapAt_mapPut_same {s : State} (h : tblWf (fun _ => 0) s.media.map = true) (i v : Nat) : (s.mapPut i v).mapAt i = v := by
  rw [State.mapAt, mapPut_map]
  exact tblGet_put_same _ _ _ _ h

theorem mapAt_mapPut_ne (s : State) {i j : Nat} (v : Nat) (h : j ≠ i) : (s.mapPut i v).mapAt j = s.mapAt j := by
  rw [State.mapAt, mapPut_map]
  exact tblGet_put_ne _ _ _ _ _ h

/-! ## The lookup -/

theorem meMatches_iff {e ext mast kind ord : Nat} :
    meMatches e ext mast kind ord = true ↔ meExt e = ext ∧ meMast e = mast ∧ meKind e = kind ∧ meOrd e = ord := decide_eq_true_iff

section
variable (s : State) (states : List Nat) (ext mast kind ord : Nat)

/-- Entry i has one of the given states and the key: what `mapFind` looks for. -/
def State.mapHit (i : Nat) : Bool := states.contains (meState (s.mapAt i)) && meMatches (s.mapAt i) ext mast kind ord

variable {s states ext mast kind ord}

/-- A valid entry with the key is what a lookup looks for. -/
theorem mapHit_valid_iff {i : Nat} :
    s.mapHit [2] ext mast kind ord i = true ↔ meState (s.mapAt i) = 2 ∧ meMatches (s.mapAt i) ext mast kind ord = true := by
  rw [State.mapHit, Bool.and_eq_true, List.contains_iff_mem, List.mem_singleton]

/-- The walk answers from its first bucket, or goes on where that bucket holds neither a hit nor a free entry. -/
theorem mapFind_cons_eq_some_iff {b : List Nat} {rest : List (List Nat)} {i : Nat} :
    s.mapFind states ext mast kind ord (b :: rest) = some i ↔
      b.find? (s.mapHit states ext mast kind ord) = some i ∨
      (∀ j ∈ b, ¬ s.mapHit states ext mast kind ord j = true) ∧ (∀ j ∈ b, meState (s.mapAt j) ≠ 0) ∧
        s.mapFind states ext mast kind ord rest = some i := by
  have hcons : s.mapFind states ext mast kind ord (b :: rest) = (b.find? (s.mapHit states ext mast kind ord)).or
      (if b.any (fun j => meState (s.mapAt j) = 0) then none else s.mapFind states ext mast kind ord rest) := by
    change (match b.find? (s.mapHit states ext mast kind ord) with | some i => some i | none => _) = _
    cases b.find? (s.mapHit states ext mast kind ord) <;> rfl
  rw [hcons, Option.or_eq_some_iff, Option.ite_none_left_eq_some, List.find?_eq_none]
  simp only [List.any_eq_true, decide_eq_true_eq, not_exists, not_and, ne_eq]

/-- The walk answers the first hit of the buckets, unless an earlier bucket holds a free entry. -/
theorem mapFind_eq_some_iff {bs : List (List Nat)} {i : Nat} :
    s.mapFind states ext mast kind ord bs = some i ↔ ∃ pre post x y, bs = pre ++ (x ++ i :: y) :: post ∧
      s.mapHit states ext mast kind ord i = true ∧ (∀ j ∈ pre.flatten ++ x, ¬ s.mapHit states ext mast kind ord j = true) ∧
      (∀ j ∈ pre.flatten, meState (s.mapAt j) ≠ 0) := by
  induction bs with
  | nil => simp [State.mapFind]
  | cons b rest ih =>
    rw [mapFind_cons_eq_some_iff, List.find?_eq_some_iff_append, ih]
    constructor
    · rintro (⟨hi, x, y, rfl, hx⟩ | ⟨hb, hfree, pre, post, x, y, rfl, hi, hpre, hused⟩)
      · exact ⟨[], rest, x, y, rfl, hi, by simpa using hx, by simp⟩
      · refine ⟨b :: pre, post, x, y, rfl, hi, ?_, ?_⟩
        · rw [List.flatten_cons, List.append_assoc]
          exact List.forall_mem_append.mpr ⟨hb, hpre⟩
        · exact List.forall_mem_append.mpr ⟨hfree, hused⟩
    · rintro ⟨pre, post, x, y, hbs, hi, hpre, hused⟩
      cases pre with
      | nil =>
        obtain ⟨rfl, rfl⟩ := List.cons.inj hbs
        exact .inl ⟨hi, x, y, rfl, by simpa using hpre⟩
      | cons c pre =>
        obtain ⟨rfl, rfl⟩ := List.cons.inj hbs
        rw [List.flatten_cons, List.append_assoc] at hpre
        obtain ⟨hb, hpre⟩ := List.forall_mem_append.mp hpre
        obtain ⟨hfree, hused⟩ := List.forall_mem_append.mp hused
        exact .inr ⟨hb, hfree, pre, post, x, y, rfl, hi, hpre, hused⟩

end

/-! ## The insertion -/

/-- Entry i is free or removed: an insertion may take it. -/
def State.mapOpen (s : State) (i : Nat) : Bool := decide (meState (s.mapAt i) = 0 ∨ meState (s.mapAt i) = 3)

/-- Beside the number of buckets walked stands the first open entry of them all. -/
theorem mapSpace_map_fst (s : State) (n : Nat) (bs : List (List Nat)) : (s.mapSpace n bs).map Prod.fst = bs.flatten.find? s.mapOpen := by
  induction bs generalizing n with
  | nil => rfl
  | cons b rest ih =>
    rw [List.flatten_cons, List.find?_append, ← ih (n + 1)]
    change (match b.find? s.mapOpen with | some i => some (i, n) | none => _).map _ = _
    cases b.find? s.mapOpen <;> rfl

section
variable {s : State} {e : Nat}

theorem mapInsert_of_found {i : Nat} (h : s.mapLookup (meExt e) (meMast e) (meKind e) (meOrd e) = some i) :
    s.mapInsert e = (s, .duplicate) := by
  simp only [State.mapInsert, h]

/-- Beside the entry it takes, an insertion moves 2420:04 only. -/
theorem mapInsert_of_open {i : Nat} (h : s.mapLookup (meExt e) (meMast e) (meKind e) (meOrd e) = none)
    (hi : (probeBuckets (mapHome (meExt e) (meMast e) (meKind e) (meOrd e))).flatten.find? s.mapOpen = some i) :
    ∃ v, s.mapInsert e = ((s.mapPut i e).setObj (okey 0x2420 4) v, .inserted) := by
  rw [← mapSpace_map_fst s 1, Option.map_eq_some_iff] at hi
  obtain ⟨⟨_, n⟩, hi, rfl⟩ := hi
  simp only [State.mapInsert, h, hi]
  exact ⟨_, rfl⟩

theorem mapInsert_of_full (h : s.mapLookup (meExt e) (meMast e) (meKind e) (meOrd e) = none)
    (hi : (probeBuckets (mapHome (meExt e) (meMast e) (meKind e) (meOrd e))).flatten.find? s.mapOpen = none) :
    ∃ v, s.mapInsert e = (s.setObj (okey 0x2420 4) v, .full) := by
  rw [← mapSpace_map_fst s 1, Option.map_eq_none_iff] at hi
  simp only [State.mapInsert, h, hi]
  exact ⟨_, rfl⟩

end

/-- Settles O60: the walk of a lookup by induction on its buckets; an insertion by what its lookup and its search for an open
entry answer. -/
theorem mapLookupAndInsertion : Obligations.MapLookupAndInsertion := by
  rintro s ext mast kind ord hwf win rfl
  refine ⟨fun i => ?_, fun e he => ?_⟩
  · simp only [State.mapLookup, mapFind_eq_some_iff, mapHit_valid_iff, and_assoc]
  · obtain ⟨rfl, rfl, rfl, rfl⟩ := meMatches_iff.mp he
    refine ⟨fun i => mapInsert_of_found, fun hnone => ⟨fun i hi => ?_, fun hall => ?_⟩⟩
    · obtain ⟨v, hv⟩ := mapInsert_of_open hnone hi
      rw [hv]
      exact ⟨rfl, mapAt_mapPut_same hwf i e, fun j hj => mapAt_mapPut_ne s e hj⟩
    · have hfull : (probeBuckets (mapHome (meExt e) (meMast e) (meKind e) (meOrd e))).flatten.find? s.mapOpen = none :=
        List.find?_eq_none.mpr fun j hj hopen => not_or.mpr (hall j hj) (of_decide_eq_true hopen)
      obtain ⟨v, hv⟩ := mapInsert_of_full hnone hfull
      rw [hv]
      exact ⟨rfl, fun _ => rfl⟩

end Sys2Proof.Machine
end

section
/-! PROOFS. What holds of every command: it takes effect, a step runs the front of the queue, and a sound state stays sound. -/
namespace Sys2Proof.Machine

/-! ## Steps of the queue -/

theorem step_cons {s : State} {c : Sys2Proof.Instr} {rest : List Sys2Proof.Instr} (h : s.pending = c :: rest) :
    step s = exec c { s with pending := rest } := by
  simp only [step, h]

theorem step_nil {s : State} (h : s.pending = []) : step s = .next s := by
  simp only [step, h]

/-- Settles O1: the front of the queue is the case that `step` takes. -/
theorem stepRunsFront : Obligations.StepRunsFront := fun _ _ _ => step_cons

/-- Settles O2: the empty queue is the other case of `step`. -/
theorem emptyQueueIdles : Obligations.EmptyQueueIdles := fun _ => step_nil

/-! ## Every command takes effect -/

/-- The outcome is a next state. -/
def Answers (r : Res) : Prop := ∃ u, r = .next u

theorem answers_next (u : State) : Answers (.next u) := ⟨u, rfl⟩

theorem answers_ite {p : Prop} [Decidable p] {a b : Res} (ha : Answers a) (hb : Answers b) : Answers (if p then a else b) := by
  split
  · exact ha
  · exact hb

theorem execApertureRead_answers (t : Nat) (f : Sys2Proof.Fn) (off len rid : Nat) (flips : List Granule) (s : State) :
    Answers (execApertureRead t f off len rid flips s) := by
  refine answers_ite (answers_next _) (answers_ite (answers_next _) ?_)
  split
  · exact answers_next _
  · refine answers_ite (answers_next _) ?_
    split
    · exact answers_next _
    · exact answers_ite (answers_next _) (answers_next _)

/-- The commands that answer from within a branch, each by its branches; the others answer at once. -/
theorem exec_answers (c : Sys2Proof.Instr) (s : State) : Answers (exec c s) := by
  cases c
  case apertureRead => exact execApertureRead_answers ..
  case apertureWrite => exact answers_ite (answers_next _) (answers_ite (answers_next _) (answers_next _))
  case windowCommit => exact answers_ite (answers_next _) (answers_ite (answers_next _) (answers_ite (answers_next _) (answers_next _)))
  case syncInStuck => exact answers_ite (answers_next _) (answers_next _)
  case furlNAssert => exact answers_ite (answers_next _) (answers_next _)
  case decoderSelfTest => exact answers_ite (answers_next _) (answers_next _)
  case wIn => exact answers_ite (answers_next _) (answers_next _)
  case decoderMemoryError t d =>
    change Answers (execDecoderMemoryError t d s)
    unfold execDecoderMemoryError
    dsimp only
    split
    · exact answers_next _
    · exact answers_next _
  case peerFetchTimeout t sid =>
    change Answers (execPeerFetchTimeout t sid s)
    unfold execPeerFetchTimeout
    dsimp only
    split
    · exact answers_next _
    · exact answers_next _
  case durableLimitExpiry t serial =>
    change Answers (execDurableLimitExpiry t serial s)
    unfold execDurableLimitExpiry
    dsimp only
    split
    · exact answers_next _
    · exact answers_next _
  case grantTimeout t cid =>
    change Answers (execGrantTimeout t cid s)
    unfold execGrantTimeout
    dsimp only
    split
    · exact answers_next _
    · exact answers_next _
  all_goals exact answers_next _

/-- Settles O3: command by command, by the branches of its meaning. -/
theorem everyCommandTakesEffect : Obligations.EveryCommandTakesEffect := exec_answers

/-! ## Soundness -/

/-- A command's meaning answers a sound state from a sound one: the meaning's own lemma, row by row of the dispatcher. -/
theorem exec_sound (c : Sys2Proof.Instr) {s : State} (hs : s.Sound) : ResSound (exec c s) :=
  match c with
  | .read .. => execRead_sound _ _ _ _ hs
  | .write .. => execWrite_sound _ _ _ _ hs
  | .flush .. => execFlush_sound _ _ _ _ hs
  | .abort .. => execAbort_sound _ _ _ _ hs
  | .job .. => execJob_sound _ _ _ _ hs
  | .dictRead .. => execDictRead_sound _ _ _ _ hs
  | .dictWrite .. => execDictWrite_sound _ _ _ _ hs
  | .mount .. => execMount_sound _ _ _ _ hs
  | .unmount .. => execUnmount_sound _ _ _ _ hs
  | .furl .. => execFurl_sound _ _ _ _ hs
  | .createSq .. => execCreateSq_sound _ _ _ _ hs
  | .deleteSq .. => execDeleteSq_sound _ _ _ _ hs
  | .createEq .. => execCreateEq_sound _ _ _ _ hs
  | .deleteEq .. => execDeleteEq_sound _ _ _ _ hs
  | .unknownOpcode .. => execUnknownOpcode_sound _ _ _ _ hs
  | .readHeldRelease .. => execReadHeldRelease_sound _ _ _ hs
  | .sqTailDoorbell .. => execSqTailDoorbell_sound _ _ _ _ _ _ hs
  | .eqHeadDoorbell .. => execEqHeadDoorbell_sound _ _ _ _ _ _ hs
  | .eqModerationExpiry .. => execEqModerationExpiry_sound _ _ _ hs
  | .msixVectorUnmask .. => execMsixVectorUnmask_sound _ _ _ _ hs
  | .stagingGrant .. => execStagingGrant_sound _ _ _ hs
  | .grantTimeout .. => execGrantTimeout_sound _ _ _ hs
  | .apertureWrite .. => execApertureWrite_sound _ _ _ _ _ _ _ hs
  | .apertureRead .. => execApertureRead_sound _ _ _ _ _ _ _ hs
  | .windowCommit .. => execWindowCommit_sound _ _ _ _ hs
  | .adminPairEnable .. => execAdminPairEnable_sound _ _ _ hs
  | .adminPairDisable .. => execAdminPairDisable_sound _ _ _ hs
  | .registerWrite .. => execRegisterWrite_sound _ _ _ _ _ _ hs
  | .mailboxReadSegment .. => execMailboxReadSegment_sound _ _ _ hs
  | .mailboxStageSegment .. => execMailboxStageSegment_sound _ _ _ hs
  | .mailboxApply .. => execMailboxApply_sound _ _ _ hs
  | .perstAssert .. => execPerstAssert_sound _ _ _ hs
  | .perstRelease .. => execPerstRelease_sound _ _ _ hs
  | .flr .. => execFlr_sound _ _ _ hs
  | .vfEnableClear .. => execVfEnableClear_sound _ _ _ hs
  | .d3hotEntry .. => execD3hotEntry_sound _ _ _ hs
  | .linkDownHold .. => execLinkDownHold_sound _ _ _ _ hs
  | .holdResume .. => execHoldResume_sound _ _ _ hs
  | .holdTimeout .. => execHoldTimeout_sound _ _ _ hs
  | .dmaReadCompletion .. => execDmaReadCompletion_sound _ _ _ _ _ _ hs
  | .completionTimeout .. => execCompletionTimeout_sound _ _ _ _ hs
  | .l1Entry .. => execL1Entry_sound _ _ _ hs
  | .l0pWidthChange .. => execL0pWidthChange_sound _ _ _ _ _ hs
  | .endpointRetireClear .. => execEndpointRetireClear_sound _ _ _ _ hs
  | .sampleFrame .. => execSampleFrame_sound _ _ _ _ _ hs
  | .sampleTelemetryFrame .. => execSampleTelemetryFrame_sound _ _ _ _ _ hs
  | .identityFrame .. => execIdentityFrame_sound _ _ _ _ _ _ hs
  | .inboundIdleFrame .. => execInboundIdleFrame_sound _ _ _ _ _ hs
  | .commandFrameSend .. => execCommandFrameSend_sound _ _ _ _ hs
  | .outboundIdleFrameSend .. => execOutboundIdleFrameSend_sound _ _ _ _ hs
  | .telemetryTake .. => execTelemetryTake_sound _ _ _ _ hs
  | .mastLinkSignalDetect .. => execMastLinkSignalDetect_sound _ _ _ hs
  | .trainingEqualisationEnd .. => execTrainingEqualisationEnd_sound _ _ _ hs
  | .trainingTimeout .. => execTrainingTimeout_sound _ _ _ hs
  | .trainingRetry .. => execTrainingRetry_sound _ _ _ hs
  | .laneDown .. => execLaneDown_sound _ _ _ _ hs
  | .laneReacquired .. => execLaneReacquired_sound _ _ _ _ hs
  | .laneReacquireTimeout .. => execLaneReacquireTimeout_sound _ _ _ _ hs
  | .lmapClear .. => execLmapClear_sound _ _ _ hs
  | .mastLinkLostTimeout .. => execMastLinkLostTimeout_sound _ _ _ hs
  | .mastAbsentTimeout .. => execMastAbsentTimeout_sound _ _ _ hs
  | .laneRetireClear .. => execLaneRetireClear_sound _ _ _ _ _ _ hs
  | .loopEvaluation .. => execLoopEvaluation_sound _ _ _ _ hs
  | .chopperOnTimeout .. => execChopperOnTimeout_sound _ _ _ hs
  | .yardCommand .. => execYardCommand_sound _ _ _ _ _ hs
  | .servoCommit .. => execServoCommit_sound _ _ _ _ _ hs
  | .servoFlagClear .. => execServoFlagClear_sound _ _ _ _ _ _ hs
  | .traceArm .. => execTraceArm_sound _ _ _ _ hs
  | .traceStop .. => execTraceStop_sound _ _ _ _ hs
  | .traceFire .. => execTraceFire_sound _ _ _ _ hs
  | .clockTrackRun .. => execClockTrackRun_sound _ _ _ _ hs
  | .addressUnit .. => execAddressUnit_sound _ _ _ _ hs
  | .acquisition .. => execAcquisition_sound _ _ _ _ hs
  | .acquisitionTimeout .. => execAcquisitionTimeout_sound _ _ _ hs
  | .acquisitionRestart .. => execAcquisitionRestart_sound _ _ _ hs
  | .trackJump .. => execTrackJump_sound _ _ _ _ hs
  | .trackJumpTimeout .. => execTrackJumpTimeout_sound _ _ _ hs
  | .seek .. => execSeek_sound _ _ _ _ hs
  | .layerJump .. => execLayerJump_sound _ _ _ _ hs
  | .layerJumpTimeout .. => execLayerJumpTimeout_sound _ _ _ hs
  | .guideFocusCalibration .. => execGuideFocusCalibration_sound _ _ _ _ hs
  | .braceCalibration .. => execBraceCalibration_sound _ _ _ _ hs
  | .halyardCalibration .. => execHalyardCalibration_sound _ _ _ _ hs
  | .v1ClockOffsetCalibration .. => execV1ClockOffsetCalibration_sound _ _ _ _ hs
  | .calibrationCandidateDone .. => execCalibrationCandidateDone_sound _ _ _ _ hs
  | .spindleStart .. => execSpindleStart_sound _ _ _ hs
  | .startClassify .. => execStartClassify_sound _ _ _ hs
  | .alignEnd .. => execAlignEnd_sound _ _ _ hs
  | .startTimeout .. => execStartTimeout_sound _ _ _ hs
  | .startRetry .. => execStartRetry_sound _ _ _ hs
  | .syncInEdge .. => execSyncInEdge_sound _ _ hs
  | .syncInStuck .. => execSyncInStuck_sound _ _ hs
  | .syncInLost .. => execSyncInLost_sound _ _ hs
  | .syncRearm .. => execSyncRearm_sound _ _ _ _ _ hs
  | .chopperFailClear .. => execChopperFailClear_sound _ _ _ _ hs
  | .furlNAssert .. => execFurlNAssert_sound _ _ hs
  | .furlNRelease .. => execFurlNRelease_sound _ _ hs
  | .sledPlanning .. => execSledPlanning_sound _ _ _ _ hs
  | .sledPeriodBoundary .. => execSledPeriodBoundary_sound _ _ _ _ hs
  | .sledStep .. => execSledStep_sound _ _ _ _ hs
  | .homing .. => execHoming_sound _ _ _ hs
  | .homingSeekStart .. => execHomingSeekStart_sound _ _ _ hs
  | .sledRetireClear .. => execSledRetireClear_sound _ _ _ _ hs
  | .coarseAlignmentCalibration .. => execCoarseAlignmentCalibration_sound _ _ _ _ hs
  | .fineAlignmentCalibration .. => execFineAlignmentCalibration_sound _ _ _ _ hs
  | .asymmetryTrimCalibration .. => execAsymmetryTrimCalibration_sound _ _ _ _ hs
  | .equaliserPresetCalibration .. => execEqualiserPresetCalibration_sound _ _ _ _ hs
  | .mastRevolutionSchedule .. => execMastRevolutionSchedule_sound _ _ _ hs
  | .codewordReady .. => execCodewordReady_sound _ _ _ _ hs
  | .codewordDispatch .. => execCodewordDispatch_sound _ _ _ hs
  | .decodeDone .. => execDecodeDone_sound _ _ _ hs
  | .decoderMemoryError .. => execDecoderMemoryError_sound _ _ _ hs
  | .decoderSelfTest .. => execDecoderSelfTest_sound _ _ _ _ hs
  | .decoderRetireClear .. => execDecoderRetireClear_sound _ _ _ _ _ hs
  | .peerFetchTimeout .. => execPeerFetchTimeout_sound _ _ _ hs
  | .passBoundary .. => execPassBoundary_sound _ _ _ hs
  | .sliceExpiry .. => execSliceExpiry_sound _ _ _ hs
  | .burnRevolution .. => execBurnRevolution_sound _ _ _ hs
  | .verifyRevolution .. => execVerifyRevolution_sound _ _ _ _ hs
  | .relocationPass .. => execRelocationPass_sound _ _ _ hs
  | .recordDelayExpiry .. => execRecordDelayExpiry_sound _ _ _ hs
  | .recordBurn .. => execRecordBurn_sound _ _ _ hs
  | .durableLimitExpiry .. => execDurableLimitExpiry_sound _ _ _ hs
  | .mountLogRead .. => execMountLogRead_sound _ _ _ _ _ hs
  | .hello .. => execHello_sound _ _ _ _ hs
  | .lctl .. => execLctl_sound _ _ _ _ hs
  | .gorcyCmd .. => execGorcyCmd_sound _ _ _ _ hs
  | .gorcyEvent .. => execGorcyEvent_sound _ _ _ _ hs
  | .eqHead .. => execEqHead_sound _ _ _ _ hs
  | .writeData .. => execWriteData_sound _ _ _ _ hs
  | .fence .. => execFence_sound _ _ _ _ hs
  | .fenceAck .. => execFenceAck_sound _ _ _ _ hs
  | .fenceTimeout .. => execFenceTimeout_sound _ _ _ hs
  | .fetchReq .. => execFetchReq_sound _ _ _ _ hs
  | .fetchRep .. => execFetchRep_sound _ _ _ _ hs
  | .packetForward .. => execPacketForward_sound _ _ _ _ hs
  | .replayTimeout .. => execReplayTimeout_sound _ _ _ hs
  | .ackTimer .. => execAckTimer_sound _ _ _ hs
  | .helloTimer .. => execHelloTimer_sound _ _ hs
  | .portSignalDetect .. => execPortSignalDetect_sound _ _ _ hs
  | .portTrainingTimeout .. => execPortTrainingTimeout_sound _ _ _ hs
  | .gorcyLaneDown .. => execGorcyLaneDown_sound _ _ _ _ hs
  | .gorcyLaneReacquireTimeout .. => execGorcyLaneReacquireTimeout_sound _ _ _ _ hs
  | .gorcyLaneRetireClear .. => execGorcyLaneRetireClear_sound _ _ _ _ _ hs
  | .timeParentTimeout .. => execTimeParentTimeout_sound _ _ hs
  | .leaseAgeExpiry .. => execLeaseAgeExpiry_sound _ _ _ hs
  | .peerIdleRelease .. => execPeerIdleRelease_sound _ _ _ hs
  | .copyStart .. => execCopyStart_sound _ _ _ _ hs
  | .copyAbort .. => execCopyAbort_sound _ _ _ _ hs
  | .copyTimeout .. => execCopyTimeout_sound _ _ _ hs
  | .jobSegmentStart .. => execJobSegmentStart_sound _ _ _ hs
  | .wNop .. => execWNop_sound _ _ _ _ hs
  | .wAdd .. => execWAdd_sound _ _ _ _ hs
  | .wAddc .. => execWAddc_sound _ _ _ _ hs
  | .wSub .. => execWSub_sound _ _ _ _ hs
  | .wSubb .. => execWSubb_sound _ _ _ _ hs
  | .wAnd .. => execWAnd_sound _ _ _ _ hs
  | .wOr .. => execWOr_sound _ _ _ _ hs
  | .wXor .. => execWXor_sound _ _ _ _ hs
  | .wAndn .. => execWAndn_sound _ _ _ _ hs
  | .wShl .. => execWShl_sound _ _ _ _ hs
  | .wShr .. => execWShr_sound _ _ _ _ hs
  | .wSar .. => execWSar_sound _ _ _ _ hs
  | .wRol .. => execWRol_sound _ _ _ _ hs
  | .wMul .. => execWMul_sound _ _ _ _ hs
  | .wMulh .. => execWMulh_sound _ _ _ _ hs
  | .wSadd .. => execWSadd_sound _ _ _ _ hs
  | .wMin .. => execWMin_sound _ _ _ _ hs
  | .wMax .. => execWMax_sound _ _ _ _ hs
  | .wSel .. => execWSel_sound _ _ _ _ hs
  | .wMov .. => execWMov_sound _ _ _ _ hs
  | .wBfx .. => execWBfx_sound _ _ _ _ hs
  | .wBfi .. => execWBfi_sound _ _ _ _ hs
  | .wPopc .. => execWPopc_sound _ _ _ _ hs
  | .wClz .. => execWClz_sound _ _ _ _ hs
  | .wCtz .. => execWCtz_sound _ _ _ _ hs
  | .wBswap .. => execWBswap_sound _ _ _ _ hs
  | .wMatch8 .. => execWMatch8_sound _ _ _ _ hs
  | .wRange8 .. => execWRange8_sound _ _ _ _ hs
  | .wCmp .. => execWCmp_sound _ _ _ _ hs
  | .wIn .. => execWIn_sound _ _ _ _ hs
  | .wOut .. => execWOut_sound _ _ _ _ hs
  | .wLds .. => execWLds_sound _ _ _ _ hs
  | .wSts .. => execWSts_sound _ _ _ _ hs
  | .wLdw .. => execWLdw_sound _ _ _ _ hs
  | .wStw .. => execWStw_sound _ _ _ _ hs
  | .wCvf .. => execWCvf_sound _ _ _ _ hs
  | .wGets .. => execWGets_sound _ _ _ _ hs
  | .wPuts .. => execWPuts_sound _ _ _ _ hs
  | .imageLoad .. => execImageLoad_sound _ _ _ _ hs
  | .engineAssign .. => execEngineAssign_sound _ _ _ _ _ hs
  | .engineWindowResize .. => execEngineWindowResize_sound _ _ _ _ _ hs
  | .engineRetireClear .. => execEngineRetireClear_sound _ _ _ _ hs
  | .checkValueFeed .. => execCheckValueFeed_sound _ _ _ _ _ hs
  | .checkValueRestart .. => execCheckValueRestart_sound _ _ _ _ _ hs
  | .checkValueOwnerChange .. => execCheckValueOwnerChange_sound _ _ _ _ _ hs
  | .scrubRead .. => execScrubRead_sound _ _ _ _ hs
  | .shareCopyDone .. => execShareCopyDone_sound _ _ _ _ hs
  | .channelRetireClear .. => execChannelRetireClear_sound _ _ _ _ hs
  | .channelFillDone .. => execChannelFillDone_sound _ _ _ hs
  | .remapClear .. => execRemapClear_sound _ _ _ _ _ _ hs
  | .cacheAccess .. => execCacheAccess_sound _ _ _ _ _ _ _ hs
  | .cacheFillReturn .. => execCacheFillReturn_sound _ _ _ _ _ hs
  | .cacheAgeing .. => execCacheAgeing_sound _ _ hs
  | .cacheInvalidateLine .. => execCacheInvalidateLine_sound _ _ _ hs
  | .cacheInvalidateStructure .. => execCacheInvalidateStructure_sound _ _ _ hs
  | .cacheInvalidateAll .. => execCacheInvalidateAll_sound _ _ _ hs
  | .waysEnabledWrite .. => execWaysEnabledWrite_sound _ _ _ _ hs
  | .wayRetireClear .. => execWayRetireClear_sound _ _ _ _ hs
  | .sdoUpload .. => execSdoUpload_sound _ _ _ _ _ hs
  | .sdoDownload .. => execSdoDownload_sound _ _ _ _ _ _ hs
  | .sdoInformation .. => execSdoInformation_sound _ _ _ hs
  | .foeWrite .. => execFoeWrite_sound _ _ _ _ _ _ hs
  | .foeRead .. => execFoeRead_sound _ _ _ _ hs
  | .alStateRequest .. => execAlStateRequest_sound _ _ _ _ hs
  | .sync0Event .. => execSync0Event_sound _ _ _ _ hs
  | .txpdoUpdate .. => execTxpdoUpdate_sound _ _ hs
  | .nvSaveCommand .. => execNvSaveCommand_sound _ _ _ _ hs
  | .saveDelayExpiry .. => execSaveDelayExpiry_sound _ _ hs
  | .saveDone .. => execSaveDone_sound _ _ _ hs
  | .saveRetry .. => execSaveRetry_sound _ _ hs
  | .loadDefaults .. => execLoadDefaults_sound _ _ _ _ hs
  | .counterClear .. => execCounterClear_sound _ _ _ _ _ hs
  | .groupClear .. => execGroupClear_sound _ _ _ _ hs
  | .selfCheckFailure t x kind => execSelfCheckFailure_sound t x kind s hs
  | .heartbeatTimeout .. => execHeartbeatTimeout_sound _ _ hs
  | .stateStep .. => execStateStep_sound _ _ _ _ _ _ hs
  | .shroudSelfTestDone .. => execShroudSelfTestDone_sound _ _ _ _ hs
  | .automaticReturn .. => execAutomaticReturn_sound _ _ hs
  | .passToken .. => execPassToken_sound _ _ _ _ hs
  | .noHolderFurl .. => execNoHolderFurl_sound _ _ hs
  | .mastRetireClear .. => execMastRetireClear_sound _ _ _ _ hs
  | .shroudRetireClear .. => execShroudRetireClear_sound _ _ _ _ hs
  | .sailRetireClear .. => execSailRetireClear_sound _ _ _ _ _ hs
  | .servoSailRetireClear .. => execServoSailRetireClear_sound _ _ _ _ _ hs
  | .imageUpdate .. => execImageUpdate_sound _ _ _ _ hs
  | .updateShroudLoaded .. => execUpdateShroudLoaded_sound _ _ _ _ hs
  | .observationEnd .. => execObservationEnd_sound _ _ hs
  | .rstNAssert .. => execRstNAssert_sound _ _ hs
  | .rstNRelease .. => execRstNRelease_sound _ _ hs
  | .startupFillDone .. => execStartupFillDone_sound _ _ _ hs
  | .rigReady .. => execRigReady_sound _ _ hs
  | .pllLoss .. => execPllLoss_sound _ _ hs
  | .testNAssert .. => execTestNAssert_sound _ _ hs
  | .thermalSample .. => execThermalSample_sound _ _ _ hs
  | .bypass .. => execBypass_sound _ _ _ hs
  | .idcode .. => execIdcode_sound _ _ _ hs
  | .samplePreload .. => execSamplePreload_sound _ _ _ hs
  | .extest .. => execExtest_sound _ _ _ hs
  | .configurationRequest .. => execConfigurationRequest_sound _ _ _ _ hs
  | .dlUp .. => execDlUp_sound _ _ _ _ _ _ hs
  | .corruptedPacket .. => execCorruptedPacket_sound _ _ _ hs
  | .typeDiscard .. => execTypeDiscard_sound _ _ _ _ hs
  | .gorcyLaneReacquired .. => execGorcyLaneReacquired_sound _ _ _ _ hs
  | .lossOfTraining .. => execLossOfTraining_sound _ _ _ hs
  | .endpointBufferError .. => execEndpointBufferError_sound _ _ _ _ hs
  | .imageLoadComplete .. => execImageLoadComplete_sound _ _ hs
  | .pllLockRegained .. => execPllLockRegained_sound _ _ hs
  | .testNRelease .. => execTestNRelease_sound _ _ hs
  | .fieldNetworkLinkChange .. => execFieldNetworkLinkChange_sound _ _ _ _ hs
  | .sync0Stop .. => execSync0Stop_sound _ _ hs
  | .mailboxRepeat .. => execMailboxRepeat_sound _ _ hs

/-- Settles O53: an idle step keeps the state, a running one is the meaning of its command on the rest of the queue. -/
theorem stepKeepsSound : Obligations.StepKeepsSound := by
  intro s t hs h
  cases hq : s.pending with
  | nil =>
    rw [step_nil hq] at h
    cases h
    exact hs
  | cons c rest =>
    rw [step_cons hq] at h
    exact exec_sound c (s := { s with pending := rest }) hs t h

/-- Settles O52: every table of the state at power-up is empty, so it reads its defaults. -/
theorem resetIsSound : Obligations.ResetIsSound := by
  refine ⟨State.reset_sound, rfl, fun _ => rfl, fun _ => rfl, fun _ => rfl, rfl, rfl, rfl, ?_, rfl⟩
  decide +kernel

end Sys2Proof.Machine
end

section
/-! PROOFS. The fields of a microword and the word that they make (15 Table 15.1). -/
namespace Sys2Proof.Machine

/-! ## Fields of given widths -/

/-- The number made of fields, each with its width, from bit 0 up. -/
def packFields : List (Nat × Nat) → Nat
  | [] => 0
  | (n, a) :: l => a + packFields l * 2 ^ n

/-- The fields of widths `ns` of a number, from bit 0 up. -/
def unpackFields : List Nat → Nat → List (Nat × Nat)
  | [], _ => []
  | n :: ns, v => (n, v % 2 ^ n) :: unpackFields ns (v / 2 ^ n)

theorem unpackFields_packFields {l : List (Nat × Nat)} (h : ∀ p ∈ l, p.2 < 2 ^ p.1) :
    unpackFields (l.map Prod.fst) (packFields l) = l := by
  induction l with
  | nil => rfl
  | cons p l ih =>
    obtain ⟨n, a⟩ := p
    have ha : a < 2 ^ n := h (n, a) (by simp)
    obtain ⟨hm, hd⟩ := add_mul_mod_div (p := packFields l) ha
    simp only [packFields, List.map_cons, unpackFields, hm, hd, ih fun p hp => h p (by simp [hp])]

theorem packFields_unpackFields {ns : List Nat} {v : Nat} (h : v < 2 ^ ns.sum) : packFields (unpackFields ns v) = v := by
  induction ns generalizing v with
  | nil => exact (Nat.lt_one_iff.mp h).symm
  | cons n ns ih =>
    have hlt : v / 2 ^ n < 2 ^ ns.sum := by
      rw [List.sum_cons, Nat.pow_add] at h
      exact Nat.div_lt_of_lt_mul h
    rw [unpackFields, packFields, ih hlt, Nat.mul_comm]
    exact Nat.mod_add_div v _

theorem packFields_lt {l : List (Nat × Nat)} (h : ∀ p ∈ l, p.2 < 2 ^ p.1) : packFields l < 2 ^ (l.map Prod.fst).sum := by
  induction l with
  | nil => exact Nat.one_pos
  | cons p l ih =>
    obtain ⟨n, a⟩ := p
    rw [List.map_cons, List.sum_cons, Nat.add_comm n]
    exact encode_lt rfl (h (n, a) (by simp)) (ih fun p hp => h p (by simp [hp]))

theorem unpackFields_lt (ns : List Nat) (v : Nat) : ∀ p ∈ unpackFields ns v, p.2 < 2 ^ p.1 := by
  induction ns generalizing v with
  | nil => simp [unpackFields]
  | cons n ns ih =>
    rw [unpackFields, List.forall_mem_cons]
    exact ⟨Nat.mod_lt _ (Nat.two_pow_pos n), ih _⟩

/-! ## The table of the microword -/

/-- The widths of a microword's fields, from bit 0 up. -/
def mwWidths : List Nat := [64, 64, 18, 13, 3, 3, 1, 1, 1, 4, 4, 4, 4, 6, 2]

/-- A microword's fields with their widths, from bit 0 up. -/
def Mw.fields (x : Mw) : List (Nat × Nat) :=
  [(64, x.aux), (64, x.imm), (18, x.res), (13, x.tgt), (3, x.nx), (3, x.sz), (1, x.sg.toNat), (1, x.im.toNat), (1, x.sf.toNat),
   (4, x.cc), (4, x.rb), (4, x.ra), (4, x.rd), (6, x.op), (2, x.cyc)]

@[simp] theorem Mw.fields_widths (x : Mw) : x.fields.map Prod.fst = mwWidths := rfl

theorem mwWidths_sum : mwWidths.sum = 192 := rfl

/-- Every field lies in its width. -/
def Mw.Fits (x : Mw) : Prop := ∀ p ∈ x.fields, p.2 < 2 ^ p.1

theorem bool_toNat_inj {a b : Bool} : a.toNat = b.toNat ↔ a = b := by decide +revert

theorem Mw.eq_of_fields_eq {x y : Mw} (h : x.fields = y.fields) : x = y := by
  obtain ⟨⟩ := x
  obtain ⟨⟩ := y
  simp only [Mw.fields, List.cons.injEq, Prod.mk.injEq, bool_toNat_inj, true_and, and_true] at h
  simp only [h]

theorem testBit_toNat_eq_mod (v i : Nat) : (v.testBit i).toNat = v / 2 ^ i % 2 ^ 1 := by
  rw [Nat.toNat_testBit, Nat.pow_one]

/-- Reading a word unpacks it at the widths of the table. -/
theorem decodeMw_fields (w : Microword) : (decodeMw w).fields = unpackFields mwWidths w.toNat := by
  simp only [-Nat.reducePow, Mw.fields, decodeMw, mwWidths, unpackFields, fld, testBit_toNat_eq_mod, Nat.div_div_eq_div_mul,
    ← Nat.pow_add, Nat.reduceAdd, Nat.reduceSub, Nat.pow_zero, Nat.div_one]

/-- A word is encoded from fields that fit by packing them. -/
theorem encodeMw_eq_pack {x : Mw} (h : x.Fits) : encodeMw x = BitVec.ofNat 192 (packFields x.fields) := by
  simp only [Mw.Fits, Mw.fields, List.forall_mem_cons] at h
  obtain ⟨haux, himm, hres, htgt, hnx, hsz, -, -, -, hcc, hrb, hra, hrd, hop, hcyc, -⟩ := h
  have hbit (b : Bool) (n : Nat) : (if b then 2 ^ n else 0) = b.toNat * 2 ^ n := by cases b <;> simp
  rw [encodeMw, Nat.mod_eq_of_lt haux, Nat.mod_eq_of_lt himm, Nat.mod_eq_of_lt hres, Nat.mod_eq_of_lt htgt, Nat.mod_eq_of_lt (b := 8) hnx,
    Nat.mod_eq_of_lt (b := 8) hsz, Nat.mod_eq_of_lt (b := 16) hcc, Nat.mod_eq_of_lt (b := 16) hrb, Nat.mod_eq_of_lt (b := 16) hra, Nat.mod_eq_of_lt (b := 16) hrd,
    Nat.mod_eq_of_lt (b := 64) hop, Nat.mod_eq_of_lt (b := 4) hcyc, hbit, hbit, hbit]
  refine congrArg (BitVec.ofNat 192) ?_
  simp only [Mw.fields, packFields]
  ring

theorem encodeMw_toNat {x : Mw} (h : x.Fits) : (encodeMw x).toNat = packFields x.fields := by
  have hlt := packFields_lt h
  rw [Mw.fields_widths, mwWidths_sum] at hlt
  rw [encodeMw_eq_pack h, BitVec.toNat_ofNat]
  exact Nat.mod_eq_of_lt hlt

theorem decodeMw_fits (w : Microword) : (decodeMw w).Fits := by
  rw [Mw.Fits, decodeMw_fields]
  exact unpackFields_lt mwWidths w.toNat

/-- Settles O54: encoding packs the table's fields and decoding unpacks them. -/
theorem microwordsRoundTrip : Obligations.MicrowordsRoundTrip := by
  unfold Obligations.MicrowordsRoundTrip
  constructor
  · intro x hcyc hop hrd hra hrb hcc hsz hnx htgt hres himm haux
    have hx : x.Fits := by
      simp only [Mw.Fits, Mw.fields, List.forall_mem_cons, List.not_mem_nil, false_implies, implies_true, and_true]
      exact ⟨haux, himm, hres, htgt, hnx, hsz, Bool.toNat_lt _, Bool.toNat_lt _, Bool.toNat_lt _, hcc, hrb, hra, hrd, hop, hcyc⟩
    apply Mw.eq_of_fields_eq
    rw [decodeMw_fields, encodeMw_toNat hx, ← x.fields_widths, unpackFields_packFields hx]
  · intro w
    apply BitVec.eq_of_toNat_eq
    have hw : w.toNat < 2 ^ mwWidths.sum := by
      rw [mwWidths_sum]
      exact w.isLt
    rw [encodeMw_toNat (decodeMw_fits w), decodeMw_fields, packFields_unpackFields hw]

end Sys2Proof.Machine
end

section
/-! PROOFS. Routes in the torus of rigs (14 R374, R375). -/
namespace Sys2Proof.Machine

/-! ## Header fields -/

/-- A number is what stands below a field, the field, and what stands above it. -/
theorem below_field_above (n : Nat) {hi lo : Nat} (h : lo ≤ hi) :
    n % 2 ^ lo + fld n hi lo * 2 ^ lo + n / 2 ^ (hi + 1) * 2 ^ (hi + 1) = n := by
  have hw : 2 ^ (hi + 1) = 2 ^ lo * 2 ^ (hi + 1 - lo) := by rw [← Nat.pow_add]; congr 1; omega
  have hlow := Nat.mod_add_div n (2 ^ lo)
  have hhigh := Nat.mod_add_div (n / 2 ^ lo) (2 ^ (hi + 1 - lo))
  rw [Nat.div_div_eq_div_mul, ← hw] at hhigh
  calc n % 2 ^ lo + fld n hi lo * 2 ^ lo + n / 2 ^ (hi + 1) * 2 ^ (hi + 1)
      = n % 2 ^ lo + 2 ^ lo * (fld n hi lo + 2 ^ (hi + 1 - lo) * (n / 2 ^ (hi + 1))) := by rw [hw]; ring
    _ = n := by rw [fld, hhigh, hlow]

/-- What stands above a field stays when the field is replaced. -/
theorem hfSet_div (h : BitVec 512) {hi lo : Nat} (v : Nat) (hlo : lo ≤ hi) (hhi : hi < 512) :
    (hfSet h hi lo v).toNat / 2 ^ (hi + 1) = h.toNat / 2 ^ (hi + 1) := by
  have hn := below_field_above h.toNat hlo
  have hlow : h.toNat % 2 ^ lo + v % 2 ^ (hi + 1 - lo) * 2 ^ lo < 2 ^ (hi + 1) :=
    encode_lt (by omega) (Nat.mod_lt _ (Nat.two_pow_pos _)) (Nat.mod_lt _ (Nat.two_pow_pos _))
  have htop : h.toNat / 2 ^ (hi + 1) < 2 ^ (511 - hi) := by
    rw [Nat.div_lt_iff_lt_mul (Nat.two_pow_pos _), ← Nat.pow_add, show 511 - hi + (hi + 1) = 512 by omega]
    exact h.isLt
  have hnew : (hfSet h hi lo v).toNat =
      h.toNat % 2 ^ lo + v % 2 ^ (hi + 1 - lo) * 2 ^ lo + h.toNat / 2 ^ (hi + 1) * 2 ^ (hi + 1) := by
    rw [hfSet, BitVec.toNat_ofNat, show h.toNat - fld h.toNat hi lo * 2 ^ lo + v % 2 ^ (hi + 1 - lo) * 2 ^ lo =
      h.toNat % 2 ^ lo + v % 2 ^ (hi + 1 - lo) * 2 ^ lo + h.toNat / 2 ^ (hi + 1) * 2 ^ (hi + 1) by omega]
    exact Nat.mod_eq_of_lt (encode_lt (by omega) hlow htop)
  rw [hnew, (add_mul_mod_div hlow).2]

/-- A field above the one replaced is unchanged. -/
theorem hf_hfSet_above (h : BitVec 512) {hi lo : Nat} (v hi' : Nat) {lo' : Nat} (hlo : lo ≤ hi) (hhi : hi < 512) (ha : hi < lo') :
    hf (hfSet h hi lo v) hi' lo' = hf h hi' lo' := by
  have hsplit (n : Nat) : n / 2 ^ lo' = n / 2 ^ (hi + 1) / 2 ^ (lo' - (hi + 1)) := by
    rw [Nat.div_div_eq_div_mul, ← Nat.pow_add]; congr 2; omega
  rw [hf, hf, fld, fld, hsplit, hfSet_div h v hlo hhi, ← hsplit]

/-! ## One dimension of the torus -/

/-- The shorter way round a ring of `n` rigs. -/
def ringDist (n a b : Nat) : Nat := min ((b + n - a) % n) ((a + n - b) % n)

/-- The way up from `a` to `b`. -/
theorem way_up {n a b : Nat} (ha : a < n) (hb : b < n) : (b + n - a) % n = if a ≤ b then b - a else b + n - a := by
  split
  · rw [show b + n - a = b - a + n by omega, Nat.add_mod_right, Nat.mod_eq_of_lt (by omega)]
  · exact Nat.mod_eq_of_lt (by omega)

theorem next_up {n a : Nat} (ha : a < n) : (a + 1) % n = if a + 1 = n then 0 else a + 1 := by
  split
  · simp [*]
  · exact Nat.mod_eq_of_lt (by omega)

theorem next_down {n a : Nat} (ha : a < n) : (a + n - 1) % n = if a = 0 then n - 1 else a - 1 := by
  split
  · subst a; rw [Nat.zero_add]; exact Nat.mod_eq_of_lt (by omega)
  · rw [show a + n - 1 = a - 1 + n by omega, Nat.add_mod_right, Nat.mod_eq_of_lt (by omega)]

/-- A step up, where the way up is the shorter or both are equal, shortens the distance by one. -/
theorem ringDist_up {n a b : Nat} (ha : a < n) (hb : b < n) (hne : b ≠ a) (hd : (b + n - a) % n ≤ n - (b + n - a) % n) :
    ringDist n ((a + 1) % n) b + 1 = ringDist n a b := by
  have hlt : (a + 1) % n < n := Nat.mod_lt _ (by omega)
  rw [ringDist, ringDist, way_up hlt hb, way_up hb hlt, way_up ha hb, way_up hb ha]
  rw [way_up ha hb] at hd
  rw [next_up ha]
  split_ifs at * <;> omega

/-- A step down, where the way down is the shorter, shortens the distance by one. -/
theorem ringDist_down {n a b : Nat} (ha : a < n) (hb : b < n) (hd : ¬ (b + n - a) % n ≤ n - (b + n - a) % n) :
    ringDist n ((a + n - 1) % n) b + 1 = ringDist n a b := by
  have hlt : (a + n - 1) % n < n := Nat.mod_lt _ (by omega)
  rw [ringDist, ringDist, way_up hlt hb, way_up hb hlt, way_up ha hb, way_up hb ha]
  rw [way_up ha hb] at hd
  rw [next_down ha]
  split_ifs at * <;> omega

/-! ## The first hop -/

/-- Coordinates of an address (14 R374). -/
theorem addr_coords {x y : Nat} (hx : x < 32) : (32 * y + x) % 32 = x ∧ (32 * y + x) / 32 = y := by omega

section
variable {s : State} {h : BitVec 512} {nx ny x y u v : Nat}
  (hnx : s.objN (okey 0x2300 2) = nx) (hny : s.objN (okey 0x2300 3) = ny)
  (hx32 : x < 32) (hu32 : u < 32) (haddr : s.addr = 32 * y + x) (hdst : hf h 63 53 = 32 * v + u)
  (hup : ∀ p, p < 4 → s.portUp p = true) (hrt : hf h 34 34 = 0)
include hnx hny hx32 hu32 haddr hdst hup hrt

/-- A packet for another column leaves along X, up where that way is not the longer. -/
theorem route_along_x (hne : u ≠ x) : ∃ h', s.route 2 2 h = some (if (u + nx - x) % nx ≤ nx - (u + nx - x) % nx then 0 else 1, h') ∧
    hf h' 63 53 = hf h 63 53 := by
  obtain ⟨hax, hay⟩ := addr_coords (y := y) hx32
  obtain ⟨hdx, hdy⟩ := addr_coords (y := v) hu32
  have hport (c : Prop) [Decidable c] : s.portUp (2 * 0 + if c then 0 else 1) = true := hup _ (by split <;> omega)
  simp only [State.route, hdst, hrt, haddr, hnx, hny, hax, hay, hdx, hdy, hne, decide_false, Bool.false_and, Bool.false_eq_true,
    if_false, if_true, ne_eq, OfNat.ofNat_ne_zero, not_false_eq_true, decide_true, zero_ne_one, hport]
  exact ⟨_, by rw [Nat.mul_zero, Nat.zero_add], by rw [hf_hfSet_above, hf_hfSet_above, hf_hfSet_above, hdst] <;> decide⟩

/-- A packet for another row of this column leaves along Y, up where that way is not the longer. -/
theorem route_along_y (hux : u = x) (hne : v ≠ y) :
    ∃ h', s.route 2 2 h = some (if (v + ny - y) % ny ≤ ny - (v + ny - y) % ny then 2 else 3, h') ∧ hf h' 63 53 = hf h 63 53 := by
  subst hux
  obtain ⟨hax, hay⟩ := addr_coords (y := y) hx32
  obtain ⟨hdx, hdy⟩ := addr_coords (y := v) hu32
  have hport (c : Prop) [Decidable c] : s.portUp (2 + if c then 0 else 1) = true := hup _ (by split <;> omega)
  simp only [State.route, hdst, hrt, haddr, hnx, hny, hax, hay, hdx, hdy, hne, decide_false, Bool.and_false, Bool.false_eq_true,
    if_false, if_true, ne_eq, OfNat.ofNat_ne_one, not_false_eq_true, decide_true, zero_ne_one, one_ne_zero, hport]
  have hnum (c : Prop) [Decidable c] : (2 + if c then 0 else 1) = if c then 2 else 3 := by split <;> rfl
  exact ⟨_, by rw [hnum], by rw [hf_hfSet_above, hf_hfSet_above, hf_hfSet_above, hdst] <;> decide⟩

end

theorem addrValid_iff {s : State} {nx ny : Nat} (hnx : s.objN (okey 0x2300 2) = nx) (hny : s.objN (okey 0x2300 3) = ny) {u : Nat}
    (v : Nat) (hu : u < 32) : s.addrValid (32 * v + u) = true ↔ u < nx ∧ v < ny := by
  obtain ⟨hdx, hdy⟩ := addr_coords (y := v) hu
  rw [State.addrValid, hdx, hdy, hnx, hny, Bool.and_eq_true, decide_eq_true_iff, decide_eq_true_iff]

/-- Settles O57: a packet leaves in the first dimension in which it has a way to go, and a step along the shorter way round a ring
shortens that way by one. -/
theorem routesMoveTowardsTheirDestination : Obligations.RoutesMoveTowardsTheirDestination := by
  intro s nx ny x y _ hnx32 _ hny64 hnx hny hx hy haddr
  obtain ⟨hax, hay⟩ := addr_coords (x := x) (y := y) (by omega)
  have h0 : s.rigBehind 0 = 32 * y + (x + 1) % nx := by simp only [State.rigBehind, haddr, hax, hay, hnx]
  have h1 : s.rigBehind 1 = 32 * y + (x + nx - 1) % nx := by simp only [State.rigBehind, haddr, hax, hay, hnx]
  have h2 : s.rigBehind 2 = 32 * ((y + 1) % ny) + x := by simp only [State.rigBehind, haddr, hax, hay, hny]
  have h3 : s.rigBehind 3 = 32 * ((y + ny - 1) % ny) + x := by simp only [State.rigBehind, haddr, hax, hay, hny]
  refine ⟨h0, h1, h2, h3, fun u v hu => addrValid_iff hnx hny v hu, ?_⟩
  rintro dist hdist hup h u v hu hv hdst hne hrt
  obtain rfl : dist = ringDist := hdist
  have hmod (a n : Nat) (hn : a < n) (b : Nat) : b % n < n := Nat.mod_lt b (by omega)
  by_cases hux : u = x
  · subst hux
    have hvy : v ≠ y := by rintro rfl; exact hne rfl
    obtain ⟨h', hr, hd⟩ := route_along_y hnx hny (by omega) (by omega) haddr hdst hup hrt rfl hvy
    by_cases hway : (v + ny - y) % ny ≤ ny - (v + ny - y) % ny
    · rw [if_pos hway] at hr
      refine ⟨2, h', u, (y + 1) % ny, hr, by decide, hd.trans hdst, h2, hx, hmod y ny hy _, ?_⟩
      have := ringDist_up hy hv hvy hway
      omega
    · rw [if_neg hway] at hr
      refine ⟨3, h', u, (y + ny - 1) % ny, hr, by decide, hd.trans hdst, h3, hx, hmod y ny hy _, ?_⟩
      have := ringDist_down hy hv hway
      omega
  · obtain ⟨h', hr, hd⟩ := route_along_x hnx hny (by omega) (by omega) haddr hdst hup hrt hux
    by_cases hway : (u + nx - x) % nx ≤ nx - (u + nx - x) % nx
    · rw [if_pos hway] at hr
      refine ⟨0, h', (x + 1) % nx, y, hr, by decide, hd.trans hdst, h0, hmod x nx hx _, hy, ?_⟩
      have := ringDist_up hx hu hux hway
      omega
    · rw [if_neg hway] at hr
      refine ⟨1, h', (x + nx - 1) % nx, y, hr, by decide, hd.trans hdst, h1, hmod x nx hx _, hy, ?_⟩
      have := ringDist_down hx hu hway
      omega

end Sys2Proof.Machine
end

section
/-! PROOFS. Counters: what they read after any number of events, and after a clear at the instant of the events (00 R28 to R30). -/
namespace Sys2Proof.Machine

/-- The state after `n` counted events of a counter. -/
def State.afterCounts (s : State) (k n : Nat) : State := forEach (List.range n) (fun _ a => a.count k) s

@[simp] theorem afterCounts_zero (s : State) (k : Nat) : s.afterCounts k 0 = s := rfl

@[simp] theorem afterCounts_succ (s : State) (k n : Nat) : s.afterCounts k (n + 1) = (s.afterCounts k n).count k := by
  simp only [State.afterCounts, forEach, List.range_succ, List.foldl_append, List.foldl_cons, List.foldl_nil]

theorem objs_wf_of_sound {s : State} (h : s.Sound) : tblWf objDefault s.objs = true := by
  simp only [State.Sound, State.tables, Bool.and_eq_true] at h
  exact h.1.1

theorem counterMax_nonneg (k : Nat) : 0 ≤ counterMax k := by
  unfold counterMax
  split
  · split <;> norm_num
  · norm_num

variable {s : State} {k : Nat}

theorem afterCounts_sound (hs : s.Sound) (n : Nat) : (s.afterCounts k n).Sound :=
  forEach_sound _ _ s (fun _ t ht => State.count_sound t k ht) hs

theorem afterCounts_now (n : Nat) : (s.afterCounts k n).now = s.now := forEach_keeps (·.now) (fun _ _ => by rfl) _ s

/-- A counter after any number of events is its sum with them, or its greatest value. -/
theorem obj_afterCounts_same (hs : s.Sound) (hk : s.obj k ≤ counterMax k) (n : Nat) :
    (s.afterCounts k n).obj k = min (s.obj k + n) (counterMax k) := by
  induction n with
  | zero => rw [afterCounts_zero, Nat.cast_zero, add_zero, min_eq_left hk]
  | succ n ih =>
    rw [afterCounts_succ, obj_count_same _ _ (objs_wf_of_sound (afterCounts_sound hs n)), ih]
    push_cast
    omega

theorem obj_afterCounts_ne (n : Nat) {j : Nat} (hj : j ≠ k) : (s.afterCounts k n).obj j = s.obj j :=
  forEach_keeps (·.obj j) (fun _ t => obj_count_ne t k j hj) _ s

/-- Beside the dictionary, counting moves the note of what was counted at this instant. -/
theorem afterCounts_frame (n : Nat) :
    { s.afterCounts k n with objs := s.objs, countAt := s.countAt, counted := s.counted } = s :=
  forEach_keeps (fun u : State => { u with objs := s.objs, countAt := s.countAt, counted := s.counted }) (fun _ _ => by rfl) _ s

/-! ## What was counted at the present instant -/

/-- The events noted at the present instant, by counter. -/
def State.noted (s : State) : List (Nat × Nat) := if s.countAt = s.now then s.counted else []

theorem countedNow_eq_noted (s : State) (k : Nat) : s.countedNow k = tblGet (fun _ => 0) s.noted k := by
  unfold State.countedNow State.noted
  split
  · rfl
  · rfl

theorem noted_count (s : State) (k : Nat) : (s.count k).noted = tblPut (fun _ => 0) k (s.countedNow k + 1) s.noted := if_pos rfl

/-- Where nothing was noted at this instant, the note after `n` events of a counter is `n`. -/
theorem noted_afterCounts (h : s.countAt ≠ s.now) (n : Nat) :
    tblWf (fun _ => 0) (s.afterCounts k n).noted = true ∧ (s.afterCounts k n).countedNow k = n := by
  induction n with
  | zero =>
    have h0 : s.noted = [] := if_neg h
    rw [afterCounts_zero, countedNow_eq_noted, h0]
    exact ⟨rfl, rfl⟩
  | succ n ih =>
    obtain ⟨hwf, hn⟩ := ih
    rw [afterCounts_succ, countedNow_eq_noted, noted_count, hn]
    exact ⟨tblPut_wf _ _ _ _ hwf, tblGet_put_same _ _ _ _ hwf⟩

/-- A clear leaves what was counted at its instant. -/
theorem obj_clearCounter (hs : s.Sound) : (s.clearCounter k).obj k = min (s.countedNow k : Int) (counterMax k) :=
  obj_setObj_same s k _ (objs_wf_of_sound hs)

/-- Settles O58: by induction on the number of events. -/
theorem countersSaturate : Obligations.CountersSaturate := by
  rintro s u k n hs hk rfl
  change (s.afterCounts k n).obj k = _ ∧ _ ≤ (s.afterCounts k n).obj k ∧ _
  have hobj := obj_afterCounts_same hs hk n
  refine ⟨hobj, ?_, fun j hj => obj_afterCounts_ne n hj, afterCounts_frame n, fun hnow => ⟨?_, fun _ => ?_⟩⟩
  · rw [hobj]
    omega
  · rw [obj_clearCounter hs, State.countedNow, if_neg hnow]
    exact min_eq_left (counterMax_nonneg k)
  · exact (obj_clearCounter (afterCounts_sound hs n)).trans (by rw [(noted_afterCounts hnow n).2])

end Sys2Proof.Machine
end

section
/-! PROOFS. Event queues: a record that is written, waits or is dropped, and the slots that waiting records take (12 R343 to R345). -/
namespace Sys2Proof.Machine

/-! ## What leaves the event queues as they are -/

@[simp] theorem setEp_eqs (s : State) (e : Sys2Proof.Endpoint) (x : EpState) : (s.setEp e x).host.eqs = s.host.eqs := by
  cases e
  · rfl
  · rfl

@[simp] theorem wakeLink_host (s : State) (e : Sys2Proof.Endpoint) : (s.wakeLink e).host = s.host := by
  unfold State.wakeLink
  dsimp only
  split
  · rfl
  · rfl

@[simp] theorem tlp_eqs (s : State) (e : Sys2Proof.Endpoint) (x : Emit) : (s.tlp e x).host.eqs = s.host.eqs := by
  simp only [State.tlp, apply_ite State.host, apply_ite HostState.eqs, setEp_eqs, emit_host, wakeLink_host, ite_self]

/-! ## Writing a record -/

/-- The event queues are listed in canonical form. -/
def State.EqsWf (s : State) : Prop := tblWf (fun _ => ({} : EQ)) s.host.eqs = true

theorem eq_of_eqs {s u : State} (h : s.host.eqs = u.host.eqs) (e : Nat) : s.eq e = u.eq e := by
  rw [State.eq, State.eq, h]

theorem setEq_eqsWf {s : State} (h : s.EqsWf) (e : Nat) (x : EQ) : (s.setEq e x).EqsWf := tblPut_wf _ _ _ _ h

/-- A state whose event queues are those of `s` but for queue `e`, which is `x`. -/
theorem eq_of_eqs_setEq {s u : State} (h : s.EqsWf) {e : Nat} {x : EQ} (hu : u.host.eqs = (s.setEq e x).host.eqs) :
    u.EqsWf ∧ u.eq e = x := by
  refine ⟨?_, (eq_of_eqs hu e).trans (eq_setEq_same s e x h)⟩
  rw [State.EqsWf, hu]
  exact setEq_eqsWf h e x

section
variable {s : State} {e : Nat} {f : Sys2Proof.Fn}

/-- Signalling moves of its queue only what is said of its signals. -/
theorem signal_eq (h : s.EqsWf) (ho : (s.eq e).owner = .fn f) :
    ∃ n t a, (s.signal e).EqsWf ∧ (s.signal e).eq e = { s.eq e with unsig := n, unsigAt := t, asked := a } := by
  simp only [State.signal, ho]
  split
  · exact ⟨_, _, _, eq_of_eqs_setEq h rfl⟩
  · exact ⟨_, _, _, eq_of_eqs_setEq h (tlp_eqs _ _ _)⟩

theorem signalIf_eq (h : s.EqsWf) {q : EQ} (hq : s.eq e = q) (ho : q.owner = .fn f) {p : Prop} [Decidable p] :
    ∃ n t a, (if p then s.signal e else s).EqsWf ∧
      (if p then s.signal e else s).eq e = { q with unsig := n, unsigAt := t, asked := a } := by
  subst hq
  split
  · exact signal_eq h ho
  · exact ⟨_, _, _, h, rfl⟩

/-- The queue with its next slot written. -/
def EQ.pushed (q : EQ) : EQ :=
  { q with tail := (q.tail + 1) % q.size, phase := if (q.tail + 1) % q.size = 0 then !q.phase else q.phase }

/-- A record written takes the queue's next slot. -/
theorem writeRec_eq (h : s.EqsWf) (ho : (s.eq e).owner = .fn f) (r : EvRec) :
    ∃ n t a, (s.writeRec e r).EqsWf ∧ (s.writeRec e r).eq e = { (s.eq e).pushed with unsig := n, unsigAt := t, asked := a } := by
  unfold State.writeRec
  dsimp only
  split
  case h_1 f' _ =>
    exact signalIf_eq (q := { (s.eq e).pushed with
        unsig := (s.eq e).unsig + 1, unsigAt := if (s.eq e).unsig = 0 then s.now else (s.eq e).unsigAt })
      (eq_of_eqs_setEq h (tlp_eqs _ f'.ep _)).1 (eq_of_eqs_setEq h (tlp_eqs _ f'.ep _)).2 ho
  case h_2 hp => rw [ho] at hp; cases hp
  case h_3 hp => rw [ho] at hp; cases hp

end

/-! ## The ring -/

section
variable {q : EQ}

theorem full_iff : q.full = true ↔ q.used + 1 = q.size := by
  have hpos : 0 < q.size := Nat.two_pow_pos _
  have hlt : q.used < q.size := Nat.mod_lt _ hpos
  rw [EQ.full, decide_eq_true_iff]
  omega

/-- The unconsumed records by the two places of head and tail. -/
theorem used_eq (hh : q.head < q.size) (ht : q.tail < q.size) :
    q.used = if q.head ≤ q.tail then q.tail - q.head else q.tail + q.size - q.head := by
  unfold EQ.used
  split
  · rw [show q.tail + q.size - q.head = q.tail - q.head + q.size by omega, Nat.add_mod_right, Nat.mod_eq_of_lt (by omega)]
  · exact Nat.mod_eq_of_lt (by omega)

/-- A record more in a ring that is not full: one more unconsumed, and the phase turns where the tail returns to 0. -/
theorem used_of_next {q' : EQ} (hh : q.head < q.size) (ht : q.tail < q.size) (hf : q.full = false) (hlog : q'.log = q.log)
    (hhead : q'.head = q.head) (htail : q'.tail = (q.tail + 1) % q.size) : q'.used = q.used + 1 := by
  have hsize : q'.size = q.size := congrArg (2 ^ ·) hlog
  have hlt : (q.tail + 1) % q.size < q.size := Nat.mod_lt _ (by omega)
  have hnf : ¬ q.used + 1 = q.size := fun h => by simp [full_iff.mpr h] at hf
  rw [used_eq hh ht] at hnf
  rw [used_eq (by omega) (by omega), used_eq hh ht, hsize, hhead, htail, next_up ht]
  split_ifs at * <;> omega

end

/-! ## Records due, and slots freed -/

/-- The queue of a function whose head and tail lie in its ring. -/
def EQ.InRing (q : EQ) : Prop := (∃ f, q.owner = .fn f) ∧ q.head < q.size ∧ q.tail < q.size

section
variable {s : State} {e : Nat}

/-- A record written on a queue that is not full. -/
theorem writeRec_used (h : s.EqsWf) (hq : (s.eq e).InRing) (hf : (s.eq e).full = false) (r : EvRec) :
    (s.writeRec e r).EqsWf ∧ ((s.writeRec e r).eq e).InRing ∧ ((s.writeRec e r).eq e).used = (s.eq e).used + 1 ∧
    ((s.writeRec e r).eq e).head = (s.eq e).head ∧ ((s.writeRec e r).eq e).size = (s.eq e).size ∧
    ((s.writeRec e r).eq e).tail = ((s.eq e).tail + 1) % (s.eq e).size ∧
    ((s.writeRec e r).eq e).waiting = (s.eq e).waiting ∧ ((s.writeRec e r).eq e).dropped = (s.eq e).dropped ∧
    ((s.writeRec e r).eq e).phase = if (s.eq e).tail + 1 = (s.eq e).size then !(s.eq e).phase else (s.eq e).phase := by
  obtain ⟨⟨f, ho⟩, hh, ht⟩ := hq
  obtain ⟨n, t, a, hwf, heq⟩ := writeRec_eq h ho r
  have hlt : ((s.eq e).tail + 1) % (s.eq e).size < (s.eq e).size := Nat.mod_lt _ (by omega)
  rw [heq]
  refine ⟨hwf, ⟨⟨f, ho⟩, hh, hlt⟩, used_of_next hh ht hf rfl rfl rfl, rfl, rfl, rfl, rfl, rfl, ?_⟩
  simp only [EQ.pushed, next_up ht]
  by_cases hr : (s.eq e).tail + 1 = (s.eq e).size
  · rw [if_pos hr, if_pos rfl, if_pos hr]
  · rw [if_neg hr, if_neg (Nat.succ_ne_zero _), if_neg hr]

/-- Freed slots go to the waiting records from the first on; with none left, one may go to the overflow's record. -/
theorem drainEq_waiting (h : s.EqsWf) (hq : (s.eq e).InRing) (n : Nat) :
    ∃ k, k ≤ n ∧ k ≤ (s.eq e).waiting.length ∧ ((s.drainEq e n).eq e).waiting = (s.eq e).waiting.drop k ∧
      (s.eq e).used + k ≤ ((s.drainEq e n).eq e).used ∧ ((s.drainEq e n).eq e).used ≤ (s.eq e).used + k + 1 ∧
      ((s.drainEq e n).eq e).head = (s.eq e).head ∧ ((s.drainEq e n).eq e).size = (s.eq e).size ∧
      ((s.eq e).waiting.length ≤ n → k < (s.eq e).waiting.length → ((s.drainEq e n).eq e).full = true) := by
  induction n generalizing s with
  | zero => exact ⟨0, le_refl _, Nat.zero_le _, rfl, le_refl _, Nat.le_succ _, rfl, rfl, by omega⟩
  | succ n ih =>
    rw [State.drainEq]
    split
    case isTrue hf => exact ⟨0, Nat.zero_le _, Nat.zero_le _, rfl, le_refl _, Nat.le_succ _, rfl, rfl, fun _ _ => hf⟩
    case isFalse hf =>
      rw [Bool.not_eq_true] at hf
      split
      case h_1 r rest hw =>
        have hput := eq_setEq_same s e { s.eq e with waiting := rest } h
        obtain ⟨hwf, hring, hused, hhead, hsize, -, hwait, -⟩ := writeRec_used (s := s.setEq e { s.eq e with waiting := rest })
          (setEq_eqsWf h _ _) (by rw [hput]; exact hq) (by rw [hput]; exact hf) r
        rw [hput] at hused hhead hsize hwait
        obtain ⟨k, hkn, hkl, hdrop, hlo, hhi, hhead', hsize', hfull⟩ := ih hwf hring
        rw [hused] at hlo hhi
        rw [hwait] at hkl hdrop hfull
        rw [hw, List.length_cons]
        exact ⟨k + 1, by omega, by simpa using hkl, by rw [hdrop, List.drop_succ_cons], by rw [← Nat.add_assoc, Nat.add_right_comm]; exact hlo,
          by rw [← Nat.add_assoc _ k, Nat.add_right_comm _ k]; exact hhi, hhead'.trans hhead, hsize'.trans hsize, fun hn hk => hfull (by simpa using hn) (by simpa using hk)⟩
      case h_2 hw =>
        split
        · have hput := eq_setEq_same s e { s.eq e with dropped := 0 } h
          obtain ⟨-, -, hused, hhead, hsize, -, hwait, -⟩ := writeRec_used (s := s.setEq e { s.eq e with dropped := 0 })
            (setEq_eqsWf h _ _) (by rw [hput]; exact hq) (by rw [hput]; exact hf) (s.formRec 0x3F 4 e 0 0 ((s.eq e).dropped * 2 ^ 64))
          rw [hput] at hused hhead hsize hwait
          exact ⟨0, Nat.zero_le _, Nat.zero_le _, hwait, (Nat.le_succ _).trans hused.ge, hused.le, hhead, hsize, by rw [hw]; exact fun _ h => absurd h (by simp)⟩
        · exact ⟨0, Nat.zero_le _, Nat.zero_le _, rfl, le_refl _, Nat.le_succ _, rfl, rfl, by rw [hw]; exact fun _ h => absurd h (by simp)⟩

end

/-- Settles O59: each case of a record due by its branch of `postRec`, and freed slots by induction on the tries. -/
theorem eventQueuesHoldTheirRecords : Obligations.EventQueuesHoldTheirRecords := by
  rintro s e n f r q hwf rfl ho hh ht u w rfl rfl
  have hq : (s.eq e).InRing := ⟨⟨f, ho⟩, hh, ht⟩
  have hown : (s.eq e).owner ≠ .nobody := by rw [ho]; exact nofun
  refine ⟨fun htype hwait => ?_, fun htype hfull => ?_, fun hfull hwait hdrop => ?_, drainEq_waiting hwf hq n⟩
  · rw [State.postRec, if_neg hown, if_pos htype, if_pos hwait.symm]
    exact ⟨eq_setEq_same s e _ hwf, rfl⟩
  · rw [State.postRec, if_neg hown, if_neg (by omega), if_pos (.inl hfull)]
    exact ⟨eq_setEq_same s e _ hwf, rfl, rfl⟩
  · have hpost : s.postRec e r = s.writeRec e r := by
      rw [State.postRec, if_neg hown]
      simp only [hfull, hwait, hdrop, ne_eq, not_true_eq_false, Bool.false_eq_true, gt_iff_lt, lt_self_iff_false, or_self, if_false, ite_self]
    obtain ⟨-, ⟨-, hhead, htail⟩, hused, -, hsize, htail', hwait', -, hphase⟩ := writeRec_used hwf hq hfull r
    have hlt : (s.eq e).used < (s.eq e).size := Nat.mod_lt _ (by omega)
    have hne : ¬ (s.eq e).used + 1 = (s.eq e).size := fun h => by simp [full_iff.mpr h] at hfull
    rw [hpost]
    exact ⟨hused, by omega, htail', hwait'.trans hwait, hphase⟩

end Sys2Proof.Machine
end

section
/-! PROOFS. Reset, start-up and readiness (19 R503 to R516). -/
namespace Sys2Proof.Machine

/-! ## A source of reset appears -/

theorem obj_resetAll_cause (s : State) (cause : Nat) : (s.resetAll cause).obj (okey 0x2100 5) = cause := obj_setObj_same _ _ _ rfl

theorem obj_resetAll_ne (s : State) (cause : Nat) {k : Nat} (hk : k ≠ okey 0x2100 5) : (s.resetAll cause).obj k = objDefault k :=
  obj_setObj_ne _ _ k _ hk

/-- A reset of all domains leaves the rig at its reset values but for the cause, the NV store and what stands outside it. -/
theorem resetAll_resetWith (s : State) (cause : Nat) : ResetWith s (s.resetAll cause) cause := by
  exact ⟨obj_resetAll_cause s cause, fun k hk => obj_resetAll_ne s cause hk, rfl, rfl, rfl, rfl, rfl, rfl, rfl, rfl, rfl, rfl, rfl, rfl, rfl,
    rfl, rfl, rfl, by simp only [State.resetAll, setObj_jtag], by simp only [State.resetAll, setObj_pending]⟩

theorem resetBy_of_running {s : State} (h : s.boot.inReset = false) (cause : Nat) : s.resetBy cause = s.resetAll cause := by
  simp only [State.resetBy, h, Bool.false_eq_true, if_false]

section
variable (t : Nat) {s : State}

theorem exec_rstNAssert_running (hrun : s.boot.inReset = false) (hpin : s.pins.rstN = false) :
    exec (.rstNAssert t) s = .next (State.resetAll { s.at_ t with pins := { s.pins with rstN := true } } 1) :=
  congrArg Host.Outcome.next ((if_neg (ne_true_of_eq_false hpin)).trans (resetBy_of_running (by exact hrun) _))

theorem exec_testNAssert_running (hrun : s.boot.inReset = false) (hpin : s.pins.testN = false) :
    exec (.testNAssert t) s = .next (State.resetAll { s.at_ t with pins := { s.pins with testN := true } } 1) :=
  congrArg Host.Outcome.next ((if_neg (ne_true_of_eq_false hpin)).trans (resetBy_of_running (by exact hrun) _))

theorem exec_pllLoss_running (hrun : s.boot.inReset = false) (hpll : s.boot.pllLost = false) :
    exec (.pllLoss t) s = .next (State.resetAll { s.at_ t with boot := { s.boot with pllLost := true } } 2) :=
  congrArg Host.Outcome.next ((if_neg (ne_true_of_eq_false hpll)).trans (resetBy_of_running (by exact hrun) _))

end

/-- Settles O4: a first assertion is `resetAll` with its source noted, a second changes rig time only. -/
theorem resetSourcesResetEveryDomain : Obligations.ResetSourcesResetEveryDomain := by
  intro t s
  refine ⟨fun hrun hpin => ⟨_, exec_rstNAssert_running t hrun hpin, resetAll_resetWith _ 1, rfl, rfl, rfl⟩,
    fun hrun hpin => ⟨_, exec_testNAssert_running t hrun hpin, resetAll_resetWith _ 1, rfl, rfl, rfl⟩,
    fun hrun hpll => ⟨_, exec_pllLoss_running t hrun hpll, resetAll_resetWith _ 2, rfl, rfl, rfl⟩, fun hpin => ?_, fun hpin => ?_,
    fun hpll => ?_⟩
  · exact congrArg Host.Outcome.next (if_pos hpin)
  · exact congrArg Host.Outcome.next (if_pos hpin)
  · exact congrArg Host.Outcome.next (if_pos hpll)

/-! ## The last source of reset is taken away -/

theorem released_of_free {v : State} (hr : v.boot.inReset = true) (hf : v.resetFree = true) : v.released = v.startUp := by
  rw [State.released, hr, hf]
  rfl

theorem released_of_held {v : State} (hf : v.resetFree = false) : v.released = v := by
  rw [State.released, hf, Bool.and_false]
  rfl

/-- A rig started with the entry `e` of its boot record, before the check of the first image (19 R508). -/
def State.started (v : State) (e : Nat × Nat) : State :=
  (((({ v with now := 0, boot := { v.boot with inReset := false } }).setObj (okey 0x2100 1) 1).setObj (okey 0x2702 1) e.1).showSlot 0).showSlot 1

/-- Start-up by the checks of the two images. -/
theorem startUp_of_entry {v : State} {e : Nat × Nat} (he : v.nv.boot.getLast? = some e) :
    v.startUp = (let w0 := (v.started e).setObj (okey 0x2702 (4 + e.2)) (imageCheck (v.slotBytes e.2))
      let w1 := w0.setObj (okey 0x2702 (4 + (1 - e.2))) (imageCheck (v.slotBytes (1 - e.2)))
      if imageCheck (v.slotBytes e.2) = 1 then w0.runSlot e.2 0
      else if imageCheck (v.slotBytes (1 - e.2)) = 1 then w1.runSlot (1 - e.2) 1 else w1.enterRecovery) := by
  simp only [State.startUp, State.started, he, Option.map_some, Option.getD_some, Option.isNone_some, Bool.false_eq_true, if_false]

theorem showSlot_now (s : State) (i : Nat) : (s.showSlot i).now = s.now := by
  simp only [State.showSlot, apply_ite State.now, setObj_now, ite_self]

theorem showSlot_boot (s : State) (i : Nat) : (s.showSlot i).boot = s.boot := by
  simp only [State.showSlot, apply_ite State.boot, setObj_boot, ite_self]

theorem started_now (v : State) (e : Nat × Nat) : (v.started e).now = 0 := by
  simp only [State.started, showSlot_now, setObj_now]

theorem started_boot (v : State) (e : Nat × Nat) : (v.started e).boot = { v.boot with inReset := false } := by
  simp only [State.started, showSlot_boot, setObj_boot]

theorem started_sound {v : State} (hv : v.Sound) (e : Nat × Nat) : (v.started e).Sound :=
  State.showSlot_sound _ _ (State.showSlot_sound _ _ (State.setObj_sound _ _ _ (State.setObj_sound _ _ _ hv)))

/-- The recovery state shows step 5 and each slot's check (19 R511). -/
theorem enterRecovery_shows {w : State} (hw : w.Sound) {i j : Nat} (hij : i = 0 ∧ j = 1 ∨ i = 1 ∧ j = 0) (c : Nat → Int) :
    let u := (((w.setObj (okey 0x2702 (4 + i)) (c i)).setObj (okey 0x2702 (4 + j)) (c j))).enterRecovery
    u.boot = { w.boot with recovery := true } ∧ u.now = w.now ∧ u.obj (okey 0x2100 3) = 5 ∧ u.obj (okey 0x2702 4) = c 0 ∧
      u.obj (okey 0x2702 5) = c 1 := by
  intro u
  have hi := State.setObj_sound w (okey 0x2702 (4 + i)) (c i) hw
  have hj := State.setObj_sound _ (okey 0x2702 (4 + j)) (c j) hi
  refine ⟨rfl, rfl, obj_setObj_same _ _ _ (objs_wf_of_sound hj), ?_, ?_⟩
  all_goals rcases hij with ⟨rfl, rfl⟩ | ⟨rfl, rfl⟩
  · exact (obj_setObj_ne _ _ _ _ (by decide)).trans ((obj_setObj_ne _ _ _ _ (by decide)).trans (obj_setObj_same _ _ _ (objs_wf_of_sound hw)))
  · exact (obj_setObj_ne _ _ _ _ (by decide)).trans (obj_setObj_same _ _ _ (objs_wf_of_sound hi))
  · exact (obj_setObj_ne _ _ _ _ (by decide)).trans (obj_setObj_same _ _ _ (objs_wf_of_sound hi))
  · exact (obj_setObj_ne _ _ _ _ (by decide)).trans ((obj_setObj_ne _ _ _ _ (by decide)).trans (obj_setObj_same _ _ _ (objs_wf_of_sound hw)))

theorem exec_rstNRelease {t : Nat} {s : State} (h : s.pins.rstN = true) :
    exec (.rstNRelease t) s = .next (State.released { s.at_ t with pins := { s.pins with rstN := false } }) :=
  congrArg Host.Outcome.next (if_pos h)

theorem exec_testNRelease {t : Nat} {s : State} (h : s.pins.testN = true) :
    exec (.testNRelease t) s = .next (State.released { s.at_ t with pins := { s.pins with testN := false } }) :=
  congrArg Host.Outcome.next (if_pos h)

theorem exec_pllLockRegained {t : Nat} {s : State} (h : s.boot.pllLost = true) :
    exec (.pllLockRegained t) s = .next (State.released { s.at_ t with boot := { s.boot with pllLost := false } }) :=
  congrArg Host.Outcome.next (if_pos h)

/-- With no image that verifies, start-up ends in the recovery state. -/
theorem startUp_recovers {v : State} {e : Nat × Nat} (hv : v.Sound) (he : v.nv.boot.getLast? = some e) (he01 : e.2 = 0 ∨ e.2 = 1)
    (h0 : imageCheck (v.slotBytes e.2) ≠ 1) (h1 : imageCheck (v.slotBytes (1 - e.2)) ≠ 1) :
    v.startUp.boot.recovery = true ∧ v.startUp.boot.inReset = false ∧ v.startUp.obj (okey 0x2100 3) = 5 ∧
      v.startUp.obj (okey 0x2702 4) = imageCheck (v.slotBytes 0) ∧ v.startUp.obj (okey 0x2702 5) = imageCheck (v.slotBytes 1) ∧
      v.startUp.now = 0 := by
  have hij : e.2 = 0 ∧ 1 - e.2 = 1 ∨ e.2 = 1 ∧ 1 - e.2 = 0 := by omega
  obtain ⟨hboot, hnow, hstep, hc0, hc1⟩ := enterRecovery_shows (started_sound hv e) hij (fun i => imageCheck (v.slotBytes i))
  rw [startUp_of_entry he]
  dsimp only
  rw [if_neg h0, if_neg h1]
  refine ⟨?_, ?_, hstep, hc0, hc1, hnow.trans (started_now v e)⟩
  · rw [hboot]
  · rw [hboot, started_boot]

/-- Settles O5: without another source the rig starts, by the checks of its two images; with one it stays in reset. -/
theorem releaseOfResetStartsTheRig : Obligations.ReleaseOfResetStartsTheRig := by
  intro t s e hreset he he01
  have started {c : Sys2Proof.Instr} {v : State} (hexec : exec c s = .next v.released) (hv : v.boot.inReset = true)
      (hfree : v.resetFree = true) : exec c s = .next v.startUp := by
    rw [hexec, released_of_free hv hfree]
  refine ⟨fun c v hcv => ?_, fun hr ht => ⟨?_, ?_⟩, fun hp hr => ?_⟩
  · have hexec : exec c s = .next v.startUp ∧ v.nv = s.nv ∧ (s.Sound → v.Sound) := by
      rcases hcv with ⟨rfl, hr, ht, hp, rfl⟩ | ⟨rfl, ht, hr, hp, rfl⟩ | ⟨rfl, hp, hr, ht, rfl⟩
      · exact ⟨started (exec_rstNRelease hr) hreset (by simp [State.resetFree, ht, hp]), rfl, id⟩
      · exact ⟨started (exec_testNRelease ht) hreset (by simp [State.resetFree, hr, hp]), rfl, id⟩
      · exact ⟨started (exec_pllLockRegained hp) hreset (by simp [State.resetFree, hr, ht]), rfl, id⟩
    obtain ⟨hexec, hnv, hsound⟩ := hexec
    have hslot (i : Nat) : s.slotBytes i = v.slotBytes i := by rw [State.slotBytes, State.slotBytes, hnv]
    rw [← hnv] at he
    simp only [hslot]
    refine ⟨?_, fun h0 h1 hs => ⟨_, hexec, startUp_recovers (hsound hs) he he01 h0 h1⟩⟩
    rw [hexec, startUp_of_entry he]
    rfl
  · rw [exec_rstNRelease hr, released_of_held]
    simp [State.resetFree, ht]
  · rw [exec_testNRelease ht, released_of_held]
    simp [State.resetFree, hr]
  · rw [exec_pllLockRegained hp, released_of_held]
    simp [State.resetFree, hr]

/-! ## Fill and readiness -/

theorem showPool_boot (s : State) : s.showPool.boot = s.boot := rfl

theorem showShares_boot (s : State) : s.showShares.boot = s.boot := rfl

theorem givePages_boot (s : State) (e : Nat) : (s.givePages e).boot = s.boot := rfl

@[simp] theorem setShroud_boot (s : State) (x : Sys2Proof.Shroud) (v : Nat) : (s.setShroud x v).boot = s.boot := by
  cases x
  · rfl
  · rfl

/-- After the fill of the channels none is awaited. -/
theorem filled_filling (s : State) (chans : List Nat) : (s.filled chans).boot.filling = false := by
  unfold State.filled
  extract_lets s1 media boot s2 s3 s4
  have h2 : s2.boot.filling = false := rfl
  have h3 : s3.boot = s2.boot := by rw [showPool_boot, showShares_boot, setObj_boot, setObj_boot]
  have h4 : s4.boot.filling = s3.boot.filling := forEach_keeps (·.boot.filling) (fun e a => by rw [givePages_boot]) _ s3
  rw [forEach_keeps (·.boot.filling) (fun x a => by rw [apply_ite State.boot, setShroud_boot, ite_self]), setObj_boot, h4, h3, h2]

/-- Settles O6: each row by the two branches of its meaning. -/
theorem fillAndReadinessEndStartUp : Obligations.FillAndReadinessEndStartUp := by
  intro t chans s
  refine ⟨fun h => ⟨congrArg Host.Outcome.next (if_pos h), filled_filling _ _⟩, fun h => ?_, ?_, fun h => ?_⟩
  · exact congrArg Host.Outcome.next (if_neg (ne_true_of_eq_false h))
  · rintro hstep hholder v rfl
    have hready : exec (.rigReady t) s = .next (match (s.at_ t).becomeReady.field.alHeld with
        | some (r, c) => (s.at_ t).becomeReady.alRequest r c
        | none => (s.at_ t).becomeReady).resumeAll := congrArg Host.Outcome.next (if_pos ⟨hstep, hholder⟩)
    exact ⟨fun h => by rw [hready, h], fun r c h => by rw [hready, h]⟩
  · refine congrArg Host.Outcome.next (if_neg fun hb => ?_)
    obtain ⟨hstep, hholder⟩ := hb
    rcases h with h | h
    · exact h hstep
    · exact absurd (hholder.symm.trans h) (by decide)

end Sys2Proof.Machine
end

section
/-! PROOFS. The JTAG port, the temperature and FURL_N (06 R173, R174; 20 R525, R527). -/
namespace Sys2Proof.Machine

/-! ## JTAG -/

/-- The boundary cells' capture takes one free value each. -/
theorem capture_eq (n : Nat) (s : State) :
    (State.capture n s).1.length = n ∧ (State.capture n s).2 = { s with freeCtr := s.freeCtr + n } := by
  induction n generalizing s with
  | zero => exact ⟨rfl, rfl⟩
  | succ n ih =>
    obtain ⟨hlen, hst⟩ := ih s.takeFree.2
    refine ⟨congrArg Nat.succ hlen, ?_⟩
    change (State.capture n s.takeFree.2).2 = _
    rw [hst]
    simp only [State.takeFree, Nat.add_assoc, Nat.add_comm 1]

/-- A scan of the boundary chain, by the levels captured. -/
theorem scan_eq (s : State) (ir : BitVec 8) (driving : Bool) (bits : List Bool) :
    ∃ l : List Bool, l.length = chainLen ∧ s.scan ir driving bits = { s with
      freeCtr := s.freeCtr + chainLen
      jtag := { ir := ir, chain := (l ++ bits).drop bits.length, update := (l ++ bits).drop bits.length, driving := driving }
      out := .tdo ((l ++ bits).take bits.length) :: s.out } := by
  obtain ⟨hlen, hst⟩ := capture_eq chainLen s
  refine ⟨_, hlen, ?_⟩
  simp only [State.scan, hst, shiftThrough, State.emit]

theorem idcodeBits_length : idcodeBits.length = 32 := by rw [idcodeBits, List.length_map, List.length_range]

theorem idcodeBits_getElem? {i : Nat} (h : i < 32) : idcodeBits[i]? = some ((0x03264A8F : Nat).testBit i) := by
  rw [idcodeBits, List.getElem?_map, List.getElem?_range h]
  rfl

/-- Settles O7: BYPASS and IDCODE shift through their registers, the scans through the chain captured. -/
theorem jtagInstructionsScan : Obligations.JtagInstructionsScan := by
  intro t bits s
  refine ⟨rfl, ⟨(idcodeBits ++ bits).take bits.length, ?_, fun i h32 hi => ?_, fun i h32 hi => ?_, rfl⟩, ?_, ?_⟩
  · rw [List.length_take, List.length_append]
    omega
  · rw [List.getElem?_take_of_lt hi, List.getElem?_append_left (by rw [idcodeBits_length]; exact h32), idcodeBits_getElem? h32]
  · rw [List.getElem?_take_of_lt hi, List.getElem?_append_right (by rw [idcodeBits_length]; exact h32), idcodeBits_length]
  · obtain ⟨l, hl, hscan⟩ := scan_eq (s.at_ t) 0x02 false bits
    exact ⟨l, hl, congrArg Host.Outcome.next hscan⟩
  · obtain ⟨l, hl, hscan⟩ := scan_eq (s.at_ t) 0x00 true bits
    exact ⟨l, hl, congrArg Host.Outcome.next hscan⟩

/-! ## Temperature -/

/-- Readings in range are shown as they are. -/
theorem clampI_of_mem {x lo hi : Int} (hlo : lo ≤ x) (hhi : x ≤ hi) : clampI x lo hi = x := by
  rw [clampI, if_neg (by omega), if_neg (by omega)]

theorem map_clamp_readings {r : List Int} (hlen : r.length = 16) (hr : ∀ x ∈ r, -32768 ≤ x ∧ x ≤ 32767) :
    (List.range 16).map (fun i => clampI (r.getD i 0) (-32768) 32767) = r := by
  refine List.ext_getElem (by rw [List.length_map, List.length_range, hlen]) fun i hi hi' => ?_
  obtain ⟨hlo, hhi⟩ := hr _ (List.getElem_mem hi')
  rw [List.getElem_map, List.getElem_range, List.getD_eq_getElem _ _ hi', clampI_of_mem hlo hhi]

/-- The greatest of a list, found by going through it from a start that is not above it. -/
theorem foldl_max_eq {r : List Int} {a m : Int} (ha : a ≤ m) (hm : m = a ∨ m ∈ r) (hr : ∀ x ∈ r, x ≤ m) : r.foldl max a = m := by
  induction r generalizing a with
  | nil => exact (hm.resolve_right List.not_mem_nil).symm
  | cons x r ih =>
    have hx : x ≤ m := hr x (by simp)
    refine ih (max_le ha hx) ?_ fun y hy => hr y (by simp [hy])
    rcases hm with rfl | hm
    · exact .inl (max_eq_left hx).symm
    · rcases List.mem_cons.mp hm with rfl | hm
      · exact .inl (max_eq_right ha).symm
      · exact .inr hm

theorem thermalSample_of_range {s : State} {r : List Int} {tj : Int} (hlen : r.length = 16) (hr : ∀ x ∈ r, -32768 ≤ x ∧ x ≤ 32767)
    (htj : tj ∈ r) (hmax : ∀ x ∈ r, x ≤ tj) :
    s.thermalSample r = ((forEach (List.range 16) (fun i a => a.setObj (okey 0x2110 (5 + i)) (r.getD i 0))
      (s.setObj (okey 0x2110 1) tj)).thermPin tj).thermalFurl tj := by
  have hhead : r.headD 0 ≤ tj := by
    cases r with
    | nil => cases htj
    | cons x r => exact hmax x (by simp)
  simp only [State.thermalSample, map_clamp_readings hlen hr, foldl_max_eq hhead (.inr htj) hmax]

/-- Settles O8: the sample by its greatest reading, the pin and the furl by their branches. -/
theorem thermalSampleShowsAndFurls : Obligations.ThermalSampleShowsAndFurls := by
  refine ⟨fun t r s hlen hreset hrec hr tj htj hmax => ?_, fun s tj => ⟨fun hhi hpin => ?_, fun hlt hlo hpin => ?_, fun hhi hfurl => ?_,
    fun hlo hlt hfurl => ?_, fun hlo hfurl => ?_⟩⟩
  · exact congrArg Host.Outcome.next ((if_pos ⟨hlen, hreset, hrec⟩).trans (thermalSample_of_range hlen hr htj hmax))
  · exact if_pos ⟨hhi, hpin⟩
  · exact (if_neg (fun h => absurd h.1 (by omega))).trans (if_pos ⟨hlo, hpin⟩)
  · exact if_pos ⟨hhi, hfurl⟩
  · exact (if_neg (fun h => absurd h.1 (by omega))).trans (if_pos ⟨hlt, hfurl⟩)
  · exact (if_neg (fun h => absurd h.1 (by omega))).trans (if_neg (fun h => by simp [hfurl] at h))

/-! ## FURL_N -/

/-- With FURL_N and the thermal furl both ended, masts with demand start or will, and held commands begin. -/
theorem holdEnds_of_released {v : State} (hf : v.pins.furlN = false) (ht : v.pins.thermalFurl = false) :
    v.holdEnds = (forEach (List.range 32) (fun m a =>
      if (a.mast m).st = .present ∧ (a.drive m).demand = true then a.spindleStart m
      else if (a.mast m).st = .furling ∧ (a.drive m).demand = true then a.updDrive m (fun x => { x with startDue := true }) else a)
      v).startFurled := by
  have hbody (m : Nat) (a : State) :
      (if (a.drive m).demand = false then a
        else if (a.mast m).st = .present then a.spindleStart m
        else if (a.mast m).st = .furling then a.updDrive m (fun x => { x with startDue := true }) else a) =
      (if (a.mast m).st = .present ∧ (a.drive m).demand = true then a.spindleStart m
        else if (a.mast m).st = .furling ∧ (a.drive m).demand = true then a.updDrive m (fun x => { x with startDue := true }) else a) := by
    cases hd : (a.drive m).demand with
    | false => simp only [if_true, Bool.false_eq_true, and_false, if_false]
    | true => simp only [Bool.true_eq_false, if_false, and_true]
  simp only [State.holdEnds, hf, ht, Bool.or_false, Bool.false_eq_true, if_false, hbody]

theorem holdEnds_of_thermalFurl {v : State} (ht : v.pins.thermalFurl = true) : v.holdEnds = v := by
  simp only [State.holdEnds, ht, Bool.or_true, if_true]

/-- Settles O9: each row by the branches of its meaning, and the end of a hold by what still holds the masts. -/
theorem furlPinHoldsAndReleasesMasts : Obligations.FurlPinHoldsAndReleasesMasts := by
  intro t s
  have hrelease (h : s.pins.furlN = true) : exec (.furlNRelease t) s =
      .next (State.holdEnds (({ s.at_ t with pins := { s.pins with furlN := false } } : State).setObj (okey 0x2131 1) 0)) :=
    congrArg Host.Outcome.next (if_pos h)
  refine ⟨fun h => if_neg (ne_true_of_eq_false h), fun h => if_pos h, ?_, fun h ht => ?_,
    fun h => congrArg Host.Outcome.next (if_neg (ne_true_of_eq_false h))⟩
  · rintro h ht v rfl
    exact (hrelease h).trans (congrArg Host.Outcome.next (holdEnds_of_released rfl ht))
  · exact (hrelease h).trans (congrArg Host.Outcome.next (holdEnds_of_thermalFurl ht))

end Sys2Proof.Machine
end

section
/-! PROOFS. Actions ordered through the objects of a mast (04 R129, R131; 05 R153; 08 R219). -/
namespace Sys2Proof.Machine

/-! ## Write-only objects -/

/-- Object index:sub is a write-only unsigned value and no retirement record: its write is an action alone (17 R457). -/
def isAction (index sub : Nat) : Bool :=
  (rowOf index sub).any (fun r => !r.ty.signed && decide (r.acc = .wo)) && !retirementKeys.contains (okey index sub)

theorem isAction_row {index sub : Nat} (h : isAction index sub = true) :
    ∃ r, rowAt index sub = some (sub, r) ∧ r.ty.signed = false ∧ r.acc = .wo ∧ retirementKeys.contains (okey index sub) = false := by
  rw [isAction, Bool.and_eq_true, Option.any_eq_true] at h
  obtain ⟨⟨r, hr, hrow⟩, hk⟩ := h
  rw [Bool.and_eq_true, Bool.not_eq_true', decide_eq_true_iff] at hrow
  exact ⟨r, by simp only [rowAt, hr], hrow.1, hrow.2, by simpa using hk⟩

theorem pathPut_mast_isAction {s : State} {p : Sys2Proof.Path} {m ii ss c : Nat} {env : WEnv} (hm : m < 32) (hi : ii < 0x80)
    (h42 : ii ≠ 0x42) (ha : isAction (mIx m ii) ss = true) (ht : s.takes p (mIx m ii) ss c = true) :
    ∃ r, s.pathPut p (mIx m ii) ss c env = s.actMast s m ii { index := mIx m ii, sub := ss, row := r, num := c } := by
  obtain ⟨r, hr, hs, hacc, hk⟩ := isAction_row ha
  exact ⟨r, pathPut_mast_action s p m ii ss c env r hm hi h42 hr hs hacc hk ht⟩

theorem isAction_commit : ∀ m, m < 32 → isAction (mIx m 0x20) 2 = true := by decide +kernel
theorem isAction_trace : ∀ m, m < 32 → isAction (mIx m 0x2E) 2 = true := by decide +kernel
theorem isAction_loopCal : ∀ m, m < 32 → isAction (mIx m 0x35) 1 = true := by decide +kernel
theorem isAction_channelCal : ∀ m, m < 32 → isAction (mIx m 0x45) 1 = true := by decide +kernel

section
variable {s : State} {p : Sys2Proof.Path} {m : Nat} {env : WEnv} (hm : m < 32)
include hm

theorem pathPut_commit {mask : Nat} (ht : s.takes p (mIx m 0x20) 2 mask = true) :
    s.pathPut p (mIx m 0x20) 2 mask env = s.commitBlocks m mask := by
  obtain ⟨r, h⟩ := pathPut_mast_isAction hm (by decide) (by decide) (isAction_commit m hm) ht
  exact h

theorem pathPut_trace {c : Nat} (ht : s.takes p (mIx m 0x2E) 2 c = true) : s.pathPut p (mIx m 0x2E) 2 c env =
    if c = 1 then s.traceArm m else if c = 2 then s.traceStop m else s.traceFire m := by
  obtain ⟨r, h⟩ := pathPut_mast_isAction hm (by decide) (by decide) (isAction_trace m hm) ht
  exact h

theorem pathPut_loopCal {c : Nat} (ht : s.takes p (mIx m 0x35) 1 c = true) :
    s.pathPut p (mIx m 0x35) 1 c env = (s.calStart m .loop c).getD s := by
  obtain ⟨r, h⟩ := pathPut_mast_isAction hm (by decide) (by decide) (isAction_loopCal m hm) ht
  exact h

theorem pathPut_channelCal {c : Nat} (ht : s.takes p (mIx m 0x45) 1 c = true) :
    s.pathPut p (mIx m 0x45) 1 c env = (s.calStart m .channel c).getD s := by
  obtain ⟨r, h⟩ := pathPut_mast_isAction hm (by decide) (by decide) (isAction_channelCal m hm) ht
  exact h

end

/-! ## Calibrations -/

/-- The object by which a kind of calibration is ordered and shows its result. -/
def calIx : CalKind → Nat
  | .loop => 0x35
  | .channel => 0x45

theorem calIx_eq (kind : CalKind) (m : Nat) : (if kind = .loop then mkey m 0x35 2 else mkey m 0x45 2) = mkey m (calIx kind) 2 := by
  cases kind <;> rfl

/-- A write that orders a calibration is taken only where the calibration starts (17 R458). -/
theorem calStart_of_takes {s : State} {p : Sys2Proof.Path} {m : Nat} {kind : CalKind} {c : Nat} (hm : m < 32)
    (ht : s.takes p (mIx m (calIx kind)) 1 c = true) : ∃ w, s.calStart m kind c = some w := by
  have ha : isAction (mIx m (calIx kind)) 1 = true := by
    cases kind
    · exact isAction_loopCal m hm
    · exact isAction_channelCal m hm
  obtain ⟨r, hr, hs, -, -⟩ := isAction_row ha
  obtain ⟨-, -, -, -, -, -, hown⟩ := takes_spec s p _ 1 c 1 r hr hs ht
  cases hc : s.calStart m kind c with
  | some w => exact ⟨w, rfl⟩
  | none =>
    have hix : 0x3000 ≤ mIx m (calIx kind) ∧ mIx m (calIx kind) < 0x4000 := by
      cases kind <;> simp only [mIx, calIx] <;> omega
    have hdiv : (mIx m (calIx kind) - 0x3000) / 0x80 = m := by cases kind <;> simp only [mIx, calIx] <;> omega
    have hmod : (mIx m (calIx kind) - 0x3000) % 0x80 = calIx kind := by cases kind <;> simp only [mIx, calIx] <;> omega
    have hclear : clearOnly (mIx m (calIx kind)) 1 = false := by
      simp only [clearOnly, hix, hmod]
      cases kind <;> rfl
    simp only [State.ownCheck, hclear, hix, hdiv, hmod, State.ownMast, Wr.nat, Int.toNat_natCast] at hown
    cases kind <;> simp [calIx, hc] at hown

/-- What a calibration that starts found: a mast that tracks, with no order and no calibration (05 R153). -/
theorem calStart_requires {s w : State} {m : Nat} {kind : CalKind} {code : Nat} (h : s.calStart m kind code = some w) :
    (s.mast m).st = .tracking ∧ s.moN m 0x30 2 = 0 ∧ (s.opt m).cal = none := by
  by_cases hb : (s.mast m).st ≠ .tracking ∨ s.moN m 0x30 2 ≠ 0 ∨ (s.opt m).cal ≠ none
  · exact absurd ((if_pos hb).symm.trans h) (by simp)
  · simpa only [not_or, not_not] using hb

theorem masts_wf_of_sound {s : State} (h : s.Sound) : tblWf (fun _ => ({} : Mast)) s.masts = true := by
  simp only [State.Sound, State.tables, Bool.and_eq_true] at h
  exact h.2

theorem mast_updMast_same {s : State} {m : Nat} {f : Mast → Mast} (h : s.Sound) : (s.updMast m f).mast m = f (s.mast m) :=
  mast_setMast_same s m _ (masts_wf_of_sound h)

theorem forEach_invariant {α : Type} {P : State → Prop} {f : α → State → State} (hf : ∀ a t, P t → P (f a t)) (l : List α) {s : State}
    (h : P s) : P (forEach l f s) := by
  induction l generalizing s with
  | nil => exact h
  | cons a l ih => exact ih (hf a s h)

/-- A calibration of the kind and code runs on mast m: its record, the order code 5 of M+30:02, its result object at 1 running. -/
structure CalRuns (m : Nat) (kind : CalKind) (code : Nat) (s : State) : Prop where
  sound : s.Sound
  record : ∃ c, (s.opt m).cal = some c ∧ c.kind = kind ∧ c.code = code
  order : s.mo m 0x30 2 = 5
  result : s.mo m (calIx kind) 2 = 1

section
variable {m : Nat} {kind : CalKind} {code : Nat} {s : State}

theorem CalRuns.setObj (h : CalRuns m kind code s) {k : Nat} {v : Int} (h1 : mkey m 0x30 2 ≠ k) (h2 : mkey m (calIx kind) 2 ≠ k) :
    CalRuns m kind code (s.setObj k v) where
  sound := State.setObj_sound _ _ _ h.sound
  record := h.record
  order := (obj_setObj_ne s k _ v h1).trans h.order
  result := (obj_setObj_ne s k _ v h2).trans h.result

/-- A change of the mast that replaces the calibration's record by one of the same kind and code leaves it running. -/
theorem CalRuns.updMast (h : CalRuns m kind code s) {f : Mast → Mast}
    (hf : ∃ c, (f (s.mast m)).opt.cal = some c ∧ c.kind = kind ∧ c.code = code) : CalRuns m kind code (s.updMast m f) where
  sound := State.updMast_sound _ _ _ h.sound
  record := by
    obtain ⟨c, hc, hk⟩ := hf
    exact ⟨c, (congrArg (fun x : Mast => x.opt.cal) (mast_updMast_same h.sound)).trans hc, hk⟩
  order := h.order
  result := h.result

theorem CalRuns.updMast_keeps (h : CalRuns m kind code s) {f : Mast → Mast} (hf : ∀ x, (f x).opt.cal = x.opt.cal) :
    CalRuns m kind code (s.updMast m f) := by
  obtain ⟨c, hc, hk⟩ := h.record
  exact h.updMast ⟨c, (hf _).trans hc, hk⟩

theorem CalRuns.setTarget (h : CalRuns m kind code s) (b : Nat) (v : Int) : CalRuns m kind code (s.setTarget m b v) := by
  unfold State.setTarget State.updServo
  exact h.updMast_keeps fun _ => rfl

theorem CalRuns.setSail (h : CalRuns m kind code s) (k : Nat) (v : SailSt) : CalRuns m kind code (s.setSail m k v) := by
  unfold State.setSail
  exact h.updMast_keeps fun _ => rfl

theorem CalRuns.calSet (h : CalRuns m kind code s) (c search : Nat) (v : Int) : CalRuns m kind code (s.calSet m c search v) := by
  unfold State.calSet
  split
  · exact h.setTarget 1 v
  · exact h.setTarget 5 v
  · split
    · unfold State.updOpt
      exact h.updMast_keeps fun _ => rfl
    · exact h.setTarget 6 v

/-- The first candidate of a loop calibration leaves it running (05 R153). -/
theorem CalRuns.calApply (h : CalRuns m .loop code s) : CalRuns m .loop code (s.calApply m) := by
  obtain ⟨c, hc, hk⟩ := h.record
  unfold State.calApply
  rw [hc]
  dsimp only
  have h0 : CalRuns m .loop code (s.updOpt m (fun x =>
      { x with cal := some { c with since := s.tickNow m, armed := false, acc := 0, n := 0 } })) := h.updMast ⟨_, rfl, hk⟩
  split
  · split
    · exact h0
    · exact h0.calSet _ _ _
  · next hc' => exact absurd (hk.1.symm.trans hc') (by decide)

end

/-- A calibration that fails leaves no record, and its result object reads 3 (05 R153). -/
theorem failCal_ends {m code : Nat} {s : State} (h : CalRuns m .loop code s) :
    ((s.failCal m).opt m).cal = none ∧ (s.failCal m).mo m 0x35 2 = 3 := by
  obtain ⟨c, hc, hkind, -⟩ := h.record
  have hc' : (s.mast m).opt.cal = some c := hc
  have hch : ¬c.kind = .channel := by rw [hkind]; decide
  have hkey : mkey m 0x35 2 ≠ ckey m 5 12 := by simp only [mkey, ckey, okey]; omega
  unfold State.failCal State.failCalFor
  rw [hc']
  dsimp -zeta only
  extract_lets out s1 s2 s3
  have hout : out = mkey m 0x35 2 := if_pos hkind
  have hs1 : s1.Sound := forEach_sound _ _ _ (fun _ _ ht => State.setObj_sound _ _ _ ht) h.sound
  have hs2 : s2.Sound := State.updMast_sound _ _ _ hs1
  have h3 : s3 = s2 := if_neg hch
  have hend : (s2.opt m).cal = none := congrArg (fun x : Mast => x.opt.cal) (mast_updMast_same hs1 : s2.mast m = _)
  rw [h3, hout]
  exact ⟨hend, (obj_count_ne _ _ _ hkey).trans (obj_setObj_same _ _ _ (objs_wf_of_sound (State.setObj_sound _ _ _ hs2)))⟩

/-- A calibration that starts runs, but the clock-offset one without a V1 clock offset, which ends as a fail (05 R153, Table 5.7). -/
theorem calStart_outcome {s w : State} {m : Nat} {kind : CalKind} {code : Nat} (hs : s.Sound) (h : s.calStart m kind code = some w) :
    (kind = .loop ∧ code = 4 ∧ s.maskBit (mkey m 9 0x0A) 0 = false → (w.opt m).cal = none ∧ w.mo m 0x35 2 = 3) ∧
    (¬(kind = .loop ∧ code = 4 ∧ s.maskBit (mkey m 9 0x0A) 0 = false) → CalRuns m kind code w) := by
  obtain ⟨hst, hord, hcal⟩ := calStart_requires h
  have hbusy : ¬((s.mast m).st ≠ .tracking ∨ s.moN m 0x30 2 ≠ 0 ∨ (s.opt m).cal ≠ none) := by
    simp only [hst, hord, hcal, ne_eq, not_true_eq_false, or_self, not_false_eq_true]
  unfold State.calStart at h
  rw [if_neg hbusy] at h
  extract_lets sails out saved skip tgts c s1 s2 s3 at h
  have hout : out = mkey m (calIx kind) 2 := calIx_eq kind m
  have h0 : (s.updOpt m (fun x => { x with cal := some c })).Sound := State.updOpt_sound _ _ _ hs
  have hmast : (s.updOpt m (fun x => { x with cal := some c })).mast m = _ := mast_updMast_same hs
  have h0' := State.setObj_sound _ (mkey m 0x30 2) 5 h0
  have hne : mkey m 0x30 2 ≠ out := by rw [hout]; cases kind <;> simp only [mkey, okey, calIx] <;> omega
  have h1 : CalRuns m kind code s1 := {
    sound := State.setObj_sound _ _ _ h0'
    record := ⟨c, congrArg (fun x : Mast => x.opt.cal) hmast, rfl, rfl⟩
    order := (obj_setObj_ne _ _ _ _ hne).trans (obj_setObj_same _ _ _ (objs_wf_of_sound h0))
    result := by
      have hsame : s1.obj out = 1 := obj_setObj_same _ _ _ (objs_wf_of_sound h0')
      rwa [hout] at hsame }
  have h2 : CalRuns m kind code s2 := by
    by_cases hch : kind = .channel
    · have e : s2 = s1.setMo m 0x45 6 0 := if_pos hch
      rw [e]
      exact h1.setObj (by simp only [mkey, okey]; omega) (by cases kind <;> simp only [mkey, okey, calIx] <;> omega)
    · have e : s2 = s1 := if_neg hch
      rwa [e]
  have h3 : CalRuns m kind code s3 := forEach_invariant (fun k a ha => ha.setSail k _) sails h2
  constructor
  · rintro ⟨rfl, rfl, hbit⟩
    rw [if_pos ⟨rfl, rfl, hbit⟩] at h
    obtain rfl := Option.some.inj h
    exact failCal_ends h3
  · intro hn
    rw [if_neg hn] at h
    obtain rfl := Option.some.inj h
    cases kind
    · exact h3.calApply
    · exact h3

/-- Settles O11: a taken write of a write-only object is its action, and a calibration whose write is taken has its record, its order
and its result object from its start on. -/
theorem mastObjectActions : Obligations.MastObjectActions := by
  rintro t m p s v hm rfl
  refine ⟨fun mask ht => ?_, fun ht => ?_, fun ht => ?_, fun ht => ?_, fun hs u hu => ?_⟩
  · exact congrArg Host.Outcome.next ((if_pos hm).trans (pathPut_commit hm ht))
  · exact congrArg Host.Outcome.next ((if_pos hm).trans (pathPut_trace hm ht))
  · exact congrArg Host.Outcome.next ((if_pos hm).trans (pathPut_trace hm ht))
  · exact congrArg Host.Outcome.next ((if_pos hm).trans (pathPut_trace hm ht))
  have start : ∀ kind code, (s.at_ t).takes p (mIx m (calIx kind)) 1 code = true →
      ∃ w, (s.at_ t).calStart m kind code = some w ∧ (s.at_ t).pathPut p (mIx m (calIx kind)) 1 code {} = w := by
    intro kind code ht
    obtain ⟨w, hw⟩ := calStart_of_takes hm ht
    refine ⟨w, hw, ?_⟩
    cases kind
    · exact (pathPut_loopCal hm ht).trans (congrArg (Option.getD · _) hw)
    · exact (pathPut_channelCal hm ht).trans (congrArg (Option.getD · _) hw)
  have runs : ∀ kind code, (s.at_ t).takes p (mIx m (calIx kind)) 1 code = true →
      ¬(kind = .loop ∧ code = 4 ∧ (s.at_ t).maskBit (mkey m 9 0x0A) 0 = false) →
      u (calIx kind) kind code ((s.at_ t).pathPut p (mIx m (calIx kind)) 1 code {}) := by
    intro kind code ht hn
    obtain ⟨w, hw, hput⟩ := start kind code ht
    obtain ⟨hst, hord, hcal⟩ := calStart_requires hw
    have hr := (calStart_outcome hs hw).2 hn
    rw [hput]
    exact (hu _ _ _ _).2 ⟨hst, hord, hcal, hw, hr.record, hr.order, hr.result⟩
  refine ⟨fun ht => ?_, fun ht => ?_, fun ht => ?_, fun ht hb => ?_, fun ht hb => ?_, fun ht => ?_, fun ht => ?_, fun ht => ?_, fun ht => ?_⟩
  · exact ⟨_, congrArg Host.Outcome.next (if_pos hm), runs .loop 1 ht (by simp)⟩
  · exact ⟨_, congrArg Host.Outcome.next (if_pos hm), runs .loop 2 ht (by simp)⟩
  · exact ⟨_, congrArg Host.Outcome.next (if_pos hm), runs .loop 3 ht (by simp)⟩
  · exact ⟨_, congrArg Host.Outcome.next (if_pos hm), runs .loop 4 ht (by simp [hb])⟩
  · obtain ⟨w, hw, hput⟩ := start .loop 4 ht
    refine ⟨w, congrArg Host.Outcome.next ((if_pos hm).trans hput), ?_⟩
    exact (calStart_outcome hs hw).1 ⟨rfl, rfl, hb⟩
  · exact ⟨_, congrArg Host.Outcome.next (if_pos hm), runs .channel 1 ht (by simp)⟩
  · exact ⟨_, congrArg Host.Outcome.next (if_pos hm), runs .channel 2 ht (by simp)⟩
  · exact ⟨_, congrArg Host.Outcome.next (if_pos hm), runs .channel 3 ht (by simp)⟩
  · exact ⟨_, congrArg Host.Outcome.next (if_pos hm), runs .channel 4 ht (by simp)⟩

end Sys2Proof.Machine
end

section
/-! PROOFS. Actions ordered through the objects of the rig (17 R457, R458; 15 R419, R424; 16 R453; 18 R487, R496, R498). -/
namespace Sys2Proof.Machine

/-- A taken write of a write-only object of the rig is its action. -/
theorem pathPut_rig_isAction {s : State} {p : Sys2Proof.Path} {index ss c : Nat} {env : WEnv} (hi : index < 0x3000)
    (ha : isAction index ss = true) (hn : ¬(index = 0x2541 ∧ ss = 1)) (ht : s.takes p index ss c = true) :
    ∃ r, s.pathPut p index ss c env = s.actRig s env { index := index, sub := ss, row := r, num := c } := by
  obtain ⟨r, hr, hs, hacc, hk⟩ := isAction_row ha
  exact ⟨r, pathPut_rig_action s p index ss c env r hi hr hs hacc hk hn ht⟩

theorem isAction_copy : ∀ c, c < 16 → isAction (0x2310 + c) 5 = true := by decide +kernel
theorem isAction_unitRestart : ∀ h, h < 8 → isAction (0x2550 + h) 9 = true := by decide +kernel

/-! ## Actions by object -/

section
variable (old s : State) (env : WEnv) (r : ObjRow)

theorem actRig_copy (c v : Nat) (hc : c < 16) : old.actRig s env { index := 0x2310 + c, sub := 5, row := r, num := v } =
    if v = 1 then (s.copyStart c).1 else s.copyAbort c := by
  unfold State.actRig
  simp (disch := omega) only [if_neg, if_pos, Nat.add_sub_cancel_left]
  rfl

theorem actRig_save (v : Nat) : old.actRig s env { index := 0x1010, sub := 1, row := r, num := v } = s.requestSave env.waiters := by
  unfold State.actRig
  exact if_pos rfl

theorem actRig_defaults (v : Nat) : old.actRig s env { index := 0x1011, sub := 1, row := r, num := v } = s.loadDefaults := by
  unfold State.actRig
  simp (disch := omega) only [if_neg]
  exact if_pos trivial

theorem actRig_update (v : Nat) : old.actRig s env { index := 0x2670, sub := 1, row := r, num := v } = s.updateStart v := by
  unfold State.actRig
  simp (disch := omega) only [if_neg]
  rfl

theorem actRig_pass (v : Nat) : old.actRig s env { index := 0x2600, sub := 5, row := r, num := v } =
    s.plannedPass (otherShroud (shroudOf s.holder)) := by
  unfold State.actRig
  simp (disch := omega) only [if_neg]
  exact if_pos (by decide)

theorem actRig_load (v : Nat) : old.actRig s env { index := 0x2541, sub := 3, row := r, num := v } = s.beginLoad := by
  unfold State.actRig
  simp (disch := omega) only [if_neg]
  exact if_pos (by decide)

theorem act1_rig (w : Wr) (hw : w.index < 0x3000) : old.act1 env w s = old.actRig s env w := by
  unfold State.act1
  simp (disch := omega) only [if_neg]

theorem actRig_clearGroup (v : Nat) : old.actRig s env { index := 0x2650, sub := 1, row := r, num := v } = s.clearGroup v := by
  unfold State.actRig
  simp (disch := omega) only [if_neg]
  rfl

theorem actRig_maintain (v : Nat) : old.actRig s env { index := 0x2410, sub := 5, row := r, num := v } =
    s.maintain v (s.objN (okey 0x2410 6)) (s.objN (okey 0x2410 7)) := by
  unfold State.actRig
  simp (disch := omega) only [if_neg]
  rfl

theorem actRig_unit (h : Nat) (w : Wr) (hh : h < 8) (hw : w.index = 0x2550 + h) : old.actRig s env w = old.actUnit s h w := by
  unfold State.actRig
  simp (disch := omega) only [if_neg, if_pos, hw, Nat.add_sub_cancel_left]

end

/-! ## Writes that are checked here -/

/-- A value passes the checks 1 to 7 of R458 that do not ask for an idle owner. -/
theorem canWrite_ok {s : State} {p : Sys2Proof.Path} {index sub i : Nat} {data : List Byte} {r : ObjRow} {w : Wr}
    (hhead : (rowsAt index).head?.isSome = true) (hrow : rowAt index sub = some (i, r)) (hp : s.pathOk p index r true = true)
    (hro : r.acc ≠ .ro) (hidle : r.acc ≠ .rwi) (hd : decodeValue index i r data = .ok w) (hv : s.valueBad w = none) :
    s.canWrite p index sub data = .ok w := by
  obtain ⟨r0, h0⟩ := Option.isSome_iff_exists.1 hhead
  simp [State.canWrite, h0, hrow, hp, hro, hidle, hd, hv]

/-- A write of one value that passes the checks 1 to 7 and its own check is its application. -/
theorem writeObj_taken {s : State} {p : Sys2Proof.Path} {env : WEnv} {index sub : Nat} {data : List Byte} {w : Wr}
    (hc : s.canWrite p index sub data = .ok w) (ho : s.ownCheck (s.store1 w) w = none) :
    s.writeObj p env index sub false data = (s.applyWrites env [w], none) := by
  simp [State.writeObj, State.writeParts, State.checkWrites, gather, forEach, hc, ho]

/-- The field network and the physical functions reach every object for writing (17 R463). -/
theorem pathOk_of_wide {s : State} {p : Sys2Proof.Path} (hp : p = .fieldNet ∨ ∃ f : Fn, p = .function f ∧ f.fn = 0) (index : Nat)
    (r : ObjRow) : s.pathOk p index r true = true := by
  rcases hp with rfl | ⟨f, rfl, hf⟩
  · rfl
  · exact if_pos hf

/-- The row of the load command, 2541:03 (15 Table 15.9). -/
def loadRow : ObjRow := ⟨.rig, 0x2541, 0x2541, 3, 3, .u8, .wo, .keys, 0, [(1, 1)], 0⟩
/-- The row of a host-owned unit's data, 2550 + h :08 (15 Table 15.10). -/
def feedRow : ObjRow := ⟨.rig, 0x2550, 0x2557, 8, 8, .dom 65568, .wo, .unit, 0, [], 0⟩

theorem unit_not_retirement : ∀ h, h < 8 → retirementKeys.contains (okey (0x2550 + h) 8) = false := by decide +kernel
theorem rowAt_load : rowAt 0x2541 3 = some (3, loadRow) := by decide +kernel
theorem rowsAt_load : (rowsAt 0x2541).head?.isSome = true := by decide +kernel
theorem rowAt_feed : ∀ h, h < 8 → rowAt (0x2550 + h) 8 = some (8, feedRow) ∧ (rowsAt (0x2550 + h)).head?.isSome = true := by
  decide +kernel

/-- The write that orders a load. -/
def loadWrite : Wr := { index := 0x2541, sub := 3, row := loadRow, num := 1 }

theorem ownCheck_load {v : State} (hst : v.store1 loadWrite = v) : v.ownCheck (v.store1 loadWrite) loadWrite =
    match v.loadRefused with
    | some 5 => some .notIdle
    | some _ => some .combo
    | none => none := by
  rw [hst]
  unfold State.ownCheck
  have hclear : clearOnly loadWrite.index loadWrite.sub = false := by decide
  rw [if_neg (fun h => absurd (h.1.symm.trans hclear) (by decide)), if_neg (by decide), if_neg (by decide)]
  unfold State.ownRig
  simp (disch := omega) only [loadWrite, if_neg]
  exact (if_pos trivial).trans (if_pos trivial)

/-- A load that is refused leaves its outcome and is counted (15 R419). -/
theorem writeObj_load {v : State} {p : Sys2Proof.Path} {o : Nat} {e : AccErr} {data : List Byte} (hc : v.canWrite p 0x2541 3 data = .ok loadWrite)
    (ho : v.ownCheck (v.store1 loadWrite) loadWrite = some e) (hl : v.loadRefused = some o) :
    v.writeObj p {} 0x2541 3 false data = ((v.refuseLoad o).countRefused e, some e) := by
  simp [State.writeObj, State.writeParts, State.checkWrites, gather, forEach, hc, ho, hl]

/-- A load that is ordered begins, or is refused with its outcome and counted (15 R419). -/
theorem pathPut_load {v : State} {p : Sys2Proof.Path} (hp : p = .fieldNet ∨ ∃ f : Fn, p = .function f ∧ f.fn = 0)
    (ht : v.pathThere p = true) (hh : v.hasHolder = true) (hr : v.boot.ready = true) :
    v.pathPut p 0x2541 3 1 {} = match v.loadRefused with
      | none => v.beginLoad
      | some 5 => (v.refuseLoad 5).countRefused .notIdle
      | some o => (v.refuseLoad o).countRefused .combo := by
  have hc : v.canWrite p 0x2541 3 (leBytes 1 1) = .ok loadWrite :=
    canWrite_ok rowsAt_load rowAt_load (pathOk_of_wide hp _ _) (by decide) (by decide) rfl rfl
  have hput : v.pathPut p 0x2541 3 1 {} = (v.writeObj p {} 0x2541 3 false (leBytes 1 1)).1 := by
    simp only [State.pathPut, rowAt_load, State.pathWrite, ht, hh, hr, loadRow]
    rfl
  rw [hput]
  have hst : v.store1 loadWrite = v := by
    simp only [State.store1]
    exact (if_neg (by decide)).trans (if_pos (by decide))
  have howne := ownCheck_load hst
  cases hl : v.loadRefused with
  | none =>
    rw [hl] at howne
    refine (congrArg Prod.fst (writeObj_taken hc howne)).trans ?_
    have hkey : retirementKeys.contains loadWrite.key = false := by decide +kernel
    have hput := applyWrites_action v {} loadWrite rfl hkey (by decide) (trimIndex_rig _ (.inl (by decide)))
    have hact : v.act1 {} loadWrite v = v.beginLoad := (act1_rig v v {} loadWrite (by decide)).trans (actRig_load v v {} loadRow 1)
    dsimp only
    exact hput.trans hact
  | some o =>
    rw [hl] at howne
    split at howne
    · next ho =>
      obtain rfl := Option.some.inj ho
      exact congrArg Prod.fst (writeObj_load hc howne hl)
    · next n hn ho =>
      obtain rfl := Option.some.inj ho
      refine (congrArg Prod.fst (writeObj_load hc howne hl)).trans ?_
      split
      · next h => exact absurd h (by simp)
      · next h => exact absurd (Option.some.inj h) hn
      · next h => rw [Option.some.inj h]
    · next ho => exact absurd ho (by simp)

/-- Bytes fed to a host-owned unit go into it (15 R424). -/
theorem writeObj_feed {v : State} {p : Sys2Proof.Path} (hp : p = .fieldNet ∨ ∃ f : Fn, p = .function f ∧ f.fn = 0) {h : Nat} {b : List Byte}
    (hh : h < 8) (hb : b ≠ []) (hlen : b.length ≤ 65568) :
    v.writeObj p {} (0x2550 + h) 8 false b = (v.setUnit h ((v.unit h).feed b), none) := by
  obtain ⟨hrow, hhead⟩ := rowAt_feed h hh
  have hc : v.canWrite p (0x2550 + h) 8 b = .ok { index := 0x2550 + h, sub := 8, row := feedRow, bytes := b } := by
    refine canWrite_ok hhead hrow (pathOk_of_wide hp _ _) (by decide) (by decide) ?_ ?_
    · have hn : ¬feedRow.ty.bytes < b.length := not_lt.2 hlen
      simp only [decodeValue, if_neg hn]
      rfl
    · simp (disch := omega) only [State.valueBad, if_neg]
  refine (writeObj_taken hc ?_).trans (congrArg (Prod.mk · none) ?_)
  · have hclear : clearOnly (0x2550 + h) 8 = false := by
      simp (disch := omega) only [clearOnly, if_neg, decide_eq_false, Bool.or_self]
    unfold State.ownCheck
    dsimp only
    rw [if_neg (fun hx => absurd (hx.1.symm.trans hclear) (by decide)), if_neg (by omega), if_neg (by omega)]
    unfold State.ownRig
    simp (disch := omega) only [if_neg]
    exact (if_pos (by omega)).trans ((if_pos trivial).trans (if_neg (by simp [hb])))
  · have hlt : 0x2550 + h < 0x3000 := by omega
    have hne : 0x2550 + h ≠ 0x2541 := by omega
    have hput := applyWrites_action v {} { index := 0x2550 + h, sub := 8, row := feedRow, bytes := b } rfl (unit_not_retirement h hh)
      (fun hx => hne hx.1) (trimIndex_rig _ (.inl hlt))
    have hact := act1_rig v v {} { index := 0x2550 + h, sub := 8, row := feedRow, bytes := b } hlt
    exact hput.trans (hact.trans (actRig_unit v v {} h _ hh rfl))

/-- Settles O12: each action is its row's, by the object's own entry. -/
theorem rigObjectActions : Obligations.RigObjectActions := by
  rintro t p s v rfl
  have act : ∀ {v : State} {index ss c : Nat}, index < 0x3000 → isAction index ss = true → ¬(index = 0x2541 ∧ ss = 1) →
      v.takes p index ss c = true →
      ∃ r, v.pathPut p index ss c {} = v.actRig v {} { index := index, sub := ss, row := r, num := c } :=
    fun hi ha hn ht => pathPut_rig_isAction hi ha hn ht
  refine ⟨fun c hc ht => ?_, fun c hc ht => ?_, fun hp hth hh hr => congrArg Host.Outcome.next (pathPut_load hp hth hh hr),
    fun h hh ht => ?_, fun ht => ?_, fun ht => ?_, fun ht => ?_, fun x ht => ?_, fun x ht => ?_, fun x ht => ?_, fun ht => ?_, fun x ht => ?_,
    fun h b hh hth hhold hr hp hb hlen => ?_, ?_⟩
  · obtain ⟨r, e⟩ := act (by omega) (isAction_copy c hc) (by omega) ht
    exact congrArg Host.Outcome.next ((if_pos hc).trans (e.trans (actRig_copy _ _ _ r c 1 hc)))
  · obtain ⟨r, e⟩ := act (by omega) (isAction_copy c hc) (by omega) ht
    exact congrArg Host.Outcome.next ((if_pos hc).trans (e.trans (actRig_copy _ _ _ r c 2 hc)))
  · obtain ⟨r, e⟩ := act (by omega) (isAction_unitRestart h hh) (by omega) ht
    exact congrArg Host.Outcome.next ((if_pos hh).trans (e.trans (actRig_unit _ _ _ h _ hh rfl)))
  · obtain ⟨r, e⟩ := act (by omega) (by decide +kernel) (by omega) ht
    exact congrArg Host.Outcome.next (e.trans (actRig_maintain _ _ _ r 1))
  · obtain ⟨r, e⟩ := act (by omega) (by decide +kernel) (by omega) ht
    exact congrArg Host.Outcome.next (e.trans (actRig_maintain _ _ _ r 2))
  · obtain ⟨r, e⟩ := act (by omega) (by decide +kernel) (by omega) ht
    exact congrArg Host.Outcome.next (e.trans (actRig_maintain _ _ _ r 3))
  · obtain ⟨r, e⟩ := act (by omega) (by decide +kernel) (by omega) ht
    exact congrArg Host.Outcome.next (e.trans (actRig_save _ _ _ r x))
  · obtain ⟨r, e⟩ := act (by omega) (by decide +kernel) (by omega) ht
    exact congrArg Host.Outcome.next (e.trans (actRig_defaults _ _ _ r x))
  · obtain ⟨r, e⟩ := act (by omega) (by decide +kernel) (by omega) ht
    exact congrArg Host.Outcome.next (e.trans (actRig_clearGroup _ _ _ r x))
  · obtain ⟨r, e⟩ := act (by omega) (by decide +kernel) (by omega) ht
    exact congrArg Host.Outcome.next (e.trans (actRig_pass _ _ _ r 1))
  · obtain ⟨r, e⟩ := act (by omega) (by decide +kernel) (by omega) ht
    exact congrArg Host.Outcome.next (e.trans (actRig_update _ _ _ r x))
  · exact congrArg Host.Outcome.next ((if_pos ⟨hh, hth, hhold, hr⟩).trans (congrArg Prod.fst (writeObj_feed hp hh hb hlen)))
  · rintro high u rfl ht
    obtain ⟨r, e⟩ := act (by omega) (by decide +kernel) (by omega) ht
    exact ⟨fun hk => congrArg Host.Outcome.next (e.trans (if_pos hk)), fun hk => congrArg Host.Outcome.next (e.trans (if_neg hk))⟩

end Sys2Proof.Machine
end

section
/-! PROOFS. Retirement records cleared by a write of their mask (17 R474, 18 R491, R500). -/
namespace Sys2Proof.Machine

/-- No row of the rig's own objects reaches the masts' indices (17 Table 17.1). -/
theorem rigRows_outside : objRows.all (fun r => decide (r.space ≠ .rig ∨ r.iHi < 0x3000 ∨ 0x4000 ≤ r.iLo)) = true := by decide +kernel

/-- Every mast has the rows of mast 0 (00 R12). -/
theorem rowOf_mast {m ii : Nat} (sub : Nat) (hm : m < 32) (hi : ii < 0x80) : rowOf (mIx m ii) sub = rowOf (mIx 0 ii) sub := by
  refine List.find?_congr fun r hr => ?_
  have hrig := of_decide_eq_true (List.all_eq_true.1 rigRows_outside r hr)
  have lo : ∀ k, k < 32 → 0x3000 ≤ mIx k ii ∧ mIx k ii < 0x4000 ∧ (mIx k ii - 0x3000) % 0x80 = ii := by
    intro k hk
    unfold mIx
    omega
  obtain ⟨h1, h2, h3⟩ := lo m hm
  obtain ⟨h1', h2', h3'⟩ := lo 0 (by decide)
  unfold rowMatches
  cases hs : r.space with
  | rig =>
    have hout : r.iHi < 0x3000 ∨ 0x4000 ≤ r.iLo := by simpa [hs] using hrig
    have e : ∀ i, 0x3000 ≤ i → i < 0x4000 → (decide (r.iLo ≤ i) && decide (i ≤ r.iHi)) = false := by
      intro i ha hb
      rw [← Bool.decide_and]
      exact decide_eq_false (by omega)
    dsimp only
    rw [e _ h1 h2, e _ h1' h2']
  | mast =>
    dsimp only
    rw [decide_eq_true h1, decide_eq_true h2, decide_eq_true h1', decide_eq_true h2', h3, h3']
  | media =>
    dsimp only
    rw [decide_eq_false (not_le.2 h2), decide_eq_false (not_le.2 h2')]
    simp only [Bool.false_and, Bool.and_false]
  | count =>
    dsimp only
    rw [decide_eq_false (show ¬0x5000 ≤ mIx m ii by omega), decide_eq_false (show ¬0x5000 ≤ mIx 0 ii by omega)]
    simp only [Bool.false_and, Bool.and_false]

/-- Object index:sub is an unsigned value of fixed length under an access code. -/
def isValue (acc : Access) (index sub : Nat) : Bool :=
  (rowOf index sub).any (fun r => r.ty.fixed && !r.ty.signed && decide (r.acc = acc))

theorem isValue_row {acc : Access} {index sub : Nat} (h : isValue acc index sub = true) :
    ∃ r, rowAt index sub = some (sub, r) ∧ r.ty.fixed = true ∧ r.ty.signed = false ∧ r.acc = acc := by
  rw [isValue, Option.any_eq_true] at h
  obtain ⟨r, hr, hrow⟩ := h
  simp only [Bool.and_eq_true, Bool.not_eq_true', decide_eq_true_eq] at hrow
  exact ⟨r, by simp only [rowAt, hr], hrow.1.1, hrow.1.2, hrow.2⟩

theorem isValue_mast {acc : Access} {m ii sub : Nat} (hm : m < 32) (hi : ii < 0x80) (h : isValue acc (mIx 0 ii) sub = true) :
    isValue acc (mIx m ii) sub = true := by
  rwa [isValue, rowOf_mast sub hm hi]

/-- A taken write of a retirement record stores its value, acts, and asks for a save where the value changed. -/
theorem pathPut_retirement {v : State} {p : Sys2Proof.Path} {index sub x : Nat} {env : WEnv} (ha : isValue .rw index sub = true)
    (hk : retirementKeys.contains (okey index sub) = true)
    (hplain : unitParam index sub = false ∧ flagMask index sub = false ∧ ¬(0x2440 ≤ index ∧ index ≤ 0x244F) ∧
      ¬(index = 0x2541 ∧ sub = 1) ∧ index < 0x5000 ∧ trimIndex index = false) (ht : v.takes p index sub x = true) :
    ∃ r, v.pathPut p index sub x env = v.andSave (okey index sub) x
      (v.act1 env { index := index, sub := sub, row := r, num := x } (v.setObj (okey index sub) x)) := by
  obtain ⟨r, hrow, hf, hs, hacc⟩ := isValue_row ha
  obtain ⟨hu, hm, hc, hi, hn, htr⟩ := hplain
  exact ⟨r, (pathPut_takes v p index sub x sub r env hrow hs ht).trans (applyWrites_retirement v env _ hacc hf hu hm hk hc hi hn htr)⟩

/-- The retirement records of the rig that are plain values: their rows and their save (17 R474). -/
def isRigRecord (index sub : Nat) : Bool := isValue .rw index sub && retirementKeys.contains (okey index sub)

theorem isRigRecord_lanes : ∀ q, q < 4 → isRigRecord 0x2301 (5 + q) = true := by decide +kernel

theorem retirement_mast {m : Nat} (hm : m < 32) {k : Nat}
    (hk : k ∈ [mkey m 8 4, mkey m 8 5, mkey m 0x38 8, mkey m 0x58 1, mkey m 0x58 2, mkey m 0x58 3]) : retirementKeys.contains k = true := by
  rw [List.contains_iff_mem, retirementKeys, List.mem_append]
  exact .inr (List.mem_flatMap.2 ⟨m, List.mem_range.2 hm, hk⟩)

/-! ## The action of each record -/

section
variable (old s : State) (env : WEnv) (r : ObjRow) (m x : Nat)

theorem actMast_lanes (sub : Nat) : old.actMast s m 8 { index := mIx m 8, sub := sub, row := r, num := x } =
    s.lanesCleared m (if sub = 4 then clearedBits (old.objN (mkey m 8 sub)) x 7
      else (clearedBits (old.objN (mkey m 8 sub)) x 2).map (· + 8)) := by
  unfold State.actMast
  exact if_pos rfl

theorem actMast_chopper : old.actMast s m 0x38 { index := mIx m 0x38, sub := 8, row := r, num := x } = s := by
  unfold State.actMast
  simp (disch := omega) only [if_neg]

theorem actMast_dataSails : old.actMast s m 0x58 { index := mIx m 0x58, sub := 1, row := r, num := x } =
    forEach (clearedBits (old.objN (mkey m 0x58 1)) x 64) (fun k a => a.forgetFailures .dataSail m k) s := by
  unfold State.actMast
  simp (disch := omega) only [if_neg]
  rfl

theorem actMast_servoSails : old.actMast s m 0x58 { index := mIx m 0x58, sub := 2, row := r, num := x } =
    forEach (clearedBits (old.objN (mkey m 0x58 2)) x 2) (fun k a => a.forgetFailures .servoSail m k) s := by
  unfold State.actMast
  simp (disch := omega) only [if_neg]
  rfl

theorem actMast_sled (h : old.objN (mkey m 0x58 3) = 1) : old.actMast s m 0x58 { index := mIx m 0x58, sub := 3, row := r, num := (0 : Nat) } =
    s.sledCleared m := by
  have hc : clearedBits (old.objN (mkey m 0x58 3)) 0 1 ≠ [] := by rw [h]; decide
  unfold State.actMast
  simp (disch := omega) only [if_neg]
  exact (if_pos trivial).trans (if_pos hc)

end

/-- A taken write of a retirement record of mast m. -/
theorem pathPut_mast_retirement {v : State} {p : Sys2Proof.Path} {m ii sub x : Nat} (hm : m < 32) (hi : ii < 0x80)
    (ha : isValue .rw (mIx 0 ii) sub = true) (hii : ii ≠ 0x20 ∧ ii ≠ 0x42)
    (hk : mkey m ii sub ∈ [mkey m 8 4, mkey m 8 5, mkey m 0x38 8, mkey m 0x58 1, mkey m 0x58 2, mkey m 0x58 3])
    (ht : v.takes p (mIx m ii) sub x = true) :
    ∃ r, v.pathPut p (mIx m ii) sub x {} = v.andSave (mkey m ii sub) x
      (v.actMast (v.setObj (mkey m ii sub) x) m ii { index := mIx m ii, sub := sub, row := r, num := x }) := by
  have hplain : unitParam (mIx m ii) sub = false ∧ flagMask (mIx m ii) sub = false ∧ ¬(0x2440 ≤ mIx m ii ∧ mIx m ii ≤ 0x244F) ∧
      ¬(mIx m ii = 0x2541 ∧ sub = 1) ∧ mIx m ii < 0x5000 ∧ trimIndex (mIx m ii) = false := by
    refine ⟨decide_eq_false ?_, decide_eq_false ?_, ?_, ?_, ?_, trimIndex_mast m ii hi hii.2⟩ <;> simp only [mIx] <;> omega
  obtain ⟨r, e⟩ := pathPut_retirement (env := {}) (isValue_mast hm hi ha) (retirement_mast hm hk) hplain ht
  exact ⟨r, e.trans (congrArg (v.andSave (mkey m ii sub) x) (act1_mast v _ {} _ m ii rfl hm hi))⟩

/-- A taken write of a retirement record of the rig. -/
theorem pathPut_rig_retirement {v : State} {p : Sys2Proof.Path} {index sub x : Nat} (hi : index < 0x2440 ∨ (0x2558 ≤ index ∧ index < 0x3000) ∨ index = 0x2542)
    (ha : isRigRecord index sub = true) (ht : v.takes p index sub x = true) :
    ∃ r, v.pathPut p index sub x {} = v.andSave (okey index sub) x
      (v.actRig (v.setObj (okey index sub) x) {} { index := index, sub := sub, row := r, num := x }) := by
  have hlt : index < 0x3000 := by omega
  have hplain : unitParam index sub = false ∧ flagMask index sub = false ∧ ¬(0x2440 ≤ index ∧ index ≤ 0x244F) ∧
      ¬(index = 0x2541 ∧ sub = 1) ∧ index < 0x5000 ∧ trimIndex index = false := by
    refine ⟨decide_eq_false ?_, decide_eq_false ?_, ?_, ?_, ?_, trimIndex_rig index (.inl hlt)⟩ <;> omega
  rw [isRigRecord, Bool.and_eq_true] at ha
  obtain ⟨r, e⟩ := pathPut_retirement (env := {}) ha.1 ha.2 hplain ht
  exact ⟨r, e.trans (congrArg (v.andSave (okey index sub) x) (act1_rig v _ {} _ hlt))⟩

section
variable (old s : State) (env : WEnv) (r : ObjRow) (x : Nat)

theorem actRig_decoders (sub : Nat) (h : sub = 2 ∨ sub = 3) : old.actRig s env { index := 0x2660, sub := sub, row := r, num := x } =
    s.decodersCleared (if sub = 2 then clearedBits (old.objN (okey 0x2660 sub)) x 64
      else (clearedBits (old.objN (okey 0x2660 sub)) x 64).map (· + 64)) := by
  unfold State.actRig
  rcases h with rfl | rfl
  · simp (disch := omega) only [if_neg]
    exact if_pos (by decide)
  · simp (disch := omega) only [if_neg]
    exact if_pos (by decide)

theorem actRig_gorcyLanes (q : Nat) (hq : q < 4) (h : clearedBits (old.objN (okey 0x2301 (5 + q))) x 2 ≠ []) :
    old.actRig s env { index := 0x2301, sub := 5 + q, row := r, num := x } =
    s.gorcyLanesCleared q (clearedBits (old.objN (okey 0x2301 (5 + q))) x 2) := by
  unfold State.actRig
  simp (disch := omega) only [if_neg, Nat.add_sub_cancel_left]
  exact (if_pos ⟨trivial, by omega, by omega⟩).trans (if_neg h)

theorem actRig_engines : old.actRig s env { index := 0x2542, sub := 2, row := r, num := x } =
    s.enginesCleared (clearedBits (old.objN (okey 0x2542 2)) x 64) := by
  unfold State.actRig
  simp (disch := omega) only [if_neg]
  exact if_pos (by decide)

theorem actRig_channels : old.actRig s env { index := 0x2400, sub := 3, row := r, num := x } =
    s.channelsCleared ((clearedBits (old.objN (okey 0x2400 3)) x 16).foldl (fun a b => a + 2 ^ b) 0) := by
  unfold State.actRig
  simp (disch := omega) only [if_neg]
  exact if_pos (by decide)

theorem actRig_ways : old.actRig s env { index := 0x2410, sub := 2, row := r, num := x } =
    forEach (clearedBits (old.objN (okey 0x2410 2)) x 16) (fun w a => a.forgetFailures .way 0 w) s := by
  unfold State.actRig
  simp (disch := omega) only [if_neg]
  exact if_pos (by decide)

theorem actRig_masts : old.actRig s env { index := 0x2630, sub := 1, row := r, num := x } =
    forEach (clearedBits (old.objN (okey 0x2630 1)) x 32) (fun m a => a.mastCleared m) s := by
  unfold State.actRig
  simp (disch := omega) only [if_neg]
  exact if_pos (by decide)

theorem actRig_endpoints : old.actRig s env { index := 0x2630, sub := 2, row := r, num := x } =
    forEach (clearedBits (old.objN (okey 0x2630 2)) x 2) (fun e a => (a.forgetFailures .endpoint 0 e).epRelease (if e = 0 then .ha else .hb)) s := by
  unfold State.actRig
  simp (disch := omega) only [if_neg]
  exact if_pos (by decide)

theorem actRig_shrouds : old.actRig s env { index := 0x2630, sub := 3, row := r, num := x } =
    forEach (clearedBits (old.objN (okey 0x2630 3)) x 2) (fun y a => (a.forgetFailures .shroud 0 y).setShroud (shroudOf y) 1) s := by
  unfold State.actRig
  simp (disch := omega) only [if_neg]
  exact if_pos (by decide)

end

/-- Settles O13: the record is stored, its object's action returns the cleared units, and the save follows the change. -/
theorem retirementsCleared : Obligations.RetirementsCleared := by
  rintro t m x p s v rfl put gone hput hgone
  obtain rfl : put = fun k => (s.at_ t).setObj k x := funext hput
  obtain rfl : gone = fun k n => clearedBits ((s.at_ t).objN k) x n := funext fun k => funext fun n => hgone k n
  have save : ∀ {k : Nat} {y : Int} {a b : State}, a = b → (s.at_ t).andSave k y a = (s.at_ t).andSave k y b := fun h => congrArg _ h
  refine ⟨fun hm ht => ?_, fun hm ht => ?_, fun hm ht => ?_, fun hm ht => ?_, fun hm ht => ?_, fun hm ht h1 => ?_, fun ht => ?_, fun ht => ?_,
    fun hm ht hne => ?_, fun ht => ?_, fun ht => ?_, fun ht => ?_, fun ht => ?_, fun ht => ?_, fun ht => ?_⟩
  · obtain ⟨r, e⟩ := pathPut_mast_retirement hm (by decide) (by decide +kernel) (by decide) (by simp) ht
    exact congrArg Host.Outcome.next ((if_pos hm).trans (e.trans (save (actMast_lanes _ _ r m x 4))))
  · obtain ⟨r, e⟩ := pathPut_mast_retirement hm (by decide) (by decide +kernel) (by decide) (by simp) ht
    exact congrArg Host.Outcome.next ((if_pos hm).trans (e.trans (save (actMast_lanes _ _ r m x 5))))
  · obtain ⟨r, e⟩ := pathPut_mast_retirement hm (by decide) (by decide +kernel) (by decide) (by simp) ht
    exact congrArg Host.Outcome.next ((if_pos hm).trans (e.trans (save (actMast_chopper _ _ r m 0))))
  · obtain ⟨r, e⟩ := pathPut_mast_retirement hm (by decide) (by decide +kernel) (by decide) (by simp) ht
    exact congrArg Host.Outcome.next ((if_pos hm).trans (e.trans (save (actMast_dataSails _ _ r m x))))
  · obtain ⟨r, e⟩ := pathPut_mast_retirement hm (by decide) (by decide +kernel) (by decide) (by simp) ht
    exact congrArg Host.Outcome.next ((if_pos hm).trans (e.trans (save (actMast_servoSails _ _ r m x))))
  · obtain ⟨r, e⟩ := pathPut_mast_retirement hm (by decide) (by decide +kernel) (by decide) (by simp) ht
    exact congrArg Host.Outcome.next ((if_pos hm).trans (e.trans (save (actMast_sled _ _ r m h1))))
  · obtain ⟨r, e⟩ := pathPut_rig_retirement (by decide) (by decide +kernel) ht
    exact congrArg Host.Outcome.next (e.trans (save (actRig_decoders _ _ _ r x 2 (.inl rfl))))
  · obtain ⟨r, e⟩ := pathPut_rig_retirement (by decide) (by decide +kernel) ht
    exact congrArg Host.Outcome.next (e.trans (save (actRig_decoders _ _ _ r x 3 (.inr rfl))))
  · obtain ⟨r, e⟩ := pathPut_rig_retirement (by decide) (isRigRecord_lanes m hm) ht
    exact congrArg Host.Outcome.next ((if_pos hm).trans (e.trans (save (actRig_gorcyLanes _ _ _ r x m hm hne))))
  · obtain ⟨r, e⟩ := pathPut_rig_retirement (by decide) (by decide +kernel) ht
    exact congrArg Host.Outcome.next (e.trans (save (actRig_engines _ _ _ r x)))
  · obtain ⟨r, e⟩ := pathPut_rig_retirement (by decide) (by decide +kernel) ht
    exact congrArg Host.Outcome.next (e.trans (save (actRig_channels _ _ _ r x)))
  · obtain ⟨r, e⟩ := pathPut_rig_retirement (by decide) (by decide +kernel) ht
    exact congrArg Host.Outcome.next (e.trans (save (actRig_ways _ _ _ r x)))
  · obtain ⟨r, e⟩ := pathPut_rig_retirement (by decide) (by decide +kernel) ht
    exact congrArg Host.Outcome.next (e.trans (save (actRig_endpoints _ _ _ r x)))
  · obtain ⟨r, e⟩ := pathPut_rig_retirement (by decide) (by decide +kernel) ht
    exact congrArg Host.Outcome.next (e.trans (save (actRig_masts _ _ _ r x)))
  · obtain ⟨r, e⟩ := pathPut_rig_retirement (by decide) (by decide +kernel) ht
    exact congrArg Host.Outcome.next (e.trans (save (actRig_shrouds _ _ _ r x)))

end Sys2Proof.Machine
end

section
/-! PROOFS. Flags, owners, assignments, windows, ways, remaps and counters written along a path (17 R457 to R460). -/
namespace Sys2Proof.Machine

/-- The one value of a write that names no RWS object and asks for no save: it is stored and acts (17 R459). -/
theorem applyWrites_single {s : State} {env : WEnv} {w : Wr} (hacc : w.row.acc ≠ .rws) (ht : trimIndex w.index = false)
    (hk : retirementKeys.contains w.key = false ∨ (0x2440 ≤ w.index ∧ w.index ≤ 0x244F)) :
    s.applyWrites env [w] = s.act1 env w (s.store1 w) := by
  have hsave : (retirementKeys.contains w.key && !decide (0x2440 ≤ w.index ∧ w.index ≤ 0x244F)) = false := by
    rcases hk with h | h
    · rw [h, Bool.false_and]
    · rw [decide_eq_true h, Bool.not_true, Bool.and_false]
  simp only [State.applyWrites, forEach, List.foldl_cons, List.foldl_nil, List.any_cons, List.any_nil, List.find?_cons, List.find?_nil, ht,
    hsave, hacc]
  simp

/-- A value of fixed length that is no counter, no unit's parameter and no servo flag is stored as it is (17 R457). -/
theorem store1_value {s : State} {w : Wr} (hacc : w.row.acc ≠ .wo) (hf : w.row.ty.fixed = true) (hi : w.index < 0x5000) (hn : w.index ≠ 0x2541)
    (hu : unitParam w.index w.sub = false) (hm : flagMask w.index w.sub = false) : s.store1 w = s.setObj w.key w.num := by
  have h0 : ¬(0x5000 ≤ w.index ∧ w.index ≤ 0x5431) := by omega
  simp [State.store1, hn, hacc, hu, hm, hf, h0]

/-- Where the retirement records lie: no servo flag, no engine record and no counter is one (17 R474). -/
theorem retirementKeys_outside : ∀ k ∈ retirementKeys, k < 0x4000 * 256 ∧ ¬(0x2500 ≤ k / 256 ∧ k / 256 ≤ 0x253F) ∧
    ¬(0x3000 ≤ k / 256 ∧ (k / 256 - 0x3000) % 0x80 = 0x20) := by decide +kernel

theorem not_retirement {index sub : Nat} (hs : sub < 256) (h : 0x4000 ≤ index ∨ (0x2500 ≤ index ∧ index ≤ 0x253F) ∨
    (0x3000 ≤ index ∧ (index - 0x3000) % 0x80 = 0x20)) : retirementKeys.contains (okey index sub) = false := by
  rw [Bool.eq_false_iff, ne_eq, List.contains_iff_mem]
  intro hk
  obtain ⟨h1, h2, h3⟩ := retirementKeys_outside _ hk
  have e : okey index sub / 256 = index := by unfold okey; omega
  rw [e] at h2 h3
  have e' : index * 256 ≤ okey index sub := by unfold okey; omega
  omega

/-- No row of the rig ends inside the engines' indices (15 Table 15.8). -/
theorem engineRows_whole : objRows.all (fun r => decide (r.space ≠ .rig ∨ (r.iLo ≤ 0x2500 ∧ 0x253F ≤ r.iHi) ∨ r.iHi < 0x2500 ∨ 0x253F < r.iLo)) = true := by
  decide +kernel

/-- Every engine has the rows of engine 0. -/
theorem rowOf_engine {e : Nat} (sub : Nat) (he : e < 64) : rowOf (0x2500 + e) sub = rowOf 0x2500 sub := by
  refine List.find?_congr fun r hr => ?_
  have hrig := of_decide_eq_true (List.all_eq_true.1 engineRows_whole r hr)
  unfold rowMatches
  cases hs : r.space with
  | rig =>
    have hw : (r.iLo ≤ 0x2500 ∧ 0x253F ≤ r.iHi) ∨ r.iHi < 0x2500 ∨ 0x253F < r.iLo := by simpa [hs] using hrig
    dsimp only
    rw [← Bool.decide_and (r.iLo ≤ 0x2500 + e), ← Bool.decide_and (r.iLo ≤ 0x2500)]
    rw [decide_eq_decide.2 (show (r.iLo ≤ 0x2500 + e ∧ 0x2500 + e ≤ r.iHi) ↔ (r.iLo ≤ 0x2500 ∧ 0x2500 ≤ r.iHi) by omega)]
  | mast =>
    dsimp only
    rw [decide_eq_false (show ¬0x3000 ≤ 0x2500 + e by omega)]
    simp
  | media =>
    dsimp only
    rw [decide_eq_false (show ¬0x4000 ≤ 0x2500 + e by omega)]
    simp
  | count =>
    dsimp only
    rw [decide_eq_false (show ¬0x5000 ≤ 0x2500 + e by omega)]
    simp

theorem isValue_owner : ∀ h, h < 8 → (isValue .rw (0x2550 + h) 1 && !retirementKeys.contains (okey (0x2550 + h) 1)) = true := by decide +kernel
theorem isValue_engine {e sub : Nat} (he : e < 64) (h : isValue .rwi 0x2500 sub = true) : isValue .rwi (0x2500 + e) sub = true := by
  rwa [isValue, rowOf_engine sub he]
theorem isValue_remap : ∀ c, c < 16 → isValue .rw (0x2440 + c) 0x11 = true := by decide +kernel

/-! ## The writes -/

/-- A taken write of a value under RW or RWI that asks for no save is its value and its action. -/
theorem pathPut_single {v : State} {p : Sys2Proof.Path} {index sub x : Nat} {env : WEnv} {acc : Access} (ha : isValue acc index sub = true)
    (hacc : acc ≠ .rws) (htr : trimIndex index = false)
    (hk : retirementKeys.contains (okey index sub) = false ∨ (0x2440 ≤ index ∧ index ≤ 0x244F)) (ht : v.takes p index sub x = true) :
    ∃ r, r.acc = acc ∧ r.ty.fixed = true ∧ v.pathPut p index sub x env =
      v.act1 env { index := index, sub := sub, row := r, num := x } (v.store1 { index := index, sub := sub, row := r, num := x }) := by
  obtain ⟨r, hrow, hf, hs, hr⟩ := isValue_row ha
  have hne : r.acc ≠ .rws := by rwa [hr]
  exact ⟨r, hr, hf, (pathPut_takes v p index sub x sub r env hrow hs ht).trans (applyWrites_single hne htr hk)⟩

/-- A taken write of a stored value of the rig is its value, then its action. -/
theorem pathPut_rig_single {v : State} {p : Sys2Proof.Path} {index sub x : Nat} {env : WEnv} {acc : Access} (ha : isValue acc index sub = true)
    (hacc : acc ≠ .rws ∧ acc ≠ .wo) (hi : index < 0x3000) (hn : index ≠ 0x2541) (hu : unitParam index sub = false)
    (hk : retirementKeys.contains (okey index sub) = false ∨ (0x2440 ≤ index ∧ index ≤ 0x244F)) (ht : v.takes p index sub x = true) :
    ∃ r, v.pathPut p index sub x env =
      v.actRig (v.setObj (okey index sub) x) env { index := index, sub := sub, row := r, num := x } := by
  obtain ⟨r, hr, hf, e⟩ := pathPut_single (env := env) ha hacc.1 (trimIndex_rig index (.inl hi)) hk ht
  have hwo : r.acc ≠ .wo := by rw [hr]; exact hacc.2
  have hm : flagMask index sub = false := decide_eq_false (by omega)
  have hst : v.store1 { index := index, sub := sub, row := r, num := x } = v.setObj (okey index sub) x :=
    store1_value hwo hf (Nat.lt_trans hi (by decide)) hn hu hm
  rw [hst] at e
  exact ⟨r, e.trans (act1_rig v _ env _ hi)⟩

/-- A taken write of servo flags clears them (04 R130). -/
theorem pathPut_flags {v : State} {p : Sys2Proof.Path} {m ss x : Nat} (hm : m < 32) (hss : ss = 4 ∨ ss = 5)
    (ht : v.takes p (mIx m 0x20) ss x = true) : v.pathPut p (mIx m 0x20) ss x {} = v.clearFlags m ss x := by
  have h0 : isValue .rw (mIx 0 0x20) ss = true := by rcases hss with rfl | rfl <;> decide +kernel
  have hk : retirementKeys.contains (okey (mIx m 0x20) ss) = false :=
    not_retirement (by omega) (.inr (.inr (by unfold mIx; omega)))
  obtain ⟨r, hr, hf, e⟩ := pathPut_single (env := {}) (isValue_mast hm (by decide) h0) (by decide) (trimIndex_mast m 0x20 (by decide) (by decide)) (.inl hk) ht
  have hst : v.store1 { index := mIx m 0x20, sub := ss, row := r, num := x } = v := by
    have h1 : ¬(mIx m 0x20 = 0x2541 ∧ ss = 1) := by unfold mIx; omega
    have h2 : flagMask (mIx m 0x20) ss = true := decide_eq_true (by unfold mIx; omega)
    exact (if_neg h1).trans (if_pos (.inr (.inr h2)))
  rw [hst] at e
  refine e.trans ((act1_mast v v {} _ m 0x20 rfl hm (by decide)).trans ?_)
  unfold State.actMast
  rw [if_neg (by decide), if_pos rfl]
  exact if_neg (show ¬ss = 2 by omega)

theorem rows_sub_lt : ∀ r ∈ objRows, r.sHi < 256 := by decide +kernel

theorem rowOf_sub_lt {index sub : Nat} {r : ObjRow} (h : rowOf index sub = some r) : sub < 256 := by
  have hm : rowMatches index sub r = true := List.find?_some h
  simp only [rowMatches, Bool.and_eq_true, decide_eq_true_eq] at hm
  exact Nat.lt_of_le_of_lt hm.1.2 (rows_sub_lt r (List.mem_of_find?_eq_some h))

/-- A counter cleared at another instant than its last event reads 0 (00 R30). -/
theorem clearCounter_quiet {v : State} (h : v.countAt ≠ v.now) (k : Nat) : v.clearCounter k = v.setObj k 0 := by
  have hn : v.countedNow k = 0 := if_neg h
  rw [State.clearCounter, hn]
  exact congrArg (v.setObj k) (min_eq_left (counterMax_nonneg k))

/-- A taken write of 0 to a counter clears it, and does nothing else (00 R29). -/
theorem pathPut_counter {v : State} {p : Sys2Proof.Path} {index sub : Nat} {r : ObjRow} (hi : 0x5000 ≤ index ∧ index ≤ 0x5431)
    (hr : rowOf index sub = some r) (hs : r.ty.signed = false) (hacc : r.acc = .rw) (hsub : sub < 256) (ht : v.takes p index sub 0 = true) :
    v.pathPut p index sub 0 {} = v.clearCounter (okey index sub) := by
  have hrow : rowAt index sub = some (sub, r) := by simp only [rowAt, hr]
  have hne : r.acc ≠ .rws := by rw [hacc]; decide
  have hwo : ¬r.acc = .wo := by rw [hacc]; decide
  have hu : ¬unitParam index sub = true := by rw [unitParam, decide_eq_true_eq]; omega
  have hf : ¬flagMask index sub = true := by rw [flagMask, decide_eq_true_eq]; omega
  have hst : v.store1 { index := index, sub := sub, row := r, num := (0 : Nat) } = v.clearCounter (okey index sub) := by
    unfold State.store1
    rw [if_neg (show ¬(index = 0x2541 ∧ sub = 1) by omega), if_neg (show ¬(r.acc = .wo ∨ unitParam index sub = true ∨ flagMask index sub = true) from not_or.2 ⟨hwo, not_or.2 ⟨hu, hf⟩⟩)]
    exact if_pos hi
  have hk : retirementKeys.contains (okey index sub) = false := not_retirement hsub (.inl (by omega))
  have htr : trimIndex index = false := trimIndex_rig index (.inr (by omega))
  have e := (pathPut_takes v p index sub 0 sub r {} hrow hs ht).trans (applyWrites_single hne htr (.inl hk))
  rw [hst] at e
  refine e.trans ?_
  unfold State.act1 State.actRig
  simp (disch := omega) only [if_neg]

theorem actRig_remap (old s : State) (flips : List (Nat × Granule)) (r : ObjRow) (c : Nat) (hc : c < 16) :
    old.actRig s { flips := flips } { index := 0x2440 + c, sub := 0x11, row := r, num := (0 : Nat) } = s.remapCleared c flips := by
  unfold State.actRig
  simp (disch := omega) only [if_neg, Nat.add_sub_cancel_left]
  exact if_pos (by omega)

theorem actRig_engine (old s : State) (env : WEnv) (r : ObjRow) (e sub : Nat) (x : Int) (he : e < 64) (hsub : sub = 2 ∨ sub = 3)
    (hne : old.obj (okey (0x2500 + e) sub) ≠ s.obj (okey (0x2500 + e) sub)) :
    old.actRig s env { index := 0x2500 + e, sub := sub, row := r, num := x } = s.engineChanged e := by
  unfold State.actRig
  simp (disch := omega) only [if_neg, Nat.add_sub_cancel_left]
  exact (if_pos ⟨by omega, by omega, hsub⟩).trans (if_pos (decide_eq_true hne))

/-- A taken write of another assignment or window size changes the engine (15 R417, R421). -/
theorem pathPut_engine {v : State} {p : Sys2Proof.Path} {e sub x : Nat} (he : e < 64) (hsub : sub = 2 ∨ sub = 3) (hs : v.Sound)
    (ht : v.takes p (0x2500 + e) sub x = true) (hne : v.obj (okey (0x2500 + e) sub) ≠ x) :
    v.pathPut p (0x2500 + e) sub x {} = (v.setObj (okey (0x2500 + e) sub) x).engineChanged e := by
  have h0 : isValue .rwi 0x2500 sub = true := by rcases hsub with rfl | rfl <;> decide +kernel
  have hu : unitParam (0x2500 + e) sub = false := decide_eq_false (by omega)
  have hk : retirementKeys.contains (okey (0x2500 + e) sub) = false := not_retirement (by omega) (.inr (.inl (by omega)))
  obtain ⟨r, h⟩ := pathPut_rig_single (env := {}) (isValue_engine he h0) (by decide) (by omega) (by omega) hu (.inl hk) ht
  refine h.trans (actRig_engine _ _ _ r e sub x he hsub ?_)
  rw [obj_setObj_same _ _ _ (objs_wf_of_sound hs)]
  exact hne

/-- A write of an RWS value is not covered by a save from now on (17 R474). -/
def State.noteUncovered (s : State) : State :=
  ({ s with nv := { s.nv with uncovered := some (s.nv.uncovered.getD s.now) } } : State).setObj (okey 0x2700 5) 1

/-- The one value of a write of an RWS object is stored, noted as uncovered, and acts (17 R459, R474). -/
theorem applyWrites_rws {s : State} {env : WEnv} {w : Wr} (hacc : w.row.acc = .rws) (ht : trimIndex w.index = false) (hi : w.index ≠ 0x2001)
    (hk : retirementKeys.contains w.key = false) : s.applyWrites env [w] = s.act1 env w (s.store1 w).noteUncovered := by
  simp only [State.applyWrites, forEach, List.foldl_cons, List.foldl_nil, List.any_cons, List.any_nil, List.find?_cons, List.find?_nil, ht, hk,
    hacc, hi]
  simp [State.noteUncovered]

/-- A taken write of the ways in use is stored and noted as not covered by a save, and drops the lines of the ways beyond (16 R445). -/
theorem pathPut_ways {v : State} {p : Sys2Proof.Path} {x : Nat} (ht : v.takes p 0x2410 1 x = true) :
    v.pathPut p 0x2410 1 x {} = ((v.setObj (okey 0x2410 1) x).noteUncovered).dropWays (fun y => decide (x ≤ y)) := by
  have ha : isValue .rws 0x2410 1 = true := by decide +kernel
  have hk : retirementKeys.contains (okey 0x2410 1) = false := by decide +kernel
  have htr : trimIndex 0x2410 = false := trimIndex_rig _ (.inl (by decide))
  obtain ⟨r, hrow, hf, hs, hacc⟩ := isValue_row ha
  have hwo : r.acc ≠ .wo := by rw [hacc]; decide
  have hst : v.store1 { index := 0x2410, sub := 1, row := r, num := x } = v.setObj (okey 0x2410 1) x :=
    store1_value hwo hf (show 0x2410 < 0x5000 by decide) (show 0x2410 ≠ 0x2541 by decide) rfl rfl
  have e := (pathPut_takes v p 0x2410 1 x 1 r {} hrow hs ht).trans (applyWrites_rws hacc htr (show 0x2410 ≠ 0x2001 by decide) hk)
  rw [hst] at e
  refine e.trans ((act1_rig v _ {} _ (show 0x2410 < 0x3000 by decide)).trans ?_)
  unfold State.actRig
  simp (disch := omega) only [if_neg]
  exact if_pos (by decide)

/-- Settles O14: each value is stored where its object stores it, and its action is its object's. -/
theorem otherObjectWrites : Obligations.OtherObjectWrites := by
  rintro t x p s v rfl
  refine ⟨?_, fun h hh ht hne => ?_, fun e he ht hne hs => ?_, fun e he ht hne hs => ?_, ?_, fun c flips hc ht => ?_, ?_⟩
  · rintro m limit hm ss rfl ht
    exact congrArg Host.Outcome.next ((if_pos hm).trans (pathPut_flags hm (by cases limit <;> decide) ht))
  · have hrow := isValue_owner h hh
    rw [Bool.and_eq_true, Bool.not_eq_true'] at hrow
    obtain ⟨r, e⟩ := pathPut_rig_single (env := {}) hrow.1 (by decide) (by omega) (by omega) (decide_eq_false (by omega)) (.inl hrow.2) ht
    refine congrArg Host.Outcome.next ((if_pos hh).trans (e.trans ((actRig_unit _ _ _ h _ hh rfl).trans ?_)))
    exact if_neg hne
  · exact congrArg Host.Outcome.next ((if_pos he).trans (pathPut_engine he (.inl rfl) hs ht hne))
  · exact congrArg Host.Outcome.next ((if_pos he).trans (pathPut_engine he (.inr rfl) hs ht hne))
  · rintro ht w rfl
    exact congrArg Host.Outcome.next (pathPut_ways ht)
  · have hu : unitParam (0x2440 + c) 0x11 = false := decide_eq_false (by omega)
    obtain ⟨r, e⟩ := pathPut_rig_single (env := { flips := flips }) (isValue_remap c hc) (by decide) (by omega) (by omega) hu (.inr (by omega)) ht
    exact congrArg Host.Outcome.next ((if_pos hc).trans (e.trans (actRig_remap _ _ _ r c hc)))
  · intro index sub r h1 h2 hr hs hacc ht
    have hsub : sub < 256 := rowOf_sub_lt hr
    exact ⟨congrArg Host.Outcome.next ((if_pos ⟨h1, h2⟩).trans (pathPut_counter ⟨h1, h2⟩ hr hs hacc hsub ht)),
      fun hq => clearCounter_quiet hq _⟩

end Sys2Proof.Machine
end

section
/-! PROOFS. The mailbox of the field network: CoE and FoE (17 R459, R464 to R466, R469). -/
namespace Sys2Proof.Machine

/-! ## CoE requests -/

section
variable {v : State} (hon : v.mailboxOn = true) (hrec : v.boot.recovery = false)
include hon hrec

/-- A CoE request that nothing holds is served at once (17 R459). -/
theorem sdo_served (hb : v.field.sdoBusy = false) (hh : v.hasHolder = true) (hr : v.boot.ready = true) (r : SdoReq) :
    v.sdo r = match r.down with
      | none => v.sdoUpload r.index r.sub r.ca
      | some d => v.sdoDownload r.index r.sub r.ca d := by
  unfold State.sdo
  rw [if_neg (by simp [hon]), if_neg (by simp [hrec])]
  refine (if_neg (by simp [hb, hh, hr])).trans ?_
  cases r.down <;> rfl

/-- A CoE request behind a download that waits, without a holder or before rig ready is held (17 R466, 18 R485). -/
theorem sdo_held (h : v.field.sdoBusy = true ∨ v.hasHolder = false ∨ v.boot.ready = false) (r : SdoReq) :
    v.sdo r = { v with field := { v.field with held := v.field.held ++ [r] } } := by
  unfold State.sdo
  rw [if_neg (by simp [hon]), if_neg (by simp [hrec]), if_pos (by simpa [or_assoc] using h)]

theorem sdoInformation_answers (q : SdoInfo) :
    v.sdoInformation q = match sdoInfo q with
      | .ok b => v.reply 0 b
      | .error e => v.reply e.abort [] := by
  unfold State.sdoInformation
  rw [if_neg (by simp [hon])]
  refine (if_neg (by simp [hrec])).trans ?_
  cases sdoInfo q <;> rfl

end

/-- A download is answered at once, but one through 1010 that waits for its save (17 R466). -/
theorem sdoDownload_of_written {v w : State} {i j : Nat} {ca : Bool} {d : List Byte}
    (h : v.writeObj .fieldNet { waiters := [.sdo] } i j ca d = (w, none)) :
    v.sdoDownload i j ca d = if i = 0x1010 then { w with field := { w.field with sdoBusy := true } } else w.reply 0 [] := by
  simp only [State.sdoDownload, h]

theorem sdoDownload_of_refused {v w : State} {i j : Nat} {ca : Bool} {d : List Byte} {e : AccErr}
    (h : v.writeObj .fieldNet { waiters := [.sdo] } i j ca d = (w, some e)) : v.sdoDownload i j ca d = w.reply e.abort [] := by
  simp only [State.sdoDownload, h]

/-- Settles O15: a request is served or held by what the mailbox waits for, and its answer is the access's outcome. -/
theorem mailboxServesObjects : Obligations.MailboxServesObjects := by
  rintro t s v rfl hon hrec
  refine ⟨fun hb hh hr i j ca => ?_, fun hwait i j ca d => ?_, fun q b hq => ?_, fun q e hq => ?_, fun c b hl => ?_⟩
  · have serve := sdo_served hon hrec hb hh hr
    refine ⟨fun b h => ?_, fun e h => ?_, fun d w hi h => ?_, fun d w hi h => ?_, fun d w e h => ?_⟩
    · refine congrArg Host.Outcome.next ((serve ⟨i, j, ca, none⟩).trans ?_)
      simp only [State.sdoUpload, h]
      rfl
    · refine congrArg Host.Outcome.next ((serve ⟨i, j, ca, none⟩).trans ?_)
      simp only [State.sdoUpload, h]
    · exact congrArg Host.Outcome.next ((serve ⟨i, j, ca, some d⟩).trans ((sdoDownload_of_written h).trans (if_neg hi)))
    · exact congrArg Host.Outcome.next ((serve ⟨i, j, ca, some d⟩).trans ((sdoDownload_of_written h).trans (if_pos hi)))
    · exact congrArg Host.Outcome.next ((serve ⟨i, j, ca, some d⟩).trans (sdoDownload_of_refused h))
  · exact ⟨congrArg Host.Outcome.next (sdo_held hon hrec hwait ⟨i, j, ca, none⟩),
      congrArg Host.Outcome.next (sdo_held hon hrec hwait ⟨i, j, ca, some d⟩)⟩
  · exact congrArg Host.Outcome.next ((sdoInformation_answers hon hrec q).trans (by rw [hq]))
  · exact congrArg Host.Outcome.next ((sdoInformation_answers hon hrec q).trans (by rw [hq]))
  · refine congrArg Host.Outcome.next ?_
    rw [hl]
    exact if_pos hon

/-! ## File transfers -/

/-- An FoE error without a rule for its code is answered with a free value. -/
theorem foeRefused_free (v : State) : ∃ x, v.foeRefused = ({ v with freeCtr := v.freeCtr + 1 } : State).reply x [] :=
  ⟨_, rfl⟩

section
variable {v : State} (hon : v.mailboxOn = true)
include hon

theorem foeWrite_of_password {f : FoeFile} {pw : Nat} {b : List Byte} {ok : Bool} (hpw : pw ≠ 0) : v.foeWrite f pw b ok = v.foeRefused := by
  unfold State.foeWrite
  rw [if_neg (by simp [hon]), if_pos hpw]

theorem foeRead_of_password (hrec : v.boot.recovery = false) {f : FoeFile} {pw : Nat} (hpw : pw ≠ 0) : v.foeRead f pw = v.foeRefused := by
  unfold State.foeRead
  rw [if_neg (by simp [hon]), if_neg (by simp [hrec]), if_pos hpw]

theorem foeRead_in_recovery (hrec : v.boot.recovery = true) (f : FoeFile) (pw : Nat) : v.foeRead f pw = v.reply 2 [] := by
  unfold State.foeRead
  rw [if_neg (by simp [hon]), if_pos hrec]

/-- The write of an image slot: refused, ended early, or done (17 R469). -/
theorem foeWrite_slot (i : Fin 2) (b : List Byte) (ok : Bool) : v.foeWrite (.slot i) 0 b ok =
    if !v.boot.recovery && decide (i.val = v.objN (okey 0x2002 2)) then v.reply 0x8002 []
    else if 25165824 < b.length then v.reply 0x8003 []
    else if !ok then v.writeSlot i.val []
    else if v.boot.recovery then (((v.writeSlot i.val b).foeDone []).resetAll 3).startUp else (v.writeSlot i.val b).foeDone [] := by
  unfold State.foeWrite
  rw [if_neg (by simp [hon]), if_neg (by simp)]

/-- The write of the engine image: refused, ended early, or staged (17 R469). -/
theorem foeWrite_engine (hrec : v.boot.recovery = false) (b : List Byte) (ok : Bool) : v.foeWrite .engine 0 b ok =
    if 163117 < b.length then v.reply 0x8003 []
    else if !ok then { v with eng := { v.eng with image := [] } }
    else if b.length < 3397 then v.foeRefused
    else ({ v with eng := { v.eng with image := b } } : State).foeDone [] := by
  unfold State.foeWrite
  rw [if_neg (by simp [hon]), if_neg (by simp)]
  exact if_neg (by simp [hrec])

theorem foeWrite_engine_recovery (hrec : v.boot.recovery = true) (b : List Byte) (ok : Bool) : v.foeWrite .engine 0 b ok = v.reply 2 [] := by
  unfold State.foeWrite
  rw [if_neg (by simp [hon]), if_neg (by simp)]
  exact if_pos hrec

theorem foeWrite_bank (b : List Byte) (ok : Bool) : v.foeWrite .bank 0 b ok = if v.boot.recovery then v.reply 2 [] else v.reply 0x8002 [] := by
  unfold State.foeWrite
  rw [if_neg (by simp [hon]), if_neg (by simp)]

theorem foeWrite_other (b : List Byte) (ok : Bool) : v.foeWrite .other 0 b ok = if v.boot.recovery then v.reply 2 [] else v.reply 0x8001 [] := by
  unfold State.foeWrite
  rw [if_neg (by simp [hon]), if_neg (by simp)]

/-- A read outside recovery answers the file, or its error code (17 R469). -/
theorem foeRead_file (hrec : v.boot.recovery = false) (f : FoeFile) : v.foeRead f 0 = match f with
    | .slot i => v.foeDone (v.slotBytes i.val)
    | .engine => v.reply 0x8002 []
    | .bank => (v.bankInForce.map fun k => v.foeDone k.bytes).getD v.foeRefused
    | .other => v.reply 0x8001 [] := by
  unfold State.foeRead
  rw [if_neg (by simp [hon]), if_neg (by simp [hrec]), if_neg (by simp)]
  cases f with
  | bank => cases v.bankInForce <;> rfl
  | slot | engine | other => rfl

end

theorem foeDone_obj (v : State) (k : Nat) : (v.foeDone []).obj k = (v.count (okey 0x542F 0x0B)).obj k := rfl

/-- A slot just written holds its bytes, and 2701 shows it valid with their length and CRC-32C; the other slot and every unit are as before
(17 R469). -/
theorem writeSlot_done {v : State} (hs : v.Sound) (i : Fin 2) {b : List Byte} (hb : b ≠ []) {u : State}
    (hu : u = (v.writeSlot i.val b).foeDone []) :
    u.slotBytes i.val = b ∧ u.slotBytes (1 - i.val) = v.slotBytes (1 - i.val) ∧
      u.obj (okey 0x2701 (i.val + 1)) = 2 ∧ u.obj (okey 0x2701 (i.val + 3)) = b.length ∧
      u.obj (okey 0x2701 (i.val + 5)) = crc32c b ∧ u.field.lastReply = some (0, []) ∧ u.out = .field 0 [] :: v.out ∧
      u.masts = v.masts ∧ u.host = v.host ∧ u.media = v.media ∧ u.fabric = v.fabric ∧ u.eng = v.eng := by
  let s1 : State := { v with nv := if i.val = 0 then { v.nv with slot0 := b } else { v.nv with slot1 := b } }
  have hs1 : s1.Sound := hs
  have hw : v.writeSlot i.val b = ((s1.setObj (okey 0x2701 (i.val + 1)) 2).setObj (okey 0x2701 (i.val + 3)) b.length).setObj
      (okey 0x2701 (i.val + 5)) (crc32c b) := by
    unfold State.writeSlot
    dsimp only
    rw [if_neg hb, if_neg hb]
    rfl
  have wf : ∀ {w : State} {k : Nat} {x : Int}, w.Sound → (w.setObj k x).obj k = x := fun h => obj_setObj_same _ _ _ (objs_wf_of_sound h)
  have hs2 := State.setObj_sound _ (okey 0x2701 (i.val + 1)) 2 hs1
  have hs3 := State.setObj_sound _ (okey 0x2701 (i.val + 3)) b.length hs2
  have key : ∀ {a c : Nat}, a ≠ c → okey 0x2701 a ≠ okey 0x2701 c := fun h e => h (by unfold okey at e; omega)
  have counted : ∀ j, j < 256 → u.obj (okey 0x2701 j) = (v.writeSlot i.val b).obj (okey 0x2701 j) := by
    intro j hj
    rw [hu, foeDone_obj]
    exact obj_count_ne _ _ _ (by unfold okey; omega)
  have hslots : ∀ j, ((v.writeSlot i.val b).foeDone []).slotBytes j = s1.slotBytes j := fun j => by rw [hw]; rfl
  have hi : i.val = 0 ∨ i.val = 1 := by omega
  rw [hw] at counted
  refine ⟨?_, ?_, ?_, ?_, ?_, ?_, ?_, ?_, ?_, ?_, ?_, ?_⟩
  · rw [hu, hslots]
    rcases hi with h0 | h0 <;> simp only [State.slotBytes, s1, h0] <;> rfl
  · rw [hu, hslots]
    rcases hi with h0 | h0 <;> simp only [State.slotBytes, s1, h0] <;> rfl
  · exact (counted _ (by omega)).trans ((obj_setObj_ne _ _ _ _ (key (by omega))).trans ((obj_setObj_ne _ _ _ _ (key (by omega))).trans (wf hs1)))
  · exact (counted _ (by omega)).trans ((obj_setObj_ne _ _ _ _ (key (by omega))).trans (wf hs2))
  · exact (counted _ (by omega)).trans (wf hs3)
  all_goals rw [hu]; rfl

/-- Settles O16: each row's reply and file are those of its case. -/
theorem filesOverTheFieldNetwork : Obligations.FilesOverTheFieldNetwork := by
  rintro t s v rfl free hfree
  have refused : ∀ {a u : State}, u = a.foeRefused → free a u := fun h => (hfree _ _).2 (h ▸ foeRefused_free _)
  refine ⟨fun hoff f pw b ok => ?_, fun hon => ⟨fun f pw b ok hpw => ?_, fun i b hi => ?_, fun hrec => ⟨fun i b ok hi => ?_, fun b => ?_, fun b ok => ?_,
    fun i => ?_, ?_, ?_, fun k hk => ?_, fun hk => ?_⟩, fun hrec => ⟨fun f pw => ?_, fun f b ok hf => ?_⟩⟩⟩
  · have h : ((!(s.at_ t).mailboxOn) = true) := by rw [hoff]; rfl
    exact ⟨congrArg Host.Outcome.next (if_pos h), congrArg Host.Outcome.next (if_pos h)⟩
  · exact ⟨⟨_, rfl, refused (foeWrite_of_password hon hpw)⟩, fun hrec => ⟨_, rfl, refused (foeRead_of_password hon hrec hpw)⟩⟩
  · have hslot : ¬((!(s.at_ t).boot.recovery && decide (i.val = (s.at_ t).objN (okey 0x2002 2))) = true) := by
      simpa [or_iff_not_imp_left] using hi
    have put : ∀ ok, (s.at_ t).foeWrite (.slot i) 0 b ok = _ := fun ok => (foeWrite_slot hon i b ok).trans (if_neg hslot)
    refine ⟨fun hlen ok => congrArg Host.Outcome.next ((put ok).trans (if_pos hlen)), fun hlen => ?_⟩
    have hshort : ¬25165824 < b.length := not_lt.2 hlen
    refine ⟨congrArg Host.Outcome.next ((put false).trans ((if_neg hshort).trans (if_pos rfl))), fun hrec => ?_, fun hrec hb hs => ?_⟩
    · exact congrArg Host.Outcome.next ((put true).trans ((if_neg hshort).trans ((if_neg (by decide)).trans (if_pos hrec))))
    · exact ⟨_, rfl, writeSlot_done hs i hb ((put true).trans ((if_neg hshort).trans ((if_neg (by decide)).trans (if_neg (ne_true_of_eq_false hrec)))))⟩
  · have hslot : (!(s.at_ t).boot.recovery && decide (i.val = (s.at_ t).objN (okey 0x2002 2))) = true := by rw [hrec, hi]; simp
    exact congrArg Host.Outcome.next ((foeWrite_slot hon i b ok).trans (if_pos hslot))
  · have put : ∀ ok, (s.at_ t).foeWrite .engine 0 b ok = _ := fun ok => foeWrite_engine hon hrec b ok
    refine ⟨fun hlen ok => congrArg Host.Outcome.next ((put ok).trans (if_pos hlen)), fun hlen => ?_, fun hlen => ?_, fun h1 h2 => ?_⟩
    · exact congrArg Host.Outcome.next ((put false).trans ((if_neg (not_lt.2 hlen)).trans (if_pos rfl)))
    · exact ⟨_, rfl, refused ((put true).trans ((if_neg (by omega)).trans ((if_neg (by decide)).trans (if_pos hlen))))⟩
    · exact congrArg Host.Outcome.next ((put true).trans ((if_neg (not_lt.2 h2)).trans ((if_neg (by decide)).trans (if_neg (not_lt.2 h1)))))
  · exact ⟨congrArg Host.Outcome.next ((foeWrite_bank hon b ok).trans (if_neg (ne_true_of_eq_false hrec))),
      congrArg Host.Outcome.next ((foeWrite_other hon b ok).trans (if_neg (ne_true_of_eq_false hrec)))⟩
  · exact congrArg Host.Outcome.next (foeRead_file hon hrec (.slot i))
  · exact congrArg Host.Outcome.next (foeRead_file hon hrec .engine)
  · exact congrArg Host.Outcome.next (foeRead_file hon hrec .other)
  · refine congrArg Host.Outcome.next ((foeRead_file hon hrec .bank).trans ?_)
    rw [hk]
    rfl
  · refine ⟨_, rfl, refused ((foeRead_file hon hrec .bank).trans ?_)⟩
    rw [hk]
    rfl
  · exact congrArg Host.Outcome.next (foeRead_in_recovery hon hrec f pw)
  · rcases hf with rfl | rfl | rfl
    · exact congrArg Host.Outcome.next (foeWrite_engine_recovery hon hrec b ok)
    · exact congrArg Host.Outcome.next ((foeWrite_bank hon b ok).trans (if_pos hrec))
    · exact congrArg Host.Outcome.next ((foeWrite_other hon b ok).trans (if_pos hrec))

end Sys2Proof.Machine
end

section
/-! PROOFS. AL states, the clock and the process image; saves of the parameter bank (17 R464 to R468, R472, R474). -/
namespace Sys2Proof.Machine

/-! ## AL states -/

/-- An AL request that is not held for rig ready is judged at once (19 R511, R515). -/
theorem alRequest_judged {v : State} (hr : v.boot.inReset = false) {r : AlState} (c : AlConfig)
    (h : v.boot.recovery = true ∨ v.boot.wasReady = true ∨ r = .init) :
    v.alRequest r c = ({ v with field := { v.field with alHeld := none } } : State).alTransition r c := by
  have hnot : ¬((!v.boot.recovery && !v.boot.wasReady && decide (r ≠ .init)) = true) := by
    simp only [Bool.and_eq_true, Bool.not_eq_true', decide_eq_true_eq]
    rintro ⟨⟨h1, h2⟩, h3⟩
    rcases h with h | h | h
    · exact absurd (h.symm.trans h1) (by decide)
    · exact absurd (h.symm.trans h2) (by decide)
    · exact h3 h
  unfold State.alRequest
  exact (if_neg (ne_true_of_eq_false hr)).trans (if_neg hnot)

/-- A refused transition answers its AL status code (17 R465). -/
theorem alTransition_of_refused {v : State} {r : AlState} {c : AlConfig} {e : Nat} (h : alRefused v.boot.recovery v.al r c = some e) :
    v.alTransition r c = v.emit (.field e []) := by
  unfold State.alTransition
  rw [h]

/-- The SYNC0 cycle that a configuration brings, where the rig accepts it (17 R465). -/
def acceptedCycle (c : AlConfig) : Nat :=
  match c.dc with
  | some n => if cycleOk n then n else 0
  | none => 0

theorem alTransition_of_taken {v : State} {r : AlState} {c : AlConfig} (h : alRefused v.boot.recovery v.al r c = none) :
    v.alTransition r c = ((({ v with field := { v.field with sm := c.sm, dcSelected := c.dc.isSome } } : State).setObj (okey 0x2121 3)
      (alCode r)).setObj (okey 0x2120 2) (acceptedCycle c)).emit (.field 0 []) := by
  unfold State.alTransition
  rw [h]
  rfl

/-! ## The clock -/

theorem dcState_zero (v : State) : v.dcState 0 =
    let y := if v.byClock then (v.setObj (okey 0x2120 1) 0).setObj (okey 0x2302 6) 0 else v.setObj (okey 0x2120 1) 0
    if v.objN (okey 0x2120 1) = 2 then (y.count (okey 0x542F 9)).condition 0x0007 4 0 0 else y := by
  have h1 : decide ((0 : Nat) ≠ 2) = true := by decide
  unfold State.dcState
  rw [h1, Bool.and_true]
  by_cases h2 : v.objN (okey 0x2120 1) = 2
  · exact (if_pos ⟨h2, by decide⟩).trans (if_pos h2).symm
  · exact (if_neg fun h => h2 h.1).trans (if_neg h2).symm

/-- The clock is judged by its last sixteen differences, then the image is written and rig time steered (17 R468). -/
theorem sync0_accepted {v : State} (hr : v.boot.inReset = false) (hc : cycleOk (v.objN (okey 0x2120 2)) = true) (dc diff : Nat)
    {l : List Nat} (hl : l = (diff :: v.field.diffs).take 16) :
    v.sync0 dc diff = ((({ v with field := { v.field with diffs := l } } : State).dcState
      (if l.length = 16 ∧ ∀ d ∈ l, d ≤ 100 then 2 else 1)).writeImage).clockTheta dc := by
  subst hl
  unfold State.sync0
  rw [if_neg (by simp [hr, hc])]
  simp

/-- Settles O17: a request is judged or held, the clock shows its state, the image is of now. -/
theorem alStatesAndProcessData : Obligations.AlStatesAndProcessData := by
  rintro t s v rfl
  refine ⟨fun r c hr h hn => ?_, fun r c e hr h he => ?_, fun r c hr h1 h2 h3 => ?_, fun dc diff l hr hc hl => ?_, ?_, fun hd hal => ?_, fun p up hp hr => ?_⟩
  · have taken := alTransition_of_taken (v := { s.at_ t with field := { (s.at_ t).field with alHeld := none } }) hn
    refine congrArg Host.Outcome.next ((alRequest_judged hr c h).trans (taken.trans ?_))
    rcases hdc : c.dc with _ | n
    · simp only [acceptedCycle, hdc]
    · by_cases hok : cycleOk n = true <;> simp only [acceptedCycle, hdc, hok] <;> rfl
  · exact congrArg Host.Outcome.next ((alRequest_judged hr c h).trans (alTransition_of_refused (v := { s.at_ t with field := { (s.at_ t).field with alHeld := none } }) he))
  · exact congrArg Host.Outcome.next ((if_neg (ne_true_of_eq_false hr)).trans (if_pos (by rw [h1, h2]; simp [h3])))
  · exact congrArg Host.Outcome.next (sync0_accepted hr hc dc diff hl)
  · rintro x y hx rfl
    refine congrArg Host.Outcome.next ((dcState_zero _).trans ?_)
    have hby : (s.at_ t).byClock = decide ((s.at_ t).objN (okey 0x2302 3) = 2 ∧ (s.at_ t).obj (okey 0x2302 2) = 1 ∧ (s.at_ t).objN (okey 0x2120 1) = 2) := rfl
    have hy : (if ({ s.at_ t with field := { (s.at_ t).field with diffs := [] } } : State).byClock then x.setObj (okey 0x2302 6) 0 else x) =
        if (s.at_ t).objN (okey 0x2302 3) = 2 ∧ (s.at_ t).obj (okey 0x2302 2) = 1 ∧ (s.at_ t).objN (okey 0x2120 1) = 2
          then x.setObj (okey 0x2302 6) 0 else x := if_congr decide_eq_true_iff rfl rfl
    dsimp only
    rw [← hx, hy]
    rfl
  · exact congrArg Host.Outcome.next ((if_neg (ne_true_of_eq_false hd)).trans (if_pos hal))
  · refine congrArg Host.Outcome.next ((if_pos ⟨hp, hr⟩).trans ?_)
    cases up <;> rfl

/-! ## Saves -/

/-- A bank read back good is the valid one (17 R472). -/
theorem saveDone_good {v : State} {x : Save} (h : v.nv.save = some x) : v.saveDone true =
    ((((({ v with nv := { (if x.target = 0 then { v.nv with bankA := some x.bank } else { v.nv with bankB := some x.bank } : NvState) with
      failedAt := none } } : State).setObj (okey 0x2700 1) 0).setObj (okey 0x2700 2) x.target).setObj (okey 0x2700 3) x.bank.seq).saveEnds 0) := by
  unfold State.saveDone
  rw [h]
  rfl

/-- A bank read back bad is written again once, then the save has failed (17 R472). -/
theorem saveDone_bad {v : State} {x : Save} (h : v.nv.save = some x) : v.saveDone false =
    if !x.second then { v with nv := { v.nv with save := some { x with second := true } } }
    else ((((({ v with nv := { v.nv with failedAt := some v.now } } : State).count (okey 0x542F 7)).setObj (okey 0x2700 1) 2).setObj
      (okey 0x2700 5) 1).condition 0x0008 4 0 x.target).saveEnds stMemoryError := by
  unfold State.saveDone
  rw [h]
  rfl

/-- Settles O18: each row's guard decides between its effect and rig time alone. -/
theorem savesOfTheParameterBank : Obligations.SavesOfTheParameterBank := by
  rintro t s v rfl
  refine ⟨fun a ha hle => ?_, fun x hx ht => ?_, fun x hx ht => ?_, fun x hx h2 => ?_, fun x hx h2 => ?_, fun a ha hle hn => ?_⟩
  · refine congrArg Host.Outcome.next ?_
    rw [ha]
    exact if_pos hle
  · refine congrArg Host.Outcome.next ((saveDone_good hx).trans ?_)
    rw [ht]
    rfl
  · refine congrArg Host.Outcome.next ((saveDone_good hx).trans ?_)
    rw [ht]
    rfl
  · exact congrArg Host.Outcome.next ((saveDone_bad hx).trans (if_pos (show (!x.second) = true by rw [h2]; rfl)))
  · exact congrArg Host.Outcome.next ((saveDone_bad hx).trans (if_neg (show ¬((!x.second) = true) by rw [h2]; decide)))
  · refine congrArg Host.Outcome.next ?_
    rw [ha]
    exact if_pos ⟨hle, by rw [hn]; rfl⟩

end Sys2Proof.Machine
end

section
/-! PROOFS. What the sending of records, TLPs and packets leaves unchanged (12 R343 to R347, 14 R378 to R382). -/
namespace Sys2Proof.Machine

/-- A key that the sending of records and packets may change: a counter, or the state of an endpoint's link. -/
def sendKey (k : Nat) : Prop := 0x5000 * 256 ≤ k ∨ k = okey 0x2200 4 ∨ k = okey 0x2201 4

/-- State u follows from s by sending records, TLPs and packets: the host's queues, the fabric, counters and what left the rig may differ,
nothing else. -/
structure State.Sends (s u : State) : Prop where
  now : u.now = s.now
  masts : u.masts = s.masts
  blobs : u.blobs = s.blobs
  media : u.media = s.media
  eng : u.eng = s.eng
  nv : u.nv = s.nv
  field : u.field = s.field
  avail : u.avail = s.avail
  pins : u.pins = s.pins
  jtag : u.jtag = s.jtag
  boot : u.boot = s.boot
  obj : ∀ k, ¬sendKey k → u.obj k = s.obj k

namespace State.Sends

theorem refl (s : State) : s.Sends s := ⟨rfl, rfl, rfl, rfl, rfl, rfl, rfl, rfl, rfl, rfl, rfl, fun _ _ => rfl⟩

theorem trans {a b c : State} (h : a.Sends b) (g : b.Sends c) : a.Sends c :=
  ⟨g.now.trans h.now, g.masts.trans h.masts, g.blobs.trans h.blobs, g.media.trans h.media, g.eng.trans h.eng, g.nv.trans h.nv,
    g.field.trans h.field, g.avail.trans h.avail, g.pins.trans h.pins, g.jtag.trans h.jtag, g.boot.trans h.boot,
    fun k hk => (g.obj k hk).trans (h.obj k hk)⟩

/-- A change of the host's queues, the fabric, the postings and the free values alone. -/
theorem of_parts {s u : State} (hobjs : u.objs = s.objs) (h : (u.now, u.masts, u.blobs, u.media, u.eng, u.nv, u.field, u.avail, u.pins, u.jtag, u.boot) =
    (s.now, s.masts, s.blobs, s.media, s.eng, s.nv, s.field, s.avail, s.pins, s.jtag, s.boot)) : s.Sends u := by
  simp only [Prod.mk.injEq] at h
  obtain ⟨h1, h2, h3, h4, h5, h6, h7, h8, h9, h10, h11⟩ := h
  exact ⟨h1, h2, h3, h4, h5, h6, h7, h8, h9, h10, h11, fun k _ => congrArg (fun l => tblGet objDefault l k) hobjs⟩

theorem setEp (s : State) (e : Sys2Proof.Endpoint) (x : EpState) : s.Sends (s.setEp e x) := by
  cases e <;> exact of_parts rfl rfl
theorem setEq (s : State) (e : Nat) (x : EQ) : s.Sends (s.setEq e x) := of_parts rfl rfl
theorem setFnr (s : State) (f : Fn) (x : FnRegs) : s.Sends (s.setFnr f x) := of_parts rfl rfl
theorem setPort (s : State) (p : Nat) (x : Port) : s.Sends (s.setPort p x) := of_parts rfl rfl
theorem emit (s : State) (x : Emit) : s.Sends (s.emit x) := of_parts rfl rfl

theorem setObj (s : State) {k : Nat} (hk : sendKey k) (v : Int) : s.Sends (s.setObj k v) :=
  ⟨rfl, rfl, rfl, rfl, rfl, rfl, rfl, rfl, rfl, rfl, rfl, fun _ hj => obj_setObj_ne _ _ _ _ fun e => hj (e ▸ hk)⟩

theorem count (s : State) {k : Nat} (hk : 0x5000 * 256 ≤ k) : s.Sends (s.count k) :=
  ⟨rfl, rfl, rfl, rfl, rfl, rfl, rfl, rfl, rfl, rfl, rfl, fun _ hj => obj_count_ne _ _ _ fun e => hj (e ▸ .inl hk)⟩

theorem wakeLink (s : State) (e : Sys2Proof.Endpoint) : s.Sends (s.wakeLink e) := by
  have hk : sendKey (okey (0x2200 + epIx e) 4) := by cases e; exacts [.inr (.inl rfl), .inr (.inr rfl)]
  unfold State.wakeLink
  dsimp only
  split
  · exact refl s
  · exact setObj s hk _

theorem tlp (s : State) (e : Sys2Proof.Endpoint) (x : Emit) : s.Sends (s.tlp e x) := by
  unfold State.tlp
  dsimp only
  split
  · exact setEp s e _
  · split
    · exact refl s
    · exact ((wakeLink s e).trans (setEp _ e _)).trans (emit _ x)

theorem forEach_mem {α : Type} (l : List α) {f : α → State → State} (hf : ∀ a t, State.Sends t (f a t)) (s : State) : s.Sends (forEach l f s) := by
  induction l generalizing s with
  | nil => exact refl s
  | cons a l ih => exact (hf a s).trans (ih (f a s))

theorem ite {s a b : State} {c : Prop} [Decidable c] (ha : s.Sends a) (hb : s.Sends b) : s.Sends (if c then a else b) := by
  split
  · exact ha
  · exact hb

/-! ## Packets of the fabric -/

theorem sendPair (s : State) (p : Nat) (k : BlockKind) : s.Sends (s.sendPair p k) := by
  unfold State.sendPair State.sendBlock
  dsimp only
  split <;> split
  · exact (emit s _).trans (emit _ _)
  · exact emit s _
  · exact emit s _
  · exact refl s

theorem otherPairs (n : Nat) (s : State) (p : Nat) : s.Sends (s.otherPairs p n) := by
  induction n generalizing s with
  | zero => exact refl s
  | succ n ih =>
    unfold State.otherPairs
    dsimp only
    split
    · exact refl s
    · exact ((setPort s p _).trans (sendPair _ p _)).trans (ih _)

theorem streamBlock (s : State) (p : Nat) (b : GorcyBlock) : s.Sends (s.streamBlock p b) := by
  have hsent : s.Sends (match streamLane (s.port p).lane0 (s.port p).lane1 (s.port p).txBlocks with
      | some l => s.sendBlock p l b
      | none => s) := by
    split
    · exact emit s _
    · exact refl s
  unfold State.streamBlock
  dsimp only
  split
  · exact (hsent.trans (setPort _ p _)).trans (otherPairs 2 _ p)
  · exact hsent.trans (setPort _ p _)

theorem emitPacket (s : State) (p : Nat) (h : BitVec 512) (pay : List Byte) : s.Sends (s.emitPacket p h pay) :=
  ((setPort s p _).trans (emit _ _)).trans (forEach_mem _ (fun b a => streamBlock a p b) _)

theorem freeInput (s : State) (h : BitVec 512) (x : Option (Nat × Nat)) : s.Sends (s.freeInput h x) := by
  cases x with
  | none => exact refl s
  | some q => exact setPort s q.1 _

theorem linkSend (s : State) (p : Nat) (x : WaitPkt) : s.Sends (s.linkSend p x) := by
  unfold State.linkSend
  dsimp only
  split
  · exact ((setPort s p _).trans (freeInput _ _ _)).trans (emitPacket _ p _ _)
  · exact setPort s p _

theorem fabricPass (s : State) (d : Nat) (h : BitVec 512) (pay : List Byte) (x : Option (Nat × Nat)) : s.Sends (s.fabricPass d h pay x) := by
  have hcount : s.Sends ((s.count (okey 0x5428 17)).freeInput h x) := (count s (by decide)).trans (freeInput _ h x)
  unfold State.fabricPass
  split
  · exact hcount
  · split
    · exact linkSend s _ _
    · exact hcount

theorem sendPacket (s : State) (type cls dst tsf : Nat) (pay : List Byte) : s.Sends (s.sendPacket type cls dst tsf pay) :=
  (of_parts rfl rfl : s.Sends s.freshXid.2).trans (fabricPass _ _ _ _ _)

theorem sendReply (s : State) (type dst xid tsf : Nat) (pay : List Byte) : s.Sends (s.sendReply type dst xid tsf pay) := fabricPass s _ _ _ _

/-! ## Event records -/

theorem signal (s : State) (e : Nat) : s.Sends (s.signal e) := by
  unfold State.signal
  dsimp only
  split
  · split
    · exact (setEq s e _).trans (setFnr _ _ _)
    · exact (setEq s e _).trans (tlp _ _ _)
  · exact refl s

theorem writeRec (s : State) (e : Nat) (r : EvRec) : s.Sends (s.writeRec e r) := by
  unfold State.writeRec
  dsimp only
  split
  · exact ite (((setEq s e _).trans (tlp _ _ _)).trans (signal _ e)) ((setEq s e _).trans (tlp _ _ _))
  · exact (setEq s e _).trans (sendPacket _ _ _ _ _ _)
  · exact refl s

theorem postRec (s : State) (e : Nat) (r : EvRec) : s.Sends (s.postRec e r) := by
  unfold State.postRec
  dsimp only
  split
  · exact refl s
  · split
    · split
      · exact setEq s e _
      · exact writeRec s e r
    · split
      · exact (setEq s e _).trans (count _ (by decide))
      · exact writeRec s e r

theorem publish (s : State) (bit : Nat) (r : EvRec) : s.Sends (s.publish bit r) := by
  unfold State.publish
  exact forEach_mem _ (fun _ a => postRec a _ r) s

theorem condition (s : State) (code level res arg : Nat) : s.Sends (s.condition code level res arg) := publish s 2 _

theorem conditionTo (s : State) (o : Owner) (code level res arg : Nat) : s.Sends (s.conditionTo o code level res arg) := by
  unfold State.conditionTo
  split
  · exact postRec s _ _
  · exact refl s

theorem fabricEvent (s : State) (addr status : Nat) (arg : Option Nat) : s.Sends (s.fabricEvent addr status arg) :=
  (of_parts rfl rfl : s.Sends s.takeFree.2.takeFree.2).trans (publish _ 3 _)

theorem retiredEvent (s : State) (c : FaultClass) (level res arg : Nat) : s.Sends (s.retiredEvent c level res arg) := publish s 1 _

end State.Sends

end Sys2Proof.Machine
end

section
/-! PROOFS. The command token and the image update (18 R481 to R488, R498, R499). -/
namespace Sys2Proof.Machine

/-! ## Shrouds -/

theorem otherShroud_ne (x : Sys2Proof.Shroud) : shroudKey (otherShroud x) ≠ shroudKey x := by cases x <;> decide

theorem obj_setShroud (s : State) (x : Sys2Proof.Shroud) (v k : Nat) : (s.setShroud x v).obj k = (s.setObj (shroudKey x) v).obj k := by
  unfold State.setShroud
  dsimp only
  split <;> rfl

theorem obj_setShroud_ne (s : State) (x : Sys2Proof.Shroud) (v : Nat) {k : Nat} (h : k ≠ shroudKey x) : (s.setShroud x v).obj k = s.obj k :=
  (obj_setShroud s x v k).trans (obj_setObj_ne s _ k v h)

theorem shroudKey_lt (x : Sys2Proof.Shroud) : shroudKey x = 0x2600 * 256 + 3 ∨ shroudKey x = 0x2600 * 256 + 4 := by cases x <;> decide

theorem shroudKey_not_sendKey (x : Sys2Proof.Shroud) : ¬sendKey (shroudKey x) := by
  have hk := shroudKey_lt x
  unfold sendKey okey
  omega

/-- Objects that a save sets, 2700:01 and 2700:05 (17 Table 17.11). -/
theorem obj_requestSave (s : State) (w : List Waiter) {k : Nat} (h1 : k ≠ okey 0x2700 1) (h5 : k ≠ okey 0x2700 5) :
    (s.requestSave w).obj k = s.obj k := by
  unfold State.requestSave
  split
  · unfold State.beginSave
    exact (obj_setObj_ne _ _ _ _ h5).trans (obj_setObj_ne _ _ _ _ h1)
  · rfl

/-- A failure of a shroud leaves the other one's state (18 R491). -/
theorem obj_failShroud (s : State) (x : Sys2Proof.Shroud) : (s.failShroud x).shroudState (otherShroud x) = s.shroudState (otherShroud x) := by
  have hk := shroudKey_lt (otherShroud x)
  refine congrArg Int.toNat ?_
  unfold State.failShroud
  dsimp only
  split
  · unfold State.retireShroud
    refine (obj_requestSave _ _ (by unfold okey; omega) (by unfold okey; omega)).trans ?_
    refine ((State.Sends.retiredEvent _ _ _ _ _).obj _ (shroudKey_not_sendKey _)).trans ?_
    refine (obj_setObj_ne _ _ _ _ (otherShroud_ne x)).trans ?_
    exact obj_setObj_ne _ _ _ _ (by unfold okey; omega)
  · rfl

/-! ## Failures and passings -/

/-- A shroud's failed self-check, by its state (18 R481, R486, R488). -/
theorem selfCheck_eq (v : State) (x : Sys2Proof.Shroud) {a : State} (ha : a = ((v.setShroud x 1).count (okey 0x5431 (3 + shroudIx x))).failShroud x) :
    v.selfCheck x = if v.shroudState x ≠ 2 ∧ v.shroudState x ≠ 3 then v
      else if v.shroudState x = 2 then a.updateFailure x
      else if v.shroudState (otherShroud x) = 2 then ((a.takeToken (otherShroud x)).passed).updateFailure x
      else a.loseToken.updateFailure x := by
  have hother : a.shroudState (otherShroud x) = v.shroudState (otherShroud x) := by
    have hk := shroudKey_lt (otherShroud x)
    rw [ha, obj_failShroud]
    refine congrArg Int.toNat ?_
    refine (obj_count_ne _ _ _ ?_).trans (obj_setShroud_ne _ _ _ (otherShroud_ne x))
    unfold okey
    omega
  subst ha
  unfold State.selfCheck
  by_cases h : v.shroudState x ≠ 2 ∧ v.shroudState x ≠ 3
  · exact (if_pos h).trans (if_pos h).symm
  · refine (if_neg h).trans ((?_ : _ = _).trans (if_neg h).symm)
    by_cases h2 : v.shroudState x = 2
    · rw [if_pos h2]
      dsimp only
      rw [if_pos (by omega)]
    · rw [if_neg h2]
      dsimp only
      rw [if_neg (by omega), hother]
      split <;> rfl

/-- Settles O19: the failure's cases are those of the shroud's state, and each other row's effect hangs on its guard. -/
theorem tokenPassesOnFailureAndReturn : Obligations.TokenPassesOnFailureAndReturn := by
  rintro t x k s v rfl
  refine ⟨fun a r ha hr => ⟨?_, fun hh hx => ?_⟩, fun hh => ?_, fun a hs => ⟨fun h1 h2 h3 h4 h5 => ?_, fun hn => ?_⟩, fun hs => ?_,
    fun a hs => ⟨fun h1 h2 h3 => ?_, fun hn => ?_⟩, fun hs => ?_⟩
  · exact congrArg Host.Outcome.next ((selfCheck_eq _ x ha).trans hr.symm)
  · exact congrArg Host.Outcome.next ((if_pos hh).trans (hx ▸ (selfCheck_eq _ x ha).trans hr.symm))
  · exact congrArg Host.Outcome.next (if_neg (ne_true_of_eq_false hh))
  · refine congrArg Host.Outcome.next ?_
    rw [hs]
    exact if_pos ⟨h1, h2, h3, h4, h5⟩
  · refine congrArg Host.Outcome.next ?_
    rw [hs]
    refine if_neg ?_
    rintro ⟨h1, h2, h3, h4, h5⟩
    have hle : a + 30000000000 ≤ (s.at_ t).now := h5
    rcases hn with h | h | h | h | h
    · exact h h1
    · exact h h2
    · exact h h3
    · exact h h4
    · omega
  · refine congrArg Host.Outcome.next ?_
    rw [hs]
  · refine congrArg Host.Outcome.next ?_
    rw [hs]
    exact if_pos ⟨h1, h2, h3⟩
  · refine congrArg Host.Outcome.next ?_
    rw [hs]
    refine if_neg ?_
    rintro ⟨h1, h2, h3⟩
    have hle : a + 1000000000 ≤ (s.at_ t).now := h3
    rcases hn with h | h | h
    · exact absurd (h.symm.trans h1) (by decide)
    · exact absurd (h.symm.trans h2) (by decide)
    · omega
  · refine congrArg Host.Outcome.next ?_
    rw [hs]

/-! ## Taking the token -/

/-- What each element of a list establishes, and no later one takes away, holds of all of them after the loop. -/
theorem forEach_establishes {α : Type} {I : State → Prop} {P : α → State → Prop} {f : α → State → State} (hI : ∀ a t, I t → I (f a t))
    (hP : ∀ a t, I t → P a (f a t)) (hkeep : ∀ a b t, I t → P b t → P b (f a t)) {l : List α} {s : State} (hs : I s) :
    ∀ b ∈ l, P b (forEach l f s) := by
  have keeps : ∀ (l : List α) (t : State) (b : α), I t → P b t → P b (forEach l f t) := by
    intro l
    induction l with
    | nil => exact fun _ _ _ h => h
    | cons a l ih => exact fun t b ht h => ih (f a t) b (hI a t ht) (hkeep a b t ht h)
  induction l generalizing s with
  | nil => exact fun b hb => absurd hb List.not_mem_nil
  | cons a l ih =>
    intro b hb
    rcases List.mem_cons.1 hb with rfl | hb
    · exact keeps l _ _ (hI _ s hs) (hP _ s hs)
    · exact ih (hI a s hs) b hb

/-- The state in which a shroud has taken the token, before the yards get their generation (18 R483). -/
def State.tokenTaken (s : State) (x : Sys2Proof.Shroud) (g : Nat) : State :=
  let s1 := ((s.setObj (okey 0x2600 2) g).setObj (okey 0x2600 1) (shroudIx x)).setShroud x 3
  { s1 with avail := { s1.avail with noHolderAt := none, noHolderFurled := false } }

/-- A yard's servo under generation g. -/
def ServoSt.withGen (g : Nat) (z : ServoSt) : ServoSt := { z with gen := g }

theorem takeToken_eq (s : State) (x : Sys2Proof.Shroud) : s.takeToken x =
    forEach (List.range 32) (fun m a => a.updServo m (ServoSt.withGen ((s.tokenG + 1) % 2 ^ 32))) (s.tokenTaken x ((s.tokenG + 1) % 2 ^ 32)) := rfl

theorem servo_updServo_same {t : State} (ht : t.Sound) (m : Nat) (f : ServoSt → ServoSt) : (t.updServo m f).servo m = f (t.servo m) :=
  congrArg (fun y : Mast => y.servo) (mast_updMast_same ht)

theorem servo_updServo_ne (t : State) {m j : Nat} (f : ServoSt → ServoSt) (h : j ≠ m) : (t.updServo m f).servo j = t.servo j :=
  congrArg (fun y : Mast => y.servo) (mast_updMast_ne t m j _ h)

/-- Every yard carries the generation under which the token was taken (18 R484). -/
theorem takeToken_gen {s : State} (hs : s.Sound) (x : Sys2Proof.Shroud) {m : Nat} (hm : m < 32) :
    ((s.takeToken x).servo m).gen = (s.tokenG + 1) % 2 ^ 32 := by
  rw [takeToken_eq]
  refine forEach_establishes (I := State.Sound) (P := fun m t => (t.servo m).gen = (s.tokenG + 1) % 2 ^ 32)
    (fun a t ht => State.updMast_sound _ _ _ ht) (fun a t ht => ?_) (fun a b t ht hb => ?_) ?_ m (List.mem_range.2 hm)
  · exact congrArg ServoSt.gen (servo_updServo_same ht a (ServoSt.withGen ((s.tokenG + 1) % 2 ^ 32)))
  · by_cases hab : b = a
    · subst hab
      exact congrArg ServoSt.gen (servo_updServo_same ht b (ServoSt.withGen ((s.tokenG + 1) % 2 ^ 32)))
    · exact (congrArg ServoSt.gen (servo_updServo_ne t (ServoSt.withGen ((s.tokenG + 1) % 2 ^ 32)) hab)).trans hb
  · exact State.setShroud_sound _ _ _ (State.setObj_sound _ _ _ (State.setObj_sound _ _ _ hs))

/-- What taking the token leaves: the objects of the state before the yards (18 R483). -/
theorem takeToken_frame (s : State) (x : Sys2Proof.Shroud) {β : Type} (p : State → β) (hp : ∀ (m : Nat) (f : Mast → Mast) (t : State), p (t.updMast m f) = p t) :
    p (s.takeToken x) = p (s.tokenTaken x ((s.tokenG + 1) % 2 ^ 32)) := by
  rw [takeToken_eq]
  exact forEach_keeps p (fun m t => hp m _ t) _ _

/-- Settles O20: the objects of the token, and the generation of every yard. -/
theorem takingTheTokenRaisesItsGeneration : Obligations.TakingTheTokenRaisesItsGeneration := by
  rintro s x hs u rfl
  have frame := fun {β : Type} (p : State → β) hp => takeToken_frame s x p hp
  have obj : ∀ k, (s.takeToken x).obj k = (((s.setObj (okey 0x2600 2) ((s.tokenG + 1) % 2 ^ 32 : Nat)).setObj (okey 0x2600 1) (shroudIx x)).setShroud x 3).obj k :=
    fun k => frame (·.obj k) (fun _ _ _ => rfl)
  have h2 := State.setObj_sound _ (okey 0x2600 2) ((s.tokenG + 1) % 2 ^ 32 : Nat) hs
  have h1 := State.setObj_sound _ (okey 0x2600 1) (shroudIx x) h2
  have hx := shroudKey_lt x
  have hy := shroudKey_lt (otherShroud x)
  have k1 : ∀ j, j < 3 → okey 0x2600 j ≠ shroudKey x ∧ okey 0x2600 j ≠ shroudKey (otherShroud x) := by
    intro j hj
    unfold okey
    omega
  refine ⟨?_, ?_, ?_, ?_, ?_, ?_, fun m hm => takeToken_gen hs x hm, ?_, ?_, ?_, ?_, ?_, ?_, ?_⟩
  · have h := (obj _).trans ((obj_setShroud_ne _ _ _ (k1 1 (by decide)).1).trans (obj_setObj_same _ _ _ (objs_wf_of_sound h2)))
    exact (congrArg Int.toNat h).trans (Int.toNat_natCast _)
  · have h := (obj _).trans ((obj_setShroud_ne _ _ _ (k1 2 (by decide)).1).trans
      ((obj_setObj_ne _ _ _ _ (by decide)).trans (obj_setObj_same _ _ _ (objs_wf_of_sound hs))))
    exact (congrArg Int.toNat h).trans (Int.toNat_natCast _)
  · exact congrArg Int.toNat ((obj _).trans ((obj_setShroud _ _ _ _).trans (obj_setObj_same _ _ _ (objs_wf_of_sound h1))))
  · refine congrArg Int.toNat ((obj _).trans ((obj_setShroud_ne _ _ _ (otherShroud_ne x)).trans ?_))
    exact (obj_setObj_ne _ _ _ _ (k1 1 (by decide)).2.symm).trans (obj_setObj_ne _ _ _ _ (k1 2 (by decide)).2.symm)
  · exact frame (·.avail.noHolderAt) (fun _ _ _ => rfl)
  · exact frame (·.avail.noHolderFurled) (fun _ _ _ => rfl)
  · exact (frame (·.host) (fun _ _ _ => rfl)).trans (by cases x <;> rfl)
  · exact (frame (·.media) (fun _ _ _ => rfl)).trans (by cases x <;> rfl)
  · exact (frame (·.fabric) (fun _ _ _ => rfl)).trans (by cases x <;> rfl)
  · exact (frame (·.eng) (fun _ _ _ => rfl)).trans (by cases x <;> rfl)
  · exact (frame (·.nv) (fun _ _ _ => rfl)).trans (by cases x <;> rfl)
  · exact (frame (·.out) (fun _ _ _ => rfl)).trans (by cases x <;> rfl)
  · exact (frame (·.pins) (fun _ _ _ => rfl)).trans (by cases x <;> rfl)

end Sys2Proof.Machine
end

section
/-! PROOFS. Self-tests, steps of the state store and the stages of an image update (18 R482, R486, R488, R498, R499). -/
namespace Sys2Proof.Machine

/-- The self-test of a restarting shroud outside an update (18 R486): standby, failed, or retired after start-up. -/
theorem shroudTested_eq {v : State} {x : Sys2Proof.Shroud} (hx : v.shroudState x = 1) (hu : v.avail.upd = .none) (ok : Bool) :
    v.shroudTested x ok =
      (if ok then v.setShroud x 2 else if v.tokenG = 0 then v.setShroud x 4 else (v.setShroud x 4).retireShroud x).tokenDue := by
  have h1 : ¬(v.shroudState x ≠ 1 ∧ ¬(v.shroudState x = 4 ∧ v.hasHolder = false)) := fun h => h.1 hx
  have h2 : ¬((v.avail.upd = .loadingS ∧ x = v.updS) ∨ (v.avail.upd = .loadingH ∧ x = v.avail.updH)) := by
    rw [hu]
    rintro (⟨h, -⟩ | ⟨h, -⟩) <;> exact absurd h (by decide)
  unfold State.shroudTested
  dsimp only
  rw [if_neg h1, if_neg h2]
  simp only [decide_eq_true_eq]

/-- A number below 2^64 is a value of an unsigned object of 64 bits without Range or reserved bits (17 Table 17.1). -/
theorem decodeValue_u64 {index sub : Nat} {r : ObjRow} (ht : r.ty = .u64) (hr : r.ranges = []) (hm : r.mask = 0) {n : Nat} (hn : n < 2 ^ 64) :
    decodeValue index sub r (leBytes r.ty.bytes n) = .ok { index := index, sub := sub, row := r, num := n } := by
  have hle : leNat (leBytes 8 n) = n := leNat_leBytes 8 n hn
  have hlen : (leBytes 8 n).length = 8 := by simp [leBytes]
  simp [decodeValue, ht, hr, hm, ObjType.fixed, ObjType.bytes, ObjType.signed, hle, hlen]

/-- A step of the holder under the arbiter's generation sets its object (18 R482). -/
theorem storeStep_applied {v : State} {x : Sys2Proof.Shroud} {key : Nat} {r : ObjRow} {y : Int} (hk : rowOfKey key = some r) (ht : r.ty = .u64)
    (hr : r.ranges = []) (hm : r.mask = 0) (h0 : 0 ≤ y) (hy : y < 2 ^ 64) (hin : inStore (key / 256) = true) (hx : v.holder = shroudIx x) :
    v.storeStep x v.tokenG key y = v.setObj key y := by
  obtain ⟨n, rfl⟩ := Int.eq_ofNat_of_zero_le h0
  have hn : n < 2 ^ 64 := by omega
  have hbits : toBits (n : Int) (8 * r.ty.bytes) = n := by
    rw [ht]
    simp only [toBits, wrapU, ObjType.bytes]
    rw [Int.fmod_eq_emod_of_nonneg _ (by norm_num), Int.emod_eq_of_lt h0 (by norm_num; omega), Int.toNat_natCast]
  have hdec := decodeValue_u64 (index := key / 256) (sub := key % 256) ht hr hm hn
  have hfix : r.ty.fixed = true := by rw [ht]; rfl
  unfold State.storeStep
  rw [hk]
  dsimp only
  rw [hbits, hdec]
  exact if_pos ⟨rfl, hx, hfix, hin, decide_eq_true rfl⟩

theorem storeStep_stale {v : State} {x : Sys2Proof.Shroud} {g key : Nat} {y : Int} (hg : g ≠ v.tokenG) : v.storeStep x g key y = v := by
  unfold State.storeStep
  split
  · exact if_neg fun h => hg h.1
  · rfl

/-- Settles O21: each row's stage and guard decide its effect. -/
theorem selfTestsStepsAndUpdates : Obligations.SelfTestsStepsAndUpdates := by
  rintro t x ok s v rfl
  refine ⟨fun hx hu => ?_, fun key r y hk ht hr hm h0 hy hin hh => ?_, fun g key y hg => ?_, fun hu hx a ha => ?_, fun hu hle a ha => ?_⟩
  · exact congrArg (fun w => Host.Outcome.next ((s.at_ t).afterToken w)) (shroudTested_eq hx hu ok)
  · exact congrArg Host.Outcome.next (storeStep_applied hk ht hr hm h0 hy hin hh)
  · exact congrArg Host.Outcome.next (storeStep_stale hg)
  · subst ha
    refine congrArg Host.Outcome.next ((if_pos ⟨hu, hx⟩).trans ?_)
    cases (s.at_ t).updateImageBad <;> cases ok <;> rfl
  · subst ha
    exact congrArg Host.Outcome.next (if_pos ⟨hu, hle⟩)

end Sys2Proof.Machine
end

section
/-! PROOFS. Admin pairs, BAR0 registers and the dictionary mailbox (13 R353 to R355, R536). -/
namespace Sys2Proof.Machine

/-- A row of a function that is there is what the row does to it. -/
theorem onFn_there {t : Nat} {f : Fn} {s v : State} {g : State → State} (hv : v = s.at_ t) (h : v.fnThere f = true) :
    onFn t f s g = .next (g v) := by
  subst hv
  exact congrArg Host.Outcome.next (if_pos h)

/-! ## Admin pairs -/

section
variable {v : State} {f : Fn}

theorem adminEnable_valid (ha : (v.fnr f).aen = false) (hb : (v.fnr f).adminBad f = false) :
    v.adminEnable f = if v.boot.ready then (v.setFnr f { v.fnr f with aen := true, aerr := false }).adminCreate f
      else v.setFnr f { v.fnr f with aen := true, aerr := false } :=
  (if_neg (ne_true_of_eq_false ha)).trans (if_neg (ne_true_of_eq_false hb))

theorem adminEnable_invalid (ha : (v.fnr f).aen = false) (hb : (v.fnr f).adminBad f = true) :
    v.adminEnable f = v.setFnr f { v.fnr f with aerr := true } :=
  (if_neg (ne_true_of_eq_false ha)).trans (if_pos hb)

theorem adminEnable_enabled (ha : (v.fnr f).aen = true) : v.adminEnable f = v := if_pos ha

theorem fnr_setFnr_same (h : tblWf (fun _ => ({} : FnRegs)) v.host.fns = true) (x : FnRegs) : (v.setFnr f x).fnr f = x := tblGet_put_same _ _ _ _ h

/-- The admin pair that comes into being has the bases, sizes, vector and moderation of the registers (12 R318). -/
theorem adminCreate_pair (hf : tblWf (fun _ => ({} : FnRegs)) v.host.fns = true)
    (hsq : tblWf (fun _ => ({} : SQ)) v.host.sqs = true) (heq : tblWf (fun _ => ({} : EQ)) v.host.eqs = true) :
    (v.adminCreate f).sq (aqn f) = { owner := .fn f, admin := true, base := (v.fnr f).asqb, log := (v.fnr f).as_, eq := aqn f } ∧
    (v.adminCreate f).eq (aqn f) = { owner := .fn f, admin := true, base := (v.fnr f).aeqb, log := (v.fnr f).ae, vec := (v.fnr f).avec, icnt := (v.fnr f).aicnt, itime := (v.fnr f).aitime } ∧
    ((v.adminCreate f).fnr f).ardy = true := by
  exact ⟨sq_setSq_same v _ _ hsq, eq_setEq_same (v.setSq (aqn f) _) _ _ heq, congrArg FnRegs.ardy (fnr_setFnr_same (v := (v.setSq (aqn f) _).setEq (aqn f) _) hf _)⟩

end

/-! ## Registers -/

/-- A multiple of 4,096 of 64 bits has no bit outside the page addresses (13 Table 13.5). -/
theorem and_pageMask {x : Nat} (h : x % 4096 = 0) (hx : x < 2 ^ 64) : x &&& (2 ^ 64 - 4096) = x := by
  have hy : x = (x / 4096) <<< 12 := by rw [Nat.shiftLeft_eq]; omega
  have hm : 2 ^ 64 - 4096 = (2 ^ 52 - 1) <<< 12 := by decide
  have hlt : x / 4096 < 2 ^ 52 := by omega
  calc x &&& (2 ^ 64 - 4096) = ((x / 4096) &&& (2 ^ 52 - 1)) <<< 12 := by rw [hm, Nat.shiftLeft_and_distrib, ← hy]
    _ = x := by rw [Nat.and_two_pow_sub_one_eq_mod, Nat.mod_eq_of_lt hlt, ← hy]

theorem mergeBits_whole {old v : Nat} (h : old < 2 ^ 64) : mergeBits old 0 64 v = v := by
  simp only [mergeBits, fld]
  omega

/-- A quadword write of ASQB while the admin pair is disabled stores the register (13 R353, Table 13.5). -/
theorem registerWrite_asqb {v : State} {f : Fn} {x : Nat} (h0 : x % 4096 = 0) (hx : x < 2 ^ 64) (hold : (v.fnr f).asqb < 2 ^ 64)
    (ha : (v.fnr f).aen = false) : v.registerWrite f 0x08 64 x = v.setFnr f { v.fnr f with asqb := x } := by
  have hand : x * 2 ^ (8 * 0) &&& (2 ^ 64 - 4096) = x * 2 ^ (8 * 0) := by simpa using and_pageMask h0 hx
  unfold State.registerWrite
  simp (disch := omega) only [if_neg]
  have hreg : regMask (8 / 8 * 8) = some (2 ^ 64 - 4096) := rfl
  have hno : ¬(x * 2 ^ (8 * 0) &&& (2 ^ 64 - 4096) ≠ x * 2 ^ (8 * 0) ∨ 8 / 8 * 8 ≤ 0x18 ∧ (v.fnr f).aen = true) := by
    rintro (h | h)
    · exact h hand
    · exact absurd h.2 (ne_true_of_eq_false ha)
  rw [hreg]
  refine (if_neg hno).trans (congrArg (v.setFnr f) ?_)
  have hmerge : mergeBits ((v.fnr f).reg 8) 0 64 x = x := mergeBits_whole hold
  exact congrArg (fun y => { v.fnr f with asqb := y }) hmerge

/-- A quadword write at an offset without a register is dropped and counted (13 R353). -/
theorem registerWrite_reserved {v : State} {f : Fn} {x : Nat} (hx : x < 2 ^ 64) : v.registerWrite f 0x30 64 x = v.dropWrite0 f 0x30 := by
  unfold State.registerWrite
  simp (disch := omega) only [if_neg]
  rfl

/-- Settles O22: each write's branch is that of the function's registers. -/
theorem adminPairsAndRegisters : Obligations.AdminPairsAndRegisters := by
  rintro t f s v hv hthere r rfl
  have enable : exec (.adminPairEnable t f) s = .next (v.adminEnable f) := onFn_there (g := fun a => a.adminEnable f) hv hthere
  have write : ∀ off x, exec (.registerWrite t f off 64 x) s = .next (v.registerWrite f off 64 x) :=
    fun off x => onFn_there (g := fun a => a.registerWrite f off 64 x) hv hthere
  refine ⟨fun ha hb hr => ?_, fun ha hb hr => ?_, fun ha hb => ?_, fun ha => ?_, fun w hf hw u hu hsq heq => ?_,
    onFn_there (g := fun a => a.functionReset f) hv hthere, fun x h0 hx hold ha => ?_, fun x hx => ?_⟩
  · exact enable.trans (congrArg Host.Outcome.next ((adminEnable_valid ha hb).trans (if_pos hr)))
  · exact enable.trans (congrArg Host.Outcome.next ((adminEnable_valid ha hb).trans (if_neg (ne_true_of_eq_false hr))))
  · exact enable.trans (congrArg Host.Outcome.next (adminEnable_invalid ha hb))
  · exact enable.trans (congrArg Host.Outcome.next (adminEnable_enabled ha))
  · subst hu
    obtain ⟨h1, h2, h3⟩ := adminCreate_pair (f := f) hf hsq heq
    rw [hw] at h1 h2
    exact ⟨h1, h2, h3⟩
  · exact (write _ _).trans (congrArg Host.Outcome.next (registerWrite_asqb h0 hx hold ha))
  · exact (write _ _).trans (congrArg Host.Outcome.next (registerWrite_reserved hx))

/-! ## The dictionary mailbox -/

section
variable {v : State} {f : Fn}

/-- An OP write of a mailbox that is not busy is run, or held for a holder (13 R355, 17 R459). -/
theorem mailboxOp_run (hb : (v.fnr f).mboxBusy = false) (hh : v.hasHolder = true) (hr : v.boot.ready = true) (op : Nat) :
    v.mailboxOp f op = v.mailboxRun f op :=
  (if_neg (ne_true_of_eq_false hb)).trans (if_pos (by rw [hh, hr]; rfl))

theorem mailboxOp_held (hb : (v.fnr f).mboxBusy = false) (hh : v.hasHolder = false) (op : Nat) :
    v.mailboxOp f op = v.setFnr f { v.fnr f with mboxBusy := true, mboxOp := op } :=
  (if_neg (ne_true_of_eq_false hb)).trans (if_neg (by simp [hh]))

theorem mailboxOp_busy (hb : (v.fnr f).mboxBusy = true) (op : Nat) : v.mailboxOp f op = v.count (epCounter f.ep 8) := if_pos hb

theorem mailboxRead_value (h1 : 1 ≤ (v.fnr f).mboxLen) (h2 : (v.fnr f).mboxLen ≤ 4096) {b : List Byte}
    (hb : v.readObj (.function f) (v.fnr f).mboxIndex (v.fnr f).mboxSub (v.fnr f).mboxCA = .ok b) :
    v.mailboxRead f = (v.setFnr f { v.fnr f with
      mboxOlen := b.length,
      window := putBytes (v.fnr f).window 0 (padTo (v.fnr f).mboxLen ((b.drop (v.fnr f).mboxOff).take (v.fnr f).mboxLen)) }).mailboxDone f 0 := by
  unfold State.mailboxRead
  dsimp only
  rw [if_neg (by omega), hb]

theorem mailboxRead_error (h1 : 1 ≤ (v.fnr f).mboxLen) (h2 : (v.fnr f).mboxLen ≤ 4096) {e : AccErr}
    (he : v.readObj (.function f) (v.fnr f).mboxIndex (v.fnr f).mboxSub (v.fnr f).mboxCA = .error e) :
    v.mailboxRead f = (v.countRefused e).mailboxDone f e.status := by
  unfold State.mailboxRead
  dsimp only
  rw [if_neg (by omega), he]

theorem mailboxStage_within (h1 : 1 ≤ (v.fnr f).mboxLen) (h2 : (v.fnr f).mboxLen ≤ 4096)
    (h3 : (v.fnr f).mboxOff + (v.fnr f).mboxLen ≤ 65568) :
    v.mailboxStage f = (v.setFnr f { v.fnr f with
      wbuf := putBytes (v.fnr f).wbuf (v.fnr f).mboxOff (bytesAt (v.fnr f).window 0 (v.fnr f).mboxLen) }).mailboxDone f 0 := by
  unfold State.mailboxStage
  dsimp only
  rw [if_neg (by omega)]

/-- A write buffer applied to another object than 1010 settles with the write's status (13 R355). -/
theorem mailboxApply_done (h1 : 1 ≤ (v.fnr f).mboxTotal) (h2 : (v.fnr f).mboxTotal ≤ 65568) (hi : (v.fnr f).mboxIndex ≠ 0x1010) {w : State}
    {e : Option AccErr} (hw : v.writeObj (.function f) { waiters := [.mailbox f] } (v.fnr f).mboxIndex (v.fnr f).mboxSub (v.fnr f).mboxCA
      (bytesAt (v.fnr f).wbuf 0 (v.fnr f).mboxTotal) = (w, e)) : v.mailboxApply f = w.mailboxDone f (e.elim 0 AccErr.status) := by
  unfold State.mailboxApply
  dsimp only
  rw [if_neg (by omega), hw]
  cases e with
  | none => exact if_neg hi
  | some x => rfl

end

/-- Settles O23: an OP write is run, held or dropped by BUSY and the holder, and each operation does what its fields say. -/
theorem mailboxOperations : Obligations.MailboxOperations := by
  rintro t f s v hv hthere r rfl
  have read : exec (.mailboxReadSegment t f) s = .next (v.mailboxOp f 1) := onFn_there (g := fun a => a.mailboxOp f 1) hv hthere
  have stage : exec (.mailboxStageSegment t f) s = .next (v.mailboxOp f 2) := onFn_there (g := fun a => a.mailboxOp f 2) hv hthere
  have apply_ : exec (.mailboxApply t f) s = .next (v.mailboxOp f 3) := onFn_there (g := fun a => a.mailboxOp f 3) hv hthere
  refine ⟨fun hb hh hr => ⟨fun h1 h2 => ⟨fun b hok x hx => ?_, fun e he => ?_, fun h3 => ?_⟩, fun h1 h2 hi w e hw => ?_⟩, fun hb hh => ⟨?_, ?_, ?_⟩,
    fun hb => ⟨?_, ?_, ?_⟩⟩
  · subst hx
    exact read.trans (congrArg Host.Outcome.next ((mailboxOp_run hb hh hr 1).trans (mailboxRead_value h1 h2 hok)))
  · exact read.trans (congrArg Host.Outcome.next ((mailboxOp_run hb hh hr 1).trans (mailboxRead_error h1 h2 he)))
  · exact stage.trans (congrArg Host.Outcome.next ((mailboxOp_run hb hh hr 2).trans (mailboxStage_within h1 h2 h3)))
  · refine apply_.trans (congrArg Host.Outcome.next ((mailboxOp_run hb hh hr 3).trans ((mailboxApply_done h1 h2 hi hw).trans ?_)))
    cases e <;> rfl
  · exact read.trans (congrArg Host.Outcome.next (mailboxOp_held hb hh 1))
  · exact stage.trans (congrArg Host.Outcome.next (mailboxOp_held hb hh 2))
  · exact apply_.trans (congrArg Host.Outcome.next (mailboxOp_held hb hh 3))
  · exact read.trans (congrArg Host.Outcome.next (mailboxOp_busy hb 1))
  · exact stage.trans (congrArg Host.Outcome.next (mailboxOp_busy hb 2))
  · exact apply_.trans (congrArg Host.Outcome.next (mailboxOp_busy hb 3))

end Sys2Proof.Machine
end

section
/-! PROOFS. Resets of functions and endpoints, holds of a link, the rig's own reads, link power (13 R350, R359 to R361, R364, R367, R368). -/
namespace Sys2Proof.Machine

/-! ## Resets -/

theorem perstAssert_released {v : State} {e : Sys2Proof.Endpoint} (h : (v.ep e).perst = false) {a : State} (ha : a = v.functionResets (epFns e)) :
    v.perstAssert e = ((a.setEp e { (a.ep e).held with perst := true }).linkOff e (if v.epRetired e then 4 else 0)).showTags e := by
  subst ha
  exact if_neg (ne_true_of_eq_false h)

theorem epMayTrain_setEp (v : State) (e : Sys2Proof.Endpoint) (x : EpState) : (v.setEp e x).epMayTrain = v.epMayTrain := by cases e <;> rfl
theorem epRetired_setEp (v : State) (e : Sys2Proof.Endpoint) (x : EpState) : (v.setEp e x).epRetired e = v.epRetired e := by cases e <;> rfl

/-- A release of PERST lets the endpoint train where it may (19 R514). -/
theorem perstRelease_eq (v : State) (e : Sys2Proof.Endpoint) : v.perstRelease e =
    if v.epMayTrain && !v.epRetired e && decide (v.linkState e = 0) then (v.setEp e { v.ep e with perst := false }).linkOff e 1
    else v.setEp e { v.ep e with perst := false } := by
  unfold State.perstRelease
  dsimp only
  rw [epMayTrain_setEp, epRetired_setEp]

/-- Settles O24: each reset's functions, and the endpoint's state where the row names it. -/
theorem functionAndEndpointResets : Obligations.FunctionAndEndpointResets := by
  rintro t e f s v hv
  refine ⟨fun hp a ha => ?_, fun hp => ?_, fun h1 h2 h3 => ?_, fun h1 => ?_, fun h1 h2 => ?_, fun h1 h2 a ha => ?_, fun h1 a ha => ?_,
    fun h1 a ha => ?_, fun h1 l => ?_⟩
  · subst hv
    exact congrArg Host.Outcome.next (perstAssert_released hp ha)
  · subst hv
    exact congrArg Host.Outcome.next (if_pos hp)
  · subst hv
    exact congrArg Host.Outcome.next ((perstRelease_eq _ e).trans (if_pos (by rw [h1, h2, h3]; rfl)))
  · subst hv
    exact congrArg Host.Outcome.next ((perstRelease_eq _ e).trans (if_neg (by rw [h1]; simp)))
  · subst hv
    exact congrArg Host.Outcome.next ((if_neg (ne_true_of_eq_false h1)).trans (if_neg h2))
  · subst hv ha
    exact congrArg Host.Outcome.next ((if_neg (ne_true_of_eq_false h1)).trans (if_pos h2))
  · subst hv ha
    exact congrArg Host.Outcome.next (if_neg (ne_true_of_eq_false h1))
  · subst ha
    exact onFn_there (g := fun a => (a.functionReset f).setEp f.ep { (a.functionReset f).ep f.ep with
      d3hot := setInsert f.fn ((a.functionReset f).ep f.ep).d3hot }) hv h1
  · subst hv
    exact congrArg Host.Outcome.next (if_neg (ne_true_of_eq_false h1))

/-! ## Holds -/

/-- Functions whose HOLDT is over (13 R368). -/
def State.lateFns (s : State) (e : Sys2Proof.Endpoint) : List Nat :=
  ((s.ep e).holds.filter (fun h => decide (h.2 + ms (s.objN (okey (0x2220 + epIx e) 1)) ≤ s.now))).map (·.1)

theorem holdExpires_none {v : State} {e : Sys2Proof.Endpoint} (h : v.lateFns e = []) : v.holdExpires e = v := if_pos h

theorem holdExpires_late {v : State} {e : Sys2Proof.Endpoint} {late : List Nat} (hl : late = v.lateFns e) (hne : late ≠ []) {b u : State} {p : EpState}
    (hb : b = v.functionResets (late.map (fun n => ⟨e, n⟩))) (hp : p = (b.ep e).unhold late)
    (hu : u = b.setEp e { p with abandoned := p.abandoned.filter (fun r => !late.contains r.fn) }) :
    v.holdExpires e = if v.linkState e = 3 ∧ p.holds = [] then
      u.setObj (okey (0x2200 + epIx e) 1) (if v.objN (okey (0x2200 + epIx e) 2) ≠ 0 then 2 else 1) else u := by
  subst hu hp hb hl
  exact if_neg hne

theorem lateFns_nil {v : State} {e : Sys2Proof.Endpoint} (h : ∀ x ∈ (v.ep e).holds, v.now < x.2 + ms (v.objN (okey (0x2220 + epIx e) 1))) :
    v.lateFns e = [] := by
  rw [State.lateFns, List.map_eq_nil_iff, List.filter_eq_nil_iff]
  intro x hx
  rw [decide_eq_true_eq]
  exact not_le.2 (h x hx)

/-- While no HOLDT is over, the functions ready to resume are those that the host has brought back (13 R368). -/
theorem readyFns_of_time {v : State} {e : Sys2Proof.Endpoint} (h : ∀ x ∈ (v.ep e).holds, v.now < x.2 + ms (v.objN (okey (0x2220 + epIx e) 1))) :
    v.readyFns e = ((v.ep e).holds.map (·.1)).filter (fun k => v.fnBack e k) := by
  rw [State.readyFns, List.filter_map]
  refine congrArg (List.map _) (List.filter_congr fun x hx => ?_)
  rw [decide_eq_true (h x hx), Bool.and_true]
  rfl

theorem linkDown_up {v : State} {e : Sys2Proof.Endpoint} (n : Nat) (hp : (v.ep e).perst = false) (hl : v.linkState e = 2) {mine : List HostRead}
    (hm : mine = v.host.reads.filter (fun r => decide (r.ep = e))) {new : List Nat}
    (hn : new = (List.range 65).filter (fun k => (decide (k = 0) || ((v.ep e).vfEnable && decide (k ≤ (v.ep e).numVFs))) &&
      !(v.ep e).holds.any (fun h => h.1 = k))) {a : State} (ha : a = v.withhold mine) :
    v.linkDown e n = (((forEach (epFns e) (fun f b => b.setFnr f (b.fnr f).maskAll)
      (({ a with host := { a.host with reads := a.host.reads.filter (fun r => r.ep ≠ e) } } : State).setEp e
        { (v.ep e).configReset with
          holds := (v.ep e).holds ++ new.map (fun k => (k, v.now)),
          kept := (v.ep e).kept ++ ((v.out.filter (Emit.ofEp e)).take n).reverse,
          abandoned := mine ++ (v.ep e).abandoned })).linkOff e 3).showTags e).count (epCounter e 6) := by
  subst ha hn hm
  exact (if_neg (ne_true_of_eq_false hp)).trans ((if_neg (by omega)).trans (if_neg (not_not.2 hl)))

theorem linkDown_held {v : State} {e : Sys2Proof.Endpoint} (n : Nat) (hp : (v.ep e).perst = false) (hl : v.linkState e = 3) :
    v.linkDown e n = ((v.setEp e (v.ep e).configReset).linkOff e 3).showTags e :=
  (if_neg (ne_true_of_eq_false hp)).trans (if_pos hl)

theorem linkDown_other {v : State} {e : Sys2Proof.Endpoint} (n : Nat) (h : (v.ep e).perst = true ∨ (v.linkState e ≠ 2 ∧ v.linkState e ≠ 3)) :
    v.linkDown e n = v := by
  by_cases hp : (v.ep e).perst = true
  · exact if_pos hp
  · obtain ⟨h2, h3⟩ := h.resolve_left hp
    exact (if_neg hp).trans ((if_neg h3).trans (if_pos h2))

theorem epLinkUp_eq {v : State} {e : Sys2Proof.Endpoint} (rate width : Nat) (flit : Bool) (hr : v.epInReset e = false) (ht : v.epMayTrain = true)
    {w a : State} (hw : w = (if v.linkState e = 3 then v else v.setObj (okey (0x2200 + epIx e) 1) 2))
    (ha : a = ((w.setObj (okey (0x2200 + epIx e) 2) rate).setObj (okey (0x2200 + epIx e) 3) width).setObj
      (okey (0x2200 + epIx e) 4) (if flit then 128 else 0)) :
    v.epLinkUp e rate width flit = (a.setEp e { a.ep e with fullWidth := width }).showTags e := by
  subst ha hw
  exact if_neg (by simp [hr, ht])

/-- Settles O25: a link's loss by its state, the functions of a hold by their HOLDT and what the host has brought back. -/
theorem holdsOfALink : Obligations.HoldsOfALink := by
  rintro t e s v rfl limit rfl
  refine ⟨fun n hp hl mine hm new hn a ha => ?_, fun n hp hl => ?_, fun n h => ?_, fun l hl hne htime => ?_, fun h0 => ?_,
    fun late hl hne b hb p hp u hu => ?_, fun rate width flit hr ht w hw a ha => ?_⟩
  · exact congrArg Host.Outcome.next (linkDown_up n hp hl hm hn ha)
  · exact congrArg Host.Outcome.next (linkDown_held n hp hl)
  · exact congrArg Host.Outcome.next (linkDown_other n h)
  · have hready : (s.at_ t).readyFns e = l := (readyFns_of_time htime).trans hl.symm
    have hresume : exec (.holdResume t e) s = .next (if ((s.at_ t).holdExpires e).readyFns e = [] then (s.at_ t).holdExpires e
        else ((s.at_ t).holdExpires e).resume e (((s.at_ t).holdExpires e).readyFns e)) := rfl
    rw [hresume, holdExpires_none (lateFns_nil htime), hready, if_neg hne]
  · have hlate : (s.at_ t).lateFns e = [] := lateFns_nil (by rw [h0]; simp)
    have hready : (s.at_ t).readyFns e = [] := by simp only [State.readyFns, h0, List.filter_nil, List.map_nil]
    have hresume : exec (.holdResume t e) s = .next (if ((s.at_ t).holdExpires e).readyFns e = [] then (s.at_ t).holdExpires e
        else ((s.at_ t).holdExpires e).resume e (((s.at_ t).holdExpires e).readyFns e)) := rfl
    refine ⟨?_, congrArg Host.Outcome.next (holdExpires_none hlate)⟩
    rw [hresume, holdExpires_none hlate, if_pos hready]
  · have h := holdExpires_late hl hne hb hp hu
    refine ⟨fun h3 h0 => congrArg Host.Outcome.next (h.trans (if_pos ⟨h3, h0⟩)), fun hno => congrArg Host.Outcome.next (h.trans (if_neg ?_))⟩
    rintro ⟨h3, h0⟩
    exact hno.elim (fun hx => hx h3) (fun hx => hx h0)
  · exact congrArg Host.Outcome.next (epLinkUp_eq rate width flit hr ht hw ha)

/-! ## The rig's own reads -/

theorem completionLate_within {v : State} {e : Sys2Proof.Endpoint} {tag : Nat} {r : HostRead} (h : v.readOf e tag = some r)
    (ht : v.now < r.issued + r.limit) : v.completionLate e tag = v := by
  unfold State.completionLate
  rw [h]
  exact if_pos ht

theorem completionLate_over {v : State} {e : Sys2Proof.Endpoint} {tag : Nat} {r : HostRead} (h : v.readOf e tag = some r)
    (ht : r.issued + r.limit ≤ v.now) : v.completionLate e tag =
      (((((v.dropRead r).withhold [r]).aerError ⟨e, r.fn⟩ 2 none).count (epCounter e 4)).readFailed r).issueWaiting e 4096 := by
  unfold State.completionLate
  rw [h]
  exact if_neg (not_lt.2 ht)

/-- A completion of an outstanding read within its limit, by its status and its bytes (13 R364). -/
theorem completionIn_read {v : State} {e : Sys2Proof.Endpoint} {tag : Nat} {r : HostRead} (hr : v.epInReset e = false)
    (h : v.readOf e tag = some r) (ht : v.now < r.issued + r.limit) (st : CplStatus) (d : List Byte) :
    v.completionIn e tag st d =
      if st ≠ .success then ((v.dropRead r).readFailed r).issueWaiting e 4096
      else if r.len < (r.got ++ d).length then v
      else if (r.got ++ d).length < r.len then v.addToRead r d
      else if r.rest ≠ 0 then (v.dropRead r).sendRead { r with addr := r.addr + r.len, len := r.rest, rest := 0, acc := r.acc ++ (r.got ++ d) }
      else ((v.dropRead r).readDone r (r.acc ++ (r.got ++ d))).issueWaiting e 4096 := by
  unfold State.completionIn
  rw [completionLate_within h ht]
  dsimp only
  rw [if_neg (ne_true_of_eq_false hr), h]

/-- A completion of no outstanding read, for a tag that is withheld (13 R364). -/
theorem completionIn_withheld {v : State} {e : Sys2Proof.Endpoint} {tag lim : Nat} (hr : v.epInReset e = false) (h : v.readOf e tag = none)
    (hm : (e, tag, lim) ∈ v.host.withheld) (ht : v.now < lim) (st : CplStatus) (d : List Byte) :
    v.completionIn e tag st d = (v.aerError ⟨e, 0⟩ 3 none).count (epCounter e 3) := by
  have hl : v.completionLate e tag = v := by
    unfold State.completionLate
    rw [h]
  have hany : v.host.withheld.any (fun w => decide (w.1 = e ∧ w.2.1 = tag ∧ v.now < w.2.2)) = true :=
    List.any_eq_true.2 ⟨_, hm, decide_eq_true ⟨rfl, rfl, ht⟩⟩
  unfold State.completionIn
  rw [hl]
  dsimp only
  rw [if_neg (ne_true_of_eq_false hr), h]
  exact if_pos hany

/-! ## Link power and configuration requests -/

theorem l1State_eq (p : EpState) : p.l1State = if p.ltrEn = true ∧ p.l12 = true then 4 else if p.ltrEn = true ∧ p.l11 = true then 3 else 2 := by
  simp only [EpState.l1State, Bool.and_eq_true]

theorem l1Entry_requests {v : State} {e : Sys2Proof.Endpoint} (ha : (v.ep e).aspmL1 = true) (hl : v.linkState e = 2)
    (hk : v.objN (okey (0x2200 + epIx e) 4) % 8 < 2) (hr : ∀ r ∈ v.host.reads, r.ep ≠ e)
    (ht : (v.ep e).txAt + 1000 * v.objN (okey (0x2220 + epIx e) 2) ≤ v.now) :
    v.l1Entry e = (v.emit (.linkRequest e 1)).setObj (okey (0x2200 + epIx e) 4)
      (v.objN (okey (0x2200 + epIx e) 4) / 128 * 128 + (v.ep e).l1State : Nat) := by
  have hnone : v.host.reads.any (fun r => decide (r.ep = e)) = false :=
    List.any_eq_false.2 fun r hm => by rw [decide_eq_true_eq]; exact hr r hm
  have hidle : v.txIdle e = true := decide_eq_true ht
  refine if_pos ?_
  rw [ha, hnone, hidle, decide_eq_true (show v.linkState e = 2 ∧ v.objN (okey (0x2200 + epIx e) 4) % 8 < 2 from ⟨hl, hk⟩)]
  rfl

theorem l0p_halves {v : State} {e : Sys2Proof.Endpoint} {util backlog w : Nat} (hw : w = v.objN (okey (0x2200 + epIx e) 3)) (hen : (v.ep e).l0pEn = true)
    (hl : v.linkState e = 2) (hf : 128 ≤ v.objN (okey (0x2200 + epIx e) 4)) (hk : v.objN (okey (0x2200 + epIx e) 4) % 8 < 2)
    (hb : backlog ≤ 16384) (hu : util < 25) (h2 : 2 < w) (hfull : w ≤ (v.ep e).fullWidth) :
    v.l0p e util backlog =
      ((v.emit (.linkRequest e (256 + w / 2))).setObj (okey (0x2200 + epIx e) 3) (w / 2 : Nat)).setObj (okey (0x2200 + epIx e) 4) 129 := by
  subst hw
  have hlt : v.objN (okey (0x2200 + epIx e) 3) / 2 < (v.ep e).fullWidth := by omega
  refine (if_neg ?_).trans ((if_neg (by omega)).trans ((if_pos ⟨hu, h2⟩).trans ?_))
  · rintro (h | h | h | h)
    · exact absurd (hen.symm.trans h) (by decide)
    · exact h hl
    · omega
    · omega
  · dsimp only
    rw [if_pos hlt]
    rfl

theorem configRequest_taken {v : State} {f : Fn} (hr : v.epInReset f.ep = false) (hup : v.objN (okey (0x2200 + epIx f.ep) 2) ≠ 0) (hf : f.fn = 0)
    (q : ConfigReq) : v.configRequest f q = v.configIn f q :=
  (if_neg (ne_true_of_eq_false hr)).trans ((if_neg hup).trans (if_neg fun h => h.1 hf))

/-- Settles O26: completions by the read they end, and each request by the link's state. -/
theorem hostReadsAndLinkPower : Obligations.HostReadsAndLinkPower := by
  rintro t e s v rfl
  refine ⟨fun tag r d hr h ht => ⟨fun hlen h0 => ?_, fun hlen h0 => ?_, fun hlen => ?_, fun hlen => ?_⟩, fun tag r st d hr h ht hst => ?_,
    fun tag st d lim hr h hm ht => ?_, fun tag r h ht => ?_, fun ha hl hk hr ht => ?_, fun util backlog w hw hen hl hf hk hb hu h2 hfull => ?_,
    fun f q hr hup => ?_, fun f q hr hup hf hv => ?_, fun f b m hr hup hf => ?_, fun f hr hup hf => ?_⟩
  · have hl : (r.got ++ d).length = r.len := List.length_append.trans hlen
    exact congrArg Host.Outcome.next ((completionIn_read hr h ht _ d).trans ((if_neg (by decide)).trans ((if_neg (by omega)).trans
      ((if_neg (by omega)).trans (if_neg (not_not.2 h0))))))
  · have hl : (r.got ++ d).length = r.len := List.length_append.trans hlen
    exact congrArg Host.Outcome.next ((completionIn_read hr h ht _ d).trans ((if_neg (by decide)).trans ((if_neg (by omega)).trans
      ((if_neg (by omega)).trans (if_pos h0)))))
  · have hl : (r.got ++ d).length < r.len := by rw [List.length_append]; exact hlen
    exact congrArg Host.Outcome.next ((completionIn_read hr h ht _ d).trans ((if_neg (by decide)).trans ((if_neg (by omega)).trans (if_pos hl))))
  · have hl : r.len < (r.got ++ d).length := by rw [List.length_append]; exact hlen
    exact congrArg Host.Outcome.next ((completionIn_read hr h ht _ d).trans ((if_neg (by decide)).trans (if_pos hl)))
  · exact congrArg Host.Outcome.next ((completionIn_read hr h ht st d).trans (if_pos hst))
  · exact congrArg Host.Outcome.next (completionIn_withheld hr h hm ht st d)
  · exact congrArg Host.Outcome.next (completionLate_over h ht)
  · refine congrArg Host.Outcome.next ((l1Entry_requests ha hl hk hr ht).trans ?_)
    rw [l1State_eq]
  · exact congrArg Host.Outcome.next (l0p_halves hw hen hl hf hk hb hu h2 hfull)
  · exact congrArg Host.Outcome.next ((if_neg (ne_true_of_eq_false hr)).trans (if_pos hup))
  · exact congrArg Host.Outcome.next ((if_neg (ne_true_of_eq_false hr)).trans ((if_neg hup).trans (if_pos ⟨hf, hv⟩)))
  · refine congrArg Host.Outcome.next ((configRequest_taken hr hup hf _).trans ?_)
    simp only [State.configIn, hf, decide_true, if_true]
  · refine congrArg Host.Outcome.next ((configRequest_taken hr hup hf _).trans ?_)
    simp only [State.configIn, State.configWord, hf]
    rfl

end Sys2Proof.Machine
end

section
/-! PROOFS. The arrival of packets (12 R322, R325, R326, R333), and what an admitted packet's row runs. -/
namespace Sys2Proof.Machine

/-! ## The branches of an arrival -/

/-- The rows of the packets, with the opcode that each stands for. -/
def packetRows (t q : Nat) (p : Sys2Proof.Packet) : List (Sys2Proof.Instr × Nat) :=
  [(.read t q p, 0x01), (.write t q p, 0x02), (.flush t q p, 0x03), (.abort t q p, 0x04), (.job t q p, 0x05),
    (.dictRead t q p, 0x06), (.dictWrite t q p, 0x07), (.mount t q p, 0x08), (.unmount t q p, 0x09), (.furl t q p, 0x0A),
    (.createSq t q p, 0x10), (.deleteSq t q p, 0x11), (.createEq t q p, 0x12), (.deleteEq t q p, 0x13)]

section
variable {t q : Nat} {p : Sys2Proof.Packet} {s v b : State}

/-- A row whose packet carries its opcode takes the packet. -/
theorem exec_packetRow {c : Sys2Proof.Instr} (h : (c, pk p 7 0) ∈ packetRows t q p) :
    exec c s = .next ((s.at_ t).takePacket q p) := by
  simp only [packetRows, List.mem_cons, Prod.mk.injEq, List.not_mem_nil, or_false] at h
  rcases h with ⟨rfl, h⟩ | ⟨rfl, h⟩ | ⟨rfl, h⟩ | ⟨rfl, h⟩ | ⟨rfl, h⟩ | ⟨rfl, h⟩ | ⟨rfl, h⟩ | ⟨rfl, h⟩ | ⟨rfl, h⟩ | ⟨rfl, h⟩ |
    ⟨rfl, h⟩ | ⟨rfl, h⟩ | ⟨rfl, h⟩ | ⟨rfl, h⟩
  all_goals exact congrArg Host.Outcome.next (if_pos h)

theorem exec_unknownOpcode (h : opRow (pk p 7 0) = none) : exec (.unknownOpcode t q p) s = .next ((s.at_ t).takePacket q p) :=
  congrArg Host.Outcome.next (if_pos (Option.isNone_iff_eq_none.mpr h))

theorem takePacket_idle (h : v.nextPacket q p = false) : v.takePacket q p = v := if_neg (ne_true_of_eq_false h)

theorem takePacket_next (h : v.nextPacket q p = true) : v.takePacket q p = (v.handed q).arrive q p := if_pos h

theorem arrive_held (ho : (v.sq q).owner ≠ .nobody) (hh : v.hasHolder = false) :
    v.arrive q p = { v with host := { v.host with heldPackets := v.host.heldPackets ++ [(q, p, v.epochOfSq q)] } } :=
  (if_neg ho).trans (if_pos (by rw [hh]; rfl))

section
variable (ho : (v.sq q).owner ≠ .nobody) (hh : v.hasHolder = true)
include ho hh

theorem arrive_duplicate {d : DupEntry}
    (hd : (v.sq q).dups.find? (fun d => decide (d.tag = pk p 31 16 ∧ d.seq = pk p 63 32)) = some d) :
    v.arrive q p = v.duplicate q (pk p 31 16) (pk p 63 32) d := by
  refine (if_neg ho).trans ((if_neg (by rw [hh]; decide)).trans ?_)
  simp only [hd]

theorem arrive_fresh
    (hd : (v.sq q).dups.find? (fun d => decide (d.tag = pk p 31 16 ∧ d.seq = pk p 63 32)) = none) :
    v.arrive q p = if v.tagInUse q (pk p 31 16) then
      (v.count (okey 0x5420 4)).postCompletion none q (pk p 31 16) (pk p 63 32) stTagInUse 0 false else v.execute q p := by
  refine (if_neg ho).trans ((if_neg (by rw [hh]; decide)).trans ?_)
  simp only [hd]

end

theorem execute_refused {cid st : Nat} (he : v.enter q p = (cid, b)) (hs : b.arrivalStatus (b.sq q) p = some st) :
    v.execute q p = b.complete cid st 0 := by
  unfold State.execute
  simp only [he, hs]

theorem execute_job {cid : Nat} {c : Cmd} (he : v.enter q p = (cid, b)) (hs : b.arrivalStatus (b.sq q) p = none)
    (hc : b.cmd cid = some c) (ho : c.opc = 0x05) (hj : b.jobRefused c = none) : v.execute q p = (b.joinEngine c).start cid := by
  unfold State.execute
  simp only [he, hs, hc, ho, if_true, hj]

theorem arrivalStatus_unknown {x : SQ} (h : opRow (pk p 7 0) = none) : b.arrivalStatus x p = some stInvalidOpcode := by
  unfold State.arrivalStatus
  rw [h]

end

/-- Settles O27: every row of a packet takes it when it is the next; the branches of an arrival are those of R322. -/
theorem arrivalOfPackets : Obligations.ArrivalOfPackets := by
  unfold Obligations.ArrivalOfPackets
  rintro t q p s v c rfl hrow tag seq rfl rfl
  have row : exec c s = .next ((s.at_ t).takePacket q p) := by
    rcases hrow with h | ⟨rfl, h⟩
    · exact exec_packetRow h
    · exact exec_unknownOpcode h
  refine ⟨fun h => row.trans (congrArg Host.Outcome.next (takePacket_idle h)), fun h ho => ?_⟩
  have taken := takePacket_next h
  refine ⟨fun hh => row.trans (congrArg Host.Outcome.next (taken.trans (arrive_held ho hh))), ?_⟩
  rintro hh d rfl
  have fresh := fun hd => taken.trans (arrive_fresh ho hh hd)
  refine ⟨fun x hx => row.trans (congrArg Host.Outcome.next (taken.trans (arrive_duplicate ho hh hx))), ?_, ?_, ?_⟩
  · exact fun hd ht => row.trans (congrArg Host.Outcome.next ((fresh hd).trans (if_pos ht)))
  · exact fun hd ht cid b st he hs => row.trans
      (congrArg Host.Outcome.next ((fresh hd).trans ((if_neg (ne_true_of_eq_false ht)).trans (execute_refused he hs))))
  · exact fun hd ht hop cid b he => (exec_unknownOpcode hop).trans (congrArg Host.Outcome.next ((fresh hd).trans
      ((if_neg (ne_true_of_eq_false ht)).trans (execute_refused he (arrivalStatus_unknown hop)))))

/-! ## An admitted packet -/

section
variable {t q : Nat} {p : Sys2Proof.Packet} {s b : State} {c : Cmd} (h : s.letIn t q p = some (c, b))
include h

theorem letIn_cmd : b.cmd c.cid = some c := by
  obtain ⟨-, hh⟩ := letIn_spec s t q p c b h
  obtain ⟨-, -, -, -, -, hc, -⟩ := hh _ rfl
  exact hc

theorem letIn_opc : c.opc = pk p 7 0 := by
  obtain ⟨-, hh⟩ := letIn_spec s t q p c b h
  obtain ⟨-, -, -, -, -, -, -, ho, -⟩ := hh _ rfl
  exact ho

/-- The row of an admitted packet of another opcode than JOB dispatches its command. -/
theorem arrivalRow_letIn {opc : Nat} (ho : c.opc = opc) (h5 : opc ≠ 0x05) : arrivalRow opc t q p s = .next (b.dispatchCmd c) := by
  have hp : pk p 7 0 = opc := (letIn_opc h).symm.trans ho
  exact congrArg Host.Outcome.next ((if_pos hp).trans (take_letIn s t q p c b h (by rw [hp]; exact h5)))

end

end Sys2Proof.Machine
end

section
/-! PROOFS. The data commands (12.3, 12.4, 12.6, 12.7, 15 R410). -/
namespace Sys2Proof.Machine

/-! ## The commands as they start -/

section
variable {b : State} {c : Cmd}

theorem startRead_plain (he : b.earlierWrite c = none) (hr : b.readRefused c = none)
    (hm : b.relocMissing (c.pf 68 64) (c.pf 191 128) = false)
    (hw : c.opc = 0x01 → (b.mast (c.pf 68 64)).st = .writing →
      b.needsDisc (c.pf 68 64) (c.pf 191 128) (c.pf 223 192) (c.pf 255 224) = false)
    (hs : c.pkt.getLsbD 8 = false) : b.startRead c = b.runRead c := by
  unfold State.startRead
  simp only [he, hr]
  refine (if_neg (ne_true_of_eq_false hm)).trans ((if_neg ?_).trans (if_neg (ne_true_of_eq_false hs)))
  rintro ⟨ho, hst, hd⟩
  exact ne_true_of_eq_false (hw ho hst) hd

theorem startWrite_taken (ht : b.tableOf (c.pf 68 64) ≠ none) (hd : b.decodersHealthy ≠ 0) (hw : b.writeRefused (c.pf 68 64) = none) :
    b.startWrite c =
      (({ b with media := { b.media with
          writes := b.media.writes ++ [{
            serial := b.media.nextSerial, cid := c.cid, sq := c.sq, owner := c.owner, tag := c.tag, seq := c.seq, mast := c.pf 68 64,
            ext := c.pf 191 128, len := c.pf 223 192, str := c.pf 11 10, xpe := c.pkt.getLsbD 9, dur := c.pkt.getLsbD 8 }]
          nextSerial := b.media.nextSerial + 1 } } : State).stage c.cid (.write b.media.nextSerial)).grant c.cid := by
  refine (if_neg ?_).trans ?_
  · rintro (h | h)
    · exact ht (Option.isNone_iff_eq_none.mp h)
    · exact hd h
  · rw [hw]

section
variable (ho : (b.sq (c.pf 75 64)).owner = c.owner)
include ho

theorem startAbort_absent
    (hf : b.host.cmds.find? (fun x => decide (x.sq = c.pf 75 64 ∧ x.tag = c.pf 95 80 ∧ x.orphan = false ∧ x.owner = c.owner)) = none) :
    b.startAbort c = b.complete c.cid (if b.completionWaits (c.pf 75 64) (c.pf 95 80) then stAbortTooLate else stAbortNoTag) 0 := by
  refine (if_neg (not_not.mpr ho)).trans ?_
  rw [hf]

theorem startAbort_found {x : Cmd}
    (hf : b.host.cmds.find? (fun x => decide (x.sq = c.pf 75 64 ∧ x.tag = c.pf 95 80 ∧ x.orphan = false ∧ x.owner = c.owner)) = some x) :
    b.startAbort c = if x.cid = c.cid then b.complete c.cid stAbortTooLate 0
      else if (b.settle x.cid).2 ≠ stAbortTooLate ∧ ((b.settle x.cid).1.cmd x.cid).isSome = true then
        (b.settle x.cid).1.updCmd c.cid (fun y => { y with stage := .settling [x.cid] (b.settle x.cid).2 })
      else (b.settle x.cid).1.complete c.cid (b.settle x.cid).2 0 := by
  refine (if_neg (not_not.mpr ho)).trans ?_
  rw [hf]

end

/-- A command that nothing stops or holds is dispatched (12 R324, R339). -/
theorem start_dispatches (hc : b.cmd c.cid = some c)
    (hm : ∀ m, c.mast = some m → b.mastStop m = none ∧ b.pins.furlN = false ∧ b.media.mapLost.contains m = false ∧
      b.heldWrite c = none ∧ b.earlierWrite c = none) : b.start c.cid = b.dispatchCmd c := by
  unfold State.start
  simp only [hc]
  cases hmast : c.mast with
  | none => rfl
  | some m =>
    obtain ⟨h1, h2, h3, h4, h5⟩ := hm m hmast
    simp only [h1, h2, h3, h4, h5, Option.isSome_none, Bool.false_eq_true, and_false, if_false]

end

/-! ## The rows -/

/-- The row of an admitted JOB that its engine takes: the command joins the engine's queue and starts to read (15 R410). -/
theorem exec_job_letIn {t q : Nat} {p : Sys2Proof.Packet} {s b : State} {c : Cmd} (h : s.letIn t q p = some (c, b)) (ho : c.opc = 0x05)
    (hj : b.jobRefused c = none) : exec (.job t q p) s = .next ((b.joinEngine c).startRead c) := by
  obtain ⟨hnext, hh⟩ := letIn_spec s t q p c b h
  obtain ⟨howner, hhold, hdup, htag, henter, hc, hst, hopc, hmast⟩ := hh _ rfl
  have started : (b.joinEngine c).start c.cid = (b.joinEngine c).startRead c := by
    refine (start_dispatches (b := b.joinEngine c) hc fun m hm => ?_).trans (if_pos (Or.inr ho))
    obtain ⟨h1, h2, h3, h4⟩ := hmast m hm
    exact ⟨h1, h2, h3, h4 (Or.inr ho)⟩
  refine congrArg Host.Outcome.next ((if_pos (hopc.symm.trans ho)).trans ((takePacket_next hnext).trans
    ((arrive_fresh howner hhold hdup).trans ((if_neg (ne_true_of_eq_false htag)).trans ((execute_job henter hst hc ho hj).trans started)))))

section
variable {s : State} {t cid : Nat} {x : Cmd} (hc : (s.at_ t).cmd cid = some x)
include hc

theorem readHeldRelease_writing (hx : x.stage = .heldWriting) (h : ((s.at_ t).mast (x.pf 68 64)).st ≠ .writing) :
    exec (.readHeldRelease t cid) s = .next ((s.at_ t).start cid) := by
  refine congrArg Host.Outcome.next ?_
  simp only [hc, hx]
  exact if_pos (decide_eq_true h)

theorem readHeldRelease_queueWrite {n : Nat} (hx : x.stage = .heldQueueWrite n) (h : ((s.at_ t).write n).all (·.accepted) = true) :
    exec (.readHeldRelease t cid) s = .next ((s.at_ t).start cid) := by
  refine congrArg Host.Outcome.next ?_
  simp only [hc, hx]
  refine if_pos ?_
  cases hw : (s.at_ t).write n with
  | none => rfl
  | some w =>
    rw [hw] at h
    exact h

theorem readHeldRelease_behind {n : Nat} (hx : x.stage = .heldBehind n)
    (h : ∀ y, (s.at_ t).cmd n = some y → y.stage ≠ .heldFurl ∧ y.stage ≠ .heldMap) :
    exec (.readHeldRelease t cid) s = .next ((s.at_ t).start cid) := by
  refine congrArg Host.Outcome.next ?_
  simp only [hc, hx]
  refine if_pos ?_
  cases hy : (s.at_ t).cmd n with
  | none => rfl
  | some y => exact decide_eq_true (h y hy)

end

/-- Settles O28: an admitted packet runs its command; each command's start takes the branch that its premises name. -/
theorem dataCommandsTakeEffect : Obligations.DataCommandsTakeEffect := by
  unfold Obligations.DataCommandsTakeEffect
  intro t q p s b c h
  refine ⟨?read, ?write, ?flush, ?abort, ?job, ?writing, ?queueWrite, ?behind⟩
  case read =>
    intro ho he hr hm hw hs
    refine (arrivalRow_letIn h ho (by decide)).trans (congrArg Host.Outcome.next ((if_pos (Or.inl ho)).trans ?_))
    refine (startRead_plain he hr hm (fun _ hst => ?_) hs).trans (if_neg (by rw [ho]; decide))
    exact hw.resolve_left (not_not.mpr hst)
  case write =>
    rintro ho ht hd hw w rfl
    refine (arrivalRow_letIn h ho (by decide)).trans (congrArg Host.Outcome.next ?_)
    refine Eq.trans ?_ (startWrite_taken ht hd hw)
    simp [State.dispatchCmd, ho]
  case flush =>
    rintro ho a l rfl rfl
    have row : exec (.flush t q p) s = .next (b.startFlush c) :=
      (arrivalRow_letIn h ho (by decide)).trans (congrArg Host.Outcome.next (by simp [State.dispatchCmd, ho]))
    exact ⟨fun hl => row.trans (congrArg Host.Outcome.next (if_pos hl)), fun hl => row.trans (congrArg Host.Outcome.next (if_neg hl))⟩
  case abort =>
    rintro ho hown f rfl
    have row : exec (.abort t q p) s = .next (b.startAbort c) :=
      (arrivalRow_letIn h ho (by decide)).trans (congrArg Host.Outcome.next (by simp [State.dispatchCmd, ho]))
    refine ⟨fun hf => row.trans (congrArg Host.Outcome.next (startAbort_absent hown hf)),
      fun x hf hx => row.trans (congrArg Host.Outcome.next ((startAbort_found hown hf).trans (if_pos hx))), ?_⟩
    rintro x r hf hx rfl
    have found := row.trans (congrArg Host.Outcome.next ((startAbort_found hown hf).trans (if_neg hx)))
    refine ⟨fun h1 h2 => found.trans (congrArg Host.Outcome.next (if_pos ⟨h1, h2⟩)),
      fun h1 => found.trans (congrArg Host.Outcome.next (if_neg ?_))⟩
    rintro ⟨h2, h3⟩
    exact h1.elim h2 (fun h4 => ne_true_of_eq_false h4 h3)
  case job =>
    rintro ho hj a rfl he hr hm hs
    refine (exec_job_letIn h ho hj).trans (congrArg Host.Outcome.next ((startRead_plain he hr hm (fun h1 => ?_) hs).trans (if_pos ho)))
    exact absurd (ho.symm.trans h1) (by decide)
  case writing => exact fun cid x hc hx hw => readHeldRelease_writing hc hx hw
  case queueWrite => exact fun cid x n hc hx hw => readHeldRelease_queueWrite hc hx hw
  case behind => exact fun cid x n hc hx hb => readHeldRelease_behind hc hx hb

end Sys2Proof.Machine
end

section
/-! PROOFS. The dictionary's, masts' and queues' commands (12.2, 12.7, 17.1), doorbells, moderation and unmasking (12.8, 12.9). -/
namespace Sys2Proof.Machine

/-! ## DICT_READ and DICT_WRITE -/

section
variable {b : State} {c : Cmd}

theorem startDictRead_refused {e : AccErr} (h : b.readObj c.owner.path (c.pf 79 64) (c.pf 87 80) c.ca = .error e) :
    b.startDictRead c = (b.countRefused e).complete c.cid e.status 0 := by
  unfold State.startDictRead
  simp only [h]

section
variable {d : List Byte} (h : b.readObj c.owner.path (c.pf 79 64) (c.pf 87 80) c.ca = .ok d)
include h

theorem startDictRead_noSpace {e : AccErr} (hs : intoSpace (c.pf 79 64) (c.pf 87 80) c.ca (c.pf 127 96) d = .error e) :
    b.startDictRead c = (b.countRefused e).complete c.cid e.status 0 := by
  unfold State.startDictRead
  simp only [h, hs]

theorem startDictRead_result {v : List Byte} (hs : intoSpace (c.pf 79 64) (c.pf 87 80) c.ca (c.pf 127 96) d = .ok v)
    (hl : c.pf 127 96 ≤ 8) : b.startDictRead c = b.complete c.cid 0 (leNat v) := by
  unfold State.startDictRead
  simp only [h, hs, if_pos hl]

theorem startDictRead_buffer {v : List Byte} (hs : intoSpace (c.pf 79 64) (c.pf 87 80) c.ca (c.pf 127 96) d = .ok v)
    (hl : 8 < c.pf 127 96) {f : Sys2Proof.Fn} (ho : c.owner = .fn f) : b.startDictRead c =
      ((b.tlp f.ep (.write f (c.pf 255 192) v)).updCmd c.cid (fun x => { x with written := [(c.pf 255 192, c.pf 127 96)] })).finishData
        c.cid 0 := by
  unfold State.startDictRead
  simp only [h, hs, if_neg (Nat.not_le.mpr hl)]
  rw [ho]

end

/-- A value at hand is applied; its command completes, is refused, or awaits its save (17 R474). -/
theorem dictApply_eq (hc : b.cmd c.cid = some c) (data : List Byte) :
    b.dictApply c.cid data = match (b.writeObj c.owner.path { waiters := [.cmd c.cid] } (c.pf 79 64) (c.pf 87 80) c.ca data).2 with
      | some e => (b.writeObj c.owner.path { waiters := [.cmd c.cid] } (c.pf 79 64) (c.pf 87 80) c.ca data).1.complete c.cid e.status 0
      | none =>
        if c.pf 79 64 = 0x1010 then
          (b.writeObj c.owner.path { waiters := [.cmd c.cid] } (c.pf 79 64) (c.pf 87 80) c.ca data).1.stage c.cid .action
        else (b.writeObj c.owner.path { waiters := [.cmd c.cid] } (c.pf 79 64) (c.pf 87 80) c.ca data).1.complete c.cid 0 0 := by
  unfold State.dictApply
  simp only [hc]
  obtain ⟨u, e⟩ := b.writeObj c.owner.path { waiters := [.cmd c.cid] } (c.pf 79 64) (c.pf 87 80) c.ca data
  cases e <;> rfl

theorem startDictWrite_buffer (hl : 8 < c.pf 127 96) {f : Sys2Proof.Fn} (ho : c.owner = .fn f) :
    b.startDictWrite c = (b.stage c.cid .dictBuffer).needRead f (c.pf 255 192) (c.pf 127 96) (.dictData c.cid) := by
  refine (if_neg (Nat.not_le.mpr hl)).trans ?_
  rw [ho]

end

/-- Settles O29: the value of a DICT_READ is read, placed in its space and delivered; a DICT_WRITE applies its value or fetches it. -/
theorem dictionaryCommandsTakeEffect : Obligations.DictionaryCommandsTakeEffect := by
  unfold Obligations.DictionaryCommandsTakeEffect
  rintro t q p s b c ix sub len h rfl rfl rfl
  constructor
  · intro ho
    have row : exec (.dictRead t q p) s = .next (b.startDictRead c) :=
      (arrivalRow_letIn h ho (by decide)).trans (congrArg Host.Outcome.next (by simp [State.dispatchCmd, ho]))
    refine ⟨fun e he => row.trans (congrArg Host.Outcome.next (startDictRead_refused he)), fun d hd => ?_⟩
    refine ⟨fun e he => row.trans (congrArg Host.Outcome.next (startDictRead_noSpace hd he)), fun v hv => ?_⟩
    exact ⟨fun hl => row.trans (congrArg Host.Outcome.next (startDictRead_result hd hv hl)),
      fun f hl hf => row.trans (congrArg Host.Outcome.next (startDictRead_buffer hd hv hl hf))⟩
  · intro ho
    have row : exec (.dictWrite t q p) s = .next (b.startDictWrite c) :=
      (arrivalRow_letIn h ho (by decide)).trans (congrArg Host.Outcome.next (by simp [State.dispatchCmd, ho]))
    refine ⟨?_, fun f hl hf => row.trans (congrArg Host.Outcome.next (startDictWrite_buffer hl hf))⟩
    rintro hl r rfl
    refine row.trans (congrArg Host.Outcome.next ((if_pos hl).trans ((dictApply_eq (letIn_cmd h) _).trans ?_)))
    generalize b.writeObj c.owner.path _ _ _ _ _ = r
    obtain ⟨u, e⟩ := r
    cases e <;> rfl

/-! ## MOUNT: the counterexample -/

/-- Table 2 is valid, with one zone of one layer. Mast 3 has a disc identity and its lease but no table, and an earlier reading of its
log found a blank slot. SQ 200 of HA's physical function holds a packet. -/
def mountRig (p : Sys2Proof.Packet) : State :=
  ((forEach [(okey 0x4200 1, 1), (tkey 2 0 3, 1), (tkey 2 0 4, 20000000), (tkey 2 0 5, 1), (tkey 2 0 8, 0), (tkey 2 0 9, 141835),
      (tkey 2 0 0x93, 141851), (mkey 3 0x56 1, 9), (mkey 3 0x56 2, 1), (mkey 3 0x56 3, 1), (okey 0x2100 3, 12), (okey 0x2200 1, 2),
      (okey 0x2210 1, 0xFFFFFFFF), (okey 0x2280 5, 64), (okey 0x2600 1, 0)] (fun v a => a.setObj v.1 v.2)
    { boot := { inReset := false, ready := true, wasReady := true },
      masts := [(3, { st := .tracking, wr := { log := [.blank] } })],
      host := { ha := { perst := false, memSpace := true, busMaster := true },
                sqs := [(200, { owner := .fn ⟨.ha, 0⟩, eq := 200, fetched := [p] })],
                eqs := [(200, { owner := .fn ⟨.ha, 0⟩ })],
                fns := [(0, { aen := true, ardy := true })] } }).setBlob (tkey 2 3 1)
      (leBytes 4 0 ++ leBytes 4 64 ++ leBytes 4 6553600 ++ leBytes 4 0)).setBlob (tkey 2 4 1) (leBytes 8 0)

/-- MOUNT of table 2 on mast 3, with tag 1 and sequence number 1. -/
def mountPacket : Sys2Proof.Packet := BitVec.ofNat 512 (0x08 + 1 * 2 ^ 16 + 1 * 2 ^ 32 + 3 * 2 ^ 64 + 2 * 2 ^ 72)

/-- The next state that the statement claims of a MOUNT that nothing refuses. -/
def mountClaim (b : State) (c : Cmd) : State :=
  (forEach (b.mountValues (c.pf 68 64) (c.pf 75 72)) (fun v a => a.setObj v.1 v.2) (b.updMast (c.pf 68 64) (fun x => { x with
    mountSaved := ((b.mountValues (c.pf 68 64) (c.pf 75 72)).map (·.1) ++ acquisitionKeys (c.pf 68 64)).map (fun k => (k, b.obj k))
    sails := x.sails.map (fun v => (v.1, { v.2 with reload := true })) }))).stage c.cid .mounting

/-- The MOUNT is admitted and nothing refuses it; it empties what was found of mast 3's log, which the claim leaves. -/
theorem mountRig_admits : ((mountRig mountPacket).letIn 0 200 mountPacket).any (fun x =>
    decide (x.1.opc = 0x08 ∧ x.2.tableOf (x.1.pf 68 64) = none ∧ x.2.objN (tkey (x.1.pf 75 72) 0 1) ≠ 0 ∧
      x.2.tableOk (x.1.pf 75 72) = true ∧ x.2.moN (x.1.pf 68 64) 0x56 2 ≠ 0 ∧ x.2.moN (x.1.pf 68 64) 0x56 1 ≠ 0 ∧
      x.2.moN (x.1.pf 68 64) 0x56 3 ≠ 2) &&
    decide (((x.2.startMount x.1).mast 3).wr.log.length = 0 ∧ ((mountClaim x.2 x.1).mast 3).wr.log.length = 1)) = true := by
  decide +kernel

/-- Refutes O30: a MOUNT also has the log read anew (`State.logAnew`, 11 R310). On a mast whose log was read in part before, the model
empties what was found, and the state of the statement keeps it. -/
theorem not_mastCommandsTakeEffect : ¬ Obligations.MastCommandsTakeEffect := by
  unfold Obligations.MastCommandsTakeEffect
  intro claim
  obtain ⟨⟨c, b⟩, h, hx⟩ := (Option.any_eq_true _ _).mp mountRig_admits
  dsimp only at hx
  rw [Bool.and_eq_true, decide_eq_true_eq, decide_eq_true_eq] at hx
  obtain ⟨⟨ho, ht, hn, hok, h2, h1, h3⟩, hempty, hkept⟩ := hx
  obtain ⟨mount, -⟩ := claim 0 200 mountPacket _ b c _ h rfl
  obtain ⟨-, -, done⟩ := mount ho _ rfl
  obtain ⟨-, done⟩ := done ht hn hok
  have claimed : exec (.mount 0 200 mountPacket) (mountRig mountPacket) = .next (mountClaim b c) := done h2 h1 h3 _ rfl
  have row : exec (.mount 0 200 mountPacket) (mountRig mountPacket) = .next (b.startMount c) :=
    (arrivalRow_letIn h ho (by decide)).trans (congrArg Host.Outcome.next (by simp [State.dispatchCmd, ho]))
  have same : b.startMount c = mountClaim b c := Host.Outcome.next.inj (row.symm.trans claimed)
  rw [same, hkept] at hempty
  exact absurd hempty (by decide)

/-! ## Queue commands -/

section
variable {b : State} {c : Cmd} {f : Sys2Proof.Fn} (hf : c.owner = .fn f)
include hf

theorem startCreateSq_eq : b.startCreateSq c =
    if (b.eq (c.pf 155 144)).owner ≠ .fn f then b.complete c.cid stInvalidField 0
    else if b.queueLimit f ≤ (b.sqsOf (.fn f)).length then b.complete c.cid stNoQueue 0
    else match b.freeSq with
      | none => b.complete c.cid stNoQueue 0
      | some q => (b.setSq q { owner := .fn f, base := c.pf 127 64, log := c.pf 131 128, eq := c.pf 155 144 }).showQueues.complete c.cid 0 q := by
  unfold State.startCreateSq
  rw [hf] <;> cases b.freeSq <;> rfl

theorem startCreateEq_eq : b.startCreateEq c =
    if vecCount f ≤ c.pf 154 144 then b.complete c.cid stInvalidField 0
    else if f.fn ≠ 0 ∧ c.pf 207 192 ≠ 0 then b.complete c.cid stAccessDenied 0
    else if b.queueLimit f ≤ (b.eqsOf (.fn f)).length then b.complete c.cid stNoQueue 0
    else match b.freeEq with
      | none => b.complete c.cid stNoQueue 0
      | some e => (b.setEq e {
          owner := .fn f, base := c.pf 127 64, log := c.pf 131 128, vec := c.pf 154 144, icnt := c.pf 167 160,
          itime := c.pf 191 176, subs := c.pf 207 192 }).showQueues.complete c.cid 0 e := by
  unfold State.startCreateEq
  rw [hf] <;> cases b.freeEq <;> rfl

theorem startDeleteSq_owned (hn : firstQueue ≤ c.pf 75 64) (ho : (b.sq (c.pf 75 64)).owner = .fn f) : b.startDeleteSq c =
    match (b.stopSq (c.pf 75 64)).flushingOf (c.pf 75 64) with
    | [] => (((b.stopSq (c.pf 75 64)).setSq (c.pf 75 64) {}).showQueues).complete c.cid 0 0
    | l => (b.stopSq (c.pf 75 64)).updCmd c.cid (fun x => { x with stage := .settling l 0 }) := by
  refine (if_neg ?_).trans ?_
  · rw [ho, hf]
    rintro (h | h)
    · exact absurd hn (Nat.not_le.mpr h)
    · exact h rfl
  · cases (b.stopSq (c.pf 75 64)).flushingOf (c.pf 75 64) <;> rfl

theorem startDeleteEq_owned (hn : firstQueue ≤ c.pf 75 64) (ho : (b.eq (c.pf 75 64)).owner = .fn f) : b.startDeleteEq c =
    if b.host.sqs.any (fun p => decide (p.2.owner ≠ .nobody ∧ p.2.eq = c.pf 75 64)) then b.complete c.cid stUnitBusy 0
    else ((b.setEq (c.pf 75 64) {}).showQueues).complete c.cid 0 0 := by
  refine if_neg ?_
  rw [ho, hf]
  rintro (h | h)
  · exact absurd hn (Nat.not_le.mpr h)
  · exact h rfl

end

/-- Settles O31: each queue command by the branches of its own start. -/
theorem queueCommandsTakeEffect : Obligations.QueueCommandsTakeEffect := by
  unfold Obligations.QueueCommandsTakeEffect
  intro t q p s b c f h hf
  refine ⟨?createSq, ?createEq, ?deleteSq, ?deleteEq⟩
  case createSq =>
    rintro ho e rfl
    have row : exec (.createSq t q p) s = _ :=
      (arrivalRow_letIn h ho (by decide)).trans
        (congrArg Host.Outcome.next ((by simp [State.dispatchCmd, ho] : b.dispatchCmd c = b.startCreateSq c).trans (startCreateSq_eq hf)))
    refine ⟨fun he => row.trans (congrArg Host.Outcome.next (if_pos he)), fun he hl => row.trans (congrArg Host.Outcome.next ?_),
      fun n he hl hn => row.trans (congrArg Host.Outcome.next ?_)⟩
    · refine (if_neg (not_not.mpr he)).trans ?_
      by_cases hlim : b.queueLimit f ≤ (b.sqsOf (.fn f)).length
      · exact if_pos hlim
      · rw [if_neg hlim, hl.resolve_left hlim]
        rfl
    · rw [if_neg (not_not.mpr he), if_neg (Nat.not_le.mpr hl), hn]
  case createEq =>
    intro ho
    have row : exec (.createEq t q p) s = _ :=
      (arrivalRow_letIn h ho (by decide)).trans
        (congrArg Host.Outcome.next ((by simp [State.dispatchCmd, ho] : b.dispatchCmd c = b.startCreateEq c).trans (startCreateEq_eq hf)))
    refine ⟨fun hv => row.trans (congrArg Host.Outcome.next (if_pos hv)),
      fun hv h1 h2 => row.trans (congrArg Host.Outcome.next ((if_neg (Nat.not_le.mpr hv)).trans (if_pos ⟨h1, h2⟩))), fun hv hs => ?_⟩
    have allowed : ¬ (f.fn ≠ 0 ∧ c.pf 207 192 ≠ 0) := fun h => hs.elim h.1 h.2
    refine ⟨fun hl => row.trans (congrArg Host.Outcome.next ?_), ?_⟩
    · refine (if_neg (Nat.not_le.mpr hv)).trans ((if_neg allowed).trans ?_)
      by_cases hlim : b.queueLimit f ≤ (b.eqsOf (.fn f)).length
      · exact if_pos hlim
      · rw [if_neg hlim, hl.resolve_left hlim]
        rfl
    · rintro n hl hn x rfl
      refine row.trans (congrArg Host.Outcome.next ?_)
      rw [if_neg (Nat.not_le.mpr hv), if_neg allowed, if_neg (Nat.not_le.mpr hl), hn]
  case deleteSq =>
    rintro ho n rfl
    have row : exec (.deleteSq t q p) s = .next (b.startDeleteSq c) :=
      (arrivalRow_letIn h ho (by decide)).trans (congrArg Host.Outcome.next (by simp [State.dispatchCmd, ho]))
    refine ⟨fun hn => row.trans (congrArg Host.Outcome.next (if_pos (hf ▸ hn))), ?_⟩
    rintro hn hown u rfl
    have owned := row.trans (congrArg Host.Outcome.next (startDeleteSq_owned hf hn hown))
    refine ⟨fun hl => owned.trans (congrArg Host.Outcome.next ?_), fun hl => owned.trans (congrArg Host.Outcome.next ?_)⟩
    · rw [hl]
    · cases hfl : (b.stopSq (c.pf 75 64)).flushingOf (c.pf 75 64) with
      | nil => exact absurd hfl hl
      | cons x xs => rfl
  case deleteEq =>
    rintro ho n rfl
    have row : exec (.deleteEq t q p) s = .next (b.startDeleteEq c) :=
      (arrivalRow_letIn h ho (by decide)).trans (congrArg Host.Outcome.next (by simp [State.dispatchCmd, ho]))
    refine ⟨fun hn => row.trans (congrArg Host.Outcome.next (if_pos (hf ▸ hn))), fun hn hown => ?_⟩
    have owned := row.trans (congrArg Host.Outcome.next (startDeleteEq_owned hf hn hown))
    refine ⟨fun hb => owned.trans (congrArg Host.Outcome.next (if_pos ?_)), fun hb => owned.trans (congrArg Host.Outcome.next (if_neg ?_))⟩
    · simpa only [List.any_eq_true, decide_eq_true_eq] using hb
    · simp only [List.any_eq_true, decide_eq_true_eq]
      rintro ⟨x, hx, h1, h2⟩
      exact hb x hx h1 h2

/-! ## Doorbells, moderation and unmasking -/

/-- Settles O32: each write of a doorbell takes the branch of its width, number, owner and value. -/
theorem doorbellsModerationAndUnmask : Obligations.DoorbellsModerationAndUnmask := by
  unfold Obligations.DoorbellsModerationAndUnmask
  rintro t f s v rfl hthere
  refine ⟨?tail, ?tailBad, ?head, ?headBad, ?moderation, ?unmask⟩
  case tail => exact fun q y hq ho hy => congrArg Host.Outcome.next ((if_pos hthere).trans (if_pos ⟨rfl, hq, ho, hy⟩))
  case tailBad =>
    refine fun q y width h => congrArg Host.Outcome.next ((if_pos hthere).trans (if_neg ?_))
    rintro ⟨h1, h2, h3, h4⟩
    rcases h with h | h | h | h
    · exact h h1
    · exact absurd h2 (Nat.not_lt.mpr h)
    · exact h h3
    · exact absurd h4 (Nat.not_lt.mpr h)
  case head =>
    rintro e y x rfl he ho hy
    exact ⟨fun h => congrArg Host.Outcome.next ((if_pos hthere).trans ((if_pos ⟨rfl, he, ho, hy⟩).trans (if_pos h))),
      fun h => congrArg Host.Outcome.next ((if_pos hthere).trans ((if_pos ⟨rfl, he, ho, hy⟩).trans (if_neg (Nat.not_le.mpr h))))⟩
  case headBad =>
    refine fun e y width h => congrArg Host.Outcome.next ((if_pos hthere).trans (if_neg ?_))
    rintro ⟨h1, h2, h3, h4⟩
    rcases h with h | h | h | h
    · exact h h1
    · exact absurd h2 (Nat.not_lt.mpr h)
    · exact h h3
    · exact absurd h4 (Nat.not_lt.mpr h)
  case moderation => exact fun e h1 h2 => congrArg Host.Outcome.next (if_pos ⟨h1, h2⟩)
  case unmask =>
    rintro vec r x hvec rfl rfl u rfl
    exact congrArg Host.Outcome.next (if_pos ⟨hthere, hvec⟩)

end Sys2Proof.Machine
end

section
/-! PROOFS. Staging grants and peer windows (11.2, 12.4, 13.8, 15.6). -/
namespace Sys2Proof.Machine

/-! ## Grants -/

section
variable {v : State} {w : Write}

theorem grant_placed {cid g : Nat} (hw : v.media.writes.find? (fun x => decide (x.cid = cid ∧ x.phase = .waiting)) = some w)
    (hfirst : (v.media.writes.find? (fun x => decide (x.mast = w.mast ∧ x.phase = .waiting))).map (·.serial) = some w.serial)
    (hg : v.grantPlace w = some g) (hfree : v.stagingFree w = true) {ch : List Nat} {u : State}
    (htake : v.takePages (totalSlots w.len w.xpe) = (ch, u)) :
    v.grant cid = ((({ u with media := { u.media with
        staged := u.media.staged + totalSlots w.len w.xpe, nextGid := (u.media.nextGid + 1) % 65536 } } : State).showFree).updWrite w.serial
          (fun _ => { w with
            phase := .granted, gid := u.media.nextGid, goff := g, ngr := granulesOf w.len, got := [], grantAt := v.now, chans := ch })).writeEvent
        { w with phase := .granted, gid := u.media.nextGid, goff := g, ngr := granulesOf w.len, got := [], grantAt := v.now, chans := ch }
        0x02 0 g (granulesOf w.len) u.media.nextGid := by
  unfold State.grant
  simp only [hw, hg]
  refine (if_pos ⟨hfirst, hfree⟩).trans ?_
  rw [htake]

theorem phase_of_find? {cid : Nat} (hw : v.media.writes.find? (fun x => decide (x.cid = cid ∧ x.phase = .granted)) = some w) :
    w.phase = .granted := by
  have found := List.find?_some hw
  exact (of_decide_eq_true found).2

theorem grantExpires_due (hp : w.phase = .granted) (hg : w.got.length < w.ngr) (ht : w.grantAt + ms (v.objN (okey 0x2280 3)) ≤ v.now) :
    v.grantExpires w = (v.count (okey 0x5420 5)).failOne stGrantTimeout w := if_pos ⟨hp, hg, ht⟩

theorem grantExpires_open (h : v.now < w.grantAt + ms (v.objN (okey 0x2280 3)) ∨ w.ngr ≤ w.got.length) : v.grantExpires w = v := by
  refine if_neg ?_
  rintro ⟨-, hg, ht⟩
  exact h.elim (fun h => absurd ht (Nat.not_le.mpr h)) (fun h => absurd hg (Nat.not_lt.mpr h))

theorem exec_grantTimeout {s : State} {t cid : Nat}
    (hw : (s.at_ t).media.writes.find? (fun x => decide (x.cid = cid ∧ x.phase = .granted)) = some w) :
    exec (.grantTimeout t cid) s = .next ((s.at_ t).grantExpires w) := by
  show execGrantTimeout t cid s = _
  unfold execGrantTimeout
  simp only [hw]

end

/-! ## Writes through a peer window -/

section
variable {x : State} {f : Sys2Proof.Fn} {off rid : Nat} {data : List Byte} {w : PeerWin}

theorem bar2Write_noWindow (h : (x.fnr f).match_ f off data.length rid = none) : x.bar2Write f off rid data = (x, false) := by
  unfold State.bar2Write
  rw [h]

section
variable (h : (x.fnr f).match_ f off data.length rid = some w)
include h

theorem bar2Write_grant (hk : w.kind = 0) {g : Write} (hg : x.grantAt (.fn f) off data.length = some g) :
    x.bar2Write f off rid data = (x.granules_ g off data, true) := by
  unfold State.bar2Write
  simp only [h, hk, if_true, hg]

theorem bar2Write_noGrant (hk : w.kind = 0) (hg : x.grantAt (.fn f) off data.length = none) :
    x.bar2Write f off rid data = (x, false) := by
  unfold State.bar2Write
  simp only [h, hk, if_true, hg]

theorem bar2Write_engine (hk : w.kind = 1) {a : Nat} (ha : x.windowPlace f w off data.length = some a) :
    x.bar2Write f off rid data = if (x.engine w.eng).seg.isSome then (x.count (okey 0x5426 2), false)
      else (x.writeWindow w.eng a data, true) := by
  unfold State.bar2Write
  simp only [h, hk, one_ne_zero, if_false, if_true, ha]

theorem bar2Write_noPlace (hk : w.kind = 1) (ha : x.windowPlace f w off data.length = none) :
    x.bar2Write f off rid data = (x, false) := by
  unfold State.bar2Write
  simp only [h, hk, one_ne_zero, if_false, if_true, ha]

end

variable {s : State} {t : Nat} (hthere : (s.at_ t).fnThere f = true)
include hthere

theorem apertureWrite_poisoned : exec (.apertureWrite t f off data rid true) s =
    .next ((s.at_ t).aerError f 1 (some (rid, off, data.length))) := by
  show execApertureWrite t f off data rid true s = _
  unfold execApertureWrite
  exact (if_neg (by rw [hthere]; decide)).trans (if_pos rfl)

/-- A write that is not poisoned is applied, or matches nothing (13 R365). -/
theorem apertureWrite_clean {u : State} {ok : Bool} (hw : (s.at_ t).grantsExpire.bar2Write f off rid data = (u, ok)) :
    exec (.apertureWrite t f off data rid false) s = .next (if ok then u else u.unmatched f off data.length rid) := by
  show execApertureWrite t f off data rid false s = _
  unfold execApertureWrite
  simp only [hthere, hw, Bool.not_true, Bool.false_eq_true, if_false]

end

/-! ## Reads through a peer window -/

section
variable {s : State} {t : Nat} {f : Sys2Proof.Fn} {off len rid : Nat} {flips : List Granule} (hthere : (s.at_ t).fnThere f = true)
include hthere

theorem apertureRead_filling (h : (s.at_ t).boot.filling = true) :
    exec (.apertureRead t f off len rid flips) s = .next ((s.at_ t).tlp f.ep (.cplUR f)) := by
  show execApertureRead t f off len rid flips s = _
  unfold execApertureRead
  exact (if_neg (by rw [hthere]; decide)).trans (if_pos h)

theorem apertureRead_unsupported
    (h : ∀ w, ((s.at_ t).fnr f).match_ f off len rid = some w → w.kind = 0 ∨ (s.at_ t).windowPlace f w off len = none) :
    exec (.apertureRead t f off len rid flips) s = .next ((s.at_ t).tlp f.ep (.cplUR f)) := by
  show execApertureRead t f off len rid flips s = _
  unfold execApertureRead
  refine (if_neg (by rw [hthere]; decide)).trans ?_
  refine (ite_eq_left_iff).mpr fun _ => ?_
  cases hw : ((s.at_ t).fnr f).match_ f off len rid with
  | none => rfl
  | some w =>
    refine (ite_eq_left_iff).mpr fun hk => ?_
    rw [(h w hw).resolve_left hk]

theorem apertureRead_window (hfill : (s.at_ t).boot.filling = false) {w : PeerWin} {a : Nat}
    (hw : ((s.at_ t).fnr f).match_ f off len rid = some w) (hk : w.kind ≠ 0) (ha : (s.at_ t).windowPlace f w off len = some a)
    {gs : List ((Nat × Nat) × Nat)} {u : State}
    (hgs : gs = ((List.range ((a + len - 1) / 32 + 1 - a / 32)).map (fun i => (s.at_ t).windowGranule w.eng (32 * (a / 32 + i)))).zipIdx)
    (hu : u = forEach gs (fun g b => b.memoryRead g.1.1 g.1.2 (flips.drop (3 * g.2))) (s.at_ t)) :
    exec (.apertureRead t f off len rid flips) s =
      if gs.any (fun g => (s.at_ t).granuleFails g.1.1 g.1.2 (flips.drop (3 * g.2))) then .next (u.tlp f.ep (.cplCA f))
      else .next (u.tlp f.ep (.cplData f (bytesAt ((s.at_ t).engine w.eng).window a len))) := by
  show execApertureRead t f off len rid flips s = _
  unfold execApertureRead
  refine (if_neg (by rw [hthere]; decide)).trans ((if_neg (ne_true_of_eq_false hfill)).trans ?_)
  simp only [hw, if_neg hk, ha]
  subst hu hgs
  rfl

end

/-! ## The commit of the windows -/

section
variable {s : State} {t y : Nat} {f : Sys2Proof.Fn}

theorem windowCommit_ignored (hy : 2 ≤ y) (hthere : (s.at_ t).fnThere f = true) : exec (.windowCommit t f y) s =
    .next (((s.at_ t).count (epCounter f.ep 1)).conditionTo (.fn f) 0x0003 4 (aqn f) 0x600) := by
  show execWindowCommit t f y s = _
  unfold execWindowCommit
  exact (if_neg (by rw [hthere]; decide)).trans ((if_neg (by omega)).trans (if_neg (by omega)))

theorem windowCommit_one (hthere : (s.at_ t).fnThere f = true) : exec (.windowCommit t f 1) s = .next ((s.at_ t).windowCommit f) := by
  show execWindowCommit t f 1 s = _
  unfold execWindowCommit
  exact (if_neg (by rw [hthere]; decide)).trans (if_pos rfl)

theorem windowCommit_zero (hthere : (s.at_ t).fnThere f = true) : exec (.windowCommit t f 0) s = .next (s.at_ t) := by
  show execWindowCommit t f 0 s = _
  unfold execWindowCommit
  exact (if_neg (by rw [hthere]; decide)).trans ((if_neg (by decide)).trans (if_pos rfl))

end

/-- Settles O33: each access takes the branch of its window's kind, its grant or its place. -/
theorem grantsAndPeerWindows : Obligations.GrantsAndPeerWindows := by
  unfold Obligations.GrantsAndPeerWindows
  rintro t s v rfl
  refine ⟨?grant, ?timeout, ?write, ?read, ?commit, ?away⟩
  case grant =>
    rintro cid w g hw hfirst hg hfree ch u htake w' rfl md rfl
    exact congrArg Host.Outcome.next (grant_placed hw hfirst hg hfree htake)
  case timeout =>
    refine fun cid w hw => ⟨fun hg ht => ?_, fun h => ?_⟩
    · exact (exec_grantTimeout hw).trans (congrArg Host.Outcome.next (grantExpires_due (phase_of_find? hw) hg ht))
    · exact (exec_grantTimeout hw).trans (congrArg Host.Outcome.next (grantExpires_open h))
  case write =>
    rintro f hthere x rfl off data rid
    refine ⟨fun w hw => ⟨fun hk => ⟨fun g hg => ?_, fun hg => ?_⟩, fun hk => ⟨fun a ha => ?_, fun ha => ?_⟩⟩, fun hw => ?_, ?_⟩
    · exact apertureWrite_clean hthere (bar2Write_grant hw hk hg)
    · exact apertureWrite_clean hthere (bar2Write_noGrant hw hk hg)
    · have taken := bar2Write_engine hw hk ha
      refine ⟨fun hs => ?_, fun hs => ?_⟩
      · exact apertureWrite_clean hthere (taken.trans (if_neg (by rw [hs]; decide)))
      · exact apertureWrite_clean hthere (taken.trans (if_pos (Option.isSome_iff_ne_none.mpr hs)))
    · exact apertureWrite_clean hthere (bar2Write_noPlace hw hk ha)
    · exact apertureWrite_clean hthere (bar2Write_noWindow hw)
    · exact apertureWrite_poisoned hthere
  case read =>
    intro f hthere off len rid flips
    refine ⟨fun hfill w a hw hk ha gs u hgs hu => ?_, fun h => ?_⟩
    · have row := apertureRead_window hthere hfill hw hk ha hgs hu
      refine ⟨fun hok => row.trans (if_neg ?_), fun hbad => row.trans (if_pos (List.any_eq_true.mpr hbad))⟩
      rw [List.any_eq_true]
      rintro ⟨g, hg, hfail⟩
      exact ne_true_of_eq_false (hok g hg) hfail
    · exact h.elim (apertureRead_filling hthere) (apertureRead_unsupported hthere)
  case commit =>
    refine fun f hthere => ⟨?_, ?_, windowCommit_zero hthere, fun y hy => windowCommit_ignored hy hthere⟩
    · rintro hbad r rfl
      exact (windowCommit_one hthere).trans (congrArg Host.Outcome.next (if_pos (by rw [hbad]; decide)))
    · rintro hok r rfl gone rfl
      exact (windowCommit_one hthere).trans (congrArg Host.Outcome.next (if_neg (by rw [hok]; decide)))
  case away =>
    intro f haway off data len rid flips b y
    have here : (!(s.at_ t).fnThere f) = true := by rw [haway]; decide
    exact ⟨if_pos here, if_pos here, if_pos here⟩

end Sys2Proof.Machine
end

section
/-! PROOFS. The mast link: frames that arrive and leave, training, lanes that fail and return (3.3 to 3.11). -/
namespace Sys2Proof.Machine

/-- A row about mast `m` runs its effect. -/
theorem onMast_lt {m : Nat} (h : m < 32) (s : State) (f : State → State) : onMast m s f = f s := if_pos h

/-! ## Frames that arrive -/

section
variable {v u h : State} {m lane : Nat} {f : RxFrame}

section
variable (hh : h = v.heard m) (hlane : lane < 7) (hst : 2 ≤ h.linkSt m) (hin : h.laneIn m lane = true)
include hh hlane hst hin

/-- A frame of a type in use that decodes with its CRC, on a locked lane (03 R84). -/
theorem rxFrame_valid {n : Nat} {x : LaneRx} (hn : n = unscramble lane f.bits) (hd : f.decoded = true) (hc : frameCrcOk n = true)
    (ht : n % 16 = 14) (hx : x = (h.countN (ckey m 0 (lane + 1)) f.corrected).lane m lane) (hl : x.locked = true) :
    v.rxFrame m lane f = ((h.countN (ckey m 0 (lane + 1)) f.corrected).setLane m lane { x with bad := 0 }, some n) := by
  subst hh hn hx
  have hopen : ¬ ((v.heard m).linkSt m < 2 ∨ 7 ≤ lane ∨ (v.heard m).laneIn m lane = false) := by
    rintro (h | h | h)
    · omega
    · omega
    · exact ne_true_of_eq_false h hin
  unfold State.rxFrame
  extract_lets s n valid ty use s1 s2 x
  have hvalid : valid = true := by simp only [valid, n, hd, hc, Bool.and_self]
  have huse : use = true := by simp only [use, hvalid, ty, n, ht]; rfl
  have h1 : s1 = (v.heard m).countN (ckey m 0 (lane + 1)) f.corrected := if_pos hd
  have h2 : s2 = (v.heard m).countN (ckey m 0 (lane + 1)) f.corrected := (if_pos huse).trans h1
  refine (if_neg hopen).trans ?_
  simp only [x, hvalid, huse, h2, hl, if_true]
  rfl

/-- A codeword that does not decode, on a locked lane: it is counted, and the eighth in a row ends the lock (03 R84, R101, R105). -/
theorem rxFrame_undecoded {x : LaneRx} (hd : f.decoded = false) (hx : x = (h.countM m 1 (lane + 1)).lane m lane)
    (hl : x.locked = true) : v.rxFrame m lane f =
      if x.bad + 1 < 8 then ((h.countM m 1 (lane + 1)).setLane m lane { x with bad := x.bad + 1 }, none)
      else if (h.countM m 1 (lane + 1)).linkSt m = 6 then ((h.countM m 1 (lane + 1)).laneGoesDown m lane, none)
      else (((h.countM m 1 (lane + 1)).setLane m lane { x with locked := false, run := 0, bad := 0 }).showLanes m, none) := by
  subst hh hx
  have hopen : ¬ ((v.heard m).linkSt m < 2 ∨ 7 ≤ lane ∨ (v.heard m).laneIn m lane = false) := by
    rintro (h | h | h)
    · omega
    · omega
    · exact ne_true_of_eq_false h hin
  unfold State.rxFrame
  extract_lets s n valid ty use s1 s2 x
  have hvalid : valid = false := by simp only [valid, hd, Bool.false_and]
  have huse : use = false := by simp only [use, hvalid, Bool.false_and]
  have h1 : s1 = v.heard m := if_neg (ne_true_of_eq_false hd)
  have h2 : s2 = (v.heard m).countM m 1 (lane + 1) := (if_neg (ne_true_of_eq_false huse)).trans (by rw [h1])
  refine (if_neg hopen).trans ?_
  simp only [x, hvalid, h2, hl, if_true, Bool.false_eq_true, if_false]

end

theorem judgeEye_tried {setting margin : Nat} (hst : u.linkSt m = 3) (hlane : lane < 7) (hin : u.laneIn m lane = true)
    (hl : (u.lane m lane).locked = true) (ht : (u.lane m lane).trial < 81) (hs : setting = txeqCode (u.lane m lane).trial) :
    u.judgeEye m lane (some (setting, margin)) = u.setLane m lane { u.lane m lane with
      trial := (u.lane m lane).trial + 1
      best := if (u.lane m lane).best.all (fun b => decide (b.1 < margin)) = true then some (margin, setting)
        else (u.lane m lane).best } := by
  refine (if_pos ⟨hst, hlane, hin, hl, ht, hs⟩).trans ?_
  cases (u.lane m lane).best <;> rfl

section
variable {n : Nat} (hrx : v.rxFrame m lane f = (u, some n))
include hrx

theorem sampleFrame_used (ht : n % 16 = 1) (hlane : lane < 6) (hst : 5 ≤ u.linkSt m) : v.sampleFrame m lane f =
    (if lane = 0 then u.setMapped m false else u).takeSamples m n (sailsOfLane lane) 50 := by
  unfold State.sampleFrame
  rw [hrx]
  exact if_pos ⟨ht, hlane, hst⟩

theorem telemetryFrame_used (ht : n % 16 = 2) (hlane : lane = 0 ∨ (lane = 6 ∧ u.moN m 8 6 = 0)) (hst : 5 ≤ u.linkSt m) :
    v.telemetryFrame m lane f = ((u.setMapped m (decide (lane = 0))).updLink m (fun y => { y with
      newest := (List.range 39).map (fun w => fld n (3139 + 16 * w) (3124 + 16 * w)) })).takeSamples m n (sailsOfLane 6) 30 := by
  unfold State.telemetryFrame
  rw [hrx]
  exact if_pos ⟨ht, hlane, hst⟩

theorem identityFrame_used {tick : Nat} (ht : n % 16 = 3) (hlane : lane = u.telemetryLane m) (hst : u.linkSt m = 4)
    (hset : (u.link m).tset = 0) : v.identityFrame m lane f tick = u.takeIdentity m n tick := by
  unfold State.identityFrame
  rw [hrx]
  exact if_pos ⟨ht, hlane, hst, hset⟩

end

section
variable {a : State} {tick : Nat} (ha : a = (v.atStrobe m tick 400).trainingTimeout m) (hst : 5 ≤ a.linkSt m)
  (hnew : (a.link m).newest ≠ [])
include ha hst hnew

theorem takeTelemetry_stale (htsn : (a.link m).newest.getD 0 0 ≠ tick / 400 % 65536) : v.takeTelemetry m tick =
    ((a.updLink m (fun y => { y with tel := (a.link m).newest, stale := true })).countM m 3 2).traceEvent m 3 := by
  subst ha
  refine (if_neg ?_).trans (if_pos htsn)
  rintro (h | h)
  · omega
  · exact hnew h

theorem takeTelemetry_training (htsn : (a.link m).newest.getD 0 0 = tick / 400 % 65536)
    (hb : ((a.updLink m (fun y => { y with tel := (a.link m).newest, stale := false })).wrapCounts m).linkSt m = 5) :
    v.takeTelemetry m tick =
      ((a.updLink m (fun y => { y with tel := (a.link m).newest, stale := false })).wrapCounts m).rimgCheck m := by
  subst ha
  refine (if_neg ?_).trans ((if_neg (not_not.mpr htsn)).trans (if_pos (Or.inl ?_)))
  · rintro (h | h)
    · omega
    · exact hnew h
  · exact decide_eq_false (by rw [hb]; decide)

end
end

/-- Settles O34: what a codeword's lock and CRC decide, and which frames and sets are used. -/
theorem mastLinkFramesArrive : Obligations.MastLinkFramesArrive := by
  unfold Obligations.MastLinkFramesArrive
  rintro t m lane f s v h rfl hm hh
  refine ⟨?idle, ?bad, ?eye, ?sample, ?telemetry, ?identity, ?take⟩
  case idle =>
    intro n x hlane hst hin hn hd hc ht hx hl
    refine congrArg Host.Outcome.next ((onMast_lt hm _ _).trans ?_)
    rw [rxFrame_valid hh hlane hst hin hn hd hc ht hx hl]
    rfl
  case bad =>
    rintro x b hlane hst hin hd rfl hx hl
    have got := rxFrame_undecoded hh hlane (by omega) hin hd hx hl
    refine ⟨fun hlt => congrArg Host.Outcome.next ((onMast_lt hm _ _).trans ?_),
      fun hge hup => congrArg Host.Outcome.next ((onMast_lt hm _ _).trans ?_)⟩
    · rw [got.trans (if_pos hlt)]
      rfl
    · rw [got.trans ((if_neg (by omega)).trans (if_pos hup))]
      rfl
  case eye =>
    rintro u x setting margin rfl rfl hst hlane hin hl ht hs
    exact congrArg Host.Outcome.next ((onMast_lt hm _ _).trans (judgeEye_tried hst hlane hin hl ht hs))
  case sample =>
    exact fun u n hrx ht hlane hst => congrArg Host.Outcome.next ((onMast_lt hm _ _).trans (sampleFrame_used hrx ht hlane hst))
  case telemetry =>
    rintro u n hrx ht hlane hst set rfl
    exact congrArg Host.Outcome.next ((onMast_lt hm _ _).trans (telemetryFrame_used hrx ht hlane hst))
  case identity =>
    exact fun tick u n hrx ht hlane hst hset =>
      congrArg Host.Outcome.next ((onMast_lt hm _ _).trans (identityFrame_used hrx ht hlane hst hset))
  case take =>
    rintro tick a new ha rfl hst hnew
    refine ⟨fun htsn => congrArg Host.Outcome.next ((onMast_lt hm _ _).trans (takeTelemetry_stale ha hst hnew htsn)), ?_⟩
    rintro htsn b rfl hb
    exact congrArg Host.Outcome.next ((onMast_lt hm _ _).trans (takeTelemetry_training ha hst hnew htsn hb))

/-! ## Frames that leave, and training -/

section
variable {v : State} {m tick : Nat}

theorem sendCommand_eq {a b c d e : State} {sfw spf : Nat} {slots : List (Nat × Nat)} {x : OptSt}
    {w : Nat → List (Nat × Nat × List Bool)} (ha : a = v.atTick m tick) (hst : 5 ≤ a.linkSt m) (hclk : a.frameClock m tick = (sfw, spf, b))
    (hslots : b.regSlots m = (slots, c)) (hx : x = (c.opt m).clockAt tick)
    (hd : d = if c.linkSt m = 6 then c.lateBits m ((x.indexAt (tick + 32) + 256) % 2 ^ 32) else c)
    (hw : w = fun l => d.writeBlocks m (d.slotsOfLane m l) ((x.indexAt tick + 1024) % 2 ^ 32))
    (he : e = d.sendFrames m (c.commandBody m tick sfw spf slots) (fun l => blockBits (if l = 0 then w 0 else w 1))) :
    v.sendCommand m tick = if e.linkSt m = 6 then e.sentBlocks m (x.indexAt tick) (w 0 ++ w 1) else e := by
  subst ha he hw hd hx
  unfold State.sendCommand
  refine (if_neg (by omega)).trans ?_
  rw [hclk]
  dsimp only
  rw [hslots]

theorem sendIdle_eq {a b c : State} {t0 : Nat} {slots : List (Nat × Nat)} (ha : a = v.atTick m tick) (ht0 : (a.link m).t0 = some t0)
    (hdue : t0 + ms 1 ≤ a.now) (hlo : 2 ≤ a.linkSt m) (hhi : a.linkSt m < 5) (hslots : a.regSlots m = (slots, b))
    (hc : c = b.sendFrames m (b.idleBody m tick (a.link m).idreq (decide (0 < (a.link m).tset)) slots) (fun _ => 0)) :
    v.sendIdle m tick = if (a.link m).tset = 0 then c
      else if (a.link m).tset = 1 then (c.updLink m (fun y => { y with tset := (a.link m).tset - 1 })).setLinkSt m 5
      else c.updLink m (fun y => { y with tset := (a.link m).tset - 1 }) := by
  subst ha hc
  unfold State.sendIdle
  refine (if_neg ?_).trans ?_
  · rw [ht0]
    rintro (h | h | h)
    · omega
    · omega
    · exact of_decide_eq_false h hdue
  · rw [hslots]

theorem signalDetect_starts {h : State} (hh : h = v.heard m) (hst : (h.mast m).st = .absent ∨ (h.mast m).st = .faulted)
    (hlink : h.linkSt m < 2) (hdue : h.retryDue m = true) : v.signalDetect m = h.trainingStart m := by
  subst hh
  refine if_neg ?_
  rintro (h1 | h1 | h1 | h1)
  · rcases hst with h2 | h2 <;> exact absurd (h2.symm.trans h1) (by decide)
  · omega
  · exact hst.elim h1.1 h1.2
  · exact ne_true_of_eq_false h1 hdue

theorem trainingRetry_starts (hst : (v.mast m).st ≠ .retired) (hlink : v.linkSt m = 1)
    (hdue : ∃ p, (v.link m).prbsAt = some p ∧ p + (if 3 ≤ (v.link m).fails then sec 10 else ms 10) ≤ v.now) :
    v.trainingRetry m = v.trainingStart m := by
  obtain ⟨p, hp, hle⟩ := hdue
  refine if_pos ⟨hlink, by rw [hp]; rfl, hst, ?_⟩
  unfold State.retryDue
  rw [hp]
  exact decide_eq_true hle

theorem equalisationEnd_due {t0 : Nat} (ht0 : (v.link m).t0 = some t0) (hdue : t0 + ms 40 ≤ v.now) (hlo : 2 ≤ v.linkSt m)
    (hhi : v.linkSt m < 4) {u : State} {b : Bool}
    (hu : u = forEach ((List.range 7).filter (fun l => v.laneIn m l && !(v.lane m l).locked)) (fun l a =>
        a.setLane m l { a.lane m l with failed := true }) v)
    (hb : b = (!(v.lane m 6).locked || !v.laneIn m 6)) :
    v.equalisationEnd m = ((if b = true then u.setMo m 8 6 1 else u).updLink m (fun y => { y with idreq := true })).setLinkSt m 4 := by
  subst hu hb
  refine if_neg ?_
  rw [ht0]
  rintro (h | h | h)
  · omega
  · omega
  · exact of_decide_eq_false h hdue

theorem trainingEnds_eq (a : State) : a.trainingEnds m = ((((a.setLinkSt m 1).updLink m (fun y => { y with
    t0 := none, prbsAt := some (a.setLinkSt m 1).now, lanes := [] })).showLanes m).emit (.prbs (32 + m))) := by
  have hnow : (a.setLinkSt m 1).now = a.now := rfl
  rw [hnow]
  rfl

theorem trainingTimeout_due {t0 : Nat} (ht0 : (v.link m).t0 = some t0) (hdue : t0 + ms (v.moN m 0x0A 3) ≤ v.now) (hlo : 2 ≤ v.linkSt m)
    (hne : v.linkSt m ≠ 6) {u : State}
    (hu : u = ((v.countM m 3 4).updLink m (fun y => { y with fails := y.fails + 1 })).trainingEnds m) :
    v.trainingTimeout m = if (u.link m).fails ≥ 3 then u.faultMast m else u := by
  subst hu
  refine if_neg ?_
  rw [ht0]
  rintro (h | h | h)
  · omega
  · exact hne h
  · exact of_decide_eq_false h hdue

end

/-- Settles O35: the frames that leave, and each step of the training by its time. -/
theorem mastLinkSendsAndTrains : Obligations.MastLinkSendsAndTrains := by
  unfold Obligations.MastLinkSendsAndTrains
  rintro t m s v rfl hm
  refine ⟨?command, ?idle, ?start, ?equalisation, ?timeout⟩
  case command =>
    intro tick a sfw spf b slots c x d e ha hst hclk hslots hx hd w hw he
    exact congrArg Host.Outcome.next ((onMast_lt hm _ _).trans (sendCommand_eq ha hst hclk hslots hx hd hw he))
  case idle =>
    intro tick a t0 slots b c ha ht0 hdue hlo hhi hslots hc
    have sent := sendIdle_eq ha ht0 hdue hlo hhi hslots hc
    refine ⟨fun h => ?_, fun h => ?_, fun h => ?_⟩
    · exact congrArg Host.Outcome.next ((onMast_lt hm _ _).trans (sent.trans (if_pos h)))
    · refine congrArg Host.Outcome.next ((onMast_lt hm _ _).trans (sent.trans ((if_neg (by omega)).trans ((if_pos h).trans ?_))))
      rw [h]
    · exact congrArg Host.Outcome.next ((onMast_lt hm _ _).trans (sent.trans ((if_neg (by omega)).trans (if_neg (by omega)))))
  case start =>
    intro start hstart
    have started : ∀ a, a.trainingStart m = start a := fun a => (hstart a).symm
    refine ⟨fun h hh hst hlink hdue => ?_, fun hst hlink hdue => ?_⟩
    · exact congrArg Host.Outcome.next ((onMast_lt hm _ _).trans ((signalDetect_starts hh hst hlink hdue).trans (started h)))
    · exact congrArg Host.Outcome.next ((onMast_lt hm _ _).trans ((trainingRetry_starts hst hlink hdue).trans (started _)))
  case equalisation =>
    intro t0 ht0 hdue hlo hhi b u hu hb
    exact congrArg Host.Outcome.next ((onMast_lt hm _ _).trans (equalisationEnd_due ht0 hdue hlo hhi hu hb))
  case timeout =>
    rintro t0 ht0 hdue hlo hne a u rfl hu
    exact congrArg Host.Outcome.next ((onMast_lt hm _ _).trans (trainingTimeout_due ht0 hdue hlo hne (hu.trans (trainingEnds_eq _).symm)))

/-! ## Lanes that fail and return -/

section
variable {v : State} {m lane : Nat}

theorem laneGoesDown_eq (hin : v.laneIn m lane = true) (hdown : (v.lane m lane).downAt = none) {y u w : State}
    (hy : y = v.setLane m lane { v.lane m lane with locked := false, run := 0, bad := 0, downAt := some v.now })
    (hu : u = if lane = 8 then y.updLink m (fun z => { z with outDown0 := true })
      else if lane = 9 then y.updLink m (fun z => { z with outDown1 := true })
      else if lane = 6 then (y.stopSails m (y.sailsCarried m lane)).setMo m 8 6 1 else y.stopSails m (y.sailsCarried m lane))
    (hw : w = (u.showLanes m).failLane m lane) :
    v.laneGoesDown m lane = if w.laneRetired m lane = true then w.laneGone m lane else w := by
  subst hy hu hw
  refine if_neg ?_
  rw [hin, hdown]
  decide

theorem laneNotBack_due {d : Nat} (hd : (v.lane m lane).downAt = some d) (hdue : d + ms 2 ≤ v.now)
    (hr : v.laneRetired m lane = false) : v.laneNotBack m lane = (v.retireLane m lane).laneGone m lane := by
  unfold State.laneNotBack
  rw [hd]
  exact if_pos ⟨hdue, hr⟩

theorem laneReturns_eq {a y : State} (ha : a = v.laneNotBack m lane) (hdown : (a.lane m lane).downAt ≠ none)
    (hr : a.laneRetired m lane = false)
    (hy : y = a.setLane m lane { a.lane m lane with locked := true, run := 0, bad := 0, downAt := none, upAt := a.now }) :
    v.laneReturns m lane = (if lane < 8 then y else y.updLink m (fun z =>
      if lane = 8 then { z with outDown0 := false, outBad0 := 0 } else { z with outDown1 := false, outBad1 := 0 })).showLanes m := by
  subst ha hy
  refine if_neg ?_
  rintro (h | h)
  · exact hdown (Option.isNone_iff_eq_none.mp h)
  · exact ne_true_of_eq_false hr h

theorem lmapEnds_clean (hmap : v.moN m 8 6 ≠ 0) (hl : (v.lane m 6).locked = true) (hr : v.laneRetired m 6 = false)
    (hclean : (v.lane m 6).upAt + sec 1 ≤ v.now) : v.lmapEnds m =
      if ((tblGet (fun _ => []) v.avail.fails (failKey .lane m 6)).filter (fun y => decide (v.now < y + ms (v.moN m 0x0A 2)))).length <
        v.moN m 0x0A 1 then v.setMo m 8 6 0 else (v.retireLane m 6).laneGone m 6 := by
  refine if_neg ?_
  rw [hl, hr]
  rintro (h | h | h | h)
  · exact hmap h
  · exact absurd h (by decide)
  · exact absurd h (by decide)
  · omega

theorem linkLostTimeout_due (hup : v.linkUp m = true)
    (hdown : ∀ l, l < 7 → v.laneIn m l = true → ∃ d, (v.lane m l).downAt = some d ∧ d + us 10 ≤ v.now) :
    v.linkLostTimeout m = v.linkLost m := by
  refine if_pos ⟨hup, List.all_eq_true.mpr fun l hl => ?_⟩
  rw [List.mem_filter, List.mem_range] at hl
  obtain ⟨d, hd, hle⟩ := hdown l hl.1 hl.2
  rw [hd]
  exact decide_eq_true hle

theorem absentTimeout_due (hr : (v.mast m).st ≠ .retired) (ha : (v.mast m).st ≠ .absent) (hlink : v.linkSt m ≠ 6)
    (hdue : (v.link m).lastSig + ms 100 ≤ v.now) {u w : State}
    (hu : u = (v.setMastState m .absent).updLink m (fun y =>
        { y with lanes := [], t0 := none, prbsAt := none, newest := [], tel := [], fails := 0 }))
    (hw : w = (u.setLinkSt m 1).showLanes m) :
    v.absentTimeout m = if v.linkSt m = 1 then w else w.emit (.prbs (32 + m)) := by
  subst hu hw
  refine if_neg ?_
  rintro (h | h | h | h)
  · exact hr h
  · exact ha h
  · exact hlink h
  · omega

end

/-- Settles O36: each lane's and link's loss and return by its condition. -/
theorem mastLinkLanesFailAndReturn : Obligations.MastLinkLanesFailAndReturn := by
  unfold Obligations.MastLinkLanesFailAndReturn
  rintro t m lane s v rfl hm hlane
  have code : laneCodeOk lane = true := decide_eq_true hlane
  refine ⟨?down, ?back, ?notBack, ?lmap, ?lost, ?absent⟩
  case down =>
    intro hup hin hdown y u w hy hu hw
    exact congrArg Host.Outcome.next ((onMast_lt hm _ _).trans ((if_pos ⟨hup, code⟩).trans (laneGoesDown_eq hin hdown hy hu hw)))
  case back =>
    rintro a x y ha rfl hdown hr hy
    exact congrArg Host.Outcome.next ((onMast_lt hm _ _).trans ((if_pos code).trans (laneReturns_eq ha hdown hr hy)))
  case notBack =>
    exact fun d hd hdue hr => congrArg Host.Outcome.next ((onMast_lt hm _ _).trans ((if_pos code).trans (laneNotBack_due hd hdue hr)))
  case lmap =>
    rintro hmap hl hr hclean n rfl
    exact congrArg Host.Outcome.next ((onMast_lt hm _ _).trans (lmapEnds_clean hmap hl hr hclean))
  case lost => exact fun hup hdown => congrArg Host.Outcome.next ((onMast_lt hm _ _).trans (linkLostTimeout_due hup hdown))
  case absent =>
    intro hr ha hlink hdue u hu w hw
    exact congrArg Host.Outcome.next ((onMast_lt hm _ _).trans (absentTimeout_due hr ha hlink hdue hu hw))

end Sys2Proof.Machine
end

section
/-! PROOFS. Loops, the clock track, positioning orders, the spindle, SYNC_IN and the sled (chapters 4 to 7). -/
namespace Sys2Proof.Machine

/-! ## Loops and the clock track -/

section
variable {v : State} {m : Nat}

theorem evalStrobe_eq {T k : Nat} {z a b c d : State} (hz : z = v.atStrobe m T 400) (hup : z.linkUp m = true) (hT : T % 400 = 0)
    (hk : k = T / 400 % 1600)
    (ha : a = ((z.updMast m (fun x => { x with outHeld := some (T + 384, z.outNow m) })).furlOpen m T).startQueued m)
    (hb : b = if k % 4 = 0 then (a.evalFocus m T).evalTracking m T else a)
    (hc : c = if k % 16 = 1 then (b.evalBrace m T).evalHalyard m T else b)
    (hd : d = if k % 40 = 0 then c.evalSpindle m T (decide (k % 400 = 0)) else c) :
    v.evalStrobe m T = ((d.seekSlows m).seekProgress m T (d.seekFree m)).calArm m T := by
  subst hz hk ha hb hc hd
  refine if_neg ?_
  rw [hup]
  rintro (h | h)
  · exact absurd h (by decide)
  · exact h hT

theorem chopperTimeout_due {a : Nat} (ha : (v.drive m).chpHigh = some a) (hdue : a + v.moN m 0x39 8 * 640000 ≤ v.tickNow m)
    (hchp : (v.drive m).chp ≠ 0) (hst : v.moN m 0x38 8 ≠ 1) :
    v.chopperTimeout m = (((v.setMo m 0x38 8 1).countM m 6 2).condition 0x000B 3 m m).requestSave [] := by
  unfold State.chopperTimeout
  rw [ha]
  exact (if_pos ⟨hdue, hchp⟩).trans (if_neg hst)

section
variable {g : Nat} {c : YardCmd}

theorem yardCmd_old (h1 : 1 ≤ ((v.servo m).gen + 2 ^ 32 - g % 2 ^ 32) % 2 ^ 32)
    (h2 : ((v.servo m).gen + 2 ^ 32 - g % 2 ^ 32) % 2 ^ 32 < 2 ^ 31) : v.yardCmd m g c = v.count (okey 0x5431 5) := if_pos ⟨h1, h2⟩

variable {a : State} (ha : a = v.updServo m (fun x => { x with gen := g % 2 ^ 32 }))
  (hgen : ((v.servo m).gen + 2 ^ 32 - g % 2 ^ 32) % 2 ^ 32 = 0 ∨ 2 ^ 31 ≤ ((v.servo m).gen + 2 ^ 32 - g % 2 ^ 32) % 2 ^ 32)
include ha hgen

theorem yardCmd_held (ho : a.orderDrives m c = true) : v.yardCmd m g c = a.updServo m (fun x => { x with held := x.held ++ [⟨c⟩] }) := by
  subst ha
  exact (if_neg (by omega)).trans (if_pos ho)

theorem yardCmd_taken (ho : a.orderDrives m c = false) : v.yardCmd m g c = match c with
    | .writeGate false => a.closeGate m
    | .writeGate true => if a.allLocked m ∧ (a.mast m).st = .writing ∧ a.seqn m = .none then a.applyTarget m c else a
    | _ => a.applyTarget m c := by
  subst ha
  refine (if_neg (by omega)).trans ((if_neg (ne_true_of_eq_false ho)).trans ?_)
  rcases c with _ | _ | on | _
  · rfl
  · rfl
  · cases on <;> rfl
  · rfl

end

/-- A clock-track run in closed loop with V1 active (05 R148 to R152): `few` and `fly` as the marks and the orders say. -/
theorem clockRun_closed {T : Nat} {o : OptSt} {marks : List (Bool × Bool × Int)} {y e : Int} {a : (OptSt → Nat) → State} (ho : o = v.opt m)
    (hT : T % 400 = 0) (hph : o.clockPh = 3) (hv1 : v.v1Active m = true) (hhold : (v.sail m 65).holdsMarks o.off o.k o.mark 16 = true)
    (hmarks : marks = (List.range 16).map (fun i => markOf ((v.sail m 65).servoAt o.off) o.k (v.obj (tkey ((v.tableOf m).getD 0) 0 7))
        (v.moN m 0x34 3) ((o.mark + i : Nat) : Int)))
    (hy : y = sat (rne (marks.foldl (fun a r => a + (if r.1 then r.2.2 else 0)) 0) 3) 16) (he : e = sat (v.mo m 0x34 2 - y) 16)
    (ha : a = fun runs => (v.traceOpen m 7).updOpt m (fun z => { z with
        mark := z.mark + 16, clkOld := some (T + 656, z.phi, z.phiAt, z.f), phi := z.phaseAt (T + 656), phiAt := max (T + 656) z.phiAt
        flyRuns := runs z })) :
    ((marks.filter (fun r => r.1)).length < 8 → ∀ w, w = ((a (fun z => z.flyRuns + 1)).countM m 5 7).closeGate m →
      v.clockRun m T = ((w.showClock m).lockTest m 4 T false true 16 4).traceLoop m 7) ∧
    (8 ≤ (marks.filter (fun r => r.1)).length → v.flywheels m = false → ∀ b f lim w,
      b = ((a (fun _ => 0)).takeCommits m 13 T).evalPid m 13 e →
      clampF ((o.f0 : Int) + (b.pid m 13).u * 2 ^ b.moN m 0x34 1) o.k = (f, lim) →
      w = (b.updOpt m (fun z => { z with f := f })).blockFlags m 13 false lim →
      v.clockRun m T = ((w.showClock m).lockTest m 4 T (decide ((e.natAbs : Int) ≤ w.mo m 0x31 9))
        (decide ((e.natAbs : Int) > w.mo m 0x31 0x93)) 16 4).traceLoop m 7) := by
  subst ho he hy hmarks ha
  unfold State.clockRun
  extract_lets x vi sl due kq cmin marks passes y13 e13 few fly s0 other s1 s2 run delta s3 s4
  have hvi : vi = 65 := if_pos hv1
  clear_value vi
  subst hvi
  have open_ : ¬ (T % 400 ≠ 0 ∨ x.clockPh = 0 ∨ (!sl.holdsMarks x.off x.k x.mark 16) = true) := by
    rintro (h | h | h)
    · exact h hT
    · exact absurd (hph.symm.trans h) (by decide)
    · exact ne_true_of_eq_false ((Bool.not_eq_true' _).mp h) hhold
  have hs3 : s3 = run s2 := by simp only [s3, x, hph]
  have he13 : e13 = sat (v.mo m 0x34 2 - y13) 16 := by simp only [e13, State.target13, hv1, if_true]
  rw [if_neg open_]
  constructor
  · intro hp w hw
    have hfew : few = true := decide_eq_true hp
    have hfly : fly = true := by simp only [fly, hfew, Bool.true_or]
    clear_value fly few
    subst hfly hfew
    have hrun : s3 = w := hs3.trans hw.symm
    clear_value s3
    subst hrun
    rfl
  · intro hp hf b f lim w hb hclamp hw
    have hfew : few = false := decide_eq_false (Nat.not_lt.mpr hp)
    have hfly : fly = false := by simp only [fly, hfew, hf, Bool.or_self]
    clear_value fly few
    subst hfly hfew
    clear_value e13
    subst he13
    have hb' : b = (s2.takeCommits m 13 T).evalPid m 13 (sat (v.mo m 0x34 2 - y13) 16) := hb
    have hrun : s3 = w := by
      rw [hs3, hw]
      simp only [run, Bool.false_eq_true, if_false, ← hb']
      rw [hclamp]
    clear_value s3
    subst hrun
    rfl

theorem addressUnit_read {chi : Nat} {ok : Bool} {bits : Nat} (hph : (v.opt m).clockPh ≠ 0)
    (hhold : (v.sail m (if v.v1Active m then 65 else 64)).holdsMarks (v.opt m).off (v.opt m).k chi 64 = true)
    (hread : v.readUnit m chi = (ok, bits)) :
    (ok = false → v.addressUnit m chi = (v.countM m 0x0C 2).updOpt m (fun y => { y with unit := none })) ∧
    (ok = true → ∀ ag u, ag = (match (v.opt m).unit with
        | some (g, w) => decide (g = fld bits 25 8 ∧ fld bits 37 26 = (w + 1) % max 1 ((v.opt m).nz / 64))
        | none => false) →
      u = v.updOpt m (fun y => { y with
        unit := some (fld bits 25 8, fld bits 37 26),
        chi0 := if ag || y.chi0.isSome then some ((chi : Int) - 64 * fld bits 37 26) else none }) →
      v.addressUnit m chi = if ag = true then u.addressTaken m (fld bits 25 8) (fld bits 41 38) else u) := by
  have held : ¬ ((v.opt m).clockPh = 0 ∨
      (!(v.sail m (if v.v1Active m then 65 else 64)).holdsMarks (v.opt m).off (v.opt m).k chi 64) = true) := by
    rw [hhold]
    rintro (h | h)
    · exact hph h
    · exact absurd h (by decide)
  constructor
  · rintro rfl
    unfold State.addressUnit
    rw [hread]
    exact if_neg held
  · rintro rfl ag u rfl rfl
    unfold State.addressUnit
    rw [hread]
    refine (if_neg held).trans ?_
    rcases (v.opt m).unit with _ | ⟨g, w⟩ <;> rfl

theorem calDone_complete {c : Calib} (hc : (v.opt m).cal = some c) (hdone : v.calComplete m c = true) :
    v.calDone m c.kind = if c.cand + 1 < (calSearches c.kind c.code).2 then
        (v.updOpt m (fun x => { x with cal := some { c with metrics := c.metrics ++ [v.calMetric m c], cand := c.cand + 1 } })).calApply m
      else v.calFinish m { c with metrics := c.metrics ++ [v.calMetric m c] } := by
  unfold State.calDone
  rw [hc]
  refine if_neg ?_
  rintro (h | h)
  · exact h rfl
  · exact ne_true_of_eq_false h hdone

end

/-- Settles O37: the strobe's schedule, the shroud's commands at the yard, the clock track and the calibrations. -/
theorem loopsEvaluateAndTheClockTrackRuns : Obligations.LoopsEvaluateAndTheClockTrackRuns := by
  unfold Obligations.LoopsEvaluateAndTheClockTrackRuns
  rintro t m s v rfl hm
  refine ⟨?strobe, ?chopper, ?yard, ?clock, ?address, ?calibration⟩
  case strobe =>
    intro T k z a b c d hz hup hT hk ha hb hc hd
    exact congrArg Host.Outcome.next ((onMast_lt hm _ _).trans (evalStrobe_eq hz hup hT hk ha hb hc hd))
  case chopper =>
    exact fun a ha hdue hchp hst => congrArg Host.Outcome.next ((onMast_lt hm _ _).trans (chopperTimeout_due ha hdue hchp hst))
  case yard =>
    rintro g c d rfl
    refine ⟨fun h1 h2 => congrArg Host.Outcome.next ((onMast_lt hm _ _).trans (yardCmd_old h1 h2)), fun hgen a ha => ?_⟩
    refine ⟨fun ho => congrArg Host.Outcome.next ((onMast_lt hm _ _).trans (yardCmd_held ha hgen ho)), ?_, ?_, ?_, ?_⟩
    · rintro b y ho rfl
      exact congrArg Host.Outcome.next ((onMast_lt hm _ _).trans (yardCmd_taken ha hgen ho))
    · rintro b y ho rfl
      exact congrArg Host.Outcome.next ((onMast_lt hm _ _).trans (yardCmd_taken ha hgen ho))
    · rintro ho rfl
      exact congrArg Host.Outcome.next ((onMast_lt hm _ _).trans (yardCmd_taken ha hgen ho))
    · rintro x ho rfl
      exact congrArg Host.Outcome.next ((onMast_lt hm _ _).trans (yardCmd_taken ha hgen ho))
  case clock =>
    rintro T o u marks y e a hu ho hT hph hv1 hhold hmarks hy he ha
    have row : exec (.clockTrackRun t m T) s = .next (u.clockRun m T) := by
      subst hu
      exact congrArg Host.Outcome.next (onMast_lt hm _ _)
    obtain ⟨few, run⟩ := clockRun_closed ho hT hph hv1 hhold hmarks hy he ha
    exact ⟨fun hp w hw => row.trans (congrArg Host.Outcome.next (few hp w hw)),
      fun hp hf b f lim w hb hclamp hw => row.trans (congrArg Host.Outcome.next (run hp hf b f lim w hb hclamp hw))⟩
  case address =>
    intro chi ok bits hph hhold hread
    obtain ⟨bad, good⟩ := addressUnit_read hph hhold hread
    exact ⟨fun h => congrArg Host.Outcome.next ((onMast_lt hm _ _).trans (bad h)),
      fun h ag u hag hu => congrArg Host.Outcome.next ((onMast_lt hm _ _).trans (good h ag u hag hu))⟩
  case calibration =>
    rintro c hc hdone d rfl
    exact congrArg Host.Outcome.next ((onMast_lt hm _ _).trans (calDone_complete hc hdone))

end Sys2Proof.Machine
end

section
/-! PROOFS. Positioning orders, the spindle, SYNC_IN and the sled (chapters 5 to 7). -/
namespace Sys2Proof.Machine

/-! ## Positioning orders -/

section
variable {v : State} {m : Nat}

theorem acqTimeout_due {k a t0 : Nat} (hs : v.seqn m = .acquire k a t0) (hk : 1 ≤ k) (hdue : t0 + ticksUs 100000 ≤ v.tickNow m) :
    v.acqTimeout m = v.acqFail m (v.tickNow m) := by
  obtain ⟨k, rfl⟩ : ∃ j, k = j + 1 := ⟨k - 1, by omega⟩
  unfold State.acqTimeout
  rw [hs]
  exact if_pos hdue

theorem exec_acquisitionRestart {s : State} {t a t0 : Nat} (hm : m < 32) (hs : (s.at_ t).seqn m = .acquire 0 a t0)
    (hdue : a + ticksUs 10000 ≤ (s.at_ t).tickNow m) :
    exec (.acquisitionRestart t m) s = .next ((s.at_ t).acqEnter m 1 ((s.at_ t).tickNow m) ((s.at_ t).tickNow m)) := by
  show execAcquisitionRestart t m s = _
  unfold execAcquisitionRestart
  rw [onMast_lt hm]
  simp only [hs, if_pos hdue]

theorem jumpTimeout_due {d : Int} {seen t0 : Nat} {h : Int} (hs : v.seqn m = .jump d seen h t0) (hseen : seen < 2 * d.natAbs)
    (hdue : t0 + ticksUs (50 + 25 * d.natAbs) ≤ v.tickNow m) : v.jumpTimeout m = ((v.endOrder m 1).seekFails m).shiftFailed m d := by
  unfold State.jumpTimeout
  rw [hs]
  exact if_pos ⟨hseen, hdue⟩

section
variable {q : Seqn} (hs : v.seqn m = q)
include hs

theorem layerTimeout_motion {x y a : Nat} {b : Int} {t0 : Nat} {c : Option Nat} {d : Bool} (hq : q = .layer x y a b t0 c d)
    (hr : (v.opt m).resumed = none) (hdue : t0 + ticksUs (1000 + 500 * ((y : Int) - x).natAbs) ≤ v.tickNow m) :
    v.layerTimeout m = v.layerFail m (v.tickNow m) 1 := by
  unfold State.layerTimeout
  rw [hs, hq, hr]
  exact if_pos hdue

theorem layerTimeout_settling {x y a : Nat} {b : Int} {t0 r : Nat} {c : Option Nat} {d : Bool} (hq : q = .layer x y a b t0 c d)
    (hr : (v.opt m).resumed = some r) (hdue : r + ticksUs 10000 ≤ v.tickNow m) :
    v.layerTimeout m = v.layerFail m (v.tickNow m) 2 := by
  unfold State.layerTimeout
  rw [hs, hq, hr]
  exact if_pos hdue

end

/-- An order taken while another runs only joins the queue (05 R143). -/
theorem startQueued_waits (h : (v.opt m).seqn ≠ .none) : v.startQueued m = v := by
  unfold State.startQueued State.seqn
  cases hs : (v.opt m).seqn with
  | none => exact absurd hs h
  | _ => rfl

end

/-- Settles O38: each order and each time-out by its condition. -/
theorem positioningOrdersTakeEffect : Obligations.PositioningOrdersTakeEffect := by
  unfold Obligations.PositioningOrdersTakeEffect
  rintro t m s v rfl hm
  refine ⟨?acquisition, ?acqTimeout, ?acqRestart, ?jump, ?jumpTimeout, ?seek, ?layer, ?layerMotion, ?layerSettling,
    fun q h => startQueued_waits h⟩
  case acquisition =>
    exact fun step hup hst hat h1 h9 => congrArg Host.Outcome.next ((onMast_lt hm _ _).trans (if_pos ⟨hup, hst, hat, h1, h9⟩))
  case acqTimeout =>
    rintro k a t0 hs hk - hdue u rfl
    exact congrArg Host.Outcome.next ((onMast_lt hm _ _).trans (acqTimeout_due hs hk hdue))
  case acqRestart =>
    rintro a t0 hs hdue k rfl
    exact exec_acquisitionRestart hm hs hdue
  case jump => exact fun d h0 h1 hlo hhi => congrArg Host.Outcome.next ((onMast_lt hm _ _).trans (if_pos ⟨h0, h1, hlo, hhi⟩))
  case jumpTimeout =>
    exact fun d seen h t0 hs hseen hdue => congrArg Host.Outcome.next ((onMast_lt hm _ _).trans (jumpTimeout_due hs hseen hdue))
  case seek =>
    rintro target d rfl hl ht hd
    refine congrArg Host.Outcome.next ((onMast_lt hm _ _).trans ((if_neg ?_).trans ?_))
    · rw [hl]
      rintro (h | h | h)
      · exact absurd h (by decide)
      · omega
      · exact hd h
    · by_cases hnear : ((target : Int) - (s.at_ t).moN m 0x30 3).natAbs ≤ 16
      · rw [if_pos hnear, if_pos hnear]
      · rw [if_neg hnear, if_neg hnear]
  case layer => exact fun layer hl hlt => congrArg Host.Outcome.next ((onMast_lt hm _ _).trans (if_pos ⟨hl, hlt⟩))
  case layerMotion =>
    exact fun x y a b t0 c d hs hr hdue => congrArg Host.Outcome.next ((onMast_lt hm _ _).trans (layerTimeout_motion hs rfl hr hdue))
  case layerSettling =>
    exact fun x y a b t0 c d r hs hr hdue => congrArg Host.Outcome.next ((onMast_lt hm _ _).trans (layerTimeout_settling hs rfl hr hdue))

/-! ## The spindle -/

section
variable {v : State} {m : Nat}

section
variable (hoff : (v.opt m).spnEn = false) (hrest : v.driveState m = 0) (hst : (v.mast m).st = .present)
include hoff hrest hst

theorem spindleStart_branch : v.spindleStart m = match v.startRefused m with
    | some st => v.startFails m st
    | none => ((((v.driveCommit m).clearBlock m 7).updDrive m (fun x => { x with
        t0 := v.tickNow m, mirror := false, handRun := 0, va := 0, vb := 0, furlAt := none, quietAt := none, atTarget := 0
        startDue := false })).setDriveState m 1).homeFirst m := by
  refine (if_neg ?_).trans ?_
  · rw [hoff, hrest, hst]
    rintro (h | h | h)
    · exact absurd h (by decide)
    · exact h rfl
    · exact h rfl
  · cases v.startRefused m <;> rfl

theorem spindleStart_refused {st : Nat} (hr : v.startRefused m = some st) : v.spindleStart m = v.startFails m st :=
  (spindleStart_branch hoff hrest hst).trans (by rw [hr])

theorem spindleStart_taken (hr : v.startRefused m = none) : v.spindleStart m =
    ((((v.driveCommit m).clearBlock m 7).updDrive m (fun x => { x with
      t0 := v.tickNow m, mirror := false, handRun := 0, va := 0, vb := 0, furlAt := none, quietAt := none, atTarget := 0
      startDue := false })).setDriveState m 1).homeFirst m :=
  (spindleStart_branch hoff hrest hst).trans (by rw [hr])

end

/-- The back-EMF's amplitude and speed decide the classification (06 Table 6.3, step 2). -/
theorem classify_eq {o : Observer} (ho : o = (v.servo m).obs) : v.classify m =
    if ((max (wq o.ea).natAbs (wq o.eb).natAbs : Nat) : Int) < v.par m 0x27 8 then v.alignStart m ((v.drive m).t0 + ticksUs 2000)
    else if v.fasterThan m o.w 50 then (v.driveOn m 4).becomeDriven m
    else if v.fasterThan m (-o.w) 50 then
      ((v.updServo m (fun x => { x with obs := { o with
        th := wrapU (-o.th) 16, w := sat (-o.w) 32, ib := sat (-o.ib) 32, eb := sat (-o.eb) 32 } })).updDrive m
          (fun x => { x with mirror := true })).driveOn m 6
    else v.alignStart m ((v.drive m).t0 + ticksUs 2000) := by
  subst ho
  rfl

end

/-! ## SYNC_IN -/

section
variable {a : State} {ts : Nat}

theorem syncAccept_first (hat : a.pins.syncAt = none) (hn : a.pins.syncEdges = 0) :
    a.syncAccept ts = { a with pins := { a.pins with syncAt := some ts, syncEdges := 1 } } := by
  unfold State.syncAccept
  rw [hat, hn]
  rfl

theorem syncAccept_next {e : Nat} (hat : a.pins.syncAt = some e) {b d : State}
    (hb : b = ({ a with pins := { a.pins with syncP := ts - e } } : State).setObj (okey 0x2130 2) (min (ts - e) (2 ^ 32 - 1) : Nat))
    (hd : d = { b with pins := { b.pins with syncAt := some ts, syncEdges := a.pins.syncEdges + 1 } }) :
    a.syncAccept ts = if 1 ≤ a.pins.syncEdges then d.setObj (okey 0x2130 1) 1 else d := by
  subst hb hd
  unfold State.syncAccept
  rw [hat]
  exact if_congr (by omega) rfl rfl

/-- An edge of SYNC_IN that finds it neither stuck nor nearer than 1,000 ns is accepted (06 R165). -/
theorem exec_syncInEdge {s : State} {t fall : Nat} (hts : ts = (s.at_ t).now / 25 * 25)
    (ha : a = ({ s.at_ t with pins := { (s.at_ t).pins with syncRise := ts, syncFall := fall } } : State).syncLost ts) :
    exec (.syncInEdge ⟨t, fall⟩) s = .next (if a.objN (okey 0x2130 1) = 2 then a
      else match a.pins.syncAt with
        | some e => if ts < e + 1000 then a.count (okey 0x5430 1) else a.syncAccept ts
        | none => a.syncAccept ts) := by
  subst hts ha
  show execSyncInEdge ⟨t, fall⟩ s = _
  unfold execSyncInEdge
  dsimp only <;> generalize State.syncLost _ _ = a <;> cases a.pins.syncAt <;> rfl

theorem syncLost_locked {v : State} {e : Nat} (hat : v.pins.syncAt = some e) (hst : v.objN (okey 0x2130 1) = 1)
    (hdue : e + ms (v.objN (okey 0x2130 3)) ≤ ts) : v.syncLost ts =
      (({ v with pins := { v.pins with syncEdges := 0 } } : State).setObj (okey 0x2130 1) 0).count (okey 0x5430 3) := by
  unfold State.syncLost
  rw [hat]
  exact (if_neg (by omega)).trans (if_pos hst)

end

/-- Settles O39: the spindle's start and its times, and the edges of SYNC_IN. -/
theorem spindlesStartAndSyncInIsFollowed : Obligations.SpindlesStartAndSyncInIsFollowed := by
  unfold Obligations.SpindlesStartAndSyncInIsFollowed
  rintro t m s v rfl
  refine ⟨?start, ?classify, ?align, ?timeout, ?edge, ?stuck, ?lost⟩
  case start =>
    intro hm hup hoff hrest hst
    refine ⟨?_, fun st hr => congrArg Host.Outcome.next
      ((onMast_lt hm _ _).trans ((if_pos hup).trans (spindleStart_refused hoff hrest hst hr)))⟩
    rintro hr c a u rfl rfl rfl
    have taken := spindleStart_taken hoff hrest hst hr
    exact ⟨congrArg Host.Outcome.next ((onMast_lt hm _ _).trans ((if_pos hup).trans taken)),
      fun hf hdue => congrArg Host.Outcome.next ((onMast_lt hm _ _).trans ((if_pos ⟨hf, hdue⟩).trans taken))⟩
  case classify =>
    rintro hm hst since rfl hdue o amp ho rfl
    have row : exec (.startClassify t m) s = _ :=
      congrArg Host.Outcome.next ((onMast_lt hm _ _).trans ((if_pos ⟨hst, hdue⟩).trans (classify_eq ho)))
    refine ⟨fun h => row.trans (congrArg Host.Outcome.next (if_pos h)), fun h1 h2 => row.trans (congrArg Host.Outcome.next ?_),
      fun h1 h2 h3 => row.trans (congrArg Host.Outcome.next ?_), ?_⟩
    · exact (if_neg (not_lt.mpr h1)).trans (if_pos h2)
    · exact (if_neg (not_lt.mpr h1)).trans ((if_neg (ne_true_of_eq_false h2)).trans (if_neg (ne_true_of_eq_false h3)))
    · rintro h1 h2 h3 r rfl
      exact row.trans (congrArg Host.Outcome.next ((if_neg (not_lt.mpr h1)).trans ((if_neg (ne_true_of_eq_false h2)).trans (if_pos h3))))
  case align => exact fun hm hst hdue => congrArg Host.Outcome.next ((onMast_lt hm _ _).trans (if_pos ⟨hst, hdue⟩))
  case timeout =>
    rintro hm hst hdue a u rfl rfl
    exact congrArg Host.Outcome.next ((onMast_lt hm _ _).trans (if_pos ⟨hst, hdue⟩))
  case edge =>
    intro fall ts a hts ha
    have row := exec_syncInEdge hts ha
    refine ⟨fun h => row.trans (congrArg Host.Outcome.next (if_pos h)), fun h hat hn => row.trans (congrArg Host.Outcome.next ?_),
      fun e h hat hlt => row.trans (congrArg Host.Outcome.next ?_),
      fun e h hat hge b d hb hd => row.trans (congrArg Host.Outcome.next ?_)⟩
    · refine (if_neg h).trans ?_
      rw [hat]
      exact syncAccept_first hat hn
    · refine (if_neg h).trans ?_
      rw [hat]
      exact if_pos hlt
    · refine (if_neg h).trans ?_
      rw [hat]
      exact (if_neg (by omega)).trans (syncAccept_next hat hb hd)
  case stuck =>
    refine fun h1 h2 h3 => if_neg ?_
    rintro (h | h | h)
    · exact h1 h
    · exact absurd h2 (Nat.not_lt.mpr h)
    · exact absurd h3 (Nat.not_lt.mpr h)
  case lost =>
    rintro e hat hst hdue a rfl
    exact congrArg Host.Outcome.next (syncLost_locked hat hst hdue)

/-! ## The sled -/

section
variable {u : State} {m T : Nat}

theorem sledBoundary_eq {x : SledSt} (hx : x = u.sled m) (hnext : x.hasNext = true) (hT : T = x.tb) {vn : Int}
    (hvn : vn = if x.stop = true then 0 else x.vnext) {a w z : State} (ha : a = if x.stop = true then u.setMo m 0x3E 3 (u.sledN m) else u)
    (hw : w = (a.updSled m (fun y => { y with
        num := if vn = 0 ∨ signI vn ≠ signI (u.sledV m) then sledU else x.num - (T - x.te : Nat) * (u.sledV m).natAbs
        te := T, hasNext := false, stop := false, a := if x.stop then 0 else y.a
        settled := y.settled && decide (vn = 0) })).setMo m 0x3E 4 vn)
    (hz : z = if vn ≠ 0 then (w.setMo m 0x3E 7 (u.sp m 8)).updSled m (fun y => { y with lowered := false }) else w) :
    u.sledBoundary m T = (if vn = 0 ∧ z.sledN m = z.sledX m ∧ (z.sled m).xNext = none then z.homingLegEnd m else z).showSled m false := by
  subst hx ha hw hz hvn
  refine if_neg ?_
  rintro (h | h)
  · exact absurd hnext (by simpa using h)
  · exact h hT

theorem sledStep_eq {x : SledSt} (hx : x = u.sled m) (hdue : u.stepDue m = some T) {n : Int} (hn : n = u.sledN m + signI (u.sledV m)) {a w : State}
    (ha : a = if u.sledN m = u.sledX m then u.countM m 7 3 else u)
    (hw : w = (a.setMo m 0x3E 2 n).updSled m (fun y => { y with
        num := sledU + x.num.fmod (u.sledV m).natAbs, te := T, lastStep := T, recent := ((T, n) :: y.recent).take 12 })) :
    u.sledStep m T = if n = u.sledX m ∧ ((u.sledV m).natAbs : Int) ≤ max (u.sp m 6) (u.sp m 5) then
        ((((w.updSled m (fun y => { y with num := sledU, a := 0 })).setMo m 0x3E 4 0).homingLegEnd m).showSled m false)
      else w := by
  subst hx ha hw hn
  exact if_neg (not_not.mpr hdue)

theorem orderHoming_taken {v : State} (h1 : v.moN m 0x58 3 = 0) (h2 : (v.seqn m).homes = false)
    (h3 : (v.opt m).queued.any Seqn.homes = false) : v.orderHoming m = v.order m (.homing 0 0 0) := by
  refine if_neg ?_
  rw [h1, h2, h3]
  decide

theorem exec_homingSeekStart {s : State} {t t0 : Nat} {x : Int} (hm : m < 32) (hs : (s.at_ t).seqn m = .homing 1 x t0)
    (hdue : t0 + ticksUs 10000 ≤ (s.at_ t).tickNow m) : exec (.homingSeekStart t m) s = .next ((s.at_ t).homingSeek m) := by
  show execHomingSeekStart t m s = _
  unfold execHomingSeekStart
  rw [onMast_lt hm]
  simp only [hs, if_pos hdue]

theorem homingSeek_first {v : State} {t0 : Nat} {x : Int} (hs : (v.opt m).seqn = .homing 1 x t0) :
    v.homingSeek m = (v.sledTo m (v.sledN m - v.sp m 0x0E)).setSeqn m (.homing 2 (v.sledN m - v.sp m 0x0E) t0) := by
  unfold State.homingSeek
  simp only [hs]

/-- With no other order the homing order begins at once (07 Table 7.1, step 1). -/
theorem startQueued_homing {z : State} (hs : z.seqn m = .none) (hq : (z.opt m).queued = [.homing 0 0 0]) :
    z.startQueued m = ((z.updOpt m (fun x => { x with queued := [] })).beginOrder m).homingStart m := by
  unfold State.startQueued
  rw [hs, hq]

end

/-- Settles O40: the sled's planner, boundaries and steps, and the homing order. -/
theorem sledsMoveAndHome : Obligations.SledsMoveAndHome := by
  unfold Obligations.SledsMoveAndHome
  rintro t m s v rfl hm
  refine ⟨?plan, ?boundary, ?step, ?idle, ?homing, ?search⟩
  case plan =>
    rintro T u rfl
    exact congrArg Host.Outcome.next (onMast_lt hm _ _)
  case boundary =>
    rintro T u x vn rfl hx hvn hnext hT a w ha hw z hz
    exact congrArg Host.Outcome.next ((onMast_lt hm _ _).trans (sledBoundary_eq hx hnext hT hvn ha hw hz))
  case step =>
    rintro T u x n rfl hx hdue hn a w ha hw
    have stepped := sledStep_eq hx hdue hn ha hw
    exact ⟨fun h => congrArg Host.Outcome.next ((onMast_lt hm _ _).trans (stepped.trans (if_neg h))),
      fun h1 h2 => congrArg Host.Outcome.next ((onMast_lt hm _ _).trans (stepped.trans (if_pos ⟨h1, h2⟩)))⟩
  case idle => exact fun T h => congrArg Host.Outcome.next ((onMast_lt hm _ _).trans (if_pos h))
  case homing =>
    intro hup h1 h2 h3 h4 h5 h6
    have row : exec (.homing t m) s = .next ((s.at_ t).order m (.homing 0 0 0)) :=
      congrArg Host.Outcome.next ((onMast_lt hm _ _).trans ((if_pos ⟨hup, h4, h5, h6⟩).trans (orderHoming_taken h1 h2 h3)))
    refine ⟨row, ?_⟩
    rintro z b c rfl hs hq rfl rfl
    exact row.trans (congrArg Host.Outcome.next (startQueued_homing hs hq))
  case search =>
    rintro x t0 hs hdue y rfl
    exact (exec_homingSeekStart hm hs hdue).trans (congrArg Host.Outcome.next (homingSeek_first hs))

end Sys2Proof.Machine
end

section
/-! PROOFS. The read path: scheduling, the decoder pool and the verdicts (chapter 10). -/
namespace Sys2Proof.Machine

/-! ## A revolution's schedule -/

section
variable {v : State} {m : Nat}

section
variable {a : State} (ha : a = (((v.dropOrphans m).nextLog m).rescheduleRetired m).skipShifts m)
include ha

theorem schedule_closed (h : a.mayRead m = false) : v.schedule m = a := by
  subst ha
  exact if_pos (by rw [h]; rfl)

variable (hread : a.mayRead m = true) {w o : List Sector} {slow later : Bool} {past here : List (Sector × Nat)} {b : State}
  (hw : w = a.media.sectors.filter (fun x => decide (x.mast = m ∧ x.phase = .wanted))) (hslow : slow = a.slowMast m)
  (ho : o = w.filter (fun x => !(a.readSliceOver m || slow) || decide (1 ≤ x.step)))
  (hlater : later = (decide (a.inFlight m 5 ≠ []) || w.any (fun y => decide (3 ≤ y.step ∧ y.step ≤ 5))))
  (hpast : past = a.readable o later) (hb : b = a.offsetNow m past) (hhere : here = b.offsetReads m past)
include hread hw hslow ho hlater hpast hb hhere

/-- The schedule of a mast that may read: which sectors are wanted, readable here and read now. -/
theorem schedule_open {c d : State} (hc : c = b.beginReading m)
    (hd : d = if c.poolFree < here.length ∨ slow = true then c.countM m 0x0C 0x0B else c) :
    v.schedule m = if w = [] then (if (b.mast m).st = .reading ∧ b.readWaits m = false then b.setMastState m .tracking else b)
      else if past = [] ∧ a.inFlight m 6 = [] then d.moveYard m o later
      else (forEach (here.take c.poolFree) (fun p y => y.scheduleOne m p.1 p.2) d).showPoolQueue := by
  subst ha hc hd hhere hb hpast hlater ho hslow hw
  exact if_neg (by rw [hread]; decide)

end

theorem nextLog_reads {sl : Slot} (hopen : v.logOpen m = true) (hread : v.mayRead m = true)
    (hdone : v.logDone m ((v.tableOf m).getD 0) = false) (hnone : ∀ x ∈ v.media.sectors, x.mast = m → x.use ≠ .log)
    (hsl : v.logSlot ((v.tableOf m).getD 0) (v.mast m).wr.log.length = some sl) :
    v.nextLog m = v.addSector { logSector m sl .log with waiters := (v.mountCmds m).map (·.cid) } := by
  have hany : v.media.sectors.any (fun x => decide (x.mast = m ∧ x.use = SecUse.log)) = false := by
    rw [List.any_eq_false]
    intro x hx h
    obtain ⟨h1, h2⟩ := of_decide_eq_true h
    exact hnone x hx h1 h2
  unfold State.nextLog
  simp only [hsl]
  refine if_neg ?_
  rw [hopen, hread, hdone, hany]
  decide

/-! ## The decoder pool -/

section
variable {k : Nat} {c : Codeword} {u : State} (hc : (v.mast m).ready.find? (fun c => c.sail = k) = some c) (hcal : c.sid ≠ calSid)
  (hu : u = (v.updMast m (fun x => { x with ready := x.ready.erase c })).updSector c.sid (fun x => { x with phase := .pool }))
include hc hcal hu

theorem codewordIn_eq : v.codewordIn m k = if (u.sector c.sid).isNone = true then u.showPoolQueue
    else if c.erased then (u.erasedFrame c.sid).showPoolQueue else (u.joinPool c).showPoolQueue := by
  subst hu
  unfold State.codewordIn
  simp only [hc, if_neg hcal]
  exact if_congr (and_iff_right hcal) rfl rfl

end

theorem dispatchHead_eq {c : Codeword} {rest : List Codeword} {e : Nat} (hq : v.media.queue = c :: rest)
    (he : (List.range 128).find? v.decoderFree = some e) {x : State}
    (hx : x = v.setDecoder e { v.decoder e with bufs := (v.decoder e).bufs ++ [c] }) :
    v.dispatchHead = ({ x with media := { x.media with queue := rest } } : State).showPoolQueue := by
  subst hx
  unfold State.dispatchHead
  rw [hq, he]

theorem exec_decoderMemoryError {s : State} {t d : Nat} {c : Codeword} {rest : List Codeword} (hc : ((s.at_ t).decoder d).bufs = c :: rest) :
    exec (.decoderMemoryError t d) s = .next (if ((s.at_ t).failDecoder d).decoderRetired d = true then (s.at_ t).failDecoder d
      else (((s.at_ t).failDecoder d).popDecoder d).restartCodeword c).showPoolQueue := by
  show execDecoderMemoryError t d s = _
  unfold execDecoderMemoryError
  simp only [hc]

theorem exec_peerFetchTimeout {s : State} {t sid : Nat} {x : Sector} (hx : (s.at_ t).sector sid = some x) (hp : x.phase = .fetch)
    (hdue : x.fetchAt + ms ((s.at_ t).moN x.mast 0x52 4) ≤ (s.at_ t).now) :
    exec (.peerFetchTimeout t sid) s = .next ((s.at_ t).stepFailed sid) := by
  show execPeerFetchTimeout t sid s = _
  unfold execPeerFetchTimeout
  simp only [hx, if_pos (And.intro hp hdue)]

theorem selfTestDue_iff {d : Nat} : v.selfTestDue d = true ↔ (v.decoder d).bufs.length < 2 ∧ ((v.decoder d).untested = true ∨
    ((v.decoder d).bufs = [] ∧ (v.decoder d).testedAt < (v.decoder d).idleSince + ms 1 ∧ (v.decoder d).idleSince + ms 1 ≤ v.now) ∨
      (v.decoder d).testedAt + ms (v.objN (okey 0x2660 4)) ≤ v.now) := by
  unfold State.selfTestDue
  simp only [Bool.and_eq_true, Bool.or_eq_true, decide_eq_true_eq, or_assoc]

/-! ## A decode that ends -/

section
variable {d : Nat} {c : Codeword} {x : Sector} {r : Option Nat × List Byte}

theorem decodeEnds_sector {rest : List Codeword} {llr : List Int} (hc : (v.decoder d).bufs = c :: rest) (hx : v.sector c.sid = some x)
    (hl : c.forStep x = some llr) :
    v.decodeEnds d = v.sectorDecoded d c x (decodeCodeword c.str (v.moN x.mast 0x52 (if x.step = 0 then 1 else 2)) llr) := by
  unfold State.decodeEnds
  simp only [hc, hx, hl]

theorem sectorDecoded_blank (hu : x.use = .log) (hst : x.step = 0) (hf : c.found = false) :
    v.sectorDecoded d c x r = ((v.popDecoder d).dropSector x.sid).logFound x.mast .blank := if_pos ⟨hu, hst, hf⟩

theorem sectorDecoded_verify (hu : x.use.isVerify = true) :
    v.sectorDecoded d c x r = ((v.popDecoder d).countVerdict x (judge x r.1.isSome r.2)).verifyEnds x c.found r.1 r.2 := by
  refine (if_neg ?_).trans (if_pos hu)
  rintro ⟨h, -⟩
  rw [h] at hu
  exact absurd hu (by decide)

section
variable (hu : x.use.isVerify = false) (hlog : x.use ≠ .log ∨ x.step ≠ 0 ∨ c.found = true)
include hu hlog

theorem sectorDecoded_accepted (hj : judge x r.1.isSome r.2 = .accepted) :
    v.sectorDecoded d c x r = (v.popDecoder d).acceptSector x r.2 := by
  refine (if_neg ?_).trans ((if_neg (ne_true_of_eq_false hu)).trans ?_)
  · rintro ⟨h1, h2, h3⟩
    exact hlog.elim (· h1) (fun h => h.elim (· h2) (ne_true_of_eq_false h3))
  · rw [hj]

theorem sectorDecoded_failed (hj : judge x r.1.isSome r.2 ≠ .accepted) :
    v.sectorDecoded d c x r = (v.countVerdict x (judge x r.1.isSome r.2)).decodeFailed d c x := by
  refine (if_neg ?_).trans ((if_neg (ne_true_of_eq_false hu)).trans ?_)
  · rintro ⟨h1, h2, h3⟩
    exact hlog.elim (· h1) (fun h => h.elim (· h2) (ne_true_of_eq_false h3))
  · cases h : judge x r.1.isSome r.2 with
    | accepted => exact absurd h hj
    | _ => rfl

end
end
end

/-- Settles O41: what is scheduled, dispatched and judged, each by its condition. -/
theorem sectorsAreScheduledDecodedAndJudged : Obligations.SectorsAreScheduledDecodedAndJudged := by
  unfold Obligations.SectorsAreScheduledDecodedAndJudged
  rintro t s v rfl
  refine ⟨?schedule, ?log, ?ready, ?dispatch, ?done, ?memory, ?selfTest, ?fetch⟩
  case schedule =>
    intro m a hm ha
    refine ⟨fun h => congrArg Host.Outcome.next ((onMast_lt hm _ _).trans (schedule_closed ha h)), ?_⟩
    intro hread w slow o later past here b c d hw hslow ho hlater hpast hb hhere
    refine ⟨fun hnone => ?_, fun hsome hc hd => ?_⟩
    · have scheduled := schedule_open ha hread hw hslow ho hlater hpast hb hhere rfl rfl
      exact congrArg Host.Outcome.next ((onMast_lt hm _ _).trans (scheduled.trans (if_pos hnone)))
    · have scheduled := (schedule_open ha hread hw hslow ho hlater hpast hb hhere hc hd).trans (if_neg hsome)
      refine ⟨fun h1 h2 => congrArg Host.Outcome.next ((onMast_lt hm _ _).trans (scheduled.trans (if_pos ⟨h1, h2⟩))), fun h => ?_⟩
      refine congrArg Host.Outcome.next ((onMast_lt hm _ _).trans (scheduled.trans (if_neg ?_)))
      rintro ⟨h1, h2⟩
      exact h.elim (· h1) (· h2)
  case log => exact fun m u sl _ hopen hread hdone hnone hsl => nextLog_reads hopen hread hdone hnone hsl
  case ready =>
    intro m k c u hm hc hcal hu
    have row : exec (.codewordReady t m k) s = _ := congrArg Host.Outcome.next ((onMast_lt hm _ _).trans (codewordIn_eq hc hcal hu))
    refine ⟨fun h => row.trans (congrArg Host.Outcome.next (if_pos h)), fun h he => row.trans (congrArg Host.Outcome.next ?_),
      fun h he => row.trans (congrArg Host.Outcome.next ?_)⟩
    · exact (if_neg (ne_true_of_eq_false h)).trans (if_pos he)
    · exact (if_neg (ne_true_of_eq_false h)).trans (if_neg (ne_true_of_eq_false he))
  case dispatch =>
    rintro d c rest e hd hfree hq he x hx q rfl
    exact congrArg Host.Outcome.next ((if_pos ⟨hd, hfree⟩).trans (dispatchHead_eq hq he hx))
  case done =>
    rintro d c rest x llr r j u hc hx hl rfl rfl
    have row : exec (.decodeDone t d) s = _ := congrArg Host.Outcome.next (decodeEnds_sector hc hx hl)
    refine ⟨fun h1 h2 h3 => row.trans (congrArg Host.Outcome.next (sectorDecoded_blank h1 h2 h3)),
      fun h => row.trans (congrArg Host.Outcome.next (sectorDecoded_verify h)),
      fun h1 h2 hj => row.trans (congrArg Host.Outcome.next (sectorDecoded_accepted h1 h2 hj)), ?_⟩
    rintro h1 h2 hj rfl
    exact row.trans (congrArg Host.Outcome.next (sectorDecoded_failed h1 h2 hj))
  case memory =>
    rintro d c rest u hc rfl
    exact exec_decoderMemoryError hc
  case selfTest =>
    rintro d ok x u hd hr rfl hb hdue rfl
    refine (if_neg ?_).trans rfl
    rw [hr, selfTestDue_iff.mpr ⟨hb, hdue⟩]
    rintro (h | h | h)
    · omega
    · exact absurd h (by decide)
    · exact absurd h (by decide)
  case fetch => exact fun sid x hx hp hdue => exec_peerFetchTimeout hx hp hdue

end Sys2Proof.Machine
end

section
/-! PROOFS. The write path: periods, burning, verification, commit records and the log of a mount (chapter 11). -/
namespace Sys2Proof.Machine

section
variable {v : State} {m : Nat}

/-! ## Pass boundaries -/

theorem passBoundary_closed (h : v.atPassBoundary m = false) : v.passBoundary m = v := if_pos (by rw [h]; rfl)

theorem sliceExpiry_closed (h : v.atPassBoundary m = false) : v.sliceExpiry m = v := by
  unfold State.sliceExpiry
  rw [passBoundary_closed h, ite_self]

section
variable (hat : v.atPassBoundary m = true) (hhold : v.hasHolder = true)
include hat hhold

theorem passBoundary_leaves (hst : (v.mast m).st = .writing) (hdone : v.writeDue m = false ∨ v.writeSliceOver m = true) :
    v.passBoundary m = (v.closeGate m).enterPeriod m (if v.readWaits m = true then .reading else .tracking) := by
  refine (if_neg (by rw [hat, hhold]; decide)).trans ?_
  rw [hst]
  exact if_pos hdone

theorem passBoundary_enters (hst : (v.mast m).st ≠ .writing) (hdue : v.writeDue m = true) (hcal : (v.opt m).cal = none)
    (htag : (v.opt m).mismatch = false) (hfl : v.readsInFlight m = false) (hrd : v.readWaits m = false ∨ v.readSliceOver m = true) :
    v.passBoundary m = ((v.offsetFor m false).enterPeriod m .writing).showWidth m := by
  refine (if_neg (by rw [hat, hhold]; decide)).trans ?_
  cases h : (v.mast m).st with
  | writing => exact absurd h hst
  | _ => exact if_pos ⟨hdue, hcal, htag, hfl, hrd⟩

end

/-! ## Revolutions that burn and verify -/

section
variable (hburn : v.mayBurn m = true) (hslice : v.writeSliceOver m = false)
include hburn hslice

theorem burnRevolution_eq {a : State} {all : List (Write × WSlot)} {due : List (Write × WSlot × Nat)}
    (ha : a = (v.showWidth m).placeDue m ((v.showWidth m).pendingOn m)) (hall : all = a.placedSlots m)
    (hdue : due = sortBy (fun x y => decide (x.2.1.slot.sect ≤ y.2.1.slot.sect)) (all.filterMap (fun p =>
        if a.descends m all p.2.slot then (a.burnerOf m p.2.slot).map (fun k => (p.1, p.2, k)) else none))) :
    v.burnRevolution m = if due = [] then
        match all.find? (fun p => a.descends m all p.2.slot) with
        | some p => a.moveWrite m 0 p.2.slot
        | none => a
      else ((forEach due (fun d b => b.burnSlot m d.1 d.2.1 d.2.2) a).updOpt m (fun x => { x with wrEn := true })).showWriteState m 1 := by
  subst hdue hall ha
  refine (if_neg (by rw [hburn, hslice]; decide)).trans ?_
  refine if_congr Iff.rfl ?_ rfl
  generalize List.find? _ _ = p
  cases p <;> rfl

theorem relocationPass_eq {a b : State} {all due : List (Write × WSlot × Nat × Nat)} (ha : a = v.showWidth m)
    (hall : all = (a.pendingOn m).flatMap (fun w => w.slots.map (fun x => (w, x, slotStripe x.n ((a.planned w).getD x.n ⟨0, 0, 0⟩)))))
    (hdue : due = all.filter (fun p => decide (p.2.1.state = .failed) &&
        !((all.filter (fun q => decide (q.2.1.state = .burned))).map (fun q => q.2.2)).contains p.2.2))
    (hb : b = forEach due (fun p x => x.relocateSlot m p.1 p.2.1) a) :
    v.relocationPass m = if due = [] then a else if b.burnsLeft m = [] then b
        else (b.updOpt m (fun x => { x with wrEn := true })).showWriteState m 3 := by
  subst hb hdue hall ha
  exact if_neg (by rw [hburn, hslice]; decide)

end

/-- What a verification revolution does with the burned slots that await verification (11 R302): none is there, none lies under the
verifying sails, or `here` lie under them. -/
def State.verifyChoice (a : State) (m : Nat) (due here : List Sector) : State :=
  match due, here with
  | [], _ => a
  | x :: _, [] => a.moveWrite m 1 x.slot
  | _ :: _, y :: ys => (forEach ((y :: ys).take a.poolFree) (fun x b => (b.addSector x).scheduleOne m { x with sid := b.media.nextSid } x.sail)
      (if a.poolFree < (y :: ys).length then a.countM m 0x0C 0x0B else a)).showPoolQueue.showWriteState m 2

theorem verifyChoice_reads {a : State} {due here : List Sector} (hdue : due ≠ []) (hhere : here ≠ []) : a.verifyChoice m due here =
    (forEach (here.take a.poolFree) (fun x b => (b.addSector x).scheduleOne m { x with sid := b.media.nextSid } x.sail)
      (if a.poolFree < here.length then a.countM m 0x0C 0x0B else a)).showPoolQueue.showWriteState m 2 := by
  cases due with
  | nil => exact absurd rfl hdue
  | cons x xs =>
    cases here with
    | nil => exact absurd rfl hhere
    | cons y ys => rfl

theorem verifyRevolution_eq {a : State} {l here : List Sector} {first : Nat} (hv : v.mayVerify m = true) (ha : a = v.showWidth m)
    (hl : l = a.verifyDue m) (hfirst : first = (a.window m).1 + a.moN m 0x50 3)
    (hhere : here = l.filterMap (fun x => (a.writerOf m 1 x.slot).map (fun k => { x with sail := first + k, reader := first + k }))) :
    v.verifyRevolution m = a.verifyChoice m l here := by
  subst ha hl hfirst
  refine (if_neg (by rw [hv]; decide)).trans ?_
  dsimp only
  rw [← hhere]
  clear hhere
  cases (v.showWidth m).verifyDue m <;> cases here <;> rfl

/-! ## Commit records and the durable limit -/

theorem exec_recordDelayExpiry {s : State} {t : Nat} {r : CommitRec} (hm : m < 32) (hr : ((s.at_ t).mast m).wr.openRec = some r)
    (hdue : r.firstAt + ms ((s.at_ t).moN m 0x54 6) ≤ (s.at_ t).now) :
    exec (.recordDelayExpiry t m) s = .next ((s.at_ t).closeRec m) := by
  show execRecordDelayExpiry t m s = _
  unfold execRecordDelayExpiry
  rw [onMast_lt hm]
  simp only [hr, if_pos hdue]

theorem recordBurn_eq {r : CommitRec} {rest : List CommitRec} {sl : Slot} {i : Nat} {z : State} (hr : (v.mast m).wr.closed = r :: rest)
    (hburn : v.mayBurn m = true) (hat : r.burnedAt = none) (hslice : v.writeSliceOver m = false ∨ r.header ≠ none)
    (hi : i = (v.mast m).wr.logNext) (hz : z = v.showWidth m) (hleft : z.burnsLeft m = [])
    (hsl : z.logSlot ((v.tableOf m).getD 0) i = some sl) :
    v.recordBurn m = match z.burnerOf m sl with
      | none => z.moveWrite m 0 sl
      | some k => z.burnRecord m r i sl k := by
  subst hi hz
  unfold State.recordBurn
  simp only [hr, hsl]
  refine (if_neg ?_).trans (by cases (v.showWidth m).burnerOf m sl <;> rfl)
  rw [hburn, hat, hleft]
  rcases hslice with h | h
  · simp [h]
  · cases hh : r.header with
    | none => exact absurd hh h
    | some x => simp

theorem exec_durableLimitExpiry {s : State} {t n : Nat} {w : Write} (hw : (s.at_ t).write n = some w) (hacc : w.accepted = true)
    (hdue : w.acceptedAt + sec ((s.at_ t).moN w.mast 0x54 7) ≤ (s.at_ t).now) :
    exec (.durableLimitExpiry t n) s = .next ((s.at_ t).failWrite n stWriteTimeout) := by
  have due : (s.at_ t).durableDue w = true := by
    simp only [State.durableDue, hacc, Bool.true_and, decide_eq_true_eq]
    exact hdue
  show execDurableLimitExpiry t n s = _
  unfold execDurableLimitExpiry
  simp only [hw, due, if_true]

/-! ## The log of a mount -/

section
variable {tb : Nat} (htb : v.tableOf m = some tb)
include htb

theorem logRead_eq {scan : List Int} (hdone : v.logDone m tb = true) (hopen : v.logOpen m = true) {y : State}
    (hy : y = if v.mounting m then v.mountLogRead m scan else v.mapRebuilt m) :
    v.logRead m scan = ({ y with media := { y.media with mapLost := y.media.mapLost.filter (· ≠ m) } } : State).logAnew m := by
  subst hy
  unfold State.logRead
  simp only [htb]
  exact if_neg (by rw [hdone, hopen]; decide)

theorem mountLogRead_good {scan : List Int} (hmount : v.mounting m = true) {r : LogRead} {a b : State}
    (hr : r = (v.updMast m (fun x => { x with wr := { periodAt := x.wr.periodAt } })).applyLog m none (v.mast m).wr.log)
    (ha : a = r.s.updMast m (fun x => { x with wr := { x.wr with lastSeq := r.last, logNext := r.next, relocPool := [] }, mountSaved := [] }))
    (hb : b = (((a.setMo m 0x50 4 (r.last : Nat)).setMo m 0x54 9 (a.logSlots tb - r.next : Nat)).setFrontier m tb scan).showWriteState m 0)
    (hstop : r.stopped = false) (hstale : r.stale = false) :
    v.mountLogRead m scan = forEach (b.mountCmds m) (fun c y => y.complete c.cid 0 0) b := by
  unfold State.mountLogRead
  simp only [hmount, htb, ← hr, ← ha, ← hb, hstop, hstale, Bool.false_eq_true, if_false]

end
end

/-- Settles O42: the periods, revolutions, records and log readings of a mast, each by its condition. -/
theorem writesBurnVerifyAndBecomeDurable : Obligations.WritesBurnVerifyAndBecomeDurable := by
  unfold Obligations.WritesBurnVerifyAndBecomeDurable
  rintro t m s v rfl hm
  refine ⟨?boundary, ?closed, ?burn, ?verify, ?relocate, ?delay, ?record, ?durable, ?log⟩
  case boundary =>
    intro c hc hat hhold
    have row : exec c s = .next ((s.at_ t).passBoundary m) := by
      rcases hc with rfl | ⟨rfl, hslice⟩
      · exact congrArg Host.Outcome.next (onMast_lt hm _ _)
      · exact congrArg Host.Outcome.next ((onMast_lt hm _ _).trans (if_pos hslice))
    exact ⟨fun hst hdone => row.trans (congrArg Host.Outcome.next (passBoundary_leaves hat hhold hst hdone)),
      fun hst hdue hcal htag hfl hrd => row.trans (congrArg Host.Outcome.next (passBoundary_enters hat hhold hst hdue hcal htag hfl hrd))⟩
  case closed =>
    exact fun h => ⟨congrArg Host.Outcome.next ((onMast_lt hm _ _).trans (passBoundary_closed h)),
      congrArg Host.Outcome.next ((onMast_lt hm _ _).trans (sliceExpiry_closed h))⟩
  case burn =>
    intro hburn hslice a all due ha hall hdue
    have burned := burnRevolution_eq hburn hslice ha hall hdue
    refine ⟨fun hnone p hp => ?_, fun hnone hp => ?_, fun hsome => ?_⟩
    · refine congrArg Host.Outcome.next ((onMast_lt hm _ _).trans (burned.trans ((if_pos hnone).trans ?_)))
      rw [hp]
    · refine congrArg Host.Outcome.next ((onMast_lt hm _ _).trans (burned.trans ((if_pos hnone).trans ?_)))
      rw [hp]
    · exact congrArg Host.Outcome.next ((onMast_lt hm _ _).trans (burned.trans (if_neg hsome)))
  case verify =>
    rintro k u rfl hv a l first here ha hl hfirst hhere
    have verified := verifyRevolution_eq hv ha hl hfirst hhere
    refine ⟨fun hnone => ?_, fun x rest hx hnone => ?_, fun hsome => ?_⟩
    · refine congrArg Host.Outcome.next ((onMast_lt hm _ _).trans (verified.trans ?_))
      rw [hnone]
      rfl
    · refine congrArg Host.Outcome.next ((onMast_lt hm _ _).trans (verified.trans ?_))
      rw [hx, hnone]
      rfl
    · have hdue : l ≠ [] := by
        rintro rfl
        exact hsome hhere
      exact congrArg Host.Outcome.next ((onMast_lt hm _ _).trans (verified.trans (verifyChoice_reads hdue hsome)))
  case relocate =>
    intro hburn hslice a all due b ha hall hdue hb
    exact congrArg Host.Outcome.next ((onMast_lt hm _ _).trans (relocationPass_eq hburn hslice ha hall hdue hb))
  case delay => exact fun r hr hdue => exec_recordDelayExpiry hm hr hdue
  case record =>
    intro r rest sl i z hr hburn hat hslice hi hz hleft hsl
    have recorded := recordBurn_eq hr hburn hat hslice hi hz hleft hsl
    refine ⟨fun hk => congrArg Host.Outcome.next ((onMast_lt hm _ _).trans (recorded.trans ?_)), ?_⟩
    · rw [hk]
    · rintro k x a b hk rfl rfl rfl
      refine congrArg Host.Outcome.next ((onMast_lt hm _ _).trans (recorded.trans ?_))
      rw [hk]
      rfl
  case durable => exact fun n w hw hacc hdue => exec_durableLimitExpiry hw hacc hdue
  case log =>
    intro tb slots spares htb hdone
    refine ⟨?_, ?_⟩
    · rintro hmount r a b y z hr ha hb hstop hstale hy rfl
      have good := mountLogRead_good htb hmount hr ha hb hstop hstale
      have hopen : (s.at_ t).logOpen m = true := by
        unfold State.logOpen
        rw [hmount, Bool.true_or]
      refine congrArg Host.Outcome.next ((onMast_lt hm _ _).trans ?_)
      rw [logRead_eq htb hdone hopen (y := y) (by rw [hmount, hy]; exact good.symm)]
    · rintro hmount hlost y z rfl rfl
      have hopen : (s.at_ t).logOpen m = true := by
        unfold State.logOpen
        rw [hlost, Bool.or_true]
      refine congrArg Host.Outcome.next ((onMast_lt hm _ _).trans ?_)
      rw [logRead_eq htb hdone hopen (y := (s.at_ t).mapRebuilt m) (by rw [hmount]; rfl)]

end Sys2Proof.Machine
end

section
/-! PROOFS. Packets of peers (14.2, 14.3, 14.9, 14.10). -/
namespace Sys2Proof.Machine

/-! ## Acceptance -/

section
variable {v : State} {port : Nat} {k : GPacket} (hp : port < 4) (hup : v.portUp port = true) (hk : k.intact = true)
  (hseq : hf k.header 31 20 = (v.port port).expect)
include hp hup hk hseq

/-- An intact packet in sequence on a port that is up is accepted (14 R380). -/
theorem linkTake_accepts : v.linkTake port k = (v.linkAccept port k, true) := by
  refine (if_neg ?_).trans ((if_neg (by rw [hk]; decide)).trans (if_pos hseq))
  rw [hup]
  rintro (h | h)
  · omega
  · exact absurd h (by decide)

theorem packetFor_here {ty : Nat} {f : State → State} (hty : k.type = ty) (hdst : k.dst = (v.linkAccept port k).addr) :
    v.packetFor port ty k f = f (v.linkAccept port k) := by
  unfold State.packetFor
  rw [if_neg (not_not.mpr hty), linkTake_accepts hp hup hk hseq]
  simp only [Bool.not_true, Bool.false_eq_true, if_false, if_pos hdst]

theorem exec_packetForward {s : State} {t : Nat} (hv : v = s.at_ t) (hdst : k.dst ≠ (v.linkAccept port k).addr) :
    exec (.packetForward t port k) s = .next ((v.linkAccept port k).forward port k) := by
  subst hv
  show execPacketForward t port k s = _
  unfold execPacketForward
  rw [linkTake_accepts hp hup hk hseq]
  dsimp only
  rw [if_pos (And.intro rfl hdst)]

theorem exec_typeDiscard {s : State} {t : Nat} (hv : v = s.at_ t) (hty : gorcyTypes.contains k.type = false)
    (hdst : k.dst = (v.linkAccept port k).addr) :
    exec (.typeDiscard t port k) s = .next ((v.linkAccept port k).count (okey 0x5428 20)) := by
  subst hv
  show execTypeDiscard t port k s = _
  unfold execTypeDiscard
  dsimp only
  rw [linkTake_accepts hp hup hk hseq, hty]
  simp only [Bool.false_eq_true, if_false, Bool.not_true, if_pos hdst]

end

/-! ## The effect of each type -/

section
variable {u : State} {k : GPacket}

theorem cmdIn_queued {x : Peer} (hl : k.body.length = 64) (hx : u.peerOf k.src = some x) :
    u.cmdIn k.src k = u.queuePacket x.q (BitVec.ofNat 512 (leNat k.body)) k.epoch := by
  unfold State.cmdIn
  simp only [hl, hx, ne_eq, not_true_eq_false, if_false]

theorem peerHead_eq {x : Peer} {head : Nat} (hx : u.peerOf k.src = some x) : u.peerHead k.src head =
    if head < (u.eq x.eq).size ∧ (head + (u.eq x.eq).size - (u.eq x.eq).head) % (u.eq x.eq).size ≤ (u.eq x.eq).used then
      (u.setEq x.eq { u.eq x.eq with head := head }).drainEq x.eq ((u.eq x.eq).waiting.length + 1)
    else u.count (okey 0x5420 2) := by
  unfold State.peerHead
  rw [hx]

theorem writeDataIn_eq {a : State} {ok : Bool} (hw : u.grantsExpire.remoteWrite k.src (k.tsf 63 0) k.body = (a, ok)) :
    u.writeDataIn k = if ok = true then a.putFence { a.fenceOf k.src (k.tsf 95 64) with
        applied := (a.fenceOf k.src (k.tsf 95 64)).applied + 1 }
      else (a.count (okey 0x5428 19)).putFence { a.fenceOf k.src (k.tsf 95 64) with
        dropped := (a.fenceOf k.src (k.tsf 95 64)).dropped + 1 } := by
  unfold State.writeDataIn
  rw [hw]

theorem fenceAckIn_found {c : Cmd}
    (hc : u.host.cmds.find? (fun c => decide (c.stage = .fence ∧ c.cid % 2 ^ 32 = k.tsf 31 0 ∧ c.pf 266 256 = k.src)) = some c) :
    u.fenceAckIn k = u.complete c.cid (if c.fenceAt + ms (u.objN (okey 0x2300 6)) ≤ u.now then stPeerTimeout
      else if k.tsf 95 64 = 0 then c.finish else stTransferError) c.posted := by
  have found := List.find?_some hc
  have hst : c.stage = .fence := (of_decide_eq_true found).1
  have due : u.fenceDue c = decide (c.fenceAt + ms (u.objN (okey 0x2300 6)) ≤ u.now) := by
    simp only [State.fenceDue, hst, true_and]
  unfold State.fenceAckIn
  simp only [hc, due, decide_eq_true_eq]

theorem fetchReqIn_otherEpoch (he : u.peerEpoch k.src ≠ u.epoch) : u.fetchReqIn k = u.fetchStatus k.src k.xid stEpochMismatch := by
  unfold State.fetchReqIn
  exact if_pos he

theorem fetchReqIn_found {e tb : Nat} {sl : Slot} (he : u.peerEpoch k.src = u.epoch) (hst : (u.replicaMast k).2 = 0)
    (hext : u.extentOf (u.replicaMast k).1 (k.tsf 63 0) = some e) (htb : u.tableOf (u.replicaMast k).1 = some tb)
    (hlen : k.tsf 75 64 < dataSectors (meLen e))
    (hsl : (u.walk tb (meStr e) (totalSlots (meLen e) (meXpe e)) (meLayer e) (meTrack e) (meCol e) 0)[slotOfEidx (meXpe e)
      (k.tsf 75 64)]? = some sl) {sp : Option Slot}
    (hsp : sp = ((u.relocsOf (u.replicaMast k).1 (meExt e) (meNrel e)).find? (fun r => r.1 = slotOfEidx (meXpe e)
      (k.tsf 75 64))).map (·.2)) :
    u.fetchReqIn k = u.addSector {
      sid := 0, mast := (u.replicaMast k).1, slot := sp.getD sl, sail := 0, reader := 0, str := meStr e, xpe := meXpe e
      ext := meExt e, eidx := k.tsf 75 64, xpos := (secOfSlot (meLen e) (meXpe e) (slotOfEidx (meXpe e) (k.tsf 75 64))).2.2, kind := 1
      reloc := sp.isSome, use := .replica k.src k.xid } := by
  subst hsp
  obtain ⟨m, st, hrm⟩ : ∃ m st, u.replicaMast k = (m, st) := ⟨_, _, rfl⟩
  rw [hrm] at hst hext htb ⊢
  dsimp only at hst hext htb
  unfold State.fetchReqIn
  rw [hrm]
  dsimp only
  rw [if_neg (not_not.mpr he), if_neg (not_not.mpr hst), hext, htb]
  dsimp only
  rw [hsl]
  dsimp only
  rw [if_neg (Nat.not_le.mpr hlen)]

theorem fetchRepIn_inTime {x : Sector}
    (hx : u.media.sectors.find? (fun x => decide (x.phase = .fetch ∧ x.xid = k.xid)) = some x)
    (ht : u.now < x.fetchAt + ms (u.moN x.mast 0x52 4)) : u.fetchRepIn k =
      if k.body.length = 4096 ∧ infoCrcOk (replyInfo k) = true ∧ (parseHeader (k.tsf 191 0)).kind = 1 ∧
          (parseHeader (k.tsf 191 0)).ext = x.ext ∧ (parseHeader (k.tsf 191 0)).eidx = x.eidx ∧
          (u.extentOf x.mast x.ext).map meDig = some (k.tsf 319 256) then u.acceptSector x (replyInfo k)
      else u.stepFailed x.sid := by
  unfold State.fetchRepIn
  simp only [hx]
  exact if_neg (Nat.not_le.mpr ht)

theorem forward_eq {port : Nat} (hv : u.addrValid k.dst = true) : u.forward port k =
    if 127 ≤ hf k.header 41 35 + 1 then (u.count (okey 0x5428 18)).freeInput k.header (some (port, vcIndex k.header))
    else u.fabricPass (port / 2) (clearReserved (hfSet k.header 41 35 (hf k.header 41 35 + 1))) k.payload
      (some (port, vcIndex k.header)) := if_neg (by rw [hv]; decide)

end

/-- Settles O43: an accepted packet for this rig takes the effect of its type; another's is forwarded. -/
theorem peerPacketsTakeEffect : Obligations.PeerPacketsTakeEffect := by
  unfold Obligations.PeerPacketsTakeEffect
  rintro t port k s v u hv hp hup hk hseq rfl
  constructor
  · intro hdst
    have here : ∀ {ty f}, k.type = ty → (s.at_ t).packetFor port ty k f = f (v.linkAccept port k) := by
      subst hv
      exact fun hty => packetFor_here hp hup hk hseq hty hdst
    refine ⟨?cmd, ?event, ?head, ?write, ?fence, ?ack, ?reqEpoch, ?req, ?rep, ?discard⟩
    case cmd => exact fun x hty hl hx => congrArg Host.Outcome.next ((here hty).trans (cmdIn_queued hl hx))
    case event =>
      rintro hty recs n h a rfl rfl rfl rfl
      exact congrArg Host.Outcome.next (here hty)
    case head =>
      rintro x e h hty hx rfl rfl
      exact congrArg Host.Outcome.next ((here hty).trans (peerHead_eq hx))
    case write =>
      rintro a ok f hty hw rfl
      exact congrArg Host.Outcome.next ((here hty).trans (writeDataIn_eq hw))
    case fence =>
      rintro hty f rfl
      exact congrArg Host.Outcome.next (here hty)
    case ack => exact fun c hty hc => congrArg Host.Outcome.next ((here hty).trans (fenceAckIn_found hc))
    case reqEpoch => exact fun hty he => congrArg Host.Outcome.next ((here hty).trans (fetchReqIn_otherEpoch he))
    case req =>
      intro e tb sl hty he hst hext htb hlen hsl sp hsp
      exact congrArg Host.Outcome.next ((here hty).trans (fetchReqIn_found he hst hext htb hlen hsl hsp))
    case rep =>
      rintro x hty hx ht h rfl
      exact congrArg Host.Outcome.next ((here hty).trans (fetchRepIn_inTime hx ht))
    case discard => exact fun hty => exec_typeDiscard hp hup hk hseq hv hty hdst
  · intro hdst hvalid
    exact (exec_packetForward hp hup hk hseq hv hdst).trans (congrArg Host.Outcome.next (forward_eq hvalid))

end Sys2Proof.Machine
end

section
/-! PROOFS. The link layer of the Gorcy ports: HELLO, LCTL, replays, training, lanes and time-outs (14.1, 14.4 to 14.10). -/
namespace Sys2Proof.Machine

/-- A row about port `p` runs its effect. -/
theorem onPort_lt {p : Nat} (h : p < 4) (s : State) (f : State → State) : onPort p s f = f s := if_pos h

/-! ## The link's exchange -/

section
variable {v : State} {p : Nat}

theorem exec_hello {s : State} {t : Nat} {k : GPacket} {a : State} (hp : p < 4) (ha : a = ((s.at_ t).portTimeout p).parentTimeout)
    (hst : a.objN (okey 0x2301 (p + 1)) ≠ 0) (hty : k.type = 0x01) (hk : k.intact = true) (hok : helloOk k.body = true) :
    exec (.hello t p k) s = .next (a.helloIn p k).helloFlush := by
  subst ha
  refine congrArg Host.Outcome.next ((onPort_lt hp _ _).trans ?_)
  dsimp only
  rw [if_pos hty, if_neg (not_or.mpr ⟨not_not.mpr hty, hst⟩), hk, hok]
  exact if_neg (by decide)

theorem exec_lctl {s : State} {t : Nat} {k : GPacket} (hp : p < 4) (hst : 2 ≤ (s.at_ t).objN (okey 0x2301 (p + 1))) (hty : k.type = 0x02)
    (hk : k.intact = true) (hpay : k.payload = []) : exec (.lctl t p k) s = .next (((s.at_ t).replayDue p).lctlIn p k) := by
  refine congrArg Host.Outcome.next ((onPort_lt hp _ _).trans ((if_neg ?_).trans (if_neg ?_)))
  · rintro (h | h)
    · exact h hty
    · omega
  · rw [hk, hpay]
    decide

/-- The oldest unacknowledged packet has waited its time: every one is sent again in order (14 R381). -/
theorem replayDue_replays {y : SentPkt} {l : List SentPkt} (hup : v.portUp p = true) (hun : (v.port p).unacked = y :: l)
    (hdue : y.sentAt + 20000 ≤ v.now) {r : List SentPkt} (hr : r = (y :: l).map (fun z => { z with replays := z.replays + 1, sentAt := v.now }))
    {a : State} (ha : a = forEach r (fun z b => (b.emitPacket p z.header z.payload).count (okey 0x5428 (5 + p)))
      (v.setPort p { v.port p with unacked := r })) :
    v.replayDue p = if r.any (fun z => decide (8 ≤ z.replays)) then a.replayFails p else a := by
  subst ha hr
  have due : v.replayDue p = v.replay p := by
    unfold State.replayDue
    simp only [hun, if_pos hdue]
  refine due.trans ((if_neg (by rw [hup]; decide)).trans ?_)
  rw [hun]

theorem exec_ackTimer {s : State} {t : Nat} (hp : p < 4) (h : ((s.at_ t).port p).owed ≠ 0) :
    exec (.ackTimer t p) s = .next ((s.at_ t).sendLctl p false) :=
  congrArg Host.Outcome.next ((onPort_lt hp _ _).trans (if_neg h))

theorem sendLctl_ack {c : Nat} (hc : c = (((v.port p).freed.zipIdx.map (fun z => z.1 % 65536 * 2 ^ (16 * z.2))).foldl (· + ·) 0) * 2 ^ 16) :
    v.sendLctl p false = (v.setPort p { v.port p with owed := 0 }).emitPacket p
      (v.mkHeader 0x02 0 (v.rigBehind p) 0 0 (((v.port p).expect + 4095) % 4096 + c)) [] := by
  subst hc
  unfold State.sendLctl
  simp only [Bool.false_eq_true, if_false, Nat.add_zero]

theorem helloFlush_due {due : List Nat} (hdue : due = (List.range 4).filter (fun i => (v.port i).helloOwed)) (hne : due ≠ []) :
    v.helloFlush = (forEach due (fun i b => b.helloOut i) v).leasesCarried := by
  subst hdue
  exact if_neg hne

theorem helloFlush_none (h : ∀ i, i < 4 → (v.port i).helloOwed = false) : v.helloFlush = v := by
  refine if_pos (List.filter_eq_nil_iff.mpr fun i hi => ?_)
  exact ne_true_of_eq_false (h i (List.mem_range.mp hi))

end

/-- Settles O44: what arrives at and leaves a link, each by its condition. -/
theorem gorcyLinkExchangeTakesEffect : Obligations.GorcyLinkExchangeTakesEffect := by
  unfold Obligations.GorcyLinkExchangeTakesEffect
  rintro t p k s v rfl
  refine ⟨?hello, ?lctl, ?corrupted, ?replay, ?ack, ?timer, ?timerNone⟩
  case hello =>
    rintro a hp ha hst hty hk hok b u w x rfl rfl rfl rfl
    exact exec_hello hp ha hst hty hk hok
  case lctl =>
    rintro hp hst hty hk hpay a u rfl rfl
    exact exec_lctl hp hst hty hk hpay
  case corrupted =>
    rintro hp u rfl
    exact congrArg Host.Outcome.next (onPort_lt hp _ _)
  case replay =>
    intro y l hp hup hun hdue r a hr ha
    exact congrArg Host.Outcome.next ((onPort_lt hp _ _).trans (replayDue_replays hup hun hdue hr ha))
  case ack => exact fun hp ho c hc => (exec_ackTimer hp ho).trans (congrArg Host.Outcome.next (sendLctl_ack hc))
  case timer =>
    rintro a due u rfl hdue hne rfl
    exact congrArg Host.Outcome.next (helloFlush_due hdue hne)
  case timerNone =>
    rintro a rfl h
    exact congrArg Host.Outcome.next (helloFlush_none h)

/-! ## Training, lanes and time-outs -/

section
variable {v : State} {p : Nat}

theorem portTimeout_due {t0 : Nat} (ht : (v.port p).t0 = some t0) (hst : v.objN (okey 0x2301 (p + 1)) = 1) (hdue : t0 + ms 20 ≤ v.now) :
    v.portTimeout p = (v.setPort p { v.port p with restarts := (v.port p).restarts + 1, prbsUntil := v.now + ms 10 }).portOff p := by
  unfold State.portTimeout
  simp only [ht, if_pos (And.intro hst hdue)]

section
variable {s : State} {t l : Nat} (hp : p < 4) (hl : l < 2)
include hp hl

theorem exec_gorcyLaneDown (h : ((s.at_ t).port p).lane l = true) : exec (.gorcyLaneDown t p l) s =
    .next ((((s.at_ t).setPort p (((s.at_ t).port p).setLane l false (some (s.at_ t).now))).showPort p).failGorcyLane p l).helloFlush := by
  refine congrArg Host.Outcome.next ((onPort_lt hp _ _).trans ((if_pos hl).trans (congrArg State.helloFlush ?_)))
  exact if_neg (by rw [h]; decide)

theorem exec_gorcyLaneReacquired (hst : 2 ≤ (s.at_ t).objN (okey 0x2301 (p + 1))) {d : Nat}
    (hd : ((s.at_ t).port p).laneDown l = some d) : exec (.gorcyLaneReacquired t p l) s =
    .next (if d + ms 2 ≤ (s.at_ t).now then (s.at_ t).retireGorcyLane p l
      else ((s.at_ t).setPort p (((s.at_ t).port p).setLane l true none)).showPort p) := by
  have back : ¬ (2 ≤ l ∨ (some d).isNone = true ∨ (s.at_ t).objN (okey 0x2301 (p + 1)) < 2) := by
    rintro (h | h | h)
    · omega
    · exact absurd h Bool.false_ne_true
    · omega
  show execGorcyLaneReacquired t p l s = _
  unfold execGorcyLaneReacquired
  rw [onPort_lt hp]
  simp only [hd, if_neg back, decide_eq_true_eq]

theorem exec_gorcyLaneReacquireTimeout {d : Nat} (hd : ((s.at_ t).port p).laneDown l = some d) (hdue : d + ms 2 ≤ (s.at_ t).now) :
    exec (.gorcyLaneReacquireTimeout t p l) s = .next ((s.at_ t).retireGorcyLane p l).helloFlush := by
  show execGorcyLaneReacquireTimeout t p l s = _
  unfold execGorcyLaneReacquireTimeout
  rw [onPort_lt hp]
  simp only [hd, if_pos (And.intro hl hdue)]

end

theorem parentTimeout_due (hpar : v.objN (okey 0x2302 4) ≠ 255) (hdue : v.fabric.parentAt + sec 1 ≤ v.now)
    (hsure : v.fabric.timeUnsure = false) : v.parentTimeout =
      ((({ v with fabric := { v.fabric with timeUnsure := true } } : State).count (okey 0x5428 22)).fabricEvent v.addr 0 none).chooseRoot :=
  (if_pos ⟨hpar, hdue⟩).trans (if_neg (ne_true_of_eq_false hsure))

theorem leaseAges_due {disc : Nat} {x : Lease} (hx : v.fabric.leases.find? (fun y => y.disc = disc) = some x)
    (hdue : x.carried + sec (v.objN (okey 0x2303 2)) ≤ v.now) : v.leaseAges disc =
      ({ v with fabric := { v.fabric with leases := v.fabric.leases.filter (fun y => y.disc ≠ disc) } } : State).showLeases := by
  unfold State.leaseAges
  simp only [hx, if_pos hdue]

theorem peerIdle_due {a : Nat} {x : Peer} (hx : v.peerOf a = some x) (hdue : x.lastAt + ms (v.objN (okey 0x2300 5)) ≤ v.now) :
    v.peerIdle a = v.releasePeer x := by
  unfold State.peerIdle
  simp only [hx, if_pos hdue]

theorem copyExpires_due {slot : Nat} {c : Copy} (hc : v.copyOf slot = some c)
    (hdue : (c.goff = none ∧ c.startedAt + ms (v.objN (okey 0x2300 6)) ≤ v.now) ∨ c.startedAt + sec (v.objN (okey 0x2300 7)) ≤ v.now) :
    v.copyExpires slot = v.settleCopy slot stPeerTimeout := by
  unfold State.copyExpires
  simp only [hc, Option.isNone_iff_eq_none, if_pos hdue]

theorem exec_fenceTimeout {s : State} {t cid : Nat} {c : Cmd} (hc : (s.at_ t).cmd cid = some c) (hst : c.stage = .fence)
    (hdue : c.fenceAt + ms ((s.at_ t).objN (okey 0x2300 6)) ≤ (s.at_ t).now) :
    exec (.fenceTimeout t cid) s = .next ((s.at_ t).complete cid stPeerTimeout c.posted) := by
  have due : (s.at_ t).fenceDue c = true := decide_eq_true ⟨hst, hdue⟩
  show execFenceTimeout t cid s = _
  unfold execFenceTimeout
  simp only [hc, due, if_true]

end

/-- Settles O45: what a port's signal and lanes do, and each time-out by its limit. -/
theorem portsPeersAndLeasesTimeOut : Obligations.PortsPeersAndLeasesTimeOut := by
  unfold Obligations.PortsPeersAndLeasesTimeOut
  rintro t p l s v rfl
  refine ⟨?signal, ?training, ?down0, ?down1, ?back, ?notBack, ?parent, ?lease, ?peer, ?copy, ?fence⟩
  case signal => exact fun hp h1 h2 h3 => congrArg Host.Outcome.next ((onPort_lt hp _ _).trans (if_pos ⟨h1, h2, h3⟩))
  case training =>
    exact fun t0 hp ht hst hdue =>
      congrArg Host.Outcome.next ((onPort_lt hp _ _).trans (congrArg State.helloFlush (portTimeout_due ht hst hdue)))
  case down0 => exact fun hp h => exec_gorcyLaneDown hp (by decide) h
  case down1 => exact fun hp h => exec_gorcyLaneDown hp (by decide) h
  case back =>
    exact fun hp hst => ⟨fun d hd => exec_gorcyLaneReacquired hp (by decide) hst hd,
      fun d hd => exec_gorcyLaneReacquired hp (by decide) hst hd⟩
  case notBack => exact fun d hp hl hd hdue => exec_gorcyLaneReacquireTimeout hp hl hd hdue
  case parent =>
    exact fun hpar hdue hsure => congrArg Host.Outcome.next (congrArg State.helloFlush (parentTimeout_due hpar hdue hsure))
  case lease => exact fun x hx hdue => congrArg Host.Outcome.next (leaseAges_due hx hdue)
  case peer =>
    rintro x u hx hdue rfl
    exact congrArg Host.Outcome.next (peerIdle_due hx hdue)
  case copy => exact fun c hc hdue => congrArg Host.Outcome.next (copyExpires_due hc hdue)
  case fence => exact fun c hc hst hdue => exec_fenceTimeout hc hst hdue

end Sys2Proof.Machine
end

section
/-! PROOFS. The microwords of arithmetic, logic, fields and compares (15 R407). -/
namespace Sys2Proof.Machine

section
variable {s v u : State} {t e op : Nat} {w : Mw} {x y : EngCtx} {g k : Segment} {f : WordCtx → OpOut}

/-- A word whose operation gives a context and segment takes its next address with them. -/
theorem wordRow_ok (hv : v = s.at_ t) (hw : v.runsWord e w x g) (hop : w.op = op) (hf : f ⟨v, e, x, g, w⟩ = .ok u y k) :
    wordRow op f t e .clean s = .next (v.takeNext u e w (ccHolds x g w.cc) y k) := by
  subst hv
  exact congrArg Host.Outcome.next ((runWord_clean hw hop f).trans (by rw [hf]))

/-- A word whose operation faults faults its job. -/
theorem wordRow_fault (hv : v = s.at_ t) (hw : v.runsWord e w x g) (hop : w.op = op) {code : Nat}
    (hf : f ⟨v, e, x, g, w⟩ = .fault code) : wordRow op f t e .clean s = .next (v.jobFault e code) := by
  subst hv
  exact congrArg Host.Outcome.next ((runWord_clean hw hop f).trans (by rw [hf]))

end

/-- Clamping to a range that is not empty. -/
theorem clampI_eq_max_min {x lo hi : Int} (h : lo ≤ hi) : clampI x lo hi = max lo (min x hi) := by
  unfold clampI
  split_ifs <;> omega

section
variable (k : WordCtx)

/-- The signed range, or the unsigned one. -/
theorem WordCtx.range_fst : k.range.1 = if k.w.sg then -(2 ^ (k.width - 1)) else 0 := apply_ite Prod.fst _ _ _
theorem WordCtx.range_snd : k.range.2 = if k.w.sg then 2 ^ (k.width - 1) - 1 else 2 ^ k.width - 1 := apply_ite Prod.snd _ _ _

theorem WordCtx.range_fst_le_snd : k.range.1 ≤ k.range.2 := by
  have half : (0 : Int) < 2 ^ (k.width - 1) := by positivity
  have full : (0 : Int) < 2 ^ k.width := by positivity
  rw [k.range_fst, k.range_snd]
  split_ifs <;> omega

/-- Without a carry in, ADD's result and flags are those of A + B. -/
theorem opAdd_eq : opAdd k = k.result ((k.a + k.b) % 2 ^ k.width) (decide (2 ^ k.width ≤ k.a + k.b)) (k.excess (k.sa + k.sb)) := by
  simp only [opAdd, WordCtx.addWith, Nat.add_zero, Nat.cast_zero, Int.add_zero]

/-- Without a borrow in, SUB's result and flags are those of A − B. -/
theorem opSub_eq : opSub k =
    k.result ((k.a + 2 * 2 ^ k.width - k.b) % 2 ^ k.width) (decide (k.a < k.b)) (k.excess (k.sa - k.sb)) := by
  simp only [opSub, WordCtx.subWith, WordCtx.diff, Nat.add_zero, Nat.sub_zero, Nat.cast_zero, Int.sub_zero]

/-- A saturated sum lies in its range, and V tells that it is not the sum. -/
theorem opSadd_eq {S LO HI : Int} (hS : S = if k.w.sg then k.sa + k.sb else ((k.a + k.b : Nat) : Int)) (hLO : LO = k.range.1)
    (hHI : HI = k.range.2) : opSadd k =
      k.result (toBits (max LO (min S HI)) k.width) false (decide (max LO (min S HI) ≠ S)) := by
  subst hS hLO hHI
  simp only [opSadd, clampI_eq_max_min k.range_fst_le_snd]

end

/-- Settles O46: each operation's function gives the result and flags of its row by definition, but for the empty carry of ADD
and SUB, the range of MUL and SADD, and the count of CLZ and CTZ. -/
theorem microwordArithmeticTakesEffect : Obligations.MicrowordArithmeticTakesEffect := by
  intro t e s v w x g hv hw W A B C D SA SB P LO HI S LE h I J K hW hA hB hC hD hSA hSB hP hLO hHI hS hLE hh hI hJ hK R hR
  subst hW hA hB hC hD hSA hSB hP hLE hh hI hJ hK hR
  have lo : LO = (⟨v, e, x, g, w⟩ : WordCtx).range.1 := hLO.trans (WordCtx.range_fst ⟨v, e, x, g, w⟩).symm
  have hi : HI = (⟨v, e, x, g, w⟩ : WordCtx).range.2 := hHI.trans (WordCtx.range_snd ⟨v, e, x, g, w⟩).symm
  refine ⟨fun o => wordRow_ok hv hw o rfl, fun o => wordRow_ok hv hw o (opAdd_eq _), fun o => wordRow_ok hv hw o rfl,
    fun o => wordRow_ok hv hw o (opSub_eq _), fun o => wordRow_ok hv hw o rfl, fun o => wordRow_ok hv hw o rfl,
    fun o => wordRow_ok hv hw o rfl, fun o => wordRow_ok hv hw o rfl, fun o => wordRow_ok hv hw o rfl,
    fun o => wordRow_ok hv hw o rfl, fun o => wordRow_ok hv hw o rfl, fun o => wordRow_ok hv hw o rfl,
    fun o => wordRow_ok hv hw o rfl, fun o => ?mul, fun o => wordRow_ok hv hw o rfl,
    fun o => wordRow_ok hv hw o (opSadd_eq _ hS lo hi), fun o => wordRow_ok hv hw o rfl, fun o => wordRow_ok hv hw o rfl,
    fun o => wordRow_ok hv hw o rfl, fun o => wordRow_ok hv hw o rfl, ?bfx, ?bfi, fun o => wordRow_ok hv hw o rfl,
    fun o z le zeros one => ?clz, fun o z le zeros one => ?ctz, fun o => wordRow_ok hv hw o rfl, fun o => wordRow_ok hv hw o rfl,
    fun o => wordRow_ok hv hw o rfl, fun o => ?cmp⟩
  case mul => subst lo hi; exact wordRow_ok hv hw o rfl
  case bfx => rintro o p n rfl rfl; exact wordRow_ok hv hw o rfl
  case bfi => rintro o p n rfl rfl; exact wordRow_ok hv hw o rfl
  case clz =>
    have count := first_one (fun i => (x.get w.ra (mwWidth w.sz)).testBit (mwWidth w.sz - 1 - i)) le zeros one
    exact wordRow_ok hv hw o (congrArg (WordCtx.logic _) count)
  case ctz =>
    have count := first_one (fun i => (x.get w.ra (mwWidth w.sz)).testBit i) le zeros one
    exact wordRow_ok hv hw o (congrArg (WordCtx.logic _) count)
  case cmp => exact wordRow_ok hv hw o rfl

end Sys2Proof.Machine
end

section
/-! PROOFS. The microwords of input, output, scratch, the shared window, the check-value unit and the special registers (15 R408,
R412, R423). -/
namespace Sys2Proof.Machine

section
variable {s v u : State} {t e op : Nat} {w : Mw} {x y : EngCtx} {g k : Segment} {f : WordCtx → OpOut}

/-- A word whose operation faults unless a condition holds. -/
theorem wordRow_ite (hv : v = s.at_ t) (hw : v.runsWord e w x g) (hop : w.op = op) {P : Prop} [Decidable P] {code : Nat}
    (hf : f ⟨v, e, x, g, w⟩ = if P then .ok u y k else .fault code) : wordRow op f t e .clean s =
      if P then .next (v.takeNext u e w (ccHolds x g w.cc) y k) else .next (v.jobFault e code) := by
  split_ifs with h
  · exact wordRow_ok hv hw hop (hf.trans (if_pos h))
  · exact wordRow_fault hv hw hop (hf.trans (if_neg h))

/-- A running engine is ready for IN when the input it holds reaches the bytes of the next IN. -/
theorem inReady_of_runsWord (hv : v = s.at_ t) (hw : v.runsWord e w x g) (hn : g.inCount ≤ g.input.length) : s.inReady e = true := by
  subst hv
  obtain ⟨hseg, _⟩ := hw
  have here : (s.engine e).seg = some g := hseg
  simp only [State.inReady, here, hn, decide_true]

end

section
variable (k : WordCtx)

/-- A scratch or window operation is carried out when its address is aligned and its bytes lie inside. -/
theorem ite_addrOk {α : Type} (size : Nat) (a b : α) : (if k.addrOk size then a else b) =
    if k.addr % (k.width / 8) = 0 ∧ k.addr + k.width / 8 ≤ size then a else b := by
  simp only [WordCtx.addrOk, decide_eq_true_eq]

/-- CVF feeds at most 16 bytes. -/
theorem opCvf_eq : opCvf k =
    if k.n ≤ 16 then k.done { k.x with cv := k.x.cv.feed (k.x.bytes k.w.ra k.n) } else .fault 0x8005 := by
  unfold opCvf
  rcases Nat.lt_or_ge 16 k.n with h | h
  · rw [if_pos h, if_neg (Nat.not_le.2 h)]
  · rw [if_neg (Nat.not_lt.2 h), if_pos h]

/-- The special registers are numbered in the order of Table 15.4, and the reserved numbers read 0. -/
theorem special_eq_getD {i : Nat} (hi : i < 16) : k.special i =
    [k.x.icnt, k.g.ipos, k.g.len, k.g.opos, k.g.ocap, k.x.lostN, k.x.cv.cvv, k.x.cv.cfg, k.x.cv.poly, k.x.cv.init, k.x.cv.xorout,
      k.x.cv.result, k.x.segN, k.s.windowSize k.e].getD i 0 := by
  interval_cases i <;> rfl

end

section
variable (v : State) (e : Nat) (x : EngCtx) (g : Segment) (w : Mw)

/-- PUTS to the configuration: a valid one is taken and every value reduced to its width. -/
theorem opPuts_cfg (hi : w.imm % 16 = 7) : opPuts ⟨v, e, x, g, w⟩ =
    .ok v { x with cv := if cvcValid (x.get w.ra (mwWidth w.sz)) then x.cv.setCfg (x.get w.ra (mwWidth w.sz)) else x.cv } g := by
  simp only [opPuts, hi]
  rfl

/-- PUTS to CVV, the polynomial, the initial value or the final XOR: the low bits of A. -/
theorem opPuts_cvv (hi : w.imm % 16 = 6) : opPuts ⟨v, e, x, g, w⟩ =
    .ok v { x with cv := { x.cv with cvv := x.get w.ra (mwWidth w.sz) % 2 ^ (x.cv.cfg % 128) } } g := by
  simp only [opPuts, hi]
  rfl
theorem opPuts_poly (hi : w.imm % 16 = 8) : opPuts ⟨v, e, x, g, w⟩ =
    .ok v { x with cv := { x.cv with poly := x.get w.ra (mwWidth w.sz) % 2 ^ (x.cv.cfg % 128) } } g := by
  simp only [opPuts, hi]
  rfl
theorem opPuts_init (hi : w.imm % 16 = 9) : opPuts ⟨v, e, x, g, w⟩ =
    .ok v { x with cv := { x.cv with init := x.get w.ra (mwWidth w.sz) % 2 ^ (x.cv.cfg % 128) } } g := by
  simp only [opPuts, hi]
  rfl
theorem opPuts_xorout (hi : w.imm % 16 = 10) : opPuts ⟨v, e, x, g, w⟩ =
    .ok v { x with cv := { x.cv with xorout := x.get w.ra (mwWidth w.sz) % 2 ^ (x.cv.cfg % 128) } } g := by
  simp only [opPuts, hi]
  rfl

end

/-- IN with its bytes delivered. -/
theorem exec_wIn_clean {t e : Nat} {s v : State} {w : Mw} {x : EngCtx} {g : Segment} (hv : v = s.at_ t) (hw : v.runsWord e w x g)
    (hn : g.inCount ≤ g.input.length) : exec (.wIn t e .clean) s = wordRow 0x20 opIn t e .clean s :=
  if_pos (inReady_of_runsWord hv hw hn)

/-- Settles O47: each operation's function is its row's effect, under the row's guard. -/
theorem streamMicrowordsTakeEffect : Obligations.StreamMicrowordsTakeEffect := by
  intro t e s v w x g hv hw W N A B D S h go hW hN hA hB hD hS hh hgo
  subst hW hN hA hB hD hS hh hgo
  refine ⟨?input, fun o => ⟨fun few room => ?_, fun beyond => ?_⟩, fun o => ?_, fun o => ?_, fun o => ?_, fun o => ?_, fun o => ?_,
    fun o => ?_, ?puts⟩
  case input =>
    rintro o n l lost fresh rfl delivered rfl rfl rfl r y rfl rfl
    rw [exec_wIn_clean hv hw delivered]
    refine (wordRow_ok hv hw o rfl).trans ?_
    cases w.sf <;> rfl
  · exact wordRow_ok hv hw o (if_neg (not_or.2 ⟨Nat.not_lt.2 few, Nat.not_lt.2 room⟩))
  · exact wordRow_fault hv hw o (if_pos beyond)
  · exact wordRow_ite hv hw o (ite_addrOk ⟨v, e, x, g, w⟩ _ _ _)
  · exact wordRow_ite hv hw o (ite_addrOk ⟨v, e, x, g, w⟩ _ _ _)
  · exact wordRow_ite hv hw o (ite_addrOk ⟨v, e, x, g, w⟩ _ _ _)
  · exact wordRow_ite hv hw o (ite_addrOk ⟨v, e, x, g, w⟩ _ _ _)
  · exact wordRow_ite hv hw o (opCvf_eq _)
  · refine wordRow_ok hv hw o ?_
    have read := special_eq_getD ⟨v, e, x, g, w⟩ (Nat.mod_lt w.imm (by decide : 0 < 16))
    exact congrArg (fun n => OpOut.ok v (x.put w.rd 64 n false) g) read
  case puts =>
    rintro o c f rfl rfl
    refine ⟨fun i => wordRow_ok hv hw o (opPuts_cvv v e x g w i), fun i => ?_, fun i => wordRow_ok hv hw o (opPuts_poly v e x g w i),
      fun i => wordRow_ok hv hw o (opPuts_init v e x g w i), fun i => wordRow_ok hv hw o (opPuts_xorout v e x g w i)⟩
    refine (wordRow_ok hv hw o (opPuts_cfg v e x g w i)).trans ?_
    simp only [cvcValid, decide_eq_true_eq]
    split_ifs <;> rfl

end Sys2Proof.Machine
end

section
/-! PROOFS. The start and the end of a segment, and the end of an image load (15 R411 to R414, R419). -/
namespace Sys2Proof.Machine

section
variable {s : State} {e : Nat} {c : Cmd}

/-- The segment that a JOB starts (15 R411). -/
def Cmd.segment (c : Cmd) : Segment :=
  { cid := c.cid, mast := c.pf 68 64, ext := c.pf 191 128, len := c.pf 255 224, ocap := c.ocap, last := c.pkt.getLsbD 11,
    save := c.pkt.getLsbD 12, off := c.pf 223 192, due := sectorRange (c.pf 223 192) (c.pf 255 224) }

/-- A command's segment holds engine e of s in context x, in the state u; its sectors are read. -/
def State.holdEngine (s u : State) (e : Nat) (c : Cmd) (x : EngCtx) : State :=
  ((u.setEngine e { s.engine e with
    ctx := x, seg := some c.segment, holder := some c.sq, waiting := (s.engine e).waiting.filter (fun i => i ≠ c.cid),
    saves := (s.engine e).saves.filter (fun r => r.1 ≠ c.sq) }).showEngine e).startReads c.cid

/-- The next segment may start: its engine runs none, loads none and is not retired, and the command waits as a JOB. -/
structure State.MayStart (s : State) (e : Nat) (c : Cmd) : Prop where
  next : s.nextSegment e = some c
  noSegment : (s.engine e).seg = none
  notLoading : (s.engine e).loading = false
  notRetired : s.maskBit (okey 0x2542 2) e = false
  job : c.stage = .job

/-- Nothing of the engine or the command forbids the start. -/
theorem State.MayStart.free (h : s.MayStart e c) :
    ((s.engine e).seg.isSome || (s.engine e).loading || s.maskBit (okey 0x2542 2) e || decide (c.stage ≠ .job)) = false := by
  obtain ⟨-, hs, hl, hr, hj⟩ := h
  rw [hs, hl, hr, hj]; rfl

theorem segmentStart_first (h : s.MayStart e c) (hf : c.pkt.getLsbD 10 = true) : s.segmentStart e =
    s.holdEngine s e c { pc := BitVec.ofNat 13 (c.pf 92 80), cv := s.startCv e, segN := 1 } := by
  simp only [State.segmentStart, h.next, h.free, hf, Bool.false_eq_true, if_false, Bool.true_eq_false, false_and, Bool.not_true, if_true]
  rfl

theorem segmentStart_notOpen (h : s.MayStart e c) (hf : c.pkt.getLsbD 10 = false) (ho : (s.engine e).openJobs.contains c.sq = false) :
    s.segmentStart e = s.failCmd c stInvalidField := by
  simp only [State.segmentStart, h.next, h.free, hf, ho, Bool.false_eq_true, if_false, and_self, if_true]

theorem segmentStart_saved (h : s.MayStart e c) (hf : c.pkt.getLsbD 10 = false) (ho : (s.engine e).openJobs.contains c.sq = true)
    {y : Nat × EngCtx} (hy : (s.engine e).saves.find? (fun r => r.1 = c.sq) = some y) : s.segmentStart e =
      s.holdEngine (s.count (okey 0x5426 4)) e c { y.2 with segN := y.2.segN + 1 } := by
  simp only [State.segmentStart, h.next, h.free, hf, ho, hy, Bool.false_eq_true, if_false, Bool.true_eq_false, and_false, Bool.not_false,
    Option.map_some, Option.isSome_some, and_self, if_true]
  rfl

theorem segmentStart_held (h : s.MayStart e c) (hf : c.pkt.getLsbD 10 = false) (ho : (s.engine e).openJobs.contains c.sq = true)
    (hy : (s.engine e).saves.find? (fun r => r.1 = c.sq) = none) : s.segmentStart e =
      s.holdEngine s e c { (s.engine e).ctx with segN := (s.engine e).ctx.segN + 1 } := by
  simp only [State.segmentStart, h.next, h.free, hf, ho, hy, Bool.false_eq_true, if_false, Bool.true_eq_false, and_false, Option.map_none]
  rfl

end

/-! ## The end of a segment (15 R413, R414) -/

section
variable (s : State) (e : Nat) (x : EngCtx) (g : Segment)

/-- A segment's command ends with its OPOS, as lost when its input held a lost sector. -/
def State.finishSegment (a : State) (cid : Nat) : State :=
  forEach (List.range 32) (fun m b => b.dropOrphans m)
    (a.finishData cid (if (a.cmd cid).map (fun c => c.lost) = some true then 0x0018 else 0))

/-- The status with which a segment's command ends. -/
theorem lostStatus_eq (c : Option Cmd) : (if (c.map (fun c => c.lost)).getD false then stMediaUnrecovered else 0) =
    if c.map (fun c => c.lost) = some true then 0x0018 else 0 := by
  cases c with
  | none => rfl
  | some c => cases h : c.lost <;> simp [h, stMediaUnrecovered]

/-- The state with the engine's objects showing the check value and its result. -/
def State.showCheckValue (s : State) (e : Nat) (x : EngCtx) : State :=
  (s.setObj (ekey e 0x0B) (x.cv.cvv : Nat)).setObj (ekey e 0x0C) (x.cv.result : Nat)

/-- What becomes of the engine at the end of a segment. -/
def State.leaveSegment (s : State) (e : Nat) (x : EngCtx) (g : Segment) (q resume : Nat) : State :=
  if g.last then (s.showCheckValue e x).releaseJob e q
  else if g.save ∧ (s.engine e).saves.length < (s.showCheckValue e x).objN (okey 0x2542 3) then
    (((s.showCheckValue e x).setEngine e { s.engine e with
      seg := none, holder := none, ctx := {}, saves := (s.engine e).saves ++ [(q, { x with pc := BitVec.ofNat 13 resume })] }).count
        (okey 0x5426 3)).showEngine e
  else ((s.showCheckValue e x).setEngine e { s.engine e with
    seg := none, ctx := { x with pc := BitVec.ofNat 13 resume } }).showEngine e

theorem leaveSegment_last {q resume : Nat} (hl : g.last = true) :
    s.leaveSegment e x g q resume = (s.showCheckValue e x).releaseJob e q := if_pos hl

theorem leaveSegment_saved {q resume : Nat} (hl : g.last = false)
    (hs : g.save = true ∧ (s.engine e).saves.length < (s.showCheckValue e x).objN (okey 0x2542 3)) :
    s.leaveSegment e x g q resume = (((s.showCheckValue e x).setEngine e { s.engine e with
      seg := none, holder := none, ctx := {}, saves := (s.engine e).saves ++ [(q, { x with pc := BitVec.ofNat 13 resume })] }).count
        (okey 0x5426 3)).showEngine e :=
  (if_neg (ne_true_of_eq_false hl)).trans (if_pos hs)

theorem leaveSegment_held {q resume : Nat} (hl : g.last = false)
    (hs : ¬(g.save = true ∧ (s.engine e).saves.length < (s.showCheckValue e x).objN (okey 0x2542 3))) :
    s.leaveSegment e x g q resume = ((s.showCheckValue e x).setEngine e { s.engine e with
      seg := none, ctx := { x with pc := BitVec.ofNat 13 resume } }).showEngine e :=
  (if_neg (ne_true_of_eq_false hl)).trans (if_neg hs)

/-- Showing the check value leaves the engine as it was. -/
theorem showCheckValue_engine : (s.showCheckValue e x).engine e = s.engine e := rfl

theorem endSegment_eq {q : Nat} (resume : Nat) (hq : (s.engine e).holder = some q) :
    s.endSegment e x g resume = (s.leaveSegment e x g q resume).finishSegment g.cid := by
  have holder : (s.engine e).holder.getD 0 = q := by rw [hq]; rfl
  subst holder
  unfold State.endSegment State.finishSegment
  simp only [lostStatus_eq]
  rfl

end

/-- A word whose condition holds ends its segment at NX 4. -/
theorem exec_wNop_end {t e : Nat} {s v : State} {w : Mw} {x : EngCtx} {g : Segment} (hv : v = s.at_ t) (hw : v.runsWord e w x g)
    (hop : w.op = 0) (hn : w.nx = 4) (hc : ccHolds x g w.cc = true) :
    exec (.wNop t e .clean) s = .next (v.endSegment e x g w.tgt) := by
  rw [exec_wNop_clean hv hw hop, hc, takeNext_end v v e x g hn]

/-- The end of the load of an image that parses. -/
theorem endLoad_parsed (s : State) (mask : Nat) {image : List Byte} {i : Image} (hi : parseImage image = some i) :
    s.endLoad mask image = (((if i.region = 0 then
      (forEach ((List.range 64).filter (fun e => mask.testBit e)) (fun e b =>
        if i.region = 1 then ((b.setEngine e { b.engine e with loading := false, store := i.store (b.engine e).store }).showEngine e).setObj
          (ekey e 4) i.id
        else (b.setEngine e { b.engine e with loading := false, store := i.store (b.engine e).store }).showEngine e) s).setObj
          (okey 0x2542 4) i.id
      else forEach ((List.range 64).filter (fun e => mask.testBit e)) (fun e b =>
        if i.region = 1 then ((b.setEngine e { b.engine e with loading := false, store := i.store (b.engine e).store }).showEngine e).setObj
          (ekey e 4) i.id
        else (b.setEngine e { b.engine e with loading := false, store := i.store (b.engine e).store }).showEngine e) s).setObj
          (okey 0x2541 4) 2).count (okey 0x5426 5)) := by
  simp only [State.endLoad, hi]

/-- Settles O49: the guards of a segment's start, the three ways a segment ends, and the end of a load that parses. -/
theorem segmentsStartAndEndAndImagesLoad : Obligations.SegmentsStartAndEndAndImagesLoad := by
  refine ⟨?start, ?finish, ?load⟩
  case start =>
    rintro t e s v c en g x rfl he hnext rfl hseg hload hret hjob rfl go rfl
    have may : (s.at_ t).MayStart e c := ⟨hnext, hseg, hload, hret, hjob⟩
    have row : exec (.jobSegmentStart t e) s = .next ((s.at_ t).segmentStart e) := congrArg Host.Outcome.next (if_pos he)
    refine ⟨?first, fun hf ho => ?notOpen, fun hf ho => ⟨fun y hy => ?saved, fun hy => ?held⟩⟩
    case first =>
      rintro hf k n rfl rfl rfl
      rw [row, segmentStart_first may hf]; rfl
    case notOpen => rw [row, segmentStart_notOpen may hf ho]; rfl
    case saved => rw [row, segmentStart_saved may hf ho hy]; rfl
    case held => rw [row, segmentStart_held may hf ho hy]; rfl
  case finish =>
    rintro t e q s v w x y g en hv hw hop hn hc rfl hq rfl u fin rfl rfl
    rw [exec_wNop_end hv hw hop hn hc, endSegment_eq v e x g w.tgt hq]
    refine ⟨?last, fun hl hs => ?saved, fun hl hs => ?held⟩
    case last =>
      rintro hl b rfl d rfl
      rw [leaveSegment_last v e x g hl, State.releaseJob, showCheckValue_engine]
      rfl
    case saved => rw [leaveSegment_saved v e x g hl hs]; rfl
    case held => rw [leaveSegment_held v e x g hl hs]; rfl
  case load =>
    rintro t s v a i rfl l r hl hi rfl b rfl
    have row : exec (.imageLoadComplete t) s =
        .next (({ s.at_ t with eng := { (s.at_ t).eng with loads := r } } : State).endLoad l.1 l.2) := by
      unfold exec
      simp only [execImageLoadComplete, hl]
    rw [row, endLoad_parsed _ l.1 hi]

end Sys2Proof.Machine
end

section
/-! PROOFS. The memory channels: reads of a granule, lost training, fills and share copies (16 R428 to R438). -/
namespace Sys2Proof.Machine

/-! ## A read of a granule (16 R434) -/

section
variable {s : State} {c g : Nat} {flips : List Granule}

/-- Before the fill of its channel is complete nothing is read. -/
theorem memoryRead_filling (h : s.boot.filling = true ∨ s.media.filling.contains c = true) : s.memoryRead c g flips = s :=
  if_pos (by rcases h with h | h <;> rw [h] <;> simp)

theorem memoryRead_good (h : s.readBad c g flips 0 = false) : s.memoryRead c g flips = s := if_pos (by rw [h]; simp)

section
variable (hb : s.boot.filling = false) (hf : s.media.filling.contains c = false) (h0 : s.readBad c g flips 0 = true)
include hb hf h0

/-- An error that the second read does not show counts as corrected. -/
theorem memoryRead_corrected (h1 : s.readBad c g flips 1 = false) : s.memoryRead c g flips = s.count (okey 0x5429 (c + 1)) :=
  (if_neg (by rw [hb, hf, h0]; decide)).trans (if_pos (by rw [h1]; rfl))

/-- An error that the second read shows loses the granule's contents, which is written anew, and remapped when the read-back shows
it too. -/
theorem memoryRead_failed (h1 : s.readBad c g flips 1 = true) {a b : State}
    (ha : a = ((s.count (okey 0x542A (c + 1))).granuleLost c g flips).setGranule c g (s.rewriteData c g))
    (hr : b = if a.readBad c g flips 2 then (a.remap c g).setGranule c g (s.rewriteData c g) else a) :
    s.memoryRead c g flips = if b.maskBit (okey 0x2400 2) c then b.failChannel c else b := by
  subst ha hr
  exact (if_neg (by rw [hb, hf, h0]; decide)).trans (if_neg (by rw [h1]; decide))

end

/-- A scrub of a healthy channel reads the granule its pointer names and moves the pointer on. -/
theorem exec_scrubRead_healthy {t : Nat} (hc : c < 16) (hm : (s.at_ t).maskBit (okey 0x2400 2) c = true) {u : State}
    (hg : g = tblGet (fun _ => 0) (s.at_ t).media.scrub c)
    (hu : u = { s.at_ t with media := { (s.at_ t).media with
      scrub := tblPut (fun _ => 0) c ((g + 1) % max 1 (s.at_ t).granules) (s.at_ t).media.scrub } }) :
    exec (.scrubRead t c flips) s = .next (u.memoryRead c g flips) := by
  subst hg hu
  exact congrArg Host.Outcome.next ((if_pos hc).trans (if_neg (by rw [hm]; decide)))

end

/-- Settles O50: check bits by definition, a scrub by the cases of a read, and each other row by its guards. -/
theorem memoryChannelsTakeEffect : Obligations.MemoryChannelsTakeEffect := by
  refine ⟨fun k g x _ => rfl, ?_⟩
  rintro t c k flips s v rfl
  refine ⟨?scrub, fun hc hf => ?refill, fun hc hf hm => ?train, ?fill, ?rebuilt, ?home⟩
  case scrub =>
    intro hc hm g u bad hg hu hbad
    have read : bad = fun a i => a.readBad c g flips i := hbad
    subst read
    rw [exec_scrubRead_healthy hc hm hg hu]
    refine ⟨fun hf => ?_, fun hb hf => ⟨fun h0 => ?_, fun h0 h1 => ?_, ?_⟩⟩
    · rw [memoryRead_filling hf]
    · rw [memoryRead_good h0]
    · rw [memoryRead_corrected hb hf h0 h1]
    · rintro h0 h1 d a b rfl ha hr
      rw [memoryRead_failed hb hf h0 h1 ha hr]
  case refill => exact congrArg Host.Outcome.next ((if_pos hc).trans (if_pos hf))
  case train => exact congrArg Host.Outcome.next ((if_pos hc).trans ((if_neg (ne_true_of_eq_false hf)).trans (if_pos hm)))
  case fill =>
    rintro hf u rfl
    exact congrArg Host.Outcome.next (if_neg (by rw [hf]; decide))
  case rebuilt =>
    rintro hr u rfl
    exact congrArg Host.Outcome.next (if_pos hr)
  case home =>
    rintro hr hh hk u rfl
    exact congrArg Host.Outcome.next ((if_neg (ne_true_of_eq_false hr)).trans (if_pos ⟨hh, hk⟩))

end Sys2Proof.Machine
end

section
/-! PROOFS. The locator cache: accesses, fills that return, and ageing (16 R444 to R454). -/
namespace Sys2Proof.Machine

/-- Granule of a line from the copy that its line group names, where that copy is held. -/
theorem lineGranule_held {v : State} {st ln c q : Nat}
    (h : v.copyPlace (if st = 1 then (lineHome st ln).2 / 512 % 2 else 0) (lineHome st ln).1 = some (c, q)) :
    v.lineGranule st ln = (c, (q + (lineHome st ln).2) / 32) := by
  simp only [State.lineGranule, h, Option.orElse_some, Option.getD_some]

section
variable {v : State} {r : CacheReq} {err : Bool} {me : List Granule}

/-! ## An access before its line is looked up -/

theorem cacheAccess_filling (h : v.boot.filling = true) : v.cacheAccess r err me = v := if_pos (.inr h)

section
variable (hb : v.boot.filling = false) (hl : r.ln < structLines r.st)
include hb hl

/-- The line is one of its structure's and the fill of LPDDR6 is complete. -/
theorem not_lineOutside_or_filling : ¬(structLines r.st ≤ r.ln ∨ v.boot.filling = true) :=
  not_or.2 ⟨Nat.not_le.2 hl, ne_true_of_eq_false hb⟩

theorem cacheAccess_noWay (hw : v.waysInUse = []) : v.cacheAccess r err me =
    if r.kind = .write then v else
      (v.memoryRead (v.lineGranule r.st r.ln).1 (v.lineGranule r.st r.ln).2 (me.take 5)).memoryRead (v.lineGranule r.st r.ln).1
        ((v.lineGranule r.st r.ln).2 + 1) (me.drop 5) :=
  (if_neg (not_lineOutside_or_filling hb hl)).trans (if_pos hw)

section
variable (hw : v.waysInUse ≠ [])
include hw

theorem cacheAccess_maintained (hm : v.maintHolds r.st r.ln = true) : v.cacheAccess r err me = v.maintWait r :=
  (if_neg (not_lineOutside_or_filling hb hl)).trans ((if_neg hw).trans (if_pos hm))

theorem cacheAccess_behind (hm : v.maintHolds r.st r.ln = false) (hq : v.cacheBehind r.st r.ln = true) :
    v.cacheAccess r err me = v.cacheDefer r :=
  (if_neg (not_lineOutside_or_filling hb hl)).trans ((if_neg hw).trans ((if_neg (ne_true_of_eq_false hm)).trans (if_pos hq)))

theorem cacheAccess_lineFilling (hm : v.maintHolds r.st r.ln = false) (hq : v.cacheBehind r.st r.ln = false)
    (hf : v.filling_ r.st r.ln = true) : v.cacheAccess r err me = v.fillWait r :=
  (if_neg (not_lineOutside_or_filling hb hl)).trans ((if_neg hw).trans ((if_neg (ne_true_of_eq_false hm)).trans
    ((if_neg (ne_true_of_eq_false hq)).trans (if_pos hf))))

theorem cacheAccess_lookup (hm : v.maintHolds r.st r.ln = false) (hq : v.cacheBehind r.st r.ln = false)
    (hf : v.filling_ r.st r.ln = false) : v.cacheAccess r err me = v.cacheLookup r err me :=
  (if_neg (not_lineOutside_or_filling hb hl)).trans ((if_neg hw).trans ((if_neg (ne_true_of_eq_false hm)).trans
    ((if_neg (ne_true_of_eq_false hq)).trans (if_neg (ne_true_of_eq_false hf)))))

end
end

/-! ## Maintenance that holds an access -/

/-- An access waits for an operation that waits itself. -/
theorem maintHolds_of_next (h : v.media.maintNext.any (fun x => x.covers r.st r.ln) = true) : v.maintHolds r.st r.ln = true := by
  rw [State.maintHolds, State.maintQueue, List.any_append, h, Bool.or_true]

/-- An access waits for the operation that runs. -/
theorem maintHolds_of_running {x : Maint} (hx : v.media.maint = some x) (hc : x.covers r.st r.ln = true) :
    v.maintHolds r.st r.ln = true := by
  rw [State.maintHolds, State.maintQueue, List.any_append, hx, Option.toList_some, List.any_cons, hc, Bool.true_or, Bool.true_or]

theorem maintWait_next (h : v.media.maintNext.any (fun x => x.covers r.st r.ln) = true) :
    v.maintWait r = { v with media := { v.media with maintNext := maintWaiter r v.media.maintNext } } := if_pos h

theorem maintWait_running {x : Maint} (hn : v.media.maintNext.any (fun x => x.covers r.st r.ln) = false) (hx : v.media.maint = some x) :
    v.maintWait r = { v with media := { v.media with maint := some { x with waiters := x.waiters ++ [r] } } } :=
  (if_neg (ne_true_of_eq_false hn)).trans (by rw [hx]; rfl)

/-! ## The line is looked up -/

theorem cacheLookup_hit {w : Nat} (hw : v.wayOf r.st r.ln = some w) : v.cacheLookup r false me =
    (if r.kind = .streamRead then v
      else v.setLine (cacheSet r.st r.ln) w { v.lineAt (cacheSet r.st r.ln) w with nru := true }).count (okey 0x542D 1) := by
  simp only [State.cacheLookup, hw, Bool.false_eq_true, if_false]

/-- The state in which an access misses: no way holds the line, or the way that does reads in error and loses it. -/
def State.missesIn (v : State) (st ln : Nat) (err : Bool) (u : State) : Prop :=
  (v.wayOf st ln = none ∧ u = v) ∨
    ∃ w, v.wayOf st ln = some w ∧ err = true ∧ u = (v.setLine (cacheSet st ln) w ⟨0, 0, false⟩).failWay w

theorem cacheLookup_miss {u : State} (h : v.missesIn r.st r.ln err u) : v.cacheLookup r err me = u.cacheMiss r me := by
  obtain ⟨hn, rfl⟩ | ⟨w, hw, rfl, rfl⟩ := h
  · simp only [State.cacheLookup, hn]
  · simp only [State.cacheLookup, hw, if_true]

theorem cacheMiss_evicted {x : Evicted} {w : Nat} {a b : State}
    (hx : v.media.evicted.find? (fun y => decide (y.st = r.st ∧ y.ln = r.ln)) = some x)
    (ha : a = ({ v with media := { v.media with evicted := v.media.evicted.erase x } } : State).count (okey 0x542C 4))
    (hv : a.victim (cacheSet r.st r.ln) = (some w, b)) : v.cacheMiss r me = b.setLine (cacheSet r.st r.ln) w ⟨r.st, r.ln, true⟩ := by
  subst ha
  simp only [State.cacheMiss, hx, State.cacheReclaim, hv]

theorem cacheMiss_write (hx : v.media.evicted.find? (fun y => decide (y.st = r.st ∧ y.ln = r.ln)) = none) (hk : r.kind = .write) :
    v.cacheMiss r me = v.count (okey 0x542D 2) := by
  simp only [State.cacheMiss, hx, hk, if_true]

theorem cacheMiss_read (hx : v.media.evicted.find? (fun y => decide (y.st = r.st ∧ y.ln = r.ln)) = none) (hk : r.kind ≠ .write) :
    v.cacheMiss r me = (v.count (okey 0x542D 2)).cacheFetch r me := by
  simp only [State.cacheMiss, hx, hk, if_false]

/-- The state after both granules of a line have been read. -/
def State.lineRead (v : State) (st ln : Nat) (me : List Granule) : State :=
  (v.memoryRead (v.lineGranule st ln).1 (v.lineGranule st ln).2 (me.take 5)).memoryRead (v.lineGranule st ln).1
    ((v.lineGranule st ln).2 + 1) (me.drop 5)

theorem cacheFetch_noVictim {d : State} (h : (v.lineRead r.st r.ln me).victim (cacheSet r.st r.ln) = (none, d)) :
    v.cacheFetch r me = d.cacheDefer r := by
  unfold State.lineRead at h
  simp only [State.cacheFetch, h]

theorem cacheFetch_victim {d : State} {w : Nat} (h : (v.lineRead r.st r.ln me).victim (cacheSet r.st r.ln) = (some w, d)) :
    v.cacheFetch r me = if (d.lineAt (cacheSet r.st r.ln) w).st ≠ 0 ∧ 16 ≤ d.media.evicted.length then d.cacheDefer r
      else if r.kind = .demandRead then (d.startFill r.st r.ln w true [r]).prefetch r.st r.ln
      else d.startFill r.st r.ln w false [r] := by
  unfold State.lineRead at h
  simp only [State.cacheFetch, h]
  split_ifs with full demand
  · rfl
  · rw [decide_eq_true demand]
  · rw [decide_eq_false demand]

end

/-! ## A fill that returns, and ageing -/

/-- The state once a fill is no longer in flight: the line it evicted leaves the buffer. -/
def State.fillLeft (v : State) (f : Fill) (st ln : Nat) : State :=
  { v with media := { v.media with
    fills := v.media.fills.erase f
    evicted := v.media.evicted.filter (fun x => !(decide (x.byStruct = st ∧ x.byLine = ln))) } }

/-- The state once a fill's line is installed, dropped as in error, or not installed. -/
def State.fillInstalled (a : State) (f : Fill) (st ln : Nat) (ok : Bool) : State :=
  if f.cancelled || !(a.waysInUse.contains f.way) then a
  else if ok then a.setLine f.set f.way ⟨st, ln, fillNru f.demand f.waiters⟩
  else (((a.setLine f.set f.way ⟨st, ln, fillNru f.demand f.waiters⟩).count (okey 0x542E (f.way + 1))).setLine f.set f.way
    ⟨0, 0, false⟩).retireWay f.way

theorem fillInstalled_eq (a : State) (f : Fill) (st ln : Nat) (err : Bool) : a.fillInstalled f st ln (!err) =
    if f.cancelled = true ∨ f.way ∉ a.waysInUse then a
    else if err = true then (((a.setLine f.set f.way ⟨st, ln, fillNru f.demand f.waiters⟩).count (okey 0x542E (f.way + 1))).setLine
      f.set f.way ⟨0, 0, false⟩).retireWay f.way
    else a.setLine f.set f.way ⟨st, ln, fillNru f.demand f.waiters⟩ := by
  have dropped : (f.cancelled || !(a.waysInUse.contains f.way)) = true ↔ f.cancelled = true ∨ f.way ∉ a.waysInUse := by simp
  simp only [State.fillInstalled, dropped]
  cases err <;> rfl

theorem fillReturn_found {v b : State} {st ln : Nat} {f : Fill} {ok : Bool}
    (hf : v.media.fills.find? (fun f => decide (f.st = st ∧ f.ln = ln)) = some f) (hb : b = (v.fillLeft f st ln).fillInstalled f st ln ok) :
    v.fillReturn st ln ok = (({ b with media := { b.media with cacheWait := [] } } : State).cacheRetry b.media.cacheWait).maintDone := by
  subst hb
  simp only [State.fillReturn, hf]
  rfl

/-- Settles O51: an access by what holds it and by the look-up of its line, a fill that returns, and ageing. -/
theorem locatorCacheTakesEffect : Obligations.LocatorCacheTakesEffect := by
  rintro t st ln kind err me s v rfl set r rfl rfl
  refine ⟨fun hb => ?_, ?noWay, fun c q h => lineGranule_held h, fun hb hw hl => ⟨fun hn => ?_, fun x hn hx hc => ?_, fun hm hq => ?_,
    fun hm hq => ⟨fun hf => ?_, fun hf => ⟨fun w hit => ?_, fun u hu => ?miss⟩⟩⟩, ?fill, ?age⟩
  · exact congrArg Host.Outcome.next (cacheAccess_filling hb)
  case noWay =>
    rintro hb hw hl g rfl
    exact congrArg Host.Outcome.next (cacheAccess_noWay hb hl hw)
  · exact congrArg Host.Outcome.next ((cacheAccess_maintained hb hl hw (maintHolds_of_next hn)).trans (maintWait_next hn))
  · exact congrArg Host.Outcome.next ((cacheAccess_maintained hb hl hw (maintHolds_of_running hx hc)).trans (maintWait_running hn hx))
  · exact congrArg Host.Outcome.next (cacheAccess_behind hb hl hw hm hq)
  · exact congrArg Host.Outcome.next (cacheAccess_lineFilling hb hl hw hm hq hf)
  · exact congrArg Host.Outcome.next ((cacheAccess_lookup (r := ⟨kind, st, ln, false⟩) hb hl hw hm hq hf).trans (cacheLookup_hit hit))
  case miss =>
    have missed : exec (.cacheAccess t kind st ln err me) s = .next (u.cacheMiss ⟨kind, st, ln, false⟩ me) :=
      congrArg Host.Outcome.next ((cacheAccess_lookup (r := ⟨kind, st, ln, false⟩) hb hl hw hm hq hf).trans (cacheLookup_miss hu))
    refine ⟨fun x w a b hx ha hv => ?_, fun hx => ⟨fun hk => ?_, ?_⟩⟩
    · rw [missed, cacheMiss_evicted (r := ⟨kind, st, ln, false⟩) hx ha hv]
    · rw [missed, cacheMiss_write (r := ⟨kind, st, ln, false⟩) hx hk]
    · rintro hk a b rfl rfl
      rw [missed, cacheMiss_read (r := ⟨kind, st, ln, false⟩) hx hk]
      generalize hv : ((u.count (okey 0x542D 2)).lineRead st ln me).victim (cacheSet st ln) = picked
      obtain ⟨pick, d⟩ := picked
      cases pick with
      | none =>
        rw [cacheFetch_noVictim (r := ⟨kind, st, ln, false⟩) hv]
        unfold State.lineRead at hv
        rw [hv]
        rfl
      | some w =>
        rw [cacheFetch_victim (r := ⟨kind, st, ln, false⟩) hv]
        unfold State.lineRead at hv
        rw [hv]
        rfl
  case fill =>
    rintro f a b hf rfl hb
    exact congrArg Host.Outcome.next (fillReturn_found hf (hb.trans (fillInstalled_eq _ f st ln err).symm))
  case age =>
    rintro hn a rfl
    exact congrArg Host.Outcome.next (if_neg hn)

end Sys2Proof.Machine
end
